-- ==== Sys2Proof/Word.lean ====
section
/-! DEFINITION. Word widths of the node's registers, records and memories (R8), and nothing else. -/

namespace Sys2Proof

/-- One byte of a memory, record or packet. -/
abbrev Byte := BitVec 8
/-- A 16-bit field. -/
abbrev W16 := BitVec 16
/-- A BAR0 register (R8). -/
abbrev W32 := BitVec 32
/-- A 64-bit counter, key, milepost or LTC value (R15, R18). -/
abbrev W64 := BitVec 64
/-- The bytes of a record, descriptor, packet body or register window, lowest address first (R8). -/
abbrev Bytes := List Byte

end Sys2Proof
end

