-- ==== Sys2Proof/Syntax.lean ====
section
/-! DEFINITION. The commands of the VN-960: one constructor of `Instr` for each row of the table of operations and
events (spec/opcode_table.json), with the operands the chapters give it. A command is either something done to the node
from outside (a register write, a packet, a pin, a NAND report) or an event of one of its units; an event names the object
it happens to, and carries what only the outside can say (a reading, a check's outcome). -/

namespace Sys2Proof

/-- The owner of a region, unit, descriptor or queue, and the domain of a port (R60, R290). -/
inductive Owner where
  | system
  | tenant (id : Nat)
  | comp (id : Nat)
deriving DecidableEq, Repr

/-- What the UCIe adapter of a module finds while a message crosses a hop (R45, R46, R50, Table 15.1): a flit with a CRC error, which the sender
retries; a data lane replaced by a redundant one; a repair with no redundant lane left; or the loss of the module's connection. -/
inductive AdapterEvent where
  | crcError
  | laneRepaired
  | noSpareLane
  | down
deriving DecidableEq, Repr

/-- A port that issues its next message, or a message on its way, and what the adapters of the hops it crosses find, by hop. -/
structure Crossing where
  id : Nat
  found : List (Nat × AdapterEvent)
deriving DecidableEq, Repr

/-- The page a RECALL names, and whether the recall is the runtime's prefetch (R345). -/
structure PageRecalled where
  page : Nat
  prefetch : Bool
deriving DecidableEq, Repr

/-- The query that reaches the final select, and the mismatches the twin computation has found in its engines (Table 15.1). -/
structure QuerySelected where
  query : Nat
  mismatches : Nat
deriving DecidableEq, Repr

/-- The 64 bytes of a command as they reach a queue, and whether a code corrected them on the way (R294). -/
structure CommandWritten where
  bytes : List (BitVec 8)
  corrected : Bool
deriving DecidableEq, Repr

/-- The unit whose command ends, the place of that command among its started ones, and the mismatches the twin computation has found. -/
structure UnitEnd where
  unit : Nat
  place : Nat
  mismatches : Nat
deriving DecidableEq, Repr

/-- What a gather engine's read brings: whether the row can be read, and the parity errors met. -/
structure RowAnswer where
  readable : Bool
  parity : Nat
deriving DecidableEq, Repr

/-- How map recovery ends: whether it reaches the end of the journal, and the units it cannot read. -/
structure MapRecovery where
  complete : Bool
  unreadable : List Nat
deriving DecidableEq, Repr

/-- The FIFO a control core pops (its host mailbox's or the other cores'), and whether a code corrected the message. -/
structure MailPop where
  fromHost : Bool
  corrected : Bool
deriving DecidableEq, Repr

/-- What the codes of a memory say about one read (R507: KB_CORR, KB_UNCORR, HS_CORR, HS_UNCORR). -/
inductive EccOutcome where
  | clean
  | corrected
  | uncorrectable
deriving DecidableEq, Repr

/-- How far the correction of a codeword had to go (R375, steps 1 to 3). -/
inductive CwOutcome where
  | hard
  | retry
  | soft
  | fail
deriving DecidableEq, Repr

/-- A unit class with a command queue (R279, R285, R352). -/
inductive UnitClass where
  | me | vu | sk | ge
deriving DecidableEq, Repr

/-- A scheduling point (R454). -/
inductive Point where
  | link (l : Nat)
  | tenant (t : Nat)
deriving DecidableEq, Repr

/-- The fields of a tile transfer descriptor (R80, Table 2.5), each as wide as the table has it; FLAGS holds the notify bit and the element width, and
reserved bytes are ignored (R10). -/
structure TileDesc where
  op : Byte
  flags : Byte
  dstHandle : W16
  dstLine : W32
  stackAddr : W64
  srcHandle : W16
  srcLine : W32
  length : W16
  tag : W16
deriving DecidableEq, Repr

/-- An access by region handle and offset (R57, R61): at most one 64-byte line; `write` holds the bytes written; `recovery` marks one
issued by recovery firmware, which uses T0 (R74). -/
structure Access where
  die : Nat
  port : Nat
  domain : Owner
  handle : W16
  offset : Nat
  len : Nat
  write : Option Bytes
  recovery : Bool
  ecc : EccOutcome
deriving DecidableEq, Repr

/-- A message delivered whole to its function (R417, R419, R424): the link it came by, the header fields the function
uses, and its body. -/
structure Msg where
  link : Nat
  typ : Nat
  flags : Byte
  src : W32
  hintSeat : Nat
  mapMp : W64
  tonId : Nat
  body : Bytes
deriving DecidableEq, Repr

/-- A change of a list or a row set carried by a move (R253, R258, R367): the copied or forwarded entry. -/
structure MoveItem where
  key : W64
  code : Bytes
  attrs : List Bytes
  fv : Bytes
  deleted : Bool
deriving DecidableEq, Repr

/-- The messages of a move between seats (R252 to R258, R367). The manual does not lay out their bytes. -/
inductive ShuffleMsg where
  | copy (items : List MoveItem)
  | forward (item : MoveItem)
  | handover
  | commitAck
  | ack (seq : Nat)
  | abort
  | abortAck
  | refuse
deriving DecidableEq, Repr

/-- What a move message is about (R252, R367): a list of an index table, or the row set of an embedding table. -/
inductive MoveObject where
  | list (table list : Nat)
  | rows (table : Nat) (rows : List Nat)
deriving DecidableEq, Repr

/-- A link event (R432). -/
structure LinkEventRec where
  leave : Bool
  seat : Nat
  link : Nat
  serial : W64
  nodeId : Nat
  partnerSeat : Nat
  kind : Nat
  major : Nat
  minor : Nat
deriving DecidableEq, Repr

/-- The fault a die detects of itself (Table 15.1, the DIE_FAULT row). -/
inductive DieFaultKind where
  | ldFail (ld : Nat)
  | mdFail (md : Nat)
  | cdFault (cd : Nat)
  | sdFail (sd : Nat)
deriving DecidableEq, Repr

/-- Whether and when the recoveries a drill checks completed (R534). -/
inductive DrillResult where
  | completed (duration : Nat)
  | notCompleted
  | preempted
deriving DecidableEq, Repr

/-- The interrupt sources whose status or mask a host write may touch (R580, R581). -/
inductive IrqReg where
  | nodeStatus | nodeMask
  | fltStatus | fltMask
  | clkStatus | clkMask
  | mbxStatus (h : Nat) | mbxMask (h : Nat)
deriving DecidableEq, Repr

/-- A PCIe event that resets the function (R577). -/
inductive PcieReset where
  | flr | hotReset | linkLoss
deriving DecidableEq, Repr

/-- What a media die found at one target during enumeration (R372). -/
inductive TargetFound where
  | absent
  | unsupported
  | die1Tb
  | die2Tb
deriving DecidableEq, Repr

/-- A mailbox a control core posts to, or the doorbells it sets (R582, R587). -/
inductive CorePost where
  | hostMsg (h : Nat) (words : List W32)
  | coreMsg (core : Nat) (words : List W32)
  | hostDoorbells (h : Nat) (bits : W32)
  | coreDoorbells (core : Nat) (bits : W32)
deriving DecidableEq, Repr

/-- Who sent a staging request (R555, R595). -/
inductive Sender where
  | hostMailbox (h : Nat)
  | controlCore (c : Nat)
  | other
deriving DecidableEq, Repr

/-- The commands. Slot commands carry the slot (one per steward die) and their argument registers as written. -/
inductive Instr where
  -- access codes (R9 to R12) and the Kitty transport (R37 to R50)
  | registerWrite (firmware : Bool) (offset : Nat) (bytes : Bytes)
  | xpMessageIssue (die : Nat) (port : Crossing)
  | xpWriteAck (msg : Crossing)
  | xpReadResponse (msg : Crossing)
  | e2eTimeout (msg : Nat)
  | moduleSetChange (die module : Nat) (retire : Bool)
  | moduleSetResume (die module : Nat)
  | kittyXpSel (value : W32)
  | kittyXpSnap
  | kittyXpClear
  | kittyXpClearAll
  -- the Kitty (R53 to R98)
  | regionAccess (a : Access)
  | bankArbitration (bank : Nat)
  | alloc (slot : Nat) (arg0 arg1 arg2 : W32)
  | free (slot : Nat) (arg2 : W32)
  | transfer (slot : Nat) (arg1 arg2 : W32)
  | resize (slot : Nat) (arg0 arg2 : W32)
  | rcmdComplete (slot : Nat)
  | unitScrubDone (unit : Nat)
  | quotaEvict (holder : Owner)
  | expand (queue : Nat) (domain : Owner) (d : TileDesc) (ecc : EccOutcome)
  | compress (queue : Nat) (domain : Owner) (d : TileDesc)
  | copy (queue : Nat) (domain : Owner) (d : TileDesc)
  | fetchRaw (queue : Nat) (domain : Owner) (d : TileDesc) (ecc : EccOutcome)
  | storeRaw (queue : Nat) (domain : Owner) (d : TileDesc)
  | tileTransferComplete (queue : Nat) (id : Nat)
  | pageOpen (domain : Owner) (handle : W16) (page : Nat)
  | pageSeal (domain : Owner) (handle : W16) (page : Nat)
  | pageRecall (domain : Owner) (handle : W16) (page : PageRecalled)
  | pageRecallDone (handle : W16) (page : Nat)
  | pageRelease (domain : Owner) (handle : W16) (page : Nat)
  | pageSpillDone (handle : W16) (page : Nat)
  | kittyRgnSel (value : W32)
  | kittyQuotaSel (value : W32)
  | kittyClsSel (value : W32)
  -- the index catalogue (R99 to R143)
  | load (slot : Nat) (arg0 arg1 arg2 : W32)
  | tableLoadDone (slot : Nat)
  | build (slot : Nat) (arg0 arg1 arg2 arg3 arg4 : W32)
  | buildDone (slot : Nat)
  | drop (slot : Nat) (arg0 : W32)
  | dropFree (table : Nat)
  | idxTblSel (value : W32)
  | idxLstSelList (value : W32)
  -- the query path (R144 to R188)
  | query (m : Msg)
  | queryRelease (tenant : Nat)
  | probeBatchDeadline (table : Nat)
  | probeDone (batch : Nat)
  | listsRanked (query : Nat)
  | pairArrival (quadrant query list : Nat)
  | trickDeadline (quadrant entry : Nat)
  | trickIdleLaunch (quadrant : Nat)
  | launchQueueSpace (quadrant : Nat)
  | scanStrip (engine : Nat)
  | scanWayside (engine : Nat)
  | trickScanDone (engine : Nat)
  | scanEngineFail (engine : Nat)
  | entryArrival (query : Nat)
  | stagingAgeFlush (query : Nat)
  | handThresholdUpdate (query : Nat)
  | stageEnd (query : Nat)
  | rerankFetchDone (query place : Nat) (readable : Bool)
  | rerankScored (query : Nat)
  | finalSelect (query : QuerySelected)
  | exactEntryScored (query : Nat) (readable : Bool) (die : Nat)
  | queryDeadline (query : Nat)
  | qryTfSel (value : W32)
  | qryTntSel (value : W32)
  -- selection and merging (R189 to R216)
  | answer (seat : Nat) (m : Msg)
  | mergeCloseDeadline (merge : Nat)
  -- updates, versions and shuffles (R217 to R261)
  | update (m : Msg)
  | updateIntakeEntry (domain : Owner) (table : Nat) (entry : Bytes)
  | commitGroupDeadline (table : Nat)
  | groupCommit (table : Nat)
  | groupPublish (table : Nat)
  | updateWaitTimeout (table : Nat)
  | merge (slot : Nat) (arg0 arg1 : W32)
  | mergeStart (table list : Nat)
  | mergeCommit (table list : Nat)
  | milepostReclaim (table : Nat)
  | moveStack (slot : Nat) (arg0 arg1 arg2 : W32)
  | moveSeat (slot : Nat) (arg0 arg1 arg2 : W32)
  | splitSeat (slot : Nat) (arg0 arg1 arg2 : W32)
  | shuffle (from_ : Nat) (object : MoveObject) (seq : Nat) (msg : ShuffleMsg)
  | shuffleResend (move : Nat)
  | shuffleOverlapEnd (table list : Nat)
  | replaceBegin (slot : Nat) (arg0 arg2 : W32)
  | replaceCommit (slot : Nat) (arg0 arg3 arg4 : W32)
  | replaceCancel (slot : Nat) (arg0 : W32)
  | skewWindowClose (quadrant : Nat)
  | idxHotSel (value : W32)
  -- matrix engines, vector units, skew DMA engines and sequencers (R262 to R318)
  | commandPost (die sq : Nat) (cls : UnitClass) (unit : Nat) (command : CommandWritten)
  | loadWeights (me : Nat)
  | stream (me : Nat) (mismatches : Nat)
  | drain (me : Nat)
  | add (vu : Nat)
  | mul (vu : Nat)
  | mac (vu : Nat)
  | max (vu : Nat)
  | act (vu : Nat)
  | softmaxRow (vu : Nat)
  | normRow (vu : Nat)
  | reduceRow (vu : Nat)
  | distFinish (vu : Nat)
  | optStep (vu : Nat)
  | convert (vu : Nat)
  | skew (sk : Nat)
  | unitCommandComplete (cls : UnitClass) (unit : UnitEnd)
  | completionQueueSpace (die sq : Nat)
  | cdWaitTimeout (cls : UnitClass) (unit : Nat)
  | syncCounterAccess (die sq ctr : Nat) (write : Option W32)
  | sequencerHalt (die sq : Nat) (ecc : Bool)
  | sequencerAssign (die sq : Nat) (owner : Owner) (program : Bytes)
  | unitClearDone (cls : UnitClass) (unit : Nat)
  -- placement, prefix trees and the KV service (R319 to R347)
  | create (slot : Nat) (arg0 arg1 : W32)
  | pdFree (slot : Nat) (arg0 : W32)
  | treeCreate (slot : Nat) (arg0 arg2 arg3 : W32)
  | treeFree (slot : Nat) (arg0 : W32)
  | kvRingPoll (region : Nat)
  | lookup (region : Nat)
  | insert (region : Nat)
  | unref (region : Nat)
  | stackPdSel (value : W32)
  | stackTreeSel (value : W32)
  -- gather engines and embedding tables (R348 to R370)
  | gather (ge : Nat)
  | scatter (ge : Nat)
  | rowReadDone (ge read : Nat) (readable : RowAnswer)
  | embSkewWindowClose
  | embCreate (slot : Nat) (arg0 arg1 : W32)
  | embDrop (slot : Nat) (arg0 : W32)
  | rowMoveStack (slot : Nat) (arg0 arg1 arg2 : W32)
  | rowMoveCommit (move : Nat)
  | rowMoveSeat (slot : Nat) (arg0 arg1 arg2 : W32)
  | rowMoveCancel (slot : Nat) (arg2 : W32)
  | rowHoldTimeout (ge : Nat)
  | stackEmbTblSel (value : W32)
  | stackEmbShardSel (value : W32)
  | stackEmbHotSel (value : W32)
  | stackEmbOwnSel (value : W32)
  -- flash media (R371 to R408)
  | read (quadrant ring : Nat)
  | write (quadrant ring : Nat)
  | trim (quadrant ring : Nat)
  | scan (quadrant ring : Nat)
  | nandReadDone (read : Nat) (outcome : CwOutcome) (peersReadable : Bool)
  | nandProgramDone (program : Nat) (ok : Bool)
  | nandEraseDone (superblock : Nat) (failed : List Nat)
  | relocationDone (reloc : Nat)
  | mediaWaitTimeout (request : Nat)
  | journalFlushTimer
  | rebuildPage (ppa : Nat)
  | mediaEnumerationDone (found : List (Nat × TargetFound))
  | mapRecoveryDone (complete : MapRecovery)
  | format (slot : Nat)
  | schemaSet (slot : Nat) (arg0 arg1 : W32)
  | ringAttach (slot : Nat) (arg0 arg1 : W32)
  | ringDetach (slot : Nat) (arg0 : W32)
  | mediaChSel (value : W32)
  -- Skeldel Link (R409 to R433, R628)
  | flitReceive (link : Nat) (flit : Bytes)
  | replayTimeout (link : Nat)
  | creditReturn (link vc : Nat) (relay : Bool) (flits : Nat)
  | packetReceive (link vc : Nat)
  | reassemblyTimeout (src : W32) (msgId : Nat)
  | egressSelect (link : Nat)
  | carrierDetect (link : Nat)
  | phyTrained (link : Nat)
  | linkTrainTimeout (link : Nat)
  | hello (link : Nat) (body : Bytes)
  | helloAck (link : Nat) (body : Bytes)
  | helloTimerExpiry (link : Nat)
  | carrierLost (link : Nat)
  | keepaliveSend (link : Nat)
  | keepaliveLoss (link : Nat)
  | linkEvent (e : LinkEventRec)
  -- tables of nodes (R434 to R453)
  | mapSet (slot : Nat) (arg0 arg1 : W32)
  | mapPart (m : Msg)
  | mapAck (seat : Nat) (mapMp : W64)
  | mapCommit (m : Msg)
  | mapAckTimeout
  | windowOpen (slot : Nat) (arg0 arg1 : W32)
  | windowClose (slot : Nat) (arg0 : W32)
  | linkReset (slot : Nat) (arg0 : W32)
  | tile (m : Msg)
  | dealerQuery (m : Msg)
  | dealerUpdate (m : Msg)
  | updateAnswer (seat : Nat) (m : Msg)
  | dealerUpdateTimeout (update seat : Nat)
  | rowGet (m : Msg)
  | rowPut (m : Msg)
  | rowData (m : Msg) (request : Bytes) (resent : Bool)
  | beatSend
  | beat (seat : Nat)
  | seatLoss (seat : Nat)
  | dealerLoss
  | waymarkSend
  | waymark (seat : Nat) (mp : W64) (wm : Bytes)
  | waymarkSilent (seat : Nat)
  | faultNotice (seat : Nat) (body : Bytes)
  | mgmtAttest (m : Msg)
  | linkTonSeatSel (value : W32)
  -- scheduling and quotas (R454 to R478)
  | bucketRefill (p : Point)
  | gateEntryChange (p : Point)
  | gateTakeover (p : Point)
  | setShaper (slot : Nat) (arg0 arg1 arg2 : W32)
  | setGates (slot : Nat) (arg0 arg1 arg2 arg3 arg4 : W32)
  | cancelGates (slot : Nat) (arg0 : W32)
  | setQuota (slot : Nat) (arg0 arg1 arg2 : W32)
  | schedLtcLo
  | schedPtSel (value : W32)
  | schedQuotaSel (value : W32)
  -- lending (R479 to R506)
  | form (slot : Nat) (arg0 arg1 : W32)
  | change (slot : Nat) (arg0 arg1 : W32)
  | compositionNotice (comp : Nat)
  | reclaim (slot : Nat) (arg0 arg2 : W32)
  | reclaimDeadline (comp : Nat)
  | reclaimDone (comp : Nat)
  | keepOpen (slot : Nat) (arg0 arg1 : W32)
  | keepClose (slot : Nat) (arg0 : W32)
  | restore (slot : Nat) (arg0 arg1 : W32)
  | stepBegin (comp : Nat)
  | stepBeginRelease (comp : Nat)
  | push (comp : Nat)
  | stepEnd (comp : Nat)
  | statePush (m : Msg)
  | stateAck (m : Msg)
  | handoffTimeout (comp : Nat)
  | keeperProbe (comp : Nat)
  | lendCSel (value : W32)
  | lendKSel (value : W32)
  -- faults and drills (R507 to R537)
  | faultCounterLeak (cls inst : Nat)
  | bankSpareSwitch (bank : Nat)
  | coreWatchdog (core : Nat)
  | stewardHeartbeatLoss (steward : Nat)
  | drillDue (entry : Nat)
  | drillEnd (result : DrillResult)
  | setDrills (slot : Nat) (arg0 arg1 : W32)
  | drillNow (slot : Nat) (arg0 : W32)
  | retire (slot : Nat) (arg0 : W32)
  | fltLogRead (value : W32)
  | fltLogSel (value : W32)
  | fltRetSel (value : W32)
  | fltCntSel (value : W32)
  | fltDrillPtSel (value : W32)
  -- start, configuration and identity (R538 to R573)
  | pwrokAssert
  | porRelease (refclkOk : Bool)
  | refclkStable
  | romDone (selfTestPassed : List Nat) (axMillivolts : Nat)
  | imageCheck (readErrorA readErrorB : Bool)
  | sectionsLoaded (stewardsPassed : List Nat) (readError : Bool)
  | configDone
  | bringUpDone
  | startTimeout
  | startFailed
  | configPublish
  | cfgMpLo
  | stageBegin (sender : Sender)
  | stageWrite (sender : Sender) (offset : W64) (xferSlot : Nat)
  | stageCommit (sender : Sender)
  | stageAbort (sender : Sender)
  -- the host interface (R574 to R608)
  | echo (core : Nat)
  | blockCmd (core : Nat)
  | attest (core : Nat)
  | mailboxPost (h : Nat) (firstWord : Nat) (words : List W32)
  | coreMailboxPost (core : Nat) (post : CorePost)
  | coreMailboxPop (core : Nat) (fromHost : MailPop)
  | mbxHPop (h : Nat) (value : W32)
  | mbxHRing (h : Nat) (value : W32)
  | mbxHCtlReset (h : Nat) (value : W32)
  | mbxHRejects (h : Nat)
  | mbxHAbortInfo (h : Nat)
  | irqStatusWrite (r : IrqReg) (value : W32)
  | msixUnmask (vector : Nat)
  | nodeRestart (value : W32)
  | nodeLtcLo
  | nodeDieSel (value : W32)
  | pcieReset (kind : PcieReset)
  -- package, power and cooling (R609 to R627, R629)
  | pwrokDeassert
  | railFault (dieIndex : Nat)
  | refclkLoss
  | thermalSample (readings : List (Nat × Int)) (throttleN flowOk : Bool)
  | avsTelemetry (millivolts amps watts : Nat)
  | smbusRead (offset : Nat)
  | clkTsSel (value : W32)
  | porAssert
  | dieFault (kind : DieFaultKind)
  | moveCancel (move : Nat)
  | replaceLoadDone (slot : Nat)
deriving DecidableEq, Repr

end Sys2Proof
end

