-- ==== Sys2Proof/Config.lean ====
section
/-! DEFINITION. What the manual leaves to an implementation or leaves open: free values, as constants without a body. Each is named in a
log entry; nothing can evaluate one or prove a value of it. -/

namespace Sys2Proof.Config

/-- Credits a receiver of a UCIe module grants a virtual channel (R37 gives no number): reads, responses, writes, control, escape (log 10). -/
opaque xpCredits : Nat → Nat
/-- The module, among `n` that reach a die, chosen for a line address (R38 gives no hash function); used modulo `n` (log 10). -/
opaque xpHash : Nat → Nat
/-- The pseudo-channel of a stack that holds an address (the manual gives no address map); used modulo 64 (log 11). -/
opaque pseudoChannel : Nat → Nat
/-- Data that the manual leaves undefined, by draw and place (R87, R605, log 3). -/
opaque undefinedByte : Nat → Nat → Byte
/-- ML-DSA-87 verification of a signature over a digest under a key (R546; the algorithm lies outside the manual, log 5). -/
opaque mldsaVerify : Bytes → Bytes → Bytes → Bool
/-- ML-DSA-87 signature over a digest under the key pair grown from a seed (R570, R573, log 5). -/
opaque mldsaSign : Bytes → Bytes → Bytes
/-- ML-DSA-87 public key grown from a seed (R570, log 5). -/
opaque mldsaPublic : Bytes → Bytes
/-- The Tambega root key held in ROM (R546, log 5). -/
opaque rootKey : Bytes
/-- The PCIe requester ID of the host's writes (R583; the fabric assigns it, log 4). -/
opaque hostRequesterId : Nat
/-- The lanes, the highest rate and the Flit mode support of the PCIe link's partner (R575; the integrator's, log 4): used modulo the widths and rates there are. -/
opaque pcieLanes : Nat
opaque pcieRate : Nat
opaque pcieFlit : Bool
/-- The ADDR0 to ADDR2 straps (Table 18.9; the integrator's, log 4). -/
opaque addrStraps : Nat
/-- Words of the function's configuration space that the manual leaves to PCI Express (R574, log 4). -/
opaque configWord : Nat → BitVec 32
/-- The error of EXP at an argument, at most 2 ulp (Table 8.3 gives bounds, not values): used modulo 5, less 2 (log 6). -/
opaque expError : Nat → Nat
/-- The error of RECIP at an argument, at most 2 ulp (log 6). -/
opaque recipError : Nat → Nat
/-- The error of RSQRT at an argument, at most 2 ulp (log 6). -/
opaque rsqrtError : Nat → Nat
/-- The error of GELU at an argument, at most 4 ulp (log 6). -/
opaque geluError : Nat → Nat
/-- The seed of a unit's generator, by draw and unit (R307: the steward's random source sets it, log 6). -/
opaque unitSeed : Nat → Nat → W64
/-- Lane operations counted for a vector command, by operation and elements (Table 7.10 gives no count for it, log 6). -/
opaque laneOps : Nat → Nat → Nat
/-- Superblocks that the journal and map segments take of the logical space, by superblocks present (R381 names them without a number, log 7). -/
opaque systemSuperblocks : Nat → Nat
/-- Where start and FORMAT place the flash map's descriptor in stacked memory (R382 gives no address, log 7). -/
opaque mapPlacement : Nat → Nat
/-- Depth of each pass of a probe or rerank sum (R162, R213: the node chooses; log 8): used modulo the number of components, plus 1. -/
opaque passDepth : Nat → Nat
/-- Order in which the passes' partial sums are added (R162, R213, log 8): smaller first. -/
opaque passOrder : Nat → Nat → Nat
/-- The engine that adds an item to its partial sum in a build (R139: the spread of work decides, log 8): used modulo 32. -/
opaque buildEngine : Nat → Nat → Nat
/-- The form in which an exact distance is computed (R317 allows two, log 8): true for the matrix engines'. -/
opaque exactForm : Nat → Bool
/-- The serving composition of an index table (R162; the manual binds no table to one, log 13); 0 stands for the system's engines. -/
opaque servingComp : Nat → Nat
/-- The bytes of a SHUFFLE message (R252; the manual does not lay them out, log 14). -/
opaque shuffleBytes : MoveObject → Nat → ShuffleMsg → Bytes
end Sys2Proof.Config
end

