-- ==== Sys2Proof/Machine/Tbl.lean ====
section
/-! DEFINITION. Tables in one canonical form (pairs of a key and a value, keys strictly rising), the byte memories built on them,
and the little-endian byte order and bit ranges of R8. -/

namespace Sys2Proof.Machine

/-- A sparse table: keys strictly rising, at most one entry a key. -/
abbrev Tbl (α : Type) := List (Nat × α)

/-- The entry under a key. -/
def Tbl.get {α : Type} : Tbl α → Nat → Option α
  | [], _ => none
  | (k, v) :: rest, key => if k = key then some v else Tbl.get rest key

/-- The entry under a key, or a default. -/
def Tbl.getD {α : Type} (t : Tbl α) (key : Nat) (d : α) : α := (t.get key).getD d

/-- True where the key has an entry. -/
def Tbl.has {α : Type} (t : Tbl α) (key : Nat) : Bool := (t.get key).isSome

/-- Sets the entry under a key. -/
def Tbl.put {α : Type} : Tbl α → Nat → α → Tbl α
  | [], key, v => [(key, v)]
  | (k, w) :: rest, key, v =>
    if k = key then (key, v) :: rest
    else if key < k then (key, v) :: (k, w) :: rest
    else (k, w) :: Tbl.put rest key v

/-- Removes the entry under a key. -/
def Tbl.del {α : Type} : Tbl α → Nat → Tbl α
  | [], _ => []
  | (k, w) :: rest, key =>
    if k = key then Tbl.del rest key else (k, w) :: Tbl.del rest key

/-- Changes the entry under a key, where there is one. -/
def Tbl.modify {α : Type} (t : Tbl α) (key : Nat) (f : α → α) : Tbl α :=
  match t.get key with
  | some v => t.put key (f v)
  | none => t

/-- Changes the entry under a key, taking a default where there is none. -/
def Tbl.modifyD {α : Type} (t : Tbl α) (key : Nat) (d : α) (f : α → α) : Tbl α :=
  t.put key (f (t.getD key d))

/-- Applies a function to every entry. -/
def Tbl.mapVals {α β : Type} (t : Tbl α) (f : α → β) : Tbl β := t.map fun e => (e.1, f e.2)

/-- The values, by rising key. -/
def Tbl.vals {α : Type} (t : Tbl α) : List α := t.map Prod.snd

/-- The keys, rising. -/
def Tbl.keys {α : Type} (t : Tbl α) : List Nat := t.map Prod.fst

/-- The lowest number of `lo, lo+1, …` (at most `n` of them) that has no entry. -/
def Tbl.lowestFree {α : Type} (t : Tbl α) : Nat → Nat → Option Nat
  | _, 0 => none
  | lo, n + 1 => if t.has lo then Tbl.lowestFree t (lo + 1) n else some lo

/-- Keys strictly rising. -/
def Tbl.sorted {α : Type} : Tbl α → Bool
  | [] => true
  | [_] => true
  | (k, _) :: (k', v') :: rest => decide (k < k') && Tbl.sorted ((k', v') :: rest)

/-- A byte memory: unlisted addresses read 0, and no entry holds 0 (canonical form). -/
abbrev Mem := Tbl Byte

/-- The byte at an address. -/
def Mem.read (m : Mem) (a : Nat) : Byte := Tbl.getD m a 0

/-- Stores one byte, keeping the canonical form. -/
def Mem.write (m : Mem) (a : Nat) (b : Byte) : Mem := if b = 0 then Tbl.del m a else Tbl.put m a b

/-- `n` bytes from an address up. -/
def Mem.readBytes (m : Mem) (a n : Nat) : Bytes := (List.range n).map fun i => m.read (a + i)

/-- Stores bytes from an address up. -/
def Mem.writeBytes (m : Mem) : Nat → Bytes → Mem
  | _, [] => m
  | a, b :: rest => Mem.writeBytes (m.write a b) (a + 1) rest

/-- Sets `n` bytes from an address up to 0. -/
def Mem.zero (m : Mem) (a n : Nat) : Mem := m.filter fun e => decide (e.1 < a ∨ a + n ≤ e.1)

/-- The canonical form: keys strictly rising, and no byte equal to what an unlisted address reads as. -/
def Mem.wf (m : Mem) : Bool := Tbl.sorted m && m.all fun e => decide (e.2 ≠ 0)

/-- The number a little-endian byte string holds (R8). -/
def leNat : Bytes → Nat
  | [] => 0
  | b :: rest => b.toNat + 256 * leNat rest

/-- A number as `n` little-endian bytes (R8). -/
def leBytes : Nat → Nat → Bytes
  | 0, _ => []
  | n + 1, v => BitVec.ofNat 8 v :: leBytes n (v / 256)

/-- The little-endian field of `len` bytes at a byte offset; bytes beyond the end read 0. -/
def fieldAt (b : Bytes) (off len : Nat) : Nat := leNat ((b.drop off).take len)

/-- Byte `i`, 0 beyond the end. -/
def byteAt (b : Bytes) (i : Nat) : Nat := (b.getD i 0).toNat

/-- `len` bytes at an offset, padded with zeros. -/
def sliceAt (b : Bytes) (off len : Nat) : Bytes :=
  let x := (b.drop off).take len
  x ++ List.replicate (len - x.length) 0

/-- Replaces the bytes at an offset inside a byte string. -/
def patch (b : Bytes) (off : Nat) (v : Bytes) : Bytes := b.take off ++ v ++ b.drop (off + v.length)

/-- The field [hi:lo] of a number (R8). -/
def bitsOf (n hi lo : Nat) : Nat := n / 2 ^ lo % 2 ^ (hi + 1 - lo)

/-- The field [hi:lo] of a register (R8). -/
def fld (w : W32) (hi lo : Nat) : Nat := bitsOf w.toNat hi lo

/-- Bit `i` of a number. -/
def bitOf (n i : Nat) : Bool := n / 2 ^ i % 2 = 1

/-- A 32-bit register value from a number, its low 32 bits. -/
def w32 (n : Nat) : W32 := BitVec.ofNat 32 n
/-- A 64-bit value from a number, its low 64 bits. -/
def w64 (n : Nat) : W64 := BitVec.ofNat 64 n
/-- 1 for true. -/
def b1 (b : Bool) : Nat := if b then 1 else 0

/-- Replaces the first element that satisfies a test. -/
def replaceFirst {α : Type} (p : α → Bool) (f : α → α) : List α → List α
  | [] => []
  | x :: rest => if p x then f x :: rest else x :: replaceFirst p f rest

/-- Removes the first element that satisfies a test. -/
def removeFirst {α : Type} (p : α → Bool) : List α → List α
  | [] => []
  | x :: rest => if p x then rest else x :: removeFirst p rest

/-- Inserts into a list kept in order: before the first element that is strictly greater. -/
def insertBy {α : Type} (lt : α → α → Bool) (x : α) : List α → List α
  | [] => [x]
  | y :: rest => if lt x y then x :: y :: rest else y :: insertBy lt x rest

/-- Sorts by insertion; equal elements keep their order. -/
def sortBy {α : Type} (lt : α → α → Bool) : List α → List α
  | [] => []
  | x :: rest =>
    -- x stands before every element it is not greater than
    let r := sortBy lt rest
    let rec go : List α → List α
      | [] => [x]
      | y :: ys => if lt y x then y :: go ys else x :: y :: ys
    go r

/-- The first of the smallest elements by a measure. -/
def minBy {α : Type} (m : α → Nat) : List α → Option α
  | [] => none
  | x :: rest =>
    match minBy m rest with
    | none => some x
    | some y => if m y < m x then some y else some x

/-- A list without repeats: of equal elements the last is kept. -/
def dedupList {α : Type} [DecidableEq α] : List α → List α
  | [] => []
  | x :: rest => if x ∈ rest then dedupList rest else x :: dedupList rest

end Sys2Proof.Machine
end

