-- ==== Sys2Proof/Machine/Float.lean ====
section
/-! DEFINITION. Number formats: element encodings, rounding and overflow, FP32 arithmetic, the functions stated within a number of ulp,
Microscaling blocks, and the generator of stochastic rounding (R297 to R310). Every operation is exact on dyadic numbers and rounds once. -/

namespace Sys2Proof.Machine

/-- A decoded value: a finite one is (-1)^neg x m x 2^e. -/
inductive FVal where
  | nan
  | inf (neg : Bool)
  | fin (neg : Bool) (m : Nat) (e : Int)
deriving DecidableEq, Repr

/-- What a format keeps its highest codes for (Table 8.1). -/
inductive Specials where
  | infNan | nanOnly | none
deriving DecidableEq, Repr

/-- A floating-point element format: exponent bits, mantissa bits, bias (Table 8.1). -/
structure FFmt where
  eb : Nat
  mb : Nat
  bias : Int
  sp : Specials
deriving DecidableEq, Repr

def fp32 : FFmt := ⟨8, 23, 127, .infNan⟩
def bf16 : FFmt := ⟨8, 7, 127, .infNan⟩
def e5m2 : FFmt := ⟨5, 2, 15, .infNan⟩
def e4m3 : FFmt := ⟨4, 3, 7, .nanOnly⟩
def e3m2 : FFmt := ⟨3, 2, 3, .none⟩
def e2m3 : FFmt := ⟨2, 3, 1, .none⟩
def e2m1 : FFmt := ⟨2, 1, 1, .none⟩

/-- The value of an encoding (R299). -/
def FFmt.decode (f : FFmt) (n : Nat) : FVal :=
  let neg := bitOf n (f.eb + f.mb)
  let ex := n / 2 ^ f.mb % 2 ^ f.eb
  let ma := n % 2 ^ f.mb
  let top := decide (ex + 1 = 2 ^ f.eb)
  if top && f.sp == .infNan then (if ma = 0 then .inf neg else .nan)
  else if top && f.sp == .nanOnly && decide (ma + 1 = 2 ^ f.mb) then .nan
  else if ex = 0 then .fin neg ma (1 - f.bias - f.mb)
  else .fin neg (2 ^ f.mb + ma) ((ex : Int) - f.bias - f.mb)

/-- The exponent of the last place kept of a magnitude, subnormals kept (R303). -/
def FFmt.place (f : FFmt) (m : Nat) (e : Int) : Int := max (1 - f.bias - f.mb) (e + Nat.log2 m - f.mb)

/-- A magnitude m x 2^e as a whole number of 2^q: ROUND 0 half away, 1 half to even, 2 stochastic with the draw `r` (R303, R306). -/
def roundMag (mode : Nat) (m : Nat) (e q : Int) (r : Nat) : Nat :=
  if q ≤ e then m * 2 ^ (e - q).toNat
  else
    let n := (q - e).toNat
    let low := m % 2 ^ n
    let k := m / 2 ^ n
    match mode with
    | 0 => (m + 2 ^ (n - 1)) / 2 ^ n
    | 1 => if 2 ^ n < 2 * low ∨ (2 * low = 2 ^ n ∧ k % 2 = 1) then k + 1 else k
    | _ => (m + r % 2 ^ n) / 2 ^ n

/-- The encoding of the largest finite value. -/
def FFmt.maxFin (f : FFmt) : Nat :=
  match f.sp with
  | .infNan => (2 ^ f.eb - 1) * 2 ^ f.mb - 1
  | .nanOnly => 2 ^ (f.eb + f.mb) - 2
  | .none => 2 ^ (f.eb + f.mb) - 1

/-- The sign bit of a format. -/
def FFmt.sign (f : FFmt) (neg : Bool) : Nat := if neg then 2 ^ (f.eb + f.mb) else 0

/-- The encoding of ∞ where the format has one, of the largest finite value elsewhere (R304). -/
def FFmt.infEnc (f : FFmt) : Nat := if f.sp == .infNan then (2 ^ f.eb - 1) * 2 ^ f.mb else f.maxFin

/-- The canonical NaN (R304); a format without one has none, and its block scale carries it. -/
def FFmt.nanEnc (f : FFmt) : Nat :=
  match f.sp with
  | .infNan => if f.mb = 2 then 0x7E else (2 ^ f.eb - 1) * 2 ^ f.mb + 2 ^ (f.mb - 1)
  | .nanOnly => 2 ^ (f.eb + f.mb) - 1
  | .none => 0

/-- The encoding of a magnitude rounded to the format, unbounded above. -/
def FFmt.encMag (f : FFmt) (mode m : Nat) (e : Int) (r : Nat) : Nat :=
  if m = 0 then 0
  else
    let q := f.place m e
    (q + f.bias + f.mb).toNat * 2 ^ f.mb + roundMag mode m e q r - 2 ^ f.mb

/-- Conversion to a format by R303 and R304: the encoding, and whether a finite value saturated. -/
def FFmt.convert (f : FFmt) (mode : Nat) (v : FVal) (r : Nat) : Nat × Bool :=
  match v with
  | .nan => (f.nanEnc, false)
  | .inf neg => (f.sign neg + f.infEnc, false)
  | .fin neg m e =>
    let k := f.encMag mode m e r
    (f.sign neg + min k f.maxFin, decide (f.maxFin < k))

/-! ## FP32 arithmetic, round to nearest even, overflow to ∞ (R267, R309) -/

/-- The FP32 value nearest to a value; beyond the largest finite value, ∞. -/
def f32Of (v : FVal) : W32 :=
  match v with
  | .nan => 0x7FC00000
  | .inf neg => w32 (fp32.sign neg + 0x7F800000)
  | .fin neg m e => w32 (fp32.sign neg + min (fp32.encMag 1 m e 0) 0x7F800000)

/-- The value of an FP32 pattern. -/
def f32Val (x : W32) : FVal := fp32.decode x.toNat

/-- The finite value of an integer times a power of two. -/
def valOfInt (i : Int) (e : Int) : FVal := .fin (decide (i < 0)) i.natAbs e

/-- The signed integer of a finite value at an exponent at or below its own. -/
def intAt (neg : Bool) (m : Nat) (e q : Int) : Int :=
  let k : Int := (m * 2 ^ (e - q).toNat : Nat)
  if neg then -k else k

/-- Exact sum; a zero sum is +0 unless both terms are negative. -/
def addVal : FVal → FVal → FVal
  | .nan, _ => .nan
  | _, .nan => .nan
  | .inf a, .inf b => if a = b then .inf a else .nan
  | .inf a, .fin _ _ _ => .inf a
  | .fin _ _ _, .inf b => .inf b
  | .fin a m e, .fin b n f =>
    let q := min e f
    let t := intAt a m e q + intAt b n f q
    if t = 0 then .fin (a && b) 0 q else .fin (decide (t < 0)) t.natAbs q

/-- Exact product. -/
def mulVal : FVal → FVal → FVal
  | .nan, _ => .nan
  | _, .nan => .nan
  | .inf a, .inf b => .inf (a != b)
  | .inf a, .fin b n _ => if n = 0 then .nan else .inf (a != b)
  | .fin a m _, .inf b => if m = 0 then .nan else .inf (a != b)
  | .fin a m e, .fin b n f => .fin (a != b) (m * n) (e + f)

/-- Changes the sign. -/
def negVal : FVal → FVal
  | .nan => .nan
  | .inf a => .inf (!a)
  | .fin a m e => .fin (!a) m e

/-- The quotient to 64 bits with a sticky last bit, which rounds as the exact quotient does. -/
def divVal : FVal → FVal → FVal
  | .nan, _ => .nan
  | _, .nan => .nan
  | .inf _, .inf _ => .nan
  | .inf a, .fin b _ _ => .inf (a != b)
  | .fin a _ _, .inf b => .fin (a != b) 0 0
  | .fin a m e, .fin b n f =>
    if n = 0 then (if m = 0 then .nan else .inf (a != b))
    else
      let k := 64 + Nat.log2 n
      let q := m * 2 ^ k / n
      let stuck := if m * 2 ^ k % n = 0 then 0 else 1
      .fin (a != b) (2 * q + stuck) (e - f - k - 1)

/-- The whole square root of a number: bits from the top, `n` of them. -/
def isqrt (x : Nat) : Nat → Nat → Nat
  | 0, acc => acc
  | n + 1, acc => isqrt x n (if (acc + 2 ^ n) * (acc + 2 ^ n) ≤ x then acc + 2 ^ n else acc)

/-- The square root with a sticky last bit. -/
def sqrtVal : FVal → FVal
  | .nan => .nan
  | .inf a => if a then .nan else .inf false
  | .fin a m e =>
    if m = 0 then .fin a 0 0
    else if a then .nan
    else
      let odd : Nat := (e % 2).toNat
      let x := m * 2 ^ odd * 2 ^ 64
      let r := isqrt x (Nat.log2 x / 2 + 1) 0
      .fin false (2 * r + (if r * r = x then 0 else 1)) ((e - odd) / 2 - 32 - 1)

def fadd (x y : W32) : W32 := f32Of (addVal (f32Val x) (f32Val y))
def fneg (x : W32) : W32 := x ^^^ 0x80000000
def fsub (x y : W32) : W32 := fadd x (fneg y)
def fmul (x y : W32) : W32 := f32Of (mulVal (f32Val x) (f32Val y))
/-- x × y + z with one rounding. -/
def ffma (x y z : W32) : W32 := f32Of (addVal (mulVal (f32Val x) (f32Val y)) (f32Val z))
def fdiv (x y : W32) : W32 := f32Of (divVal (f32Val x) (f32Val y))
def fsqrt (x : W32) : W32 := f32Of (sqrtVal (f32Val x))
def fofInt (i : Int) : W32 := f32Of (valOfInt i 0)
def isNan (x : W32) : Bool := f32Val x == .nan
/-- True for a NaN or ∞ (R154, R221). -/
def notFinite (x : W32) : Bool := fld x 30 23 == 255

/-- x < y as numbers; false where either is NaN, and −0 equals +0 (R151). -/
def flt (x y : W32) : Bool :=
  match f32Val x, f32Val y with
  | .nan, _ => false
  | _, .nan => false
  | .inf a, .inf b => a && !b
  | .inf a, .fin _ _ _ => a
  | .fin _ _ _, .inf b => !b
  | .fin a m e, .fin b n f => decide (intAt a m e (min e f) < intAt b n f (min e f))

/-- x = y as numbers; false where either is NaN. -/
def feq (x y : W32) : Bool := !isNan x && !isNan y && !flt x y && !flt y x

/-- The larger; +0 is larger than −0, and a NaN operand gives NaN (Table 8.3). -/
def fmax (x y : W32) : W32 :=
  if isNan x || isNan y then 0x7FC00000
  else if flt x y then y
  else if flt y x then x
  else if x.toNat < 0x80000000 then x else y

/-- Sum in ascending element order. -/
def fsum (l : List W32) : W32 := l.foldl fadd 0

/-- Dot product by fused multiply-add, in ascending order. -/
def fdot (x y : List W32) : W32 := (List.zip x y).foldl (fun a p => ffma p.1 p.2 a) 0

/-- Sum of squares of rounded differences, by fused multiply-add, in ascending order (R315, R317). -/
def fdistSq (x y : List W32) : W32 := (List.zip x y).foldl (fun a p => ffma (fsub p.1 p.2) (fsub p.1 p.2) a) 0

/-! ## Functions stated within a number of ulp (R310) -/

/-- A result within `n` ulp of a rounded one: the free error, at most `n`, moves the magnitude's encoding (log 6). -/
def withinUlp (n err : Nat) (x : W32) : W32 :=
  match f32Val x with
  | .fin _ m _ =>
    if m = 0 then x
    else
      let mag := x.toNat % 2 ^ 31 + err % (2 * n + 1) - n
      w32 (x.toNat / 2 ^ 31 * 2 ^ 31 + min mag 0x7F800000)
  | _ => x

/-- e^x in fixed point with 200 fractional bits, for a fixed-point x with 200 fractional bits: the series at x ÷ 2^10, squared 10 times. -/
def expFixed (x : Int) : Int :=
  let one : Int := 2 ^ 200
  let y := x / 1024
  let rec series : Nat → Nat → Int → Int
    | 0, _, _ => 0
    | n + 1, k, term => term + series n (k + 1) (term * y / one / k)
  let rec sq : Nat → Int → Int
    | 0, v => v
    | n + 1, v => sq n (v * v / one)
  sq 10 (series 60 1 one)

/-- The fixed-point number, with 200 fractional bits, of a finite value. -/
def fixedOf (neg : Bool) (m : Nat) (e : Int) : Int :=
  let k : Int := if 0 ≤ e + 200 then (m * 2 ^ (e + 200).toNat : Nat) else (m / 2 ^ (-(e + 200)).toNat : Nat)
  if neg then -k else k

/-- EXP: e^x within 2 ulp; beyond 88.72 +∞, below −103.97 +0 (the bounds taken as FP32 values). -/
def fexp (x : W32) : W32 :=
  match f32Val x with
  | .nan => 0x7FC00000
  | .inf neg => if neg then 0 else 0x7F800000
  | .fin neg m e =>
    if flt 0x42B170A4 x then 0x7F800000
    else if flt x 0xC2CFF0A4 then 0
    else
      let k := fixedOf neg m e
      -- a negative exponent is taken by the reciprocal, which keeps its leading places
      let v : FVal := if neg then divVal (.fin false (2 ^ 200) 0) (.fin false (expFixed (-k)).toNat 0) else .fin false (expFixed k).toNat (-200)
      withinUlp 2 (Config.expError x.toNat) (f32Of v)

/-- RECIP: 1 ÷ x within 2 ulp; ±0 gives ±∞ and ±∞ gives ±0. -/
def frecip (x : W32) : W32 := withinUlp 2 (Config.recipError x.toNat) (f32Of (divVal (.fin false 1 0) (f32Val x)))

/-- RSQRT: 1 ÷ √x within 2 ulp; +0 gives +∞, −0 gives −∞, and a negative number NaN. -/
def frsqrt (x : W32) : W32 :=
  match f32Val x with
  | .fin neg 0 _ => if neg then 0xFF800000 else 0x7F800000
  | .fin true _ _ => 0x7FC00000
  | .inf true => 0x7FC00000
  | v => withinUlp 2 (Config.rsqrtError x.toNat) (f32Of (sqrtVal (divVal (.fin false 1 0) v)))

/-- GELU within 4 ulp (Table 8.3): x ÷ (1 + e^(−2u)), u = 0.797_884_6 × (x + 0.044_715 x³), which is 0.5x(1 + tanh u). -/
def fgelu (x : W32) : W32 :=
  match f32Val x with
  | .nan => 0x7FC00000
  | .inf neg => if neg then 0x80000000 else x
  | .fin neg m e =>
    if m = 0 then x
    else if flt 0x42480000 x then x
    else if flt x 0xC2480000 then 0x80000000
    else
      let v : Int := fixedOf neg m e
      let one : Int := 2 ^ 200
      let cube := v * v / one * v / one
      let u2 := 2 * 7978846 * (v + cube * 44715 / 1000000) / 10000000
      let den : Int := if 0 ≤ u2 then one + one * one / expFixed u2 else one + expFixed (-u2)
      withinUlp 4 (Config.geluError x.toNat) (f32Of (divVal (.fin neg m e) (.fin false den.toNat (-200))))

def frelu (x : W32) : W32 := fmax x 0
def fsilu (x : W32) : W32 := fmul x (frecip (fadd 0x3F800000 (fexp (fneg x))))

/-- L2 normalisation (R105, R310, R314): x times RSQRT of its sum of squares; a vector with sum 0 gives zeros. -/
def fnormalise (v : List W32) : List W32 :=
  let ss := v.foldl (fun a x => ffma x x a) 0
  if feq ss 0 then v.map fun _ => 0 else v.map fun x => fmul x (frsqrt ss)

/-! ## Formats by code (R280, R299 to R302) -/

/-- The floating-point format of a code; 6 to 10 are Microscaling elements. -/
def fmtOf : Nat → Option FFmt
  | 2 => some e4m3 | 3 => some e5m2 | 4 => some bf16 | 5 => some fp32 | 6 => some e4m3 | 7 => some e5m2
  | 8 => some e3m2 | 9 => some e2m3 | 10 => some e2m1 | _ => none

def isMx (code : Nat) : Bool := decide (6 ≤ code ∧ code ≤ 11)
def isIntFmt (code : Nat) : Bool := decide (code = 0 ∨ code = 1 ∨ code = 12)
/-- Bits an element of a code takes in an array. -/
def elemBits (code : Nat) : Nat :=
  match code with
  | 1 => 4 | 10 => 4 | 4 => 16 | 5 => 32 | 12 => 32 | _ => 8

/-- A number of `n` bits read as two's complement. -/
def signedOf (n bits : Nat) : Int := if n < 2 ^ (bits - 1) then n else (n : Int) - 2 ^ bits

/-- An element's value, without its block scale. -/
def elemVal (code n : Nat) : FVal :=
  match code with
  | 0 => valOfInt (signedOf (n % 256) 8) 0
  | 1 => valOfInt (signedOf (n % 16) 4) 0
  | 11 => valOfInt (signedOf (n % 256) 8) (-6)
  | 12 => valOfInt (signedOf (n % 2 ^ 32) 32) 0
  | _ => match fmtOf code with
    | some f => f.decode (n % 2 ^ (1 + f.eb + f.mb))
    | none => .nan

/-- A value times the shared scale X (R300). -/
def scaleVal (x : Nat) (v : FVal) : FVal :=
  if x = 255 then .nan
  else match v with
    | .fin a m e => .fin a m (e + x - 127)
    | v => v

/-- Exponent of the largest value of an element format (R305). -/
def emaxOf : Nat → Int
  | 6 => 8 | 7 => 15 | 8 => 4 | 9 => 2 | 10 => 2 | _ => 0

/-- The integer log2 of a finite magnitude. -/
def floorLog2 (m : Nat) (e : Int) : Int := e + Nat.log2 m

/-- An element of a block encoded under a scale 2^x, saturated (R305). -/
def encElem (code mode : Nat) (x : Int) (v : FVal) (r : Nat) : Nat :=
  match v with
  | .fin a m e =>
    if code = 11 then
      let k : Int := roundMag mode m (e - x) (-6) r
      let y := if a then max (-128) (-k) else min 127 k
      (BitVec.ofInt 8 y).toNat
    else match fmtOf code with
      | some f => (f.convert mode (.fin a m (e - x)) r).1
      | none => 0
  | _ => match fmtOf code with
    | some f => (f.convert mode v r).1
    | none => 0

/-- A block encoded in a Microscaling format (R305): scale byte, elements, and the NaNs counted. -/
def encodeBlock (code mode : Nat) (vs : List FVal) (draws : List Nat) : Nat × List Nat × Nat :=
  let hasInf := code == 6 || code == 7
  if vs.any fun v => v == .nan || (!hasInf && match v with | .inf _ => true | _ => false) then
    (255, vs.map fun _ => 0, (vs.filter (· == .nan)).length)
  else
    let logs := vs.filterMap fun v => match v with
      | .fin _ m e => if m = 0 then none else some (floorLog2 m e)
      | _ => none
    let x : Int := match logs with
      | [] => -127
      | l :: rest => max (-127) (min 127 (rest.foldl max l - emaxOf code))
    ((x + 127).toNat, (vs.zip (draws ++ List.replicate vs.length 0)).map fun p => encElem code mode x p.1 p.2, 0)

/-! ## Generator of stochastic rounding (R307) -/

/-- One draw of a unit's generator: the draw and the new state. -/
def rngDraw (s : W64) : Nat × W64 :=
  let s := s + 0x9E3779B97F4A7C15
  let z := (s ^^^ (s >>> 30)) * 0xBF58476D1CE4E5B9
  let z := (z ^^^ (z >>> 27)) * 0x94D049BB133111EB
  ((z ^^^ (z >>> 31)).toNat, s)

/-- `n` draws in order. -/
def rngDraws : Nat → W64 → List Nat × W64
  | 0, s => ([], s)
  | n + 1, s =>
    let d := rngDraw s
    let r := rngDraws n d.2
    (d.1 :: r.1, r.2)

/-- The exact integer rescale of R308. -/
def rescale (acc : Int) (mult shift : Nat) (zy : Int) (mode code r : Nat) : Int × Bool :=
  let p := acc * mult
  let q : Int :=
    if shift = 0 then p
    else if mode = 2 then (p + (r % 2 ^ shift : Nat)) / 2 ^ shift
    else
      let k : Int := roundMag mode p.natAbs 0 shift 0
      if p < 0 then -k else k
  let y := q + zy
  let lo : Int := if code = 1 then -8 else -128
  let hi : Int := if code = 1 then 7 else 127
  (max lo (min hi y), decide (y < lo ∨ hi < y))

/-- Accumulation in INT32 with saturation (R267). -/
def satInt32 (x : Int) : Int × Bool := (max (-2 ^ 31) (min (2 ^ 31 - 1) x), decide (x < -2 ^ 31 ∨ 2 ^ 31 - 1 < x))

/-- The order key of a distance (R189). -/
def orderKey (x : W32) : Nat :=
  let y := if x = 0x80000000 then 0 else x
  (if y.toNat < 2 ^ 31 then y ||| 0x80000000 else ~~~y).toNat

/-! ## Elements of byte strings -/

/-- Element `i` of an array of elements of a code stored in order, nibbles two to a byte (R301). -/
def arrElem (code : Nat) (b : Bytes) (i : Nat) : Nat :=
  match elemBits code with
  | 4 => byteAt b (i / 2) / 2 ^ (4 * (i % 2)) % 16
  | 16 => fieldAt b (2 * i) 2
  | 32 => fieldAt b (4 * i) 4
  | _ => byteAt b i

/-- Bytes of `n` elements in order. -/
def arrBytes (code n : Nat) : Nat := (n * elemBits code + 7) / 8

/-- Packs elements in order, nibbles two to a byte. -/
def packElems (code : Nat) (es : List Nat) : Bytes :=
  match elemBits code with
  | 4 =>
    let rec go : List Nat → Bytes
      | [] => []
      | [a] => [BitVec.ofNat 8 (a % 16)]
      | a :: b :: rest => BitVec.ofNat 8 (a % 16 + 16 * (b % 16)) :: go rest
    go es
  | 16 => es.flatMap fun x => leBytes 2 x
  | 32 => es.flatMap fun x => leBytes 4 x
  | _ => es.map fun x => BitVec.ofNat 8 x

/-- Start of the scales of an R301 array. -/
def mxScaleAt (code rows n : Nat) : Nat := 64 * ((arrBytes code (rows * n) + 63) / 64)
/-- Bytes of an R301 array. -/
def mxBytes (code rows n : Nat) : Nat := mxScaleAt code rows n + rows * ((n + 31) / 32)

/-- Bytes of an array of `rows` rows of `n` elements in a format. -/
def arrayBytes (code rows n : Nat) : Nat := if isMx code then mxBytes code rows n else arrBytes code (rows * n)

/-- Element values of an array of `rows` rows of `n` elements, with the scales where the format has them (R300, R301). -/
def arrayVals (code rows n : Nat) (b : Bytes) : List FVal :=
  let sc := mxScaleAt code rows n
  (List.range (rows * n)).map fun i =>
    let v := elemVal code (if code = 8 ∨ code = 9 then arrElem code b i % 64 else arrElem code b i)
    if isMx code then scaleVal (byteAt b (sc + i / n * ((n + 31) / 32) + i % n / 32)) v else v

/-- Cuts a list into pieces of `k`, `n` of them. -/
def chunks {α : Type} (k : Nat) : Nat → List α → List (List α)
  | 0, _ => []
  | n + 1, l => l.take k :: chunks k n (l.drop k)

/-- Writes an array of `rows` rows of `n` FP32 values in a format: bytes, saturated results and NaNs counted (R301, R303 to R305). -/
def encodeArray (code mode rows n : Nat) (vs : List FVal) (draws : List Nat) : Bytes × Nat × Nat :=
  if isMx code then
    let blocks := (List.range rows).flatMap fun m =>
      (List.range ((n + 31) / 32)).map fun j =>
        let lo := m * n + 32 * j
        let k := min 32 (n - 32 * j)
        encodeBlock code mode ((vs.drop lo).take k) ((draws.drop lo).take k)
    let body := packElems code (blocks.flatMap fun x => x.2.1)
    let sc := mxScaleAt code rows n
    (body ++ List.replicate (sc - body.length) 0 ++ blocks.map (fun x => BitVec.ofNat 8 x.1), 0,
      (blocks.map fun x => x.2.2).foldl (· + ·) 0)
  else match fmtOf code with
    | some f =>
      let es := (vs.zip (draws ++ List.replicate vs.length 0)).map fun p => f.convert mode p.1 p.2
      (packElems code (es.map Prod.fst), (es.filter Prod.snd).length, (vs.filter (· == .nan)).length)
    | none => ([], 0, 0)

end Sys2Proof.Machine
end

