-- ==== Sys2Proof/Machine/Crypto.lean ====
section
/-! DEFINITION. The checks and digests the chapters name: CRC-32C (Castagnoli), the CRC-64 of flits (R411), SHA3-256 and
SHA3-512 (R336, R546, R567). -/

namespace Sys2Proof.Machine

/-- Eight shift steps of the reflected CRC-32C (polynomial 0x1EDC_6F41, reflected 0x82F6_3B78). -/
def crc32cStep : Nat → W32 → W32
  | 0, c => c
  | n + 1, c => crc32cStep n (if c.getLsbD 0 then (c >>> 1) ^^^ 0x82F63B78#32 else c >>> 1)

/-- CRC-32C of a byte string: initial value and final exclusive-or all ones, reflected. -/
def crc32c (b : Bytes) : W32 :=
  (b.foldl (fun c x => crc32cStep 8 (c ^^^ BitVec.setWidth 32 x)) 0xFFFFFFFF#32) ^^^ 0xFFFFFFFF#32

/-- Shift steps of the CRC-64 of ECMA-182, most significant bit first. -/
def crc64Step : Nat → W64 → W64
  | 0, c => c
  | n + 1, c => crc64Step n (if c.getLsbD 63 then (c <<< 1) ^^^ 0x42F0E1EBA9EA3693#64 else c <<< 1)

/-- CRC-64 with the polynomial of ECMA-182: initial value 0, not reflected, no final exclusive-or (PRESUMED, log 12). -/
def crc64 (b : Bytes) : W64 :=
  b.foldl (fun c x => crc64Step 8 (c ^^^ BitVec.shiftLeft (BitVec.setWidth 64 x) 56)) 0#64

/-! ## SHA-3

The 25 lanes of the permutation are numbers below 2^64, lane (x, y) at place 5y + x, which is the order in which a message fills them. No table is kept:
rotations follow the walk of the lanes, and round constants the shift register that defines them. -/

/-- A lane turned left by `k` bits. -/
def laneTurn (k n : Nat) : Nat := n * 2 ^ k % 2 ^ 64 + n / 2 ^ (64 - k)

/-- The walk of the 24 lanes other than lane 0: where each stands, where it goes, and by how much it turns on the way. -/
def laneWalk : Nat → Nat → Nat → Nat → List (Nat × Nat × Nat)
  | 0, _, _, _ => []
  | left + 1, turn, x, y =>
    let z := (2 * x + 3 * y) % 5
    (5 * y + x, 5 * z + y, turn % 64) :: laneWalk left (turn + 25 - left) y z

/-- Eight-bit shift register whose low bits give the round constants, one step on. -/
def constStep (r : Nat) : Nat := if 128 ≤ r then (2 * r % 256) ^^^ 0x71 else 2 * r

/-- The constant of one round from the register: bit 2^j - 1 is the register's low bit after j steps; the register goes on to the next round. -/
def roundConst : Nat → Nat → Nat × Nat
  | 0, r => (0, r)
  | left + 1, r =>
    let rest := roundConst left (constStep r)
    (r % 2 * 2 ^ (2 ^ (6 - left) - 1) + rest.1, rest.2)

/-- The column mix: every lane takes the parities of the column before it and, turned, of the column after it. -/
def mixColumns (s : List Nat) : List Nat :=
  let parity (x : Nat) : Nat := (List.range 5).foldl (fun p y => p ^^^ s.getD (5 * y + x % 5) 0) 0
  let mix := (List.range 5).map fun x => parity (x + 4) ^^^ laneTurn 1 (parity (x + 1))
  (List.range 25).map fun i => s.getD i 0 ^^^ mix.getD (i % 5) 0

/-- The lanes moved along their walk. -/
def moveLanes (walk : List (Nat × Nat × Nat)) (s : List Nat) : List Nat :=
  walk.foldl (fun t w => t.set w.2.1 (laneTurn w.2.2 (s.getD w.1 0))) s

/-- The row step: a lane changes where the next lane's bit is 0 and the one after it is 1. -/
def mixRows (s : List Nat) : List Nat :=
  (List.range 25).map fun i =>
    let lane (k : Nat) : Nat := s.getD (i / 5 * 5 + (i + k) % 5) 0
    lane 0 ^^^ ((lane 1 ^^^ (2 ^ 64 - 1)) &&& lane 2)

/-- `left` rounds of the permutation; the register supplies their constants. -/
def permute (walk : List (Nat × Nat × Nat)) : Nat → Nat → List Nat → List Nat
  | 0, _, s => s
  | left + 1, r, s =>
    let k := roundConst 7 r
    let t := mixRows (moveLanes walk (mixColumns s))
    permute walk left k.2 (t.set 0 (t.getD 0 0 ^^^ k.1))

/-- The words of a message taken in, `rate` bytes at a time, each block followed by 24 rounds. -/
def absorb (rate : Nat) : Nat → Bytes → List Nat → List Nat
  | 0, _, s => s
  | blocks + 1, b, s =>
    absorb rate blocks (b.drop rate)
      (permute (laneWalk 24 1 1 0) 24 1 ((List.range 25).map fun i => s.getD i 0 ^^^ if i < rate / 8 then fieldAt b (8 * i) 8 else 0))

/-- SHA-3 of a message: 0x06 after its end, the top bit of the last block set, and the digest from the first lanes. -/
def sha3 (rate out : Nat) (b : Bytes) : Bytes :=
  let blocks := b.length / rate + 1
  let gap := blocks * rate - b.length
  let tail : Bytes := (List.range gap).map fun i => (if i = 0 then 0x06 else 0) ||| (if i + 1 = gap then 0x80 else 0)
  ((absorb rate blocks (b ++ tail) (List.replicate 25 0)).flatMap (leBytes 8)).take out

/-- SHA3-256. -/
def sha3_256 (b : Bytes) : Bytes := sha3 136 32 b
/-- SHA3-512. -/
def sha3_512 (b : Bytes) : Bytes := sha3 72 64 b

end Sys2Proof.Machine
end

