-- ==== Sys2Proof/Machine/Codec.lean ====
section
/-! DEFINITION. The tile codec (R83 to R87): byte planes, groups of 64 bytes, blocks and tiles. -/

namespace Sys2Proof.Machine

/-- Element bytes of a width code (Table 2.5); 0 for the reserved code. -/
def widthBytes (code : Nat) : Nat := match code with | 0 => 1 | 1 => 2 | 2 => 4 | _ => 0

/-- Bits needed for a number below 256. -/
def bitsNeeded : Nat → Nat → Nat
  | 0, _ => 0
  | fuel + 1, n => if n = 0 then 0 else bitsNeeded fuel (n / 2) + 1

/-- Packs values of `w` bits, the first in the lowest bits. -/
def packBits (w : Nat) : List Nat → Nat
  | [] => 0
  | v :: rest => v + 2 ^ w * packBits w rest

/-- Codes one group of 64 bytes (R85). -/
def codeGroup (g : Bytes) : Bytes :=
  let ns := g.map BitVec.toNat
  let lo := ns.foldl min 255
  let hi := ns.foldl max 0
  let w := bitsNeeded 8 (hi - lo)
  if w < 8 then [BitVec.ofNat 8 (w * 16), BitVec.ofNat 8 lo] ++ leBytes (8 * w) (packBits w (ns.map (· - lo)))
  else 0x80#8 :: g

/-- Decodes one group: its bytes and what follows it; `none` for a group byte R87 refuses or a payload that ends early. -/
def decodeGroup : Bytes → Option (Bytes × Bytes)
  | [] => none
  | h :: rest =>
    let w := h.toNat / 16
    if h.toNat % 16 ≠ 0 ∨ 8 < w then none
    else if w = 8 then if 64 ≤ rest.length then some (rest.take 64, rest.drop 64) else none
    else match rest with
      | [] => none
      | base :: body =>
        if body.length < 8 * w then none
        else
          let n := leNat (body.take (8 * w))
          some ((List.range 64).map (fun i => base + BitVec.ofNat 8 (n / 2 ^ (w * i) % 2 ^ w)), body.drop (8 * w))

/-- The byte planes of a block, plane 0 first (R85). -/
def toPlanes (e : Nat) (b : Bytes) : Bytes :=
  (List.range e).flatMap fun p => (List.range (b.length / e)).map fun i => b.getD (e * i + p) 0

/-- Puts the planes of a block of 4,096 bytes back. -/
def fromPlanes (e : Nat) (b : Bytes) : Bytes :=
  (List.range b.length).map fun i => b.getD (i % e * (b.length / e) + i / e) 0

/-- Codes `n` groups. -/
def codeGroups : Nat → Bytes → Bytes
  | 0, _ => []
  | n + 1, b => codeGroup (b.take 64) ++ codeGroups n (b.drop 64)

/-- Decodes `n` groups; the payload must end with the last of them. -/
def decodeGroups : Nat → Bytes → Option Bytes
  | 0, [] => some []
  | 0, _ :: _ => none
  | n + 1, b => match decodeGroup b with
    | none => none
    | some (g, rest) => match decodeGroups n rest with
      | none => none
      | some t => some (g ++ t)

/-- A block with its header (R84, R86). -/
def codeBlock (e : Nat) (b : Bytes) : Bytes :=
  let c := codeGroups 64 (toPlanes e b)
  let check := leBytes 4 (crc32c b).toNat
  if 4096 < c.length then leBytes 2 4096 ++ [0x80, 0] ++ check ++ b else leBytes 2 c.length ++ [0, 0] ++ check ++ c

/-- Decodes the block at the head of some bytes; `none` where EXPAND finds it faulty (R87). -/
def decodeBlock (e : Nat) (b : Bytes) : Option Bytes :=
  let n := fieldAt b 0 2
  if n = 0 ∨ 4096 < n ∨ e = 0 then none
  else
    let payload := sliceAt b 8 n
    let raw := bitOf (byteAt b 2) 7
    let d := if raw then (if n = 4096 then some payload else none) else (decodeGroups 64 payload).map (fromPlanes e)
    match d with
    | some d => if (crc32c d).toNat = fieldAt b 4 4 then some d else none
    | none => none

/-- Pads to a whole number of 64-byte lines. -/
def padLine (b : Bytes) : Bytes := b ++ List.replicate ((64 - b.length % 64) % 64) 0

/-- Codes blocks one after another; the second part lists their offsets in lines. -/
def codeBlocks (e : Nat) : Nat → List Bytes → Bytes × List Nat
  | _, [] => ([], [])
  | line, b :: rest =>
    let c := padLine (codeBlock e b)
    let r := codeBlocks e (line + c.length / 64) rest
    (c ++ r.1, line :: r.2)

/-- A tile of blocks of 4,096 bytes (R83). -/
def codeTile (width : Nat) (blocks : List Bytes) : Bytes :=
  let r := codeBlocks (widthBytes width) 3 blocks
  leBytes 2 blocks.length ++ [BitVec.ofNat 8 width] ++ List.replicate 61 0
    ++ r.2.flatMap (leBytes 2) ++ List.replicate (128 - 2 * r.2.length) 0 ++ r.1

/-- Cuts bytes into blocks of 4,096. -/
def cutBlocks (n : Nat) (b : Bytes) : List Bytes := (List.range n).map fun i => sliceAt b (4096 * i) 4096

/-- The blocks decoded before the first that is faulty, and whether one was; `rd off n` reads the tile. -/
def decodeTile (rd : Nat → Nat → Bytes) (width : Nat) (offsets : List Nat) : Bytes × Bool :=
  match offsets with
  | [] => ([], true)
  | o :: rest =>
    match decodeBlock (widthBytes width) (rd (64 * o) 4104) with
    | none => ([], false)
    | some b => let r := decodeTile rd width rest; (b ++ r.1, r.2)

end Sys2Proof.Machine
end

