-- ==== Sys2Proof/Machine/RegNames.lean ====
section
/-! DEFINITION. The BAR0 offsets of the named registers (Tables 0.2, 1.6, 2.9, 3.13, 4.12, 5.6, 6.10, 7.10, 9.6, 10.7, 11.7,
12.10, 13.6, 14.7, 15.8, 17.6, 17.8, 17.9 and 18.10). For a repeated register the offset is that of its first instance. -/

namespace Sys2Proof.Machine.Reg

/-- First register of the table of R5 (00_scope.md). -/
abbrev NODE_CAP_PART : Nat := 0x100
abbrev NODE_CAP_COMPUTE : Nat := 0x104
abbrev NODE_CAP_UNITS : Nat := 0x108
abbrev NODE_CAP_STORE : Nat := 0x10C
abbrev NODE_CAP_MEMORY : Nat := 0x110
abbrev NODE_CAP_IO : Nat := 0x114
abbrev NODE_CAP_CONTROL : Nat := 0x118
abbrev NODE_CAP_FLASH : Nat := 0x11C
/-- First register of the table of R45 (01_package_and_dataflow.md). -/
abbrev KITTY_XP_SEL : Nat := 0x1F0000
abbrev KITTY_XP_CTL : Nat := 0x1F0004
abbrev KITTY_XP_STATUS : Nat := 0x1F0008
abbrev KITTY_XP_TX_FLITS_LO : Nat := 0x1F0010
abbrev KITTY_XP_TX_FLITS_HI : Nat := 0x1F0014
abbrev KITTY_XP_RX_FLITS_LO : Nat := 0x1F0018
abbrev KITTY_XP_RX_FLITS_HI : Nat := 0x1F001C
abbrev KITTY_XP_CRC_ERR_LO : Nat := 0x1F0020
abbrev KITTY_XP_CRC_ERR_HI : Nat := 0x1F0024
abbrev KITTY_XP_RETRY_LO : Nat := 0x1F0028
abbrev KITTY_XP_RETRY_HI : Nat := 0x1F002C
abbrev KITTY_XP_STALL_LO : Nat := 0x1F0030
abbrev KITTY_XP_STALL_HI : Nat := 0x1F0034
abbrev KITTY_XP_E2E_TO_LO : Nat := 0x1F0038
abbrev KITTY_XP_E2E_TO_HI : Nat := 0x1F003C
abbrev KITTY_XP_ERR_DIE_LO : Nat := 0x1F0040
abbrev KITTY_XP_ERR_DIE_HI : Nat := 0x1F0044
abbrev KITTY_XP_TO_LIMIT : Nat := 0x1F0048
/-- First register of the table of R96 (02_kitty.md). -/
abbrev KITTY_FREE_UNITS : Nat := 0x100000
abbrev KITTY_SCRUB_PENDING : Nat := 0x100004
abbrev KITTY_ARB_CAPS : Nat := 0x100008
abbrev KITTY_ARB_WEIGHT_LO : Nat := 0x10000C
abbrev KITTY_ARB_WEIGHT_HI : Nat := 0x100010
abbrev KITTY_EVICT_RATE : Nat := 0x100014
abbrev KITTY_RCMD_OP : Nat := 0x100100
abbrev KITTY_RCMD_ARG0 : Nat := 0x100104
abbrev KITTY_RCMD_ARG1 : Nat := 0x100108
abbrev KITTY_RCMD_ARG2 : Nat := 0x10010C
abbrev KITTY_RCMD_RESULT : Nat := 0x100110
abbrev KITTY_RGN_SEL : Nat := 0x100200
abbrev KITTY_RGN_INFO0 : Nat := 0x100204
abbrev KITTY_RGN_INFO1 : Nat := 0x100208
abbrev KITTY_RGN_INFO2 : Nat := 0x10020C
abbrev KITTY_QUOTA_SEL : Nat := 0x100300
abbrev KITTY_QUOTA_LIMIT : Nat := 0x100304
abbrev KITTY_QUOTA_USE : Nat := 0x100308
abbrev KITTY_CLS_SEL : Nat := 0x100400
abbrev KITTY_CLS_GRANT_LO : Nat := 0x100408
abbrev KITTY_CLS_GRANT_HI : Nat := 0x10040C
abbrev KITTY_CLS_WAIT_LO : Nat := 0x100410
abbrev KITTY_CLS_WAIT_HI : Nat := 0x100414
abbrev KITTY_ACC_NOT_OWNER : Nat := 0x100500
abbrev KITTY_ACC_DENIED : Nat := 0x100504
abbrev KITTY_ACC_RANGE : Nat := 0x100508
abbrev KITTY_SPILL_PAGES : Nat := 0x10050C
abbrev KITTY_RECALL_PAGES : Nat := 0x100510
abbrev KITTY_EVICT_PAGES : Nat := 0x100514
abbrev KITTY_EVICT_STUCK : Nat := 0x100518
abbrev KITTY_CODEC_ERR : Nat := 0x10051C
/-- First register of the table of R142 (03_index_model.md). -/
abbrev IDX_TABLES_LIVE : Nat := 0x300000
abbrev IDX_TABLE_LIMIT : Nat := 0x300004
abbrev IDX_KEYS_LO : Nat := 0x300008
abbrev IDX_KEYS_HI : Nat := 0x30000C
abbrev IDX_KEY_LIMIT_LO : Nat := 0x300010
abbrev IDX_KEY_LIMIT_HI : Nat := 0x300014
abbrev IDX_IMAGE_VERSION : Nat := 0x300018
abbrev IDX_CMD_OP : Nat := 0x300100
abbrev IDX_CMD_ARG0 : Nat := 0x300104
abbrev IDX_CMD_ARG1 : Nat := 0x300108
abbrev IDX_CMD_ARG2 : Nat := 0x30010C
abbrev IDX_CMD_ARG3 : Nat := 0x300110
abbrev IDX_CMD_ARG4 : Nat := 0x300114
abbrev IDX_CMD_RESULT : Nat := 0x300118
abbrev IDX_TBL_SEL : Nat := 0x300200
abbrev IDX_TBL_INFO0 : Nat := 0x300204
abbrev IDX_TBL_INFO1 : Nat := 0x300208
abbrev IDX_TBL_LISTS : Nat := 0x30020C
abbrev IDX_TBL_MP_LO : Nat := 0x300210
abbrev IDX_TBL_MP_HI : Nat := 0x300214
abbrev IDX_TBL_KEYS_LO : Nat := 0x300218
abbrev IDX_TBL_KEYS_HI : Nat := 0x30021C
abbrev IDX_TBL_ROWS : Nat := 0x300220
abbrev IDX_TBL_PINS : Nat := 0x300224
abbrev IDX_TBL_OLDEST_LO : Nat := 0x300228
abbrev IDX_TBL_OLDEST_HI : Nat := 0x30022C
abbrev IDX_LST_SEL_TABLE : Nat := 0x300300
abbrev IDX_LST_SEL_LIST : Nat := 0x300304
abbrev IDX_LST_STATE : Nat := 0x300308
abbrev IDX_LST_ENTRIES : Nat := 0x30030C
abbrev IDX_LST_WAYSIDE : Nat := 0x300310
abbrev IDX_LST_TOMBS : Nat := 0x300314
abbrev IDX_LST_MP_LO : Nat := 0x300318
abbrev IDX_LST_MP_HI : Nat := 0x30031C
abbrev IDX_LST_IMAGE_MP_LO : Nat := 0x300320
abbrev IDX_LST_IMAGE_MP_HI : Nat := 0x300324
abbrev IDX_DUP_KEYS : Nat := 0x300400
abbrev IDX_IMAGE_CRC_ERR : Nat := 0x300404
abbrev IDX_EMPTY_CENTROIDS : Nat := 0x300408
abbrev IDX_ROW_RANGE : Nat := 0x30040C
abbrev IDX_TS_CONSULT : Nat := 0x300410
/-- First register of the table of R187 (04_query_path.md). -/
abbrev QRY_ACCEPTED_LO : Nat := 0x200000
abbrev QRY_ACCEPTED_HI : Nat := 0x200004
abbrev QRY_OUTSTANDING : Nat := 0x200008
abbrev QRY_OUTSTANDING_LIMIT : Nat := 0x20000C
abbrev QRY_HAND_POOL : Nat := 0x200010
abbrev QRY_HANDS_FREE : Nat := 0x200014
abbrev QRY_PROBE_CFG : Nat := 0x200018
abbrev QRY_TRICK_MIN_AGE : Nat := 0x20001C
abbrev QRY_TRICK_DL : Nat := 0x200020
abbrev QRY_REJECT : Nat := 0x200100
abbrev QRY_DONE : Nat := 0x200180
abbrev QRY_SCAN_PAIRS_LO : Nat := 0x200200
abbrev QRY_SCAN_PAIRS_HI : Nat := 0x200204
abbrev QRY_SCAN_DIST_LO : Nat := 0x200208
abbrev QRY_SCAN_DIST_HI : Nat := 0x20020C
abbrev QRY_FILTER_REJECT_LO : Nat := 0x200210
abbrev QRY_FILTER_REJECT_HI : Nat := 0x200214
abbrev QRY_TOMB_HIDDEN : Nat := 0x200218
abbrev QRY_PROBE_NAN : Nat := 0x20021C
abbrev QRY_WIDEN_STAGES : Nat := 0x200220
abbrev QRY_WIDEN_SHORT : Nat := 0x200224
abbrev QRY_EXACT : Nat := 0x200228
abbrev QRY_RR_STACK : Nat := 0x20022C
abbrev QRY_RR_FLASH : Nat := 0x200230
abbrev QRY_RR_NOVEC : Nat := 0x200234
abbrev QRY_RR_FAULT : Nat := 0x200238
abbrev QRY_TRICK_RELAUNCH : Nat := 0x20023C
abbrev QRY_TF_SEL : Nat := 0x200300
abbrev QRY_TF_OPEN : Nat := 0x200304
abbrev QRY_TF_LQ : Nat := 0x200308
abbrev QRY_TF_LQ_FULL : Nat := 0x20030C
abbrev QRY_TF_L_FULL : Nat := 0x200310
abbrev QRY_TF_L_DEADLINE : Nat := 0x200314
abbrev QRY_TF_L_IDLE : Nat := 0x200318
abbrev QRY_TF_L_EVICT : Nat := 0x20031C
abbrev QRY_TF_MEMBERS_LO : Nat := 0x200320
abbrev QRY_TF_MEMBERS_HI : Nat := 0x200324
abbrev QRY_TNT_SEL : Nat := 0x200400
abbrev QRY_TNT_CFG : Nat := 0x200404
abbrev QRY_TNT_DEADLINE : Nat := 0x200408
abbrev QRY_TNT_USE : Nat := 0x20040C
abbrev QRY_TNT_LIMIT : Nat := 0x200410
/-- First register of the table of R215 (05_selection_and_merge.md). -/
abbrev QRY_SEL_NAN : Nat := 0x200500
abbrev QRY_SEL_LATE : Nat := 0x200504
abbrev QRY_SEL_DUP : Nat := 0x200508
abbrev QRY_SEL_TIE : Nat := 0x20050C
abbrev QRY_SEL_FLUSH_LO : Nat := 0x200510
abbrev QRY_SEL_FLUSH_HI : Nat := 0x200514
abbrev QRY_MRG_DONE : Nat := 0x200520
abbrev QRY_MRG_DUP : Nat := 0x200524
abbrev QRY_MRG_MISSING : Nat := 0x200528
abbrev QRY_MRG_LATE : Nat := 0x20052C
abbrev QRY_MRG_MARGIN : Nat := 0x200530
/-- First register of the table of R260 (06_updates_and_versions.md). -/
abbrev IDX_UPD_OPS_LO : Nat := 0x340000
abbrev IDX_UPD_OPS_HI : Nat := 0x340004
abbrev IDX_UPD_GROUPS_LO : Nat := 0x340008
abbrev IDX_UPD_GROUPS_HI : Nat := 0x34000C
abbrev IDX_UPD_REPLACED : Nat := 0x340010
abbrev IDX_UPD_NOT_FOUND : Nat := 0x340014
abbrev IDX_UPD_MOVED : Nat := 0x340018
abbrev IDX_UPD_BUSY : Nat := 0x34001C
abbrev IDX_UPD_SEARCH : Nat := 0x340020
abbrev IDX_MERGES : Nat := 0x340024
abbrev IDX_MERGES_URGENT : Nat := 0x340028
abbrev IDX_MERGE_HOLD_MAX : Nat := 0x34002C
abbrev IDX_RECLAIM_IMAGES : Nat := 0x340030
abbrev IDX_RECLAIM_ROWS : Nat := 0x340034
abbrev IDX_SHUF_SKIPPED : Nat := 0x340038
abbrev IDX_SHUF_DONE : Nat := 0x34003C
abbrev IDX_SHUF_ABORTED : Nat := 0x340040
abbrev IDX_REPLACE_DONE : Nat := 0x340044
abbrev IDX_REPLACE_ABORTED : Nat := 0x340048
abbrev IDX_REPLAY_SKIPPED : Nat := 0x34004C
abbrev IDX_REPLACE_PRIOR : Nat := 0x340050
abbrev IDX_SHUF_OVERLAP_READS : Nat := 0x340054
abbrev IDX_COMMIT_DL : Nat := 0x340080
abbrev IDX_UPD_WAIT : Nat := 0x340084
abbrev IDX_MERGE_CFG : Nat := 0x340088
abbrev IDX_MERGE_MAX : Nat := 0x34008C
abbrev IDX_RETAIN : Nat := 0x340090
abbrev IDX_SKEW_WIN : Nat := 0x340094
abbrev IDX_SHUF_RESEND : Nat := 0x340098
abbrev IDX_SHUF_OVERLAP : Nat := 0x34009C
abbrev IDX_VCMD_OP : Nat := 0x340100
abbrev IDX_VCMD_ARG0 : Nat := 0x340104
abbrev IDX_VCMD_ARG1 : Nat := 0x340108
abbrev IDX_VCMD_ARG2 : Nat := 0x34010C
abbrev IDX_VCMD_ARG3 : Nat := 0x340110
abbrev IDX_VCMD_ARG4 : Nat := 0x340114
abbrev IDX_VCMD_RESULT : Nat := 0x340118
abbrev IDX_VCMD_MP : Nat := 0x34011C
abbrev IDX_TBL_FLOOR_LO : Nat := 0x340200
abbrev IDX_TBL_FLOOR_HI : Nat := 0x340204
abbrev IDX_TBL_BASE_LO : Nat := 0x340208
abbrev IDX_TBL_BASE_HI : Nat := 0x34020C
abbrev IDX_TBL_LOG_USED : Nat := 0x340210
abbrev IDX_TBL_SPLITS : Nat := 0x340214
abbrev IDX_HOT_SEL : Nat := 0x340300
abbrev IDX_HOT_TABLE : Nat := 0x340304
abbrev IDX_HOT_LIST : Nat := 0x340308
abbrev IDX_HOT_PAIRS : Nat := 0x34030C
/-- First register of the table of R294 (07_matrix_engines.md). -/
abbrev CD_INFO : Nat := 0x400000
abbrev CD_DIE : Nat := 0x400004
abbrev CD_STATE : Nat := 0x400008
abbrev CD_WAIT_LIMIT : Nat := 0x40000C
abbrev CD_ME_STATUS : Nat := 0x401000
abbrev CD_ME_OWNER : Nat := 0x401004
abbrev CD_ME_MACS_LO : Nat := 0x401008
abbrev CD_ME_MACS_HI : Nat := 0x40100C
abbrev CD_ME_BUSY_LO : Nat := 0x401010
abbrev CD_ME_BUSY_HI : Nat := 0x401014
abbrev CD_ME_WSTALL_LO : Nat := 0x401018
abbrev CD_ME_WSTALL_HI : Nat := 0x40101C
abbrev CD_ME_TILES : Nat := 0x401020
abbrev CD_ME_PASSES : Nat := 0x401024
abbrev CD_ME_MODE_SW : Nat := 0x401028
abbrev CD_ME_SAT : Nat := 0x40102C
abbrev CD_ME_RESIDUE : Nat := 0x401030
abbrev CD_ME_CMD_ERR : Nat := 0x401034
abbrev CD_ME_ABORTED : Nat := 0x401038
abbrev CD_ME_WAIT_TO : Nat := 0x40103C
abbrev CD_SK_STATUS : Nat := 0x402000
abbrev CD_SK_DONE : Nat := 0x402004
abbrev CD_SK_BYTES_LO : Nat := 0x402008
abbrev CD_SK_BYTES_HI : Nat := 0x40200C
abbrev CD_SK_CMD_ERR : Nat := 0x402010
abbrev CD_SK_WAIT_TO : Nat := 0x402014
abbrev CD_VU_STATUS : Nat := 0x403000
abbrev CD_VU_OWNER : Nat := 0x403004
abbrev CD_VU_OPS_LO : Nat := 0x403008
abbrev CD_VU_OPS_HI : Nat := 0x40300C
abbrev CD_VU_NAN : Nat := 0x403010
abbrev CD_VU_CMD_ERR : Nat := 0x403014
abbrev CD_VU_WAIT_TO : Nat := 0x403018
abbrev CD_SQ_STATE : Nat := 0x404000
abbrev CD_SQ_OWNER : Nat := 0x404004
abbrev CD_SQ_POSTED : Nat := 0x404008
abbrev CD_SQ_CQ_STALL : Nat := 0x40400C
abbrev CD_SQ_ECC_CE : Nat := 0x404010
abbrev CD_SQ_ECC_UE : Nat := 0x404014
abbrev CD_SYNC : Nat := 0x405000
/-- First register of the table of R346 (09_models_and_kv_cache.md). -/
abbrev STACK_PD_LIMIT : Nat := 0xE80000
abbrev STACK_PD_LIVE : Nat := 0xE80004
abbrev STACK_PD_SEL : Nat := 0xE80008
abbrev STACK_PD_INFO : Nat := 0xE8000C
abbrev STACK_PD_OWNER : Nat := 0xE80010
abbrev STACK_PD_LEN_LO : Nat := 0xE80014
abbrev STACK_PD_LEN_HI : Nat := 0xE80018
abbrev STACK_PCMD_OP : Nat := 0xE80100
abbrev STACK_PCMD_ARG0 : Nat := 0xE80104
abbrev STACK_PCMD_ARG1 : Nat := 0xE80108
abbrev STACK_PCMD_ARG2 : Nat := 0xE8010C
abbrev STACK_PCMD_ARG3 : Nat := 0xE80110
abbrev STACK_PCMD_RESULT : Nat := 0xE80114
abbrev STACK_STK_DENIED : Nat := 0xE80200
abbrev STACK_KV_TREES : Nat := 0xE80300
abbrev STACK_KV_LOOKUPS : Nat := 0xE80304
abbrev STACK_KV_HIT_BLOCKS : Nat := 0xE80308
abbrev STACK_KV_HASH_MISMATCH : Nat := 0xE8030C
abbrev STACK_KV_INSERTS : Nat := 0xE80310
abbrev STACK_KV_DUP_INSERTS : Nat := 0xE80314
abbrev STACK_KV_EVICT_NODES : Nat := 0xE80318
abbrev STACK_KV_TREE_FULL : Nat := 0xE8031C
abbrev STACK_KV_UNREF_BAD : Nat := 0xE80320
abbrev STACK_KV_SPILLED_READS : Nat := 0xE80324
abbrev STACK_KV_PREFETCHES : Nat := 0xE80328
abbrev STACK_KV_PAGE_READS_LO : Nat := 0xE8032C
abbrev STACK_KV_PAGE_READS_HI : Nat := 0xE80330
abbrev STACK_KV_POLL : Nat := 0xE80340
abbrev STACK_KV_PREFETCH : Nat := 0xE80344
abbrev STACK_TREE_SEL : Nat := 0xE80400
abbrev STACK_TREE_INFO : Nat := 0xE80404
abbrev STACK_TREE_USE : Nat := 0xE80408
/-- First register of the table of R369 (10_gather_engines.md). -/
abbrev STACK_EMB_TABLES_LIVE : Nat := 0xE90000
abbrev STACK_EMB_RELOC_LIMIT : Nat := 0xE90004
abbrev STACK_EMB_RELOC_USED : Nat := 0xE90008
abbrev STACK_EMB_SKEW_WIN : Nat := 0xE9000C
abbrev STACK_EMB_SAMPLE : Nat := 0xE90010
abbrev STACK_EMB_CMD_OP : Nat := 0xE90100
abbrev STACK_EMB_CMD_ARG0 : Nat := 0xE90104
abbrev STACK_EMB_CMD_ARG1 : Nat := 0xE90108
abbrev STACK_EMB_CMD_ARG2 : Nat := 0xE9010C
abbrev STACK_EMB_CMD_RESULT : Nat := 0xE90110
abbrev STACK_EMB_CMD_MP : Nat := 0xE90114
abbrev STACK_EMB_TBL_SEL : Nat := 0xE90200
abbrev STACK_EMB_TBL_INFO : Nat := 0xE90204
abbrev STACK_EMB_TBL_ROWS_LO : Nat := 0xE90208
abbrev STACK_EMB_TBL_ROWS_HI : Nat := 0xE9020C
abbrev STACK_EMB_TBL_MP_LO : Nat := 0xE90210
abbrev STACK_EMB_TBL_MP_HI : Nat := 0xE90214
abbrev STACK_EMB_TBL_DROP_RANGE : Nat := 0xE90218
abbrev STACK_EMB_TBL_DROP_MISSING : Nat := 0xE9021C
abbrev STACK_EMB_TBL_MOVED : Nat := 0xE90220
abbrev STACK_EMB_TBL_RELOC : Nat := 0xE90224
abbrev STACK_EMB_SHARD_SEL : Nat := 0xE90300
abbrev STACK_EMB_SHARD_READS : Nat := 0xE90304
abbrev STACK_EMB_SHARD_WRITES : Nat := 0xE90308
abbrev STACK_EMB_HOT_SEL : Nat := 0xE90400
abbrev STACK_EMB_HOT_TABLE : Nat := 0xE90404
abbrev STACK_EMB_HOT_ROW_LO : Nat := 0xE90408
abbrev STACK_EMB_HOT_ROW_HI : Nat := 0xE9040C
abbrev STACK_EMB_HOT_COUNT : Nat := 0xE90410
abbrev STACK_EMB_OWN_SEL : Nat := 0xE90500
abbrev STACK_EMB_OWN_DROP_RANGE : Nat := 0xE90504
abbrev STACK_EMB_OWN_DROP_MISSING : Nat := 0xE90508
abbrev STACK_EMB_OWN_MOVED : Nat := 0xE9050C
abbrev STACK_GE_STATUS : Nat := 0xE91000
abbrev STACK_GE_OWNER : Nat := 0xE91004
abbrev STACK_GE_ROWS_LO : Nat := 0xE91008
abbrev STACK_GE_ROWS_HI : Nat := 0xE9100C
abbrev STACK_GE_WRITES : Nat := 0xE91010
abbrev STACK_GE_COALESCED : Nat := 0xE91014
abbrev STACK_GE_DROP_RANGE : Nat := 0xE91018
abbrev STACK_GE_DROP_MISSING : Nat := 0xE9101C
abbrev STACK_GE_MOVED : Nat := 0xE91020
abbrev STACK_GE_FAULT : Nat := 0xE91024
abbrev STACK_GE_CMD_ERR : Nat := 0xE91028
abbrev STACK_GE_WAIT_TO : Nat := 0xE9102C
/-- First register of the table of R407 (11_media.md). -/
abbrev MEDIA_STATE : Nat := 0x800000
abbrev MEDIA_MAP_MODE : Nat := 0x800004
abbrev MEDIA_RESERVE_PCT : Nat := 0x800008
abbrev MEDIA_WL_SPREAD : Nat := 0x80000C
abbrev MEDIA_JOURNAL_BYTES : Nat := 0x800010
abbrev MEDIA_JOURNAL_INTERVAL : Nat := 0x800014
abbrev MEDIA_GC_LOW : Nat := 0x800018
abbrev MEDIA_LOGICAL_MU_LO : Nat := 0x800020
abbrev MEDIA_LOGICAL_MU_HI : Nat := 0x800024
abbrev MEDIA_FREE_SB : Nat := 0x800028
abbrev MEDIA_ERASE_MIN : Nat := 0x80002C
abbrev MEDIA_ERASE_MAX : Nat := 0x800030
abbrev MEDIA_REC_LTC : Nat := 0x800040
abbrev MEDIA_REC_PAGES : Nat := 0x800044
abbrev MEDIA_REC_APPLIED : Nat := 0x800048
abbrev MEDIA_REC_TORN : Nat := 0x80004C
abbrev MEDIA_REC_LOST : Nat := 0x800050
abbrev MEDIA_REC_STRIPES : Nat := 0x800054
abbrev MEDIA_MAP_PD : Nat := 0x800058
abbrev MEDIA_CMD_OP : Nat := 0x800100
abbrev MEDIA_CMD_ARG0 : Nat := 0x800104
abbrev MEDIA_CMD_ARG1 : Nat := 0x800108
abbrev MEDIA_CMD_RESULT : Nat := 0x80010C
abbrev MEDIA_CH_SEL : Nat := 0x800200
abbrev MEDIA_CH_TSTATE : Nat := 0x800204
abbrev MEDIA_CH_READS_LO : Nat := 0x800208
abbrev MEDIA_CH_READS_HI : Nat := 0x80020C
abbrev MEDIA_CH_PROGRAMS : Nat := 0x800210
abbrev MEDIA_CH_ERASES : Nat := 0x800214
abbrev MEDIA_CH_RETRIES : Nat := 0x800218
abbrev MEDIA_CH_SOFT : Nat := 0x80021C
abbrev MEDIA_CH_UNCORR : Nat := 0x800220
abbrev MEDIA_CH_BAD_BLOCKS : Nat := 0x800224
abbrev MEDIA_READS_LO : Nat := 0x800300
abbrev MEDIA_READS_HI : Nat := 0x800304
abbrev MEDIA_WRITES_LO : Nat := 0x800308
abbrev MEDIA_WRITES_HI : Nat := 0x80030C
abbrev MEDIA_PARITY_RECON : Nat := 0x800310
abbrev MEDIA_PARITY_FAIL : Nat := 0x800314
abbrev MEDIA_REBUILD_PENDING : Nat := 0x800318
abbrev MEDIA_GC_MOVES : Nat := 0x80031C
abbrev MEDIA_WL_MOVES : Nat := 0x800320
abbrev MEDIA_UNMAPPED_READS : Nat := 0x800324
abbrev MEDIA_REQ_ERR : Nat := 0x800328
abbrev MEDIA_SIEVE_RECORDS_LO : Nat := 0x800330
abbrev MEDIA_SIEVE_RECORDS_HI : Nat := 0x800334
abbrev MEDIA_SIEVE_PASSED_LO : Nat := 0x800338
abbrev MEDIA_SIEVE_PASSED_HI : Nat := 0x80033C
abbrev MEDIA_SIEVE_DELETED : Nat := 0x800340
abbrev MEDIA_SIEVE_BAD_BLOCK : Nat := 0x800344
/-- First register of the table of R451 (12_skeldel_link.md). -/
abbrev LINK_INFO : Nat := 0xA00000
abbrev LINK_VER_RANGE : Nat := 0xA00004
abbrev LINK_FEAT_SUPP : Nat := 0xA00010
abbrev LINK_IDENT : Nat := 0xA00014
abbrev LINK_TON : Nat := 0xA00018
abbrev LINK_KA_INTERVAL : Nat := 0xA00020
abbrev LINK_KA_MISS : Nat := 0xA00024
abbrev LINK_HELLO_RETRY : Nat := 0xA00028
abbrev LINK_TRAIN_TO : Nat := 0xA0002C
abbrev LINK_REPLAY_TO : Nat := 0xA00030
abbrev LINK_GRACE : Nat := 0xA00034
abbrev LINK_BEAT : Nat := 0xA00038
abbrev LINK_DEALER_LOSS : Nat := 0xA0003C
abbrev LINK_SEAT_LOSS : Nat := 0xA00040
abbrev LINK_MAP_ACK_TO : Nat := 0xA00044
abbrev LINK_WM_INTERVAL : Nat := 0xA00048
abbrev LINK_REASM_TO : Nat := 0xA0004C
abbrev LINK_VC_CREDITS_LO : Nat := 0xA00050
abbrev LINK_VC_CREDITS_HI : Nat := 0xA00054
abbrev LINK_MAP_MP_LO : Nat := 0xA00100
abbrev LINK_MAP_MP_HI : Nat := 0xA00104
abbrev LINK_MAP_PENDING_LO : Nat := 0xA00108
abbrev LINK_MAP_PENDING_HI : Nat := 0xA0010C
abbrev LINK_MAP_INSTALL_LO : Nat := 0xA00110
abbrev LINK_MAP_INSTALL_HI : Nat := 0xA00114
abbrev LINK_ROLE : Nat := 0xA00118
abbrev LINK_NO_ROUTE : Nat := 0xA0011C
abbrev LINK_EVENT_LOST : Nat := 0xA00120
abbrev LINK_CMD_OP : Nat := 0xA00200
abbrev LINK_CMD_ARG0 : Nat := 0xA00204
abbrev LINK_CMD_ARG1 : Nat := 0xA00208
abbrev LINK_CMD_RESULT : Nat := 0xA0020C
abbrev LINK_L_STATE : Nat := 0xA10000
abbrev LINK_L_FEAT : Nat := 0xA10004
abbrev LINK_L_PARTNER : Nat := 0xA10008
abbrev LINK_L_SERIAL_LO : Nat := 0xA1000C
abbrev LINK_L_SERIAL_HI : Nat := 0xA10010
abbrev LINK_L_TX_FLITS_LO : Nat := 0xA10014
abbrev LINK_L_TX_FLITS_HI : Nat := 0xA10018
abbrev LINK_L_RX_FLITS_LO : Nat := 0xA1001C
abbrev LINK_L_RX_FLITS_HI : Nat := 0xA10020
abbrev LINK_L_FEC_CORR_LO : Nat := 0xA10024
abbrev LINK_L_FEC_CORR_HI : Nat := 0xA10028
abbrev LINK_L_FEC_UNCORR : Nat := 0xA1002C
abbrev LINK_L_CRC_ERR : Nat := 0xA10030
abbrev LINK_L_REPLAYS : Nat := 0xA10034
abbrev LINK_L_KA_LOSS : Nat := 0xA10038
abbrev LINK_L_DOWN_EVENTS : Nat := 0xA1003C
abbrev LINK_L_CREDIT_STALL : Nat := 0xA10040
abbrev LINK_L_LEN_DISCARD : Nat := 0xA10044
abbrev LINK_L_TYPE_DISCARD : Nat := 0xA10048
abbrev LINK_L_FWD_DOWN : Nat := 0xA1004C
abbrev LINK_L_REASM_DISCARD : Nat := 0xA10050
abbrev LINK_TON_SEAT_SEL : Nat := 0xA20000
abbrev LINK_TON_SEAT_STATE : Nat := 0xA20004
abbrev LINK_TON_SEAT_QSENT : Nat := 0xA20008
abbrev LINK_TON_SEAT_QMISSING : Nat := 0xA2000C
abbrev LINK_TON_SEAT_LAT : Nat := 0xA20010
abbrev LINK_TON_SEAT_MOVED : Nat := 0xA20014
abbrev LINK_TON_SEAT_WM : Nat := 0xA20040
abbrev LINK_TON_MISMATCH_LO : Nat := 0xA20100
abbrev LINK_TON_MISMATCH_HI : Nat := 0xA20104
abbrev LINK_TON_SILENT_LO : Nat := 0xA20108
abbrev LINK_TON_SILENT_HI : Nat := 0xA2010C
abbrev LINK_TON_MAP_CHANGES : Nat := 0xA20110
abbrev LINK_TON_NO_QUORUM : Nat := 0xA20114
abbrev LINK_TON_TAKEOVERS : Nat := 0xA20118
abbrev LINK_TON_RESENT : Nat := 0xA2011C
/-- First register of the table of R477 (13_scheduling_and_quotas.md). -/
abbrev SCHED_LTC_LO : Nat := 0xC00000
abbrev SCHED_LTC_HI : Nat := 0xC00004
abbrev SCHED_INFO : Nat := 0xC00008
abbrev SCHED_LINK_REFILL : Nat := 0xC0000C
abbrev SCHED_ADM_REFILL : Nat := 0xC00010
abbrev SCHED_TRUMP_LIMIT : Nat := 0xC00014
abbrev SCHED_CLIPS : Nat := 0xC00020
abbrev SCHED_GATE_TAKEOVERS : Nat := 0xC00024
abbrev SCHED_GATE_SUPERSEDED : Nat := 0xC00028
abbrev SCHED_CMD_ERR : Nat := 0xC0002C
abbrev SCHED_QUOTA_REFUSED : Nat := 0xC00030
abbrev SCHED_CMD_OP : Nat := 0xC00100
abbrev SCHED_CMD_ARG0 : Nat := 0xC00104
abbrev SCHED_CMD_ARG1 : Nat := 0xC00108
abbrev SCHED_CMD_ARG2 : Nat := 0xC0010C
abbrev SCHED_CMD_ARG3 : Nat := 0xC00110
abbrev SCHED_CMD_ARG4 : Nat := 0xC00114
abbrev SCHED_CMD_RESULT : Nat := 0xC00118
abbrev SCHED_PT_SEL : Nat := 0xC00200
abbrev SCHED_Q_CFG : Nat := 0xC00204
abbrev SCHED_Q_RATE : Nat := 0xC00208
abbrev SCHED_Q_LEVEL : Nat := 0xC0020C
abbrev SCHED_Q_DEFICIT : Nat := 0xC00210
abbrev SCHED_Q_DEPTH : Nat := 0xC00214
abbrev SCHED_Q_SENT_LO : Nat := 0xC00218
abbrev SCHED_Q_SENT_HI : Nat := 0xC0021C
abbrev SCHED_Q_TOKENS_LO : Nat := 0xC00220
abbrev SCHED_Q_TOKENS_HI : Nat := 0xC00224
abbrev SCHED_Q_GATE_WAIT : Nat := 0xC00228
abbrev SCHED_Q_RATE_WAIT : Nat := 0xC0022C
abbrev SCHED_PT_GATES : Nat := 0xC00230
abbrev SCHED_PT_START_LO : Nat := 0xC00234
abbrev SCHED_PT_START_HI : Nat := 0xC00238
abbrev SCHED_QUOTA_SEL : Nat := 0xC00300
abbrev SCHED_QUOTA_LIMIT_LO : Nat := 0xC00304
abbrev SCHED_QUOTA_LIMIT_HI : Nat := 0xC00308
abbrev SCHED_QUOTA_USE_LO : Nat := 0xC0030C
abbrev SCHED_QUOTA_USE_HI : Nat := 0xC00310
abbrev SCHED_QUOTA_DENIED : Nat := 0xC00314
/-- First register of the table of R505 (14_lending.md). -/
abbrev LEND_INFO : Nat := 0xD00000
abbrev LEND_LIVE : Nat := 0xD00004
abbrev LEND_HANDOFF_TO : Nat := 0xD00008
abbrev LEND_RECLAIM_DL : Nat := 0xD0000C
abbrev LEND_REPUSH_MAX : Nat := 0xD00010
abbrev LEND_PROBE : Nat := 0xD00014
abbrev LEND_SMALL : Nat := 0xD00018
abbrev LEND_FORMED : Nat := 0xD00020
abbrev LEND_RECLAIMS : Nat := 0xD00024
abbrev LEND_LOST : Nat := 0xD00028
abbrev LEND_BOUND_MISSED : Nat := 0xD0002C
abbrev LEND_CMD_ERR : Nat := 0xD00030
abbrev LEND_CMD_OP : Nat := 0xD00100
abbrev LEND_CMD_ARG0 : Nat := 0xD00104
abbrev LEND_CMD_ARG1 : Nat := 0xD00108
abbrev LEND_CMD_ARG2 : Nat := 0xD0010C
abbrev LEND_CMD_RESULT : Nat := 0xD00110
abbrev LEND_C_SEL : Nat := 0xD00200
abbrev LEND_C_STATE : Nat := 0xD00204
abbrev LEND_C_ME_MASK : Nat := 0xD00208
abbrev LEND_C_REASON : Nat := 0xD0020C
abbrev LEND_C_BEGUN_LO : Nat := 0xD00210
abbrev LEND_C_BEGUN_HI : Nat := 0xD00214
abbrev LEND_C_SEC_KEEPER_LO : Nat := 0xD00218
abbrev LEND_C_SEC_KEEPER_HI : Nat := 0xD0021C
abbrev LEND_C_SEC_LOCAL_LO : Nat := 0xD00220
abbrev LEND_C_SEC_LOCAL_HI : Nat := 0xD00224
abbrev LEND_C_OWN_SEQ_LO : Nat := 0xD00228
abbrev LEND_C_OWN_SEQ_HI : Nat := 0xD0022C
abbrev LEND_C_PUSH_BYTES_LO : Nat := 0xD00230
abbrev LEND_C_PUSH_BYTES_HI : Nat := 0xD00234
abbrev LEND_C_REPUSH : Nat := 0xD00238
abbrev LEND_C_GATE_STALL : Nat := 0xD0023C
abbrev LEND_C_DETOURS : Nat := 0xD00240
abbrev LEND_C_ACK_STALE : Nat := 0xD00244
abbrev LEND_C_RECLAIM_LTC : Nat := 0xD00248
abbrev LEND_K_SEL : Nat := 0xD00300
abbrev LEND_K_STATE : Nat := 0xD00304
abbrev LEND_K_SECURED_LO : Nat := 0xD00308
abbrev LEND_K_SECURED_HI : Nat := 0xD0030C
abbrev LEND_K_DISCARDS : Nat := 0xD00310
/-- First register of the table of R535 (15_faults_and_drills.md). -/
abbrev FLT_STATUS : Nat := 0x40000
abbrev FLT_IRQ_STATUS : Nat := 0x40004
abbrev FLT_IRQ_MASK : Nat := 0x40008
abbrev FLT_LOG_NEXT_LO : Nat := 0x40010
abbrev FLT_LOG_NEXT_HI : Nat := 0x40014
abbrev FLT_LOG_OLDEST_LO : Nat := 0x40018
abbrev FLT_LOG_OLDEST_HI : Nat := 0x4001C
abbrev FLT_LOG_LOST : Nat := 0x40020
abbrev FLT_LOG_READ : Nat := 0x40024
abbrev FLT_LOG_SEL : Nat := 0x40040
abbrev FLT_LOG_REC : Nat := 0x40044
abbrev FLT_RET_SEL : Nat := 0x40100
abbrev FLT_RET_MAP : Nat := 0x40104
abbrev FLT_RET_COUNT : Nat := 0x40108
abbrev FLT_SPARE_BANKS : Nat := 0x4010C
abbrev FLT_CNT_SEL : Nat := 0x40180
abbrev FLT_CNT_VALUE : Nat := 0x40184
abbrev FLT_CLS_THRESH : Nat := 0x40200
abbrev FLT_CLS_WINDOW_LO : Nat := 0x40204
abbrev FLT_CLS_WINDOW_HI : Nat := 0x40208
abbrev FLT_CLS_CROSSED : Nat := 0x4020C
abbrev FLT_DRILL_STATE : Nat := 0x40400
abbrev FLT_DRILL_PASS : Nat := 0x40404
abbrev FLT_DRILL_LATE : Nat := 0x40408
abbrev FLT_DRILL_FAIL : Nat := 0x4040C
abbrev FLT_DRILL_SKIPPED : Nat := 0x40410
abbrev FLT_DRILL_PREEMPTED : Nat := 0x40414
abbrev FLT_DRILL_PT_SEL : Nat := 0x40420
abbrev FLT_DRILL_PT_LAST : Nat := 0x40424
abbrev FLT_DRILL_PT_RUNS : Nat := 0x40428
abbrev FLT_CMD_OP : Nat := 0x40800
abbrev FLT_CMD_ARG0 : Nat := 0x40804
abbrev FLT_CMD_ARG1 : Nat := 0x40808
abbrev FLT_CMD_RESULT : Nat := 0x4080C
/-- First register of the table of R602 (17_host_interface.md). -/
abbrev NODE_MAGIC : Nat := 0
abbrev NODE_VERSION : Nat := 4
abbrev NODE_SERIAL_LO : Nat := 8
abbrev NODE_SERIAL_HI : Nat := 0xC
abbrev NODE_STATUS : Nat := 0x10
abbrev NODE_PHASE_LTC_LO : Nat := 0x14
abbrev NODE_PHASE_LTC_HI : Nat := 0x18
abbrev NODE_LTC_LO : Nat := 0x20
abbrev NODE_LTC_HI : Nat := 0x24
abbrev NODE_RESTART : Nat := 0x30
abbrev NODE_IRQ_STATUS : Nat := 0x34
abbrev NODE_IRQ_MASK : Nat := 0x38
abbrev NODE_DIE_SEL : Nat := 0x200
abbrev NODE_DIE_REC : Nat := 0x204
abbrev NODE_DIE_CHECK : Nat := 0x224
abbrev MSIX_ADDR_LO : Nat := 0x8000
abbrev MSIX_ADDR_HI : Nat := 0x8004
abbrev MSIX_DATA : Nat := 0x8008
abbrev MSIX_CTRL : Nat := 0x800C
/-- First register of the table of R604 (17_host_interface.md). -/
abbrev MBX_H_RX : Nat := 0x10000
abbrev MBX_H_POP : Nat := 0x10040
abbrev MBX_H_COUNT : Nat := 0x10044
abbrev MBX_H_DB : Nat := 0x10048
abbrev MBX_H_DB_MASK : Nat := 0x1004C
abbrev MBX_H_IRQ_STATUS : Nat := 0x10050
abbrev MBX_H_IRQ_MASK : Nat := 0x10054
abbrev MBX_H_TARGET : Nat := 0x10058
abbrev MBX_H_TX_STATUS : Nat := 0x1005C
abbrev MBX_H_RING : Nat := 0x10060
abbrev MBX_H_REJECTS : Nat := 0x10064
abbrev MBX_H_ABORT_INFO : Nat := 0x10068
abbrev MBX_H_CTL : Nat := 0x1006C
abbrev MBX_H_TX : Nat := 0x10080
abbrev MBX_HOST_SERVICE : Nat := 0x11000
abbrev MBX_CORE_LIVE : Nat := 0x11004
/-- First register of the table of R606 (17_host_interface.md). -/
abbrev CFG_ACCEPTED : Nat := 0x20000
abbrev CFG_FW_VER_LO : Nat := 0x20004
abbrev CFG_FW_VER_HI : Nat := 0x20008
abbrev CFG_SEQ_A_LO : Nat := 0x20010
abbrev CFG_SEQ_A_HI : Nat := 0x20014
abbrev CFG_SEQ_B_LO : Nat := 0x20018
abbrev CFG_SEQ_B_HI : Nat := 0x2001C
abbrev CFG_STAGE : Nat := 0x20020
abbrev CFG_MP_LO : Nat := 0x20030
abbrev CFG_MP_HI : Nat := 0x20034
abbrev CFG_WAYMARK : Nat := 0x20040
abbrev CFG_RPT_HDR : Nat := 0x20100
abbrev CFG_RPT_PAGE : Nat := 0x20200
/-- First register of the table of R626 (18_physical.md). -/
abbrev CLK_STATUS : Nat := 0x30000
abbrev CLK_IRQ_STATUS : Nat := 0x30004
abbrev CLK_IRQ_MASK : Nat := 0x30008
abbrev CLK_THERM_THROTTLE : Nat := 0x30010
abbrev CLK_THERM_HYST : Nat := 0x30014
abbrev CLK_POWER_LIMIT : Nat := 0x30018
abbrev CLK_AX_VID : Nat := 0x30020
abbrev CLK_POWER : Nat := 0x30024
abbrev CLK_AX_CURRENT : Nat := 0x30028
abbrev CLK_DUTY : Nat := 0x3002C
abbrev CLK_DUTY_HI : Nat := 0x30030
abbrev CLK_TS_SEL : Nat := 0x30040
abbrev CLK_TS_VALUE : Nat := 0x30044
abbrev CLK_TS_MAX : Nat := 0x30048
abbrev CLK_HOTTEST : Nat := 0x30050
abbrev CLK_THROTTLE_SAMPLES : Nat := 0x30060
abbrev CLK_POWER_SAMPLES : Nat := 0x30064
abbrev CLK_FLOW_LOSS : Nat := 0x30068
abbrev CLK_TS_INVALID : Nat := 0x3006C
abbrev CLK_RAIL_FAULTS : Nat := 0x30070

end Sys2Proof.Machine.Reg
end

