-- ==== Sys2Proof/Machine/RegMap.lean ====
section
/-! DEFINITION. The register map of BAR0 (R608): for each block its registers, with offset, repetition, access code, reset value
and, for a writable register, the bits a write may change (R10). Reset values that a table states as "Table 15.3 default" and the
MSI-X table are set in `resetOf`. -/

namespace Sys2Proof.Machine

/-- Access codes (Table 0.4); `fw` is a register that only firmware writes. -/
inductive Acc where
  | ro | rw | w1c | wo | rc | fw
deriving DecidableEq, Repr

/-- The blocks of BAR0 (Table 17.10). -/
inductive Block where
  | node | mbx | cfg | clk | flt | kitty | qry | idx | cd | media | link | sched | lend | stack
deriving DecidableEq, Repr

/-- One row of a register table: offset of the first instance, its repetitions (stride, count), access code, reset value, writable bits. -/
structure RegDef where
  base : Nat
  dims : List (Nat × Nat)
  acc : Acc
  reset : Nat
  mask : Nat
deriving DecidableEq, Repr

/-- Registers of the NODE block. -/
def regsNode : List RegDef :=
  [⟨Reg.NODE_CAP_PART, [], .ro, 0x3C00401, 0⟩,
   ⟨Reg.NODE_CAP_COMPUTE, [], .ro, 0x8208010, 0⟩,
   ⟨Reg.NODE_CAP_UNITS, [], .ro, 0x20204040, 0⟩,
   ⟨Reg.NODE_CAP_STORE, [], .ro, 0x18090014, 0⟩,
   ⟨Reg.NODE_CAP_MEMORY, [], .ro, 0x400500, 0⟩,
   ⟨Reg.NODE_CAP_IO, [], .ro, 0xC601080, 0⟩,
   ⟨Reg.NODE_CAP_CONTROL, [], .ro, 0x4200400, 0⟩,
   ⟨Reg.NODE_CAP_FLASH, [], .ro, 0, 0⟩,
   ⟨Reg.NODE_MAGIC, [], .ro, 0x564F4E44, 0⟩,
   ⟨Reg.NODE_VERSION, [], .ro, 0x100, 0⟩,
   ⟨Reg.NODE_SERIAL_LO, [], .ro, 0, 0⟩,
   ⟨Reg.NODE_SERIAL_HI, [], .ro, 0, 0⟩,
   ⟨Reg.NODE_STATUS, [], .ro, 0, 0⟩,
   ⟨Reg.NODE_PHASE_LTC_LO, [], .ro, 0, 0⟩,
   ⟨Reg.NODE_PHASE_LTC_HI, [], .ro, 0, 0⟩,
   ⟨Reg.NODE_LTC_LO, [], .ro, 0, 0⟩,
   ⟨Reg.NODE_LTC_HI, [], .ro, 0, 0⟩,
   ⟨Reg.NODE_RESTART, [], .wo, 0, 0xFFFFFFFF⟩,
   ⟨Reg.NODE_IRQ_STATUS, [], .w1c, 0, 0xF⟩,
   ⟨Reg.NODE_IRQ_MASK, [], .rw, 0xF, 0xF⟩,
   ⟨Reg.NODE_DIE_SEL, [], .rw, 0, 0x3F⟩,
   ⟨Reg.NODE_DIE_REC, [(4, 8)], .ro, 0, 0⟩,
   ⟨Reg.NODE_DIE_CHECK, [], .ro, 0, 0⟩,
   ⟨Reg.MSIX_ADDR_LO, [(0x10, 64)], .rw, 0, 0xFFFFFFFF⟩,
   ⟨Reg.MSIX_ADDR_HI, [(0x10, 64)], .rw, 0, 0xFFFFFFFF⟩,
   ⟨Reg.MSIX_DATA, [(0x10, 64)], .rw, 0, 0xFFFFFFFF⟩,
   ⟨Reg.MSIX_CTRL, [(0x10, 64)], .rw, 1, 1⟩]

/-- Registers of the MBX block. -/
def regsMbx : List RegDef :=
  [⟨Reg.MBX_H_RX, [(0x100, 16), (4, 16)], .ro, 0, 0⟩,
   ⟨Reg.MBX_H_POP, [(0x100, 16)], .wo, 0, 1⟩,
   ⟨Reg.MBX_H_COUNT, [(0x100, 16)], .ro, 0, 0⟩,
   ⟨Reg.MBX_H_DB, [(0x100, 16)], .w1c, 0, 0xFFFFFFFF⟩,
   ⟨Reg.MBX_H_DB_MASK, [(0x100, 16)], .rw, 0xFFFFFFFF, 0xFFFFFFFF⟩,
   ⟨Reg.MBX_H_IRQ_STATUS, [(0x100, 16)], .w1c, 0, 0xF⟩,
   ⟨Reg.MBX_H_IRQ_MASK, [(0x100, 16)], .rw, 0xF, 0xF⟩,
   ⟨Reg.MBX_H_TARGET, [(0x100, 16)], .rw, 1, 0x1F⟩,
   ⟨Reg.MBX_H_TX_STATUS, [(0x100, 16)], .ro, 0, 0⟩,
   ⟨Reg.MBX_H_RING, [(0x100, 16)], .wo, 0, 0xFFFFFFFF⟩,
   ⟨Reg.MBX_H_REJECTS, [(0x100, 16)], .rc, 0, 0⟩,
   ⟨Reg.MBX_H_ABORT_INFO, [(0x100, 16)], .rc, 0, 0⟩,
   ⟨Reg.MBX_H_CTL, [(0x100, 16)], .wo, 0, 1⟩,
   ⟨Reg.MBX_H_TX, [(0x100, 16), (4, 16)], .wo, 0, 0xFFFFFFFF⟩,
   ⟨Reg.MBX_HOST_SERVICE, [], .ro, 0, 0⟩,
   ⟨Reg.MBX_CORE_LIVE, [], .ro, 0, 0⟩]

/-- Registers of the CFG block. -/
def regsCfg : List RegDef :=
  [⟨Reg.CFG_ACCEPTED, [], .ro, 0xFF, 0⟩,
   ⟨Reg.CFG_FW_VER_LO, [], .ro, 0, 0⟩,
   ⟨Reg.CFG_FW_VER_HI, [], .ro, 0, 0⟩,
   ⟨Reg.CFG_SEQ_A_LO, [], .ro, 0, 0⟩,
   ⟨Reg.CFG_SEQ_A_HI, [], .ro, 0, 0⟩,
   ⟨Reg.CFG_SEQ_B_LO, [], .ro, 0, 0⟩,
   ⟨Reg.CFG_SEQ_B_HI, [], .ro, 0, 0⟩,
   ⟨Reg.CFG_STAGE, [], .ro, 0, 0⟩,
   ⟨Reg.CFG_MP_LO, [], .ro, 0, 0⟩,
   ⟨Reg.CFG_MP_HI, [], .ro, 0, 0⟩,
   ⟨Reg.CFG_WAYMARK, [(4, 16)], .ro, 0, 0⟩,
   ⟨Reg.CFG_RPT_HDR, [(4, 16)], .ro, 0, 0⟩,
   ⟨Reg.CFG_RPT_PAGE, [], .rw, 0, 3⟩]

/-- Registers of the CLK block. -/
def regsClk : List RegDef :=
  [⟨Reg.CLK_STATUS, [], .ro, 0, 0⟩,
   ⟨Reg.CLK_IRQ_STATUS, [], .w1c, 0, 0x3F⟩,
   ⟨Reg.CLK_IRQ_MASK, [], .rw, 0x3F, 0x3F⟩,
   ⟨Reg.CLK_THERM_THROTTLE, [], .ro, 0x5F0, 0⟩,
   ⟨Reg.CLK_THERM_HYST, [], .ro, 0x30, 0⟩,
   ⟨Reg.CLK_POWER_LIMIT, [], .ro, 0x1068, 0⟩,
   ⟨Reg.CLK_AX_VID, [], .ro, 0x2EE, 0⟩,
   ⟨Reg.CLK_POWER, [], .ro, 0, 0⟩,
   ⟨Reg.CLK_AX_CURRENT, [], .ro, 0, 0⟩,
   ⟨Reg.CLK_DUTY, [], .ro, 0x10101010, 0⟩,
   ⟨Reg.CLK_DUTY_HI, [], .ro, 0x10101010, 0⟩,
   ⟨Reg.CLK_TS_SEL, [], .rw, 0, 0xFF0F⟩,
   ⟨Reg.CLK_TS_VALUE, [], .ro, 0, 0⟩,
   ⟨Reg.CLK_TS_MAX, [], .ro, 0, 0⟩,
   ⟨Reg.CLK_HOTTEST, [], .ro, 0, 0⟩,
   ⟨Reg.CLK_THROTTLE_SAMPLES, [], .ro, 0, 0⟩,
   ⟨Reg.CLK_POWER_SAMPLES, [], .ro, 0, 0⟩,
   ⟨Reg.CLK_FLOW_LOSS, [], .ro, 0, 0⟩,
   ⟨Reg.CLK_TS_INVALID, [], .ro, 0, 0⟩,
   ⟨Reg.CLK_RAIL_FAULTS, [], .ro, 0, 0⟩]

/-- Registers of the FLT block. -/
def regsFlt : List RegDef :=
  [⟨Reg.FLT_STATUS, [], .ro, 0, 0⟩,
   ⟨Reg.FLT_IRQ_STATUS, [], .w1c, 0, 0x1F⟩,
   ⟨Reg.FLT_IRQ_MASK, [], .rw, 0x1F, 0x1F⟩,
   ⟨Reg.FLT_LOG_NEXT_LO, [], .ro, 1, 0⟩,
   ⟨Reg.FLT_LOG_NEXT_HI, [], .ro, 0, 0⟩,
   ⟨Reg.FLT_LOG_OLDEST_LO, [], .ro, 0, 0⟩,
   ⟨Reg.FLT_LOG_OLDEST_HI, [], .ro, 0, 0⟩,
   ⟨Reg.FLT_LOG_LOST, [], .ro, 0, 0⟩,
   ⟨Reg.FLT_LOG_READ, [], .rw, 0, 0xFFFFFFFF⟩,
   ⟨Reg.FLT_LOG_SEL, [], .rw, 0, 0xFFFFFFFF⟩,
   ⟨Reg.FLT_LOG_REC, [(4, 8)], .ro, 0, 0⟩,
   ⟨Reg.FLT_RET_SEL, [], .rw, 0, 0x1F007F⟩,
   ⟨Reg.FLT_RET_MAP, [], .ro, 0, 0⟩,
   ⟨Reg.FLT_RET_COUNT, [], .ro, 0, 0⟩,
   ⟨Reg.FLT_SPARE_BANKS, [], .ro, 0x30, 0⟩,
   ⟨Reg.FLT_CNT_SEL, [], .rw, 0, 0x1FFFFF⟩,
   ⟨Reg.FLT_CNT_VALUE, [], .ro, 0, 0⟩,
   ⟨Reg.FLT_CLS_THRESH, [(0x10, 17)], .ro, 0, 0⟩,
   ⟨Reg.FLT_CLS_WINDOW_LO, [(0x10, 17)], .ro, 0, 0⟩,
   ⟨Reg.FLT_CLS_WINDOW_HI, [(0x10, 17)], .ro, 0, 0⟩,
   ⟨Reg.FLT_CLS_CROSSED, [(0x10, 17)], .ro, 0, 0⟩,
   ⟨Reg.FLT_DRILL_STATE, [], .ro, 0, 0⟩,
   ⟨Reg.FLT_DRILL_PASS, [], .ro, 0, 0⟩,
   ⟨Reg.FLT_DRILL_LATE, [], .ro, 0, 0⟩,
   ⟨Reg.FLT_DRILL_FAIL, [], .ro, 0, 0⟩,
   ⟨Reg.FLT_DRILL_SKIPPED, [], .ro, 0, 0⟩,
   ⟨Reg.FLT_DRILL_PREEMPTED, [], .ro, 0, 0⟩,
   ⟨Reg.FLT_DRILL_PT_SEL, [], .rw, 0, 0xFF⟩,
   ⟨Reg.FLT_DRILL_PT_LAST, [], .ro, 0, 0⟩,
   ⟨Reg.FLT_DRILL_PT_RUNS, [], .ro, 0, 0⟩,
   ⟨Reg.FLT_CMD_OP, [(0x20, 4)], .fw, 0, 0x800000FF⟩,
   ⟨Reg.FLT_CMD_ARG0, [(0x20, 4)], .fw, 0, 0xFFFFFFFF⟩,
   ⟨Reg.FLT_CMD_ARG1, [(0x20, 4)], .fw, 0, 0xFFFFFFFF⟩,
   ⟨Reg.FLT_CMD_RESULT, [(0x20, 4)], .ro, 0, 0⟩]

/-- Registers of the KITTY block. -/
def regsKitty : List RegDef :=
  [⟨Reg.KITTY_XP_SEL, [], .rw, 0, 0x3F3F⟩,
   ⟨Reg.KITTY_XP_CTL, [], .wo, 0, 7⟩,
   ⟨Reg.KITTY_XP_STATUS, [], .ro, 0, 0⟩,
   ⟨Reg.KITTY_XP_TX_FLITS_LO, [], .ro, 0, 0⟩,
   ⟨Reg.KITTY_XP_TX_FLITS_HI, [], .ro, 0, 0⟩,
   ⟨Reg.KITTY_XP_RX_FLITS_LO, [], .ro, 0, 0⟩,
   ⟨Reg.KITTY_XP_RX_FLITS_HI, [], .ro, 0, 0⟩,
   ⟨Reg.KITTY_XP_CRC_ERR_LO, [], .ro, 0, 0⟩,
   ⟨Reg.KITTY_XP_CRC_ERR_HI, [], .ro, 0, 0⟩,
   ⟨Reg.KITTY_XP_RETRY_LO, [], .ro, 0, 0⟩,
   ⟨Reg.KITTY_XP_RETRY_HI, [], .ro, 0, 0⟩,
   ⟨Reg.KITTY_XP_STALL_LO, [], .ro, 0, 0⟩,
   ⟨Reg.KITTY_XP_STALL_HI, [], .ro, 0, 0⟩,
   ⟨Reg.KITTY_XP_E2E_TO_LO, [], .ro, 0, 0⟩,
   ⟨Reg.KITTY_XP_E2E_TO_HI, [], .ro, 0, 0⟩,
   ⟨Reg.KITTY_XP_ERR_DIE_LO, [], .w1c, 0, 0xFFFFFFFF⟩,
   ⟨Reg.KITTY_XP_ERR_DIE_HI, [], .w1c, 0, 0xFFFFFFFF⟩,
   ⟨Reg.KITTY_XP_TO_LIMIT, [], .ro, 0x7D0, 0⟩,
   ⟨Reg.KITTY_FREE_UNITS, [], .ro, 0x900, 0⟩,
   ⟨Reg.KITTY_SCRUB_PENDING, [], .ro, 0, 0⟩,
   ⟨Reg.KITTY_ARB_CAPS, [], .ro, 0x2808, 0⟩,
   ⟨Reg.KITTY_ARB_WEIGHT_LO, [], .ro, 0x40202030, 0⟩,
   ⟨Reg.KITTY_ARB_WEIGHT_HI, [], .ro, 0x1030, 0⟩,
   ⟨Reg.KITTY_EVICT_RATE, [], .ro, 0x40, 0⟩,
   ⟨Reg.KITTY_RCMD_OP, [(0x20, 4)], .fw, 0, 0x800000FF⟩,
   ⟨Reg.KITTY_RCMD_ARG0, [(0x20, 4)], .fw, 0, 0x3FFFFFF⟩,
   ⟨Reg.KITTY_RCMD_ARG1, [(0x20, 4)], .fw, 0, 0xC000FFFF⟩,
   ⟨Reg.KITTY_RCMD_ARG2, [(0x20, 4)], .fw, 0, 0xFFFFFFFF⟩,
   ⟨Reg.KITTY_RCMD_RESULT, [(0x20, 4)], .ro, 0, 0⟩,
   ⟨Reg.KITTY_RGN_SEL, [], .rw, 0, 0xFFF⟩,
   ⟨Reg.KITTY_RGN_INFO0, [], .ro, 0, 0⟩,
   ⟨Reg.KITTY_RGN_INFO1, [], .ro, 0, 0⟩,
   ⟨Reg.KITTY_RGN_INFO2, [], .ro, 0, 0⟩,
   ⟨Reg.KITTY_QUOTA_SEL, [], .rw, 0, 0xC000FFFF⟩,
   ⟨Reg.KITTY_QUOTA_LIMIT, [], .ro, 0, 0⟩,
   ⟨Reg.KITTY_QUOTA_USE, [], .ro, 0, 0⟩,
   ⟨Reg.KITTY_CLS_SEL, [], .rw, 0, 0x1F07⟩,
   ⟨Reg.KITTY_CLS_GRANT_LO, [], .ro, 0, 0⟩,
   ⟨Reg.KITTY_CLS_GRANT_HI, [], .ro, 0, 0⟩,
   ⟨Reg.KITTY_CLS_WAIT_LO, [], .ro, 0, 0⟩,
   ⟨Reg.KITTY_CLS_WAIT_HI, [], .ro, 0, 0⟩,
   ⟨Reg.KITTY_ACC_NOT_OWNER, [], .ro, 0, 0⟩,
   ⟨Reg.KITTY_ACC_DENIED, [], .ro, 0, 0⟩,
   ⟨Reg.KITTY_ACC_RANGE, [], .ro, 0, 0⟩,
   ⟨Reg.KITTY_SPILL_PAGES, [], .ro, 0, 0⟩,
   ⟨Reg.KITTY_RECALL_PAGES, [], .ro, 0, 0⟩,
   ⟨Reg.KITTY_EVICT_PAGES, [], .ro, 0, 0⟩,
   ⟨Reg.KITTY_EVICT_STUCK, [], .ro, 0, 0⟩,
   ⟨Reg.KITTY_CODEC_ERR, [], .ro, 0, 0⟩]

/-- Registers of the QRY block. -/
def regsQry : List RegDef :=
  [⟨Reg.QRY_ACCEPTED_LO, [], .ro, 0, 0⟩,
   ⟨Reg.QRY_ACCEPTED_HI, [], .ro, 0, 0⟩,
   ⟨Reg.QRY_OUTSTANDING, [], .ro, 0, 0⟩,
   ⟨Reg.QRY_OUTSTANDING_LIMIT, [], .ro, 0x4000, 0⟩,
   ⟨Reg.QRY_HAND_POOL, [], .ro, 0x1000, 0⟩,
   ⟨Reg.QRY_HANDS_FREE, [], .ro, 0x1000, 0⟩,
   ⟨Reg.QRY_PROBE_CFG, [], .ro, 0x640040, 0⟩,
   ⟨Reg.QRY_TRICK_MIN_AGE, [], .ro, 0x32, 0⟩,
   ⟨Reg.QRY_TRICK_DL, [(4, 8)], .ro, 0xC8, 0⟩,
   ⟨Reg.QRY_REJECT, [(4, 14)], .ro, 0, 0⟩,
   ⟨Reg.QRY_DONE, [(4, 14)], .ro, 0, 0⟩,
   ⟨Reg.QRY_SCAN_PAIRS_LO, [], .ro, 0, 0⟩,
   ⟨Reg.QRY_SCAN_PAIRS_HI, [], .ro, 0, 0⟩,
   ⟨Reg.QRY_SCAN_DIST_LO, [], .ro, 0, 0⟩,
   ⟨Reg.QRY_SCAN_DIST_HI, [], .ro, 0, 0⟩,
   ⟨Reg.QRY_FILTER_REJECT_LO, [], .ro, 0, 0⟩,
   ⟨Reg.QRY_FILTER_REJECT_HI, [], .ro, 0, 0⟩,
   ⟨Reg.QRY_TOMB_HIDDEN, [], .ro, 0, 0⟩,
   ⟨Reg.QRY_PROBE_NAN, [], .ro, 0, 0⟩,
   ⟨Reg.QRY_WIDEN_STAGES, [], .ro, 0, 0⟩,
   ⟨Reg.QRY_WIDEN_SHORT, [], .ro, 0, 0⟩,
   ⟨Reg.QRY_EXACT, [], .ro, 0, 0⟩,
   ⟨Reg.QRY_RR_STACK, [], .ro, 0, 0⟩,
   ⟨Reg.QRY_RR_FLASH, [], .ro, 0, 0⟩,
   ⟨Reg.QRY_RR_NOVEC, [], .ro, 0, 0⟩,
   ⟨Reg.QRY_RR_FAULT, [], .ro, 0, 0⟩,
   ⟨Reg.QRY_TRICK_RELAUNCH, [], .ro, 0, 0⟩,
   ⟨Reg.QRY_TF_SEL, [], .rw, 0, 3⟩,
   ⟨Reg.QRY_TF_OPEN, [], .ro, 0, 0⟩,
   ⟨Reg.QRY_TF_LQ, [], .ro, 0, 0⟩,
   ⟨Reg.QRY_TF_LQ_FULL, [], .ro, 0, 0⟩,
   ⟨Reg.QRY_TF_L_FULL, [], .ro, 0, 0⟩,
   ⟨Reg.QRY_TF_L_DEADLINE, [], .ro, 0, 0⟩,
   ⟨Reg.QRY_TF_L_IDLE, [], .ro, 0, 0⟩,
   ⟨Reg.QRY_TF_L_EVICT, [], .ro, 0, 0⟩,
   ⟨Reg.QRY_TF_MEMBERS_LO, [], .ro, 0, 0⟩,
   ⟨Reg.QRY_TF_MEMBERS_HI, [], .ro, 0, 0⟩,
   ⟨Reg.QRY_TNT_SEL, [], .rw, 0, 0xFFF⟩,
   ⟨Reg.QRY_TNT_CFG, [], .ro, 0, 0⟩,
   ⟨Reg.QRY_TNT_DEADLINE, [], .ro, 0, 0⟩,
   ⟨Reg.QRY_TNT_USE, [], .ro, 0, 0⟩,
   ⟨Reg.QRY_TNT_LIMIT, [], .ro, 0, 0⟩,
   ⟨Reg.QRY_SEL_NAN, [], .ro, 0, 0⟩,
   ⟨Reg.QRY_SEL_LATE, [], .ro, 0, 0⟩,
   ⟨Reg.QRY_SEL_DUP, [], .ro, 0, 0⟩,
   ⟨Reg.QRY_SEL_TIE, [], .ro, 0, 0⟩,
   ⟨Reg.QRY_SEL_FLUSH_LO, [], .ro, 0, 0⟩,
   ⟨Reg.QRY_SEL_FLUSH_HI, [], .ro, 0, 0⟩,
   ⟨Reg.QRY_MRG_DONE, [], .ro, 0, 0⟩,
   ⟨Reg.QRY_MRG_DUP, [], .ro, 0, 0⟩,
   ⟨Reg.QRY_MRG_MISSING, [], .ro, 0, 0⟩,
   ⟨Reg.QRY_MRG_LATE, [], .ro, 0, 0⟩,
   ⟨Reg.QRY_MRG_MARGIN, [], .ro, 0x4E20, 0⟩]

/-- Registers of the IDX block, part 1. -/
def regsIdxA : List RegDef :=
  [⟨Reg.IDX_TABLES_LIVE, [], .ro, 0, 0⟩,
   ⟨Reg.IDX_TABLE_LIMIT, [], .ro, 0x400, 0⟩,
   ⟨Reg.IDX_KEYS_LO, [], .ro, 0, 0⟩,
   ⟨Reg.IDX_KEYS_HI, [], .ro, 0, 0⟩,
   ⟨Reg.IDX_KEY_LIMIT_LO, [], .ro, 0, 0⟩,
   ⟨Reg.IDX_KEY_LIMIT_HI, [], .ro, 0x10, 0⟩,
   ⟨Reg.IDX_IMAGE_VERSION, [], .ro, 0x101, 0⟩,
   ⟨Reg.IDX_CMD_OP, [(0x20, 4)], .fw, 0, 0x800000FF⟩,
   ⟨Reg.IDX_CMD_ARG0, [(0x20, 4)], .fw, 0, 0xF00003FF⟩,
   ⟨Reg.IDX_CMD_ARG1, [(0x20, 4)], .fw, 0, 0xFFFFFFFF⟩,
   ⟨Reg.IDX_CMD_ARG2, [(0x20, 4)], .fw, 0, 0xFFFFFFFF⟩,
   ⟨Reg.IDX_CMD_ARG3, [(0x20, 4)], .fw, 0, 0xFF0000FF⟩,
   ⟨Reg.IDX_CMD_ARG4, [(0x20, 4)], .fw, 0, 0xFFFFFFFF⟩,
   ⟨Reg.IDX_CMD_RESULT, [(0x20, 4)], .ro, 0, 0⟩,
   ⟨Reg.IDX_TBL_SEL, [], .rw, 0, 0x3FF⟩,
   ⟨Reg.IDX_TBL_INFO0, [], .ro, 0, 0⟩,
   ⟨Reg.IDX_TBL_INFO1, [], .ro, 0, 0⟩,
   ⟨Reg.IDX_TBL_LISTS, [], .ro, 0, 0⟩,
   ⟨Reg.IDX_TBL_MP_LO, [], .ro, 0, 0⟩,
   ⟨Reg.IDX_TBL_MP_HI, [], .ro, 0, 0⟩,
   ⟨Reg.IDX_TBL_KEYS_LO, [], .ro, 0, 0⟩,
   ⟨Reg.IDX_TBL_KEYS_HI, [], .ro, 0, 0⟩,
   ⟨Reg.IDX_TBL_ROWS, [], .ro, 0, 0⟩,
   ⟨Reg.IDX_TBL_PINS, [], .ro, 0, 0⟩,
   ⟨Reg.IDX_TBL_OLDEST_LO, [], .ro, 0, 0⟩,
   ⟨Reg.IDX_TBL_OLDEST_HI, [], .ro, 0, 0⟩,
   ⟨Reg.IDX_LST_SEL_TABLE, [], .rw, 0, 0x3FF⟩,
   ⟨Reg.IDX_LST_SEL_LIST, [], .rw, 0, 0xFFFFFF⟩,
   ⟨Reg.IDX_LST_STATE, [], .ro, 0, 0⟩,
   ⟨Reg.IDX_LST_ENTRIES, [], .ro, 0, 0⟩,
   ⟨Reg.IDX_LST_WAYSIDE, [], .ro, 0, 0⟩,
   ⟨Reg.IDX_LST_TOMBS, [], .ro, 0, 0⟩,
   ⟨Reg.IDX_LST_MP_LO, [], .ro, 0, 0⟩,
   ⟨Reg.IDX_LST_MP_HI, [], .ro, 0, 0⟩,
   ⟨Reg.IDX_LST_IMAGE_MP_LO, [], .ro, 0, 0⟩,
   ⟨Reg.IDX_LST_IMAGE_MP_HI, [], .ro, 0, 0⟩,
   ⟨Reg.IDX_DUP_KEYS, [], .ro, 0, 0⟩,
   ⟨Reg.IDX_IMAGE_CRC_ERR, [], .ro, 0, 0⟩,
   ⟨Reg.IDX_EMPTY_CENTROIDS, [], .ro, 0, 0⟩,
   ⟨Reg.IDX_ROW_RANGE, [], .ro, 0, 0⟩,
   ⟨Reg.IDX_TS_CONSULT, [], .ro, 0, 0⟩,
   ⟨Reg.IDX_UPD_OPS_LO, [], .ro, 0, 0⟩,
   ⟨Reg.IDX_UPD_OPS_HI, [], .ro, 0, 0⟩,
   ⟨Reg.IDX_UPD_GROUPS_LO, [], .ro, 0, 0⟩,
   ⟨Reg.IDX_UPD_GROUPS_HI, [], .ro, 0, 0⟩,
   ⟨Reg.IDX_UPD_REPLACED, [], .ro, 0, 0⟩,
   ⟨Reg.IDX_UPD_NOT_FOUND, [], .ro, 0, 0⟩,
   ⟨Reg.IDX_UPD_MOVED, [], .ro, 0, 0⟩,
   ⟨Reg.IDX_UPD_BUSY, [], .ro, 0, 0⟩,
   ⟨Reg.IDX_UPD_SEARCH, [], .ro, 0, 0⟩,
   ⟨Reg.IDX_MERGES, [], .ro, 0, 0⟩,
   ⟨Reg.IDX_MERGES_URGENT, [], .ro, 0, 0⟩,
   ⟨Reg.IDX_MERGE_HOLD_MAX, [], .ro, 0, 0⟩,
   ⟨Reg.IDX_RECLAIM_IMAGES, [], .ro, 0, 0⟩,
   ⟨Reg.IDX_RECLAIM_ROWS, [], .ro, 0, 0⟩,
   ⟨Reg.IDX_SHUF_SKIPPED, [], .ro, 0, 0⟩,
   ⟨Reg.IDX_SHUF_DONE, [], .ro, 0, 0⟩,
   ⟨Reg.IDX_SHUF_ABORTED, [], .ro, 0, 0⟩,
   ⟨Reg.IDX_REPLACE_DONE, [], .ro, 0, 0⟩,
   ⟨Reg.IDX_REPLACE_ABORTED, [], .ro, 0, 0⟩]

/-- Registers of the IDX block, part 2. -/
def regsIdxB : List RegDef :=
  [⟨Reg.IDX_REPLAY_SKIPPED, [], .ro, 0, 0⟩,
   ⟨Reg.IDX_REPLACE_PRIOR, [], .ro, 0, 0⟩,
   ⟨Reg.IDX_SHUF_OVERLAP_READS, [], .ro, 0, 0⟩,
   ⟨Reg.IDX_COMMIT_DL, [], .ro, 0x14, 0⟩,
   ⟨Reg.IDX_UPD_WAIT, [], .ro, 0x186A0, 0⟩,
   ⟨Reg.IDX_MERGE_CFG, [], .ro, 0x4B4B, 0⟩,
   ⟨Reg.IDX_MERGE_MAX, [], .ro, 0x40, 0⟩,
   ⟨Reg.IDX_RETAIN, [], .ro, 0x186A0, 0⟩,
   ⟨Reg.IDX_SKEW_WIN, [], .ro, 0x5F5E100, 0⟩,
   ⟨Reg.IDX_SHUF_RESEND, [], .ro, 0x186A0, 0⟩,
   ⟨Reg.IDX_SHUF_OVERLAP, [], .ro, 0x4C4B40, 0⟩,
   ⟨Reg.IDX_VCMD_OP, [(0x20, 4)], .fw, 0, 0x800000FF⟩,
   ⟨Reg.IDX_VCMD_ARG0, [(0x20, 4)], .fw, 0, 0xF00003FF⟩,
   ⟨Reg.IDX_VCMD_ARG1, [(0x20, 4)], .fw, 0, 0xFFFFFF⟩,
   ⟨Reg.IDX_VCMD_ARG2, [(0x20, 4)], .fw, 0, 0xFF3FFFFF⟩,
   ⟨Reg.IDX_VCMD_ARG3, [(0x20, 4)], .fw, 0, 0xFFFFFFFF⟩,
   ⟨Reg.IDX_VCMD_ARG4, [(0x20, 4)], .fw, 0, 0xFFFFFFFF⟩,
   ⟨Reg.IDX_VCMD_RESULT, [(0x20, 4)], .ro, 0, 0⟩,
   ⟨Reg.IDX_VCMD_MP, [(0x20, 4)], .ro, 0, 0⟩,
   ⟨Reg.IDX_TBL_FLOOR_LO, [], .ro, 0, 0⟩,
   ⟨Reg.IDX_TBL_FLOOR_HI, [], .ro, 0, 0⟩,
   ⟨Reg.IDX_TBL_BASE_LO, [], .ro, 0, 0⟩,
   ⟨Reg.IDX_TBL_BASE_HI, [], .ro, 0, 0⟩,
   ⟨Reg.IDX_TBL_LOG_USED, [], .ro, 0, 0⟩,
   ⟨Reg.IDX_TBL_SPLITS, [], .ro, 0, 0⟩,
   ⟨Reg.IDX_HOT_SEL, [], .rw, 0, 0x33F⟩,
   ⟨Reg.IDX_HOT_TABLE, [], .ro, 0, 0⟩,
   ⟨Reg.IDX_HOT_LIST, [], .ro, 0, 0⟩,
   ⟨Reg.IDX_HOT_PAIRS, [], .ro, 0, 0⟩]

/-- Registers of the IDX block. -/
def regsIdx : List RegDef := regsIdxA ++ regsIdxB

/-- Registers of the CD block. -/
def regsCd : List RegDef :=
  [⟨Reg.CD_INFO, [(0x80000, 8)], .ro, 0x41008, 0⟩,
   ⟨Reg.CD_DIE, [(0x80000, 8)], .ro, 0, 0⟩,
   ⟨Reg.CD_STATE, [(0x80000, 8)], .ro, 0, 0⟩,
   ⟨Reg.CD_WAIT_LIMIT, [(0x80000, 8)], .ro, 0x989680, 0⟩,
   ⟨Reg.CD_ME_STATUS, [(0x80000, 8), (0x100, 4)], .ro, 0, 0⟩,
   ⟨Reg.CD_ME_OWNER, [(0x80000, 8), (0x100, 4)], .ro, 0, 0⟩,
   ⟨Reg.CD_ME_MACS_LO, [(0x80000, 8), (0x100, 4)], .ro, 0, 0⟩,
   ⟨Reg.CD_ME_MACS_HI, [(0x80000, 8), (0x100, 4)], .ro, 0, 0⟩,
   ⟨Reg.CD_ME_BUSY_LO, [(0x80000, 8), (0x100, 4)], .ro, 0, 0⟩,
   ⟨Reg.CD_ME_BUSY_HI, [(0x80000, 8), (0x100, 4)], .ro, 0, 0⟩,
   ⟨Reg.CD_ME_WSTALL_LO, [(0x80000, 8), (0x100, 4)], .ro, 0, 0⟩,
   ⟨Reg.CD_ME_WSTALL_HI, [(0x80000, 8), (0x100, 4)], .ro, 0, 0⟩,
   ⟨Reg.CD_ME_TILES, [(0x80000, 8), (0x100, 4)], .ro, 0, 0⟩,
   ⟨Reg.CD_ME_PASSES, [(0x80000, 8), (0x100, 4)], .ro, 0, 0⟩,
   ⟨Reg.CD_ME_MODE_SW, [(0x80000, 8), (0x100, 4)], .ro, 0, 0⟩,
   ⟨Reg.CD_ME_SAT, [(0x80000, 8), (0x100, 4)], .ro, 0, 0⟩,
   ⟨Reg.CD_ME_RESIDUE, [(0x80000, 8), (0x100, 4)], .ro, 0, 0⟩,
   ⟨Reg.CD_ME_CMD_ERR, [(0x80000, 8), (0x100, 4)], .ro, 0, 0⟩,
   ⟨Reg.CD_ME_ABORTED, [(0x80000, 8), (0x100, 4)], .ro, 0, 0⟩,
   ⟨Reg.CD_ME_WAIT_TO, [(0x80000, 8), (0x100, 4)], .ro, 0, 0⟩,
   ⟨Reg.CD_SK_STATUS, [(0x80000, 8), (0x40, 8)], .ro, 0, 0⟩,
   ⟨Reg.CD_SK_DONE, [(0x80000, 8), (0x40, 8)], .ro, 0, 0⟩,
   ⟨Reg.CD_SK_BYTES_LO, [(0x80000, 8), (0x40, 8)], .ro, 0, 0⟩,
   ⟨Reg.CD_SK_BYTES_HI, [(0x80000, 8), (0x40, 8)], .ro, 0, 0⟩,
   ⟨Reg.CD_SK_CMD_ERR, [(0x80000, 8), (0x40, 8)], .ro, 0, 0⟩,
   ⟨Reg.CD_SK_WAIT_TO, [(0x80000, 8), (0x40, 8)], .ro, 0, 0⟩,
   ⟨Reg.CD_VU_STATUS, [(0x80000, 8), (0x40, 4)], .ro, 0, 0⟩,
   ⟨Reg.CD_VU_OWNER, [(0x80000, 8), (0x40, 4)], .ro, 0, 0⟩,
   ⟨Reg.CD_VU_OPS_LO, [(0x80000, 8), (0x40, 4)], .ro, 0, 0⟩,
   ⟨Reg.CD_VU_OPS_HI, [(0x80000, 8), (0x40, 4)], .ro, 0, 0⟩,
   ⟨Reg.CD_VU_NAN, [(0x80000, 8), (0x40, 4)], .ro, 0, 0⟩,
   ⟨Reg.CD_VU_CMD_ERR, [(0x80000, 8), (0x40, 4)], .ro, 0, 0⟩,
   ⟨Reg.CD_VU_WAIT_TO, [(0x80000, 8), (0x40, 4)], .ro, 0, 0⟩,
   ⟨Reg.CD_SQ_STATE, [(0x80000, 8), (0x40, 8)], .ro, 0, 0⟩,
   ⟨Reg.CD_SQ_OWNER, [(0x80000, 8), (0x40, 8)], .ro, 0, 0⟩,
   ⟨Reg.CD_SQ_POSTED, [(0x80000, 8), (0x40, 8)], .ro, 0, 0⟩,
   ⟨Reg.CD_SQ_CQ_STALL, [(0x80000, 8), (0x40, 8)], .ro, 0, 0⟩,
   ⟨Reg.CD_SQ_ECC_CE, [(0x80000, 8), (0x40, 8)], .ro, 0, 0⟩,
   ⟨Reg.CD_SQ_ECC_UE, [(0x80000, 8), (0x40, 8)], .ro, 0, 0⟩,
   ⟨Reg.CD_SYNC, [(0x80000, 8), (4, 64)], .fw, 0, 0xFFFFFFFF⟩]

/-- Registers of the MEDIA block. -/
def regsMedia : List RegDef :=
  [⟨Reg.MEDIA_STATE, [], .ro, 0, 0⟩,
   ⟨Reg.MEDIA_MAP_MODE, [], .ro, 0, 0⟩,
   ⟨Reg.MEDIA_RESERVE_PCT, [], .ro, 7, 0⟩,
   ⟨Reg.MEDIA_WL_SPREAD, [], .ro, 0x190, 0⟩,
   ⟨Reg.MEDIA_JOURNAL_BYTES, [], .ro, 0x400, 0⟩,
   ⟨Reg.MEDIA_JOURNAL_INTERVAL, [], .ro, 0x2FAF080, 0⟩,
   ⟨Reg.MEDIA_GC_LOW, [], .ro, 8, 0⟩,
   ⟨Reg.MEDIA_LOGICAL_MU_LO, [], .ro, 0, 0⟩,
   ⟨Reg.MEDIA_LOGICAL_MU_HI, [], .ro, 0, 0⟩,
   ⟨Reg.MEDIA_FREE_SB, [], .ro, 0, 0⟩,
   ⟨Reg.MEDIA_ERASE_MIN, [], .ro, 0, 0⟩,
   ⟨Reg.MEDIA_ERASE_MAX, [], .ro, 0, 0⟩,
   ⟨Reg.MEDIA_REC_LTC, [], .ro, 0, 0⟩,
   ⟨Reg.MEDIA_REC_PAGES, [], .ro, 0, 0⟩,
   ⟨Reg.MEDIA_REC_APPLIED, [], .ro, 0, 0⟩,
   ⟨Reg.MEDIA_REC_TORN, [], .ro, 0, 0⟩,
   ⟨Reg.MEDIA_REC_LOST, [], .ro, 0, 0⟩,
   ⟨Reg.MEDIA_REC_STRIPES, [], .ro, 0, 0⟩,
   ⟨Reg.MEDIA_MAP_PD, [], .ro, 0, 0⟩,
   ⟨Reg.MEDIA_CMD_OP, [(0x20, 4)], .fw, 0, 0x800000FF⟩,
   ⟨Reg.MEDIA_CMD_ARG0, [(0x20, 4)], .fw, 0, 0xFFFF03FF⟩,
   ⟨Reg.MEDIA_CMD_ARG1, [(0x20, 4)], .fw, 0, 0xFFFFFFFF⟩,
   ⟨Reg.MEDIA_CMD_RESULT, [(0x20, 4)], .ro, 0, 0⟩,
   ⟨Reg.MEDIA_CH_SEL, [], .rw, 0, 0xF7F⟩,
   ⟨Reg.MEDIA_CH_TSTATE, [], .ro, 0, 0⟩,
   ⟨Reg.MEDIA_CH_READS_LO, [], .ro, 0, 0⟩,
   ⟨Reg.MEDIA_CH_READS_HI, [], .ro, 0, 0⟩,
   ⟨Reg.MEDIA_CH_PROGRAMS, [], .ro, 0, 0⟩,
   ⟨Reg.MEDIA_CH_ERASES, [], .ro, 0, 0⟩,
   ⟨Reg.MEDIA_CH_RETRIES, [], .ro, 0, 0⟩,
   ⟨Reg.MEDIA_CH_SOFT, [], .ro, 0, 0⟩,
   ⟨Reg.MEDIA_CH_UNCORR, [], .ro, 0, 0⟩,
   ⟨Reg.MEDIA_CH_BAD_BLOCKS, [], .ro, 0, 0⟩,
   ⟨Reg.MEDIA_READS_LO, [], .ro, 0, 0⟩,
   ⟨Reg.MEDIA_READS_HI, [], .ro, 0, 0⟩,
   ⟨Reg.MEDIA_WRITES_LO, [], .ro, 0, 0⟩,
   ⟨Reg.MEDIA_WRITES_HI, [], .ro, 0, 0⟩,
   ⟨Reg.MEDIA_PARITY_RECON, [], .ro, 0, 0⟩,
   ⟨Reg.MEDIA_PARITY_FAIL, [], .ro, 0, 0⟩,
   ⟨Reg.MEDIA_REBUILD_PENDING, [], .ro, 0, 0⟩,
   ⟨Reg.MEDIA_GC_MOVES, [], .ro, 0, 0⟩,
   ⟨Reg.MEDIA_WL_MOVES, [], .ro, 0, 0⟩,
   ⟨Reg.MEDIA_UNMAPPED_READS, [], .ro, 0, 0⟩,
   ⟨Reg.MEDIA_REQ_ERR, [], .ro, 0, 0⟩,
   ⟨Reg.MEDIA_SIEVE_RECORDS_LO, [], .ro, 0, 0⟩,
   ⟨Reg.MEDIA_SIEVE_RECORDS_HI, [], .ro, 0, 0⟩,
   ⟨Reg.MEDIA_SIEVE_PASSED_LO, [], .ro, 0, 0⟩,
   ⟨Reg.MEDIA_SIEVE_PASSED_HI, [], .ro, 0, 0⟩,
   ⟨Reg.MEDIA_SIEVE_DELETED, [], .ro, 0, 0⟩,
   ⟨Reg.MEDIA_SIEVE_BAD_BLOCK, [], .ro, 0, 0⟩]

/-- Registers of the LINK block, part 1. -/
def regsLinkA : List RegDef :=
  [⟨Reg.LINK_INFO, [], .ro, 0x60, 0⟩,
   ⟨Reg.LINK_VER_RANGE, [(4, 3)], .ro, 0, 0⟩,
   ⟨Reg.LINK_FEAT_SUPP, [], .ro, 0xF, 0⟩,
   ⟨Reg.LINK_IDENT, [], .ro, 0xFF, 0⟩,
   ⟨Reg.LINK_TON, [], .ro, 0, 0⟩,
   ⟨Reg.LINK_KA_INTERVAL, [], .ro, 0x2710, 0⟩,
   ⟨Reg.LINK_KA_MISS, [], .ro, 3, 0⟩,
   ⟨Reg.LINK_HELLO_RETRY, [], .ro, 0x186A0, 0⟩,
   ⟨Reg.LINK_TRAIN_TO, [], .ro, 0x2FAF080, 0⟩,
   ⟨Reg.LINK_REPLAY_TO, [], .ro, 0x3E8, 0⟩,
   ⟨Reg.LINK_GRACE, [], .ro, 0x4C4B40, 0⟩,
   ⟨Reg.LINK_BEAT, [], .ro, 0xF4240, 0⟩,
   ⟨Reg.LINK_DEALER_LOSS, [], .ro, 0x1C9C380, 0⟩,
   ⟨Reg.LINK_SEAT_LOSS, [], .ro, 0x5F5E100, 0⟩,
   ⟨Reg.LINK_MAP_ACK_TO, [], .ro, 0x989680, 0⟩,
   ⟨Reg.LINK_WM_INTERVAL, [], .ro, 0x40000000, 0⟩,
   ⟨Reg.LINK_REASM_TO, [], .ro, 0x989680, 0⟩,
   ⟨Reg.LINK_VC_CREDITS_LO, [], .ro, 0x20383808, 0⟩,
   ⟨Reg.LINK_VC_CREDITS_HI, [], .ro, 0x8282018, 0⟩,
   ⟨Reg.LINK_MAP_MP_LO, [], .ro, 0, 0⟩,
   ⟨Reg.LINK_MAP_MP_HI, [], .ro, 0, 0⟩,
   ⟨Reg.LINK_MAP_PENDING_LO, [], .ro, 0, 0⟩,
   ⟨Reg.LINK_MAP_PENDING_HI, [], .ro, 0, 0⟩,
   ⟨Reg.LINK_MAP_INSTALL_LO, [], .ro, 0, 0⟩,
   ⟨Reg.LINK_MAP_INSTALL_HI, [], .ro, 0, 0⟩,
   ⟨Reg.LINK_ROLE, [], .ro, 0xFFFF, 0⟩,
   ⟨Reg.LINK_NO_ROUTE, [], .ro, 0, 0⟩,
   ⟨Reg.LINK_EVENT_LOST, [], .ro, 0, 0⟩,
   ⟨Reg.LINK_CMD_OP, [(0x20, 4)], .fw, 0, 0x800000FF⟩,
   ⟨Reg.LINK_CMD_ARG0, [(0x20, 4)], .fw, 0, 0xFFFFFFFF⟩,
   ⟨Reg.LINK_CMD_ARG1, [(0x20, 4)], .fw, 0, 0xFFFFFFFF⟩,
   ⟨Reg.LINK_CMD_RESULT, [(0x20, 4)], .ro, 0, 0⟩,
   ⟨Reg.LINK_L_STATE, [(0x100, 96)], .ro, 0, 0⟩,
   ⟨Reg.LINK_L_FEAT, [(0x100, 96)], .ro, 0, 0⟩,
   ⟨Reg.LINK_L_PARTNER, [(0x100, 96)], .ro, 0, 0⟩,
   ⟨Reg.LINK_L_SERIAL_LO, [(0x100, 96)], .ro, 0, 0⟩,
   ⟨Reg.LINK_L_SERIAL_HI, [(0x100, 96)], .ro, 0, 0⟩,
   ⟨Reg.LINK_L_TX_FLITS_LO, [(0x100, 96)], .ro, 0, 0⟩,
   ⟨Reg.LINK_L_TX_FLITS_HI, [(0x100, 96)], .ro, 0, 0⟩,
   ⟨Reg.LINK_L_RX_FLITS_LO, [(0x100, 96)], .ro, 0, 0⟩,
   ⟨Reg.LINK_L_RX_FLITS_HI, [(0x100, 96)], .ro, 0, 0⟩,
   ⟨Reg.LINK_L_FEC_CORR_LO, [(0x100, 96)], .ro, 0, 0⟩,
   ⟨Reg.LINK_L_FEC_CORR_HI, [(0x100, 96)], .ro, 0, 0⟩,
   ⟨Reg.LINK_L_FEC_UNCORR, [(0x100, 96)], .ro, 0, 0⟩,
   ⟨Reg.LINK_L_CRC_ERR, [(0x100, 96)], .ro, 0, 0⟩,
   ⟨Reg.LINK_L_REPLAYS, [(0x100, 96)], .ro, 0, 0⟩,
   ⟨Reg.LINK_L_KA_LOSS, [(0x100, 96)], .ro, 0, 0⟩,
   ⟨Reg.LINK_L_DOWN_EVENTS, [(0x100, 96)], .ro, 0, 0⟩,
   ⟨Reg.LINK_L_CREDIT_STALL, [(0x100, 96)], .ro, 0, 0⟩,
   ⟨Reg.LINK_L_LEN_DISCARD, [(0x100, 96)], .ro, 0, 0⟩,
   ⟨Reg.LINK_L_TYPE_DISCARD, [(0x100, 96)], .ro, 0, 0⟩,
   ⟨Reg.LINK_L_FWD_DOWN, [(0x100, 96)], .ro, 0, 0⟩,
   ⟨Reg.LINK_L_REASM_DISCARD, [(0x100, 96)], .ro, 0, 0⟩,
   ⟨Reg.LINK_TON_SEAT_SEL, [], .rw, 0, 0x3F⟩,
   ⟨Reg.LINK_TON_SEAT_STATE, [], .ro, 0, 0⟩,
   ⟨Reg.LINK_TON_SEAT_QSENT, [], .ro, 0, 0⟩,
   ⟨Reg.LINK_TON_SEAT_QMISSING, [], .ro, 0, 0⟩,
   ⟨Reg.LINK_TON_SEAT_LAT, [], .ro, 0, 0⟩,
   ⟨Reg.LINK_TON_SEAT_MOVED, [], .ro, 0, 0⟩,
   ⟨Reg.LINK_TON_SEAT_WM, [(4, 16)], .ro, 0, 0⟩]

/-- Registers of the LINK block, part 2. -/
def regsLinkB : List RegDef :=
  [⟨Reg.LINK_TON_MISMATCH_LO, [], .ro, 0, 0⟩,
   ⟨Reg.LINK_TON_MISMATCH_HI, [], .ro, 0, 0⟩,
   ⟨Reg.LINK_TON_SILENT_LO, [], .ro, 0, 0⟩,
   ⟨Reg.LINK_TON_SILENT_HI, [], .ro, 0, 0⟩,
   ⟨Reg.LINK_TON_MAP_CHANGES, [], .ro, 0, 0⟩,
   ⟨Reg.LINK_TON_NO_QUORUM, [], .ro, 0, 0⟩,
   ⟨Reg.LINK_TON_TAKEOVERS, [], .ro, 0, 0⟩,
   ⟨Reg.LINK_TON_RESENT, [], .ro, 0, 0⟩]

/-- Registers of the LINK block. -/
def regsLink : List RegDef := regsLinkA ++ regsLinkB

/-- Registers of the SCHED block. -/
def regsSched : List RegDef :=
  [⟨Reg.SCHED_LTC_LO, [], .ro, 0, 0⟩,
   ⟨Reg.SCHED_LTC_HI, [], .ro, 0, 0⟩,
   ⟨Reg.SCHED_INFO, [], .ro, 0x601000, 0⟩,
   ⟨Reg.SCHED_LINK_REFILL, [], .ro, 0x64, 0⟩,
   ⟨Reg.SCHED_ADM_REFILL, [], .ro, 0x3E8, 0⟩,
   ⟨Reg.SCHED_TRUMP_LIMIT, [], .ro, 0x124F8, 0⟩,
   ⟨Reg.SCHED_CLIPS, [], .ro, 0, 0⟩,
   ⟨Reg.SCHED_GATE_TAKEOVERS, [], .ro, 0, 0⟩,
   ⟨Reg.SCHED_GATE_SUPERSEDED, [], .ro, 0, 0⟩,
   ⟨Reg.SCHED_CMD_ERR, [], .ro, 0, 0⟩,
   ⟨Reg.SCHED_QUOTA_REFUSED, [], .ro, 0, 0⟩,
   ⟨Reg.SCHED_CMD_OP, [(0x20, 4)], .fw, 0, 0x800000FF⟩,
   ⟨Reg.SCHED_CMD_ARG0, [(0x20, 4)], .fw, 0, 0xFFFFFFFF⟩,
   ⟨Reg.SCHED_CMD_ARG1, [(0x20, 4)], .fw, 0, 0xFFFFFFFF⟩,
   ⟨Reg.SCHED_CMD_ARG2, [(0x20, 4)], .fw, 0, 0xFFFFFFFF⟩,
   ⟨Reg.SCHED_CMD_ARG3, [(0x20, 4)], .fw, 0, 0xFFFFFFFF⟩,
   ⟨Reg.SCHED_CMD_ARG4, [(0x20, 4)], .fw, 0, 0xFFFFFFFF⟩,
   ⟨Reg.SCHED_CMD_RESULT, [(0x20, 4)], .ro, 0, 0⟩,
   ⟨Reg.SCHED_PT_SEL, [], .rw, 0, 0x80070FFF⟩,
   ⟨Reg.SCHED_Q_CFG, [], .ro, 0, 0⟩,
   ⟨Reg.SCHED_Q_RATE, [], .ro, 0, 0⟩,
   ⟨Reg.SCHED_Q_LEVEL, [], .ro, 0, 0⟩,
   ⟨Reg.SCHED_Q_DEFICIT, [], .ro, 0, 0⟩,
   ⟨Reg.SCHED_Q_DEPTH, [], .ro, 0, 0⟩,
   ⟨Reg.SCHED_Q_SENT_LO, [], .ro, 0, 0⟩,
   ⟨Reg.SCHED_Q_SENT_HI, [], .ro, 0, 0⟩,
   ⟨Reg.SCHED_Q_TOKENS_LO, [], .ro, 0, 0⟩,
   ⟨Reg.SCHED_Q_TOKENS_HI, [], .ro, 0, 0⟩,
   ⟨Reg.SCHED_Q_GATE_WAIT, [], .ro, 0, 0⟩,
   ⟨Reg.SCHED_Q_RATE_WAIT, [], .ro, 0, 0⟩,
   ⟨Reg.SCHED_PT_GATES, [], .ro, 0, 0⟩,
   ⟨Reg.SCHED_PT_START_LO, [], .ro, 0, 0⟩,
   ⟨Reg.SCHED_PT_START_HI, [], .ro, 0, 0⟩,
   ⟨Reg.SCHED_QUOTA_SEL, [], .rw, 0, 0xC00FFFFF⟩,
   ⟨Reg.SCHED_QUOTA_LIMIT_LO, [], .ro, 0, 0⟩,
   ⟨Reg.SCHED_QUOTA_LIMIT_HI, [], .ro, 0, 0⟩,
   ⟨Reg.SCHED_QUOTA_USE_LO, [], .ro, 0, 0⟩,
   ⟨Reg.SCHED_QUOTA_USE_HI, [], .ro, 0, 0⟩,
   ⟨Reg.SCHED_QUOTA_DENIED, [], .ro, 0, 0⟩]

/-- Registers of the LEND block. -/
def regsLend : List RegDef :=
  [⟨Reg.LEND_INFO, [], .ro, 0x40, 0⟩,
   ⟨Reg.LEND_LIVE, [], .ro, 0, 0⟩,
   ⟨Reg.LEND_HANDOFF_TO, [], .ro, 0x1312D00, 0⟩,
   ⟨Reg.LEND_RECLAIM_DL, [], .ro, 0x7530, 0⟩,
   ⟨Reg.LEND_REPUSH_MAX, [], .ro, 3, 0⟩,
   ⟨Reg.LEND_PROBE, [], .ro, 0x989680, 0⟩,
   ⟨Reg.LEND_SMALL, [], .ro, 0x40100, 0⟩,
   ⟨Reg.LEND_FORMED, [], .ro, 0, 0⟩,
   ⟨Reg.LEND_RECLAIMS, [], .ro, 0, 0⟩,
   ⟨Reg.LEND_LOST, [], .ro, 0, 0⟩,
   ⟨Reg.LEND_BOUND_MISSED, [], .ro, 0, 0⟩,
   ⟨Reg.LEND_CMD_ERR, [], .ro, 0, 0⟩,
   ⟨Reg.LEND_CMD_OP, [(0x20, 4)], .fw, 0, 0x800000FF⟩,
   ⟨Reg.LEND_CMD_ARG0, [(0x20, 4)], .fw, 0, 0xFFFFFFFF⟩,
   ⟨Reg.LEND_CMD_ARG1, [(0x20, 4)], .fw, 0, 0xFFFFFFFF⟩,
   ⟨Reg.LEND_CMD_ARG2, [(0x20, 4)], .fw, 0, 0xFFFF⟩,
   ⟨Reg.LEND_CMD_RESULT, [(0x20, 4)], .ro, 0, 0⟩,
   ⟨Reg.LEND_C_SEL, [], .rw, 0, 0xFFFF⟩,
   ⟨Reg.LEND_C_STATE, [], .ro, 0, 0⟩,
   ⟨Reg.LEND_C_ME_MASK, [], .ro, 0, 0⟩,
   ⟨Reg.LEND_C_REASON, [], .ro, 0, 0⟩,
   ⟨Reg.LEND_C_BEGUN_LO, [], .ro, 0, 0⟩,
   ⟨Reg.LEND_C_BEGUN_HI, [], .ro, 0, 0⟩,
   ⟨Reg.LEND_C_SEC_KEEPER_LO, [], .ro, 0, 0⟩,
   ⟨Reg.LEND_C_SEC_KEEPER_HI, [], .ro, 0, 0⟩,
   ⟨Reg.LEND_C_SEC_LOCAL_LO, [], .ro, 0, 0⟩,
   ⟨Reg.LEND_C_SEC_LOCAL_HI, [], .ro, 0, 0⟩,
   ⟨Reg.LEND_C_OWN_SEQ_LO, [], .ro, 0, 0⟩,
   ⟨Reg.LEND_C_OWN_SEQ_HI, [], .ro, 0, 0⟩,
   ⟨Reg.LEND_C_PUSH_BYTES_LO, [], .ro, 0, 0⟩,
   ⟨Reg.LEND_C_PUSH_BYTES_HI, [], .ro, 0, 0⟩,
   ⟨Reg.LEND_C_REPUSH, [], .ro, 0, 0⟩,
   ⟨Reg.LEND_C_GATE_STALL, [], .ro, 0, 0⟩,
   ⟨Reg.LEND_C_DETOURS, [], .ro, 0, 0⟩,
   ⟨Reg.LEND_C_ACK_STALE, [], .ro, 0, 0⟩,
   ⟨Reg.LEND_C_RECLAIM_LTC, [], .ro, 0, 0⟩,
   ⟨Reg.LEND_K_SEL, [], .rw, 0, 0x3F⟩,
   ⟨Reg.LEND_K_STATE, [], .ro, 0, 0⟩,
   ⟨Reg.LEND_K_SECURED_LO, [], .ro, 0, 0⟩,
   ⟨Reg.LEND_K_SECURED_HI, [], .ro, 0, 0⟩,
   ⟨Reg.LEND_K_DISCARDS, [], .ro, 0, 0⟩]

/-- Registers of the STACK block, part 1. -/
def regsStackA : List RegDef :=
  [⟨Reg.STACK_PD_LIMIT, [], .ro, 0xFFFF, 0⟩,
   ⟨Reg.STACK_PD_LIVE, [], .ro, 0, 0⟩,
   ⟨Reg.STACK_PD_SEL, [], .rw, 0, 0xFFFF⟩,
   ⟨Reg.STACK_PD_INFO, [], .ro, 0, 0⟩,
   ⟨Reg.STACK_PD_OWNER, [], .ro, 0, 0⟩,
   ⟨Reg.STACK_PD_LEN_LO, [], .ro, 0, 0⟩,
   ⟨Reg.STACK_PD_LEN_HI, [], .ro, 0, 0⟩,
   ⟨Reg.STACK_PCMD_OP, [(0x20, 4)], .fw, 0, 0x800000FF⟩,
   ⟨Reg.STACK_PCMD_ARG0, [(0x20, 4)], .fw, 0, 0xFFFFFFFF⟩,
   ⟨Reg.STACK_PCMD_ARG1, [(0x20, 4)], .fw, 0, 0xFFFFFFFF⟩,
   ⟨Reg.STACK_PCMD_ARG2, [(0x20, 4)], .fw, 0, 0xFFFF01FF⟩,
   ⟨Reg.STACK_PCMD_ARG3, [(0x20, 4)], .fw, 0, 0x7F01FF0F⟩,
   ⟨Reg.STACK_PCMD_RESULT, [(0x20, 4)], .ro, 0, 0⟩,
   ⟨Reg.STACK_STK_DENIED, [], .ro, 0, 0⟩,
   ⟨Reg.STACK_KV_TREES, [], .ro, 0, 0⟩,
   ⟨Reg.STACK_KV_LOOKUPS, [], .ro, 0, 0⟩,
   ⟨Reg.STACK_KV_HIT_BLOCKS, [], .ro, 0, 0⟩,
   ⟨Reg.STACK_KV_HASH_MISMATCH, [], .ro, 0, 0⟩,
   ⟨Reg.STACK_KV_INSERTS, [], .ro, 0, 0⟩,
   ⟨Reg.STACK_KV_DUP_INSERTS, [], .ro, 0, 0⟩,
   ⟨Reg.STACK_KV_EVICT_NODES, [], .ro, 0, 0⟩,
   ⟨Reg.STACK_KV_TREE_FULL, [], .ro, 0, 0⟩,
   ⟨Reg.STACK_KV_UNREF_BAD, [], .ro, 0, 0⟩,
   ⟨Reg.STACK_KV_SPILLED_READS, [], .ro, 0, 0⟩,
   ⟨Reg.STACK_KV_PREFETCHES, [], .ro, 0, 0⟩,
   ⟨Reg.STACK_KV_PAGE_READS_LO, [], .ro, 0, 0⟩,
   ⟨Reg.STACK_KV_PAGE_READS_HI, [], .ro, 0, 0⟩,
   ⟨Reg.STACK_KV_POLL, [], .ro, 0x64, 0⟩,
   ⟨Reg.STACK_KV_PREFETCH, [], .ro, 8, 0⟩,
   ⟨Reg.STACK_TREE_SEL, [], .rw, 0, 0xFFF⟩,
   ⟨Reg.STACK_TREE_INFO, [], .ro, 0, 0⟩,
   ⟨Reg.STACK_TREE_USE, [], .ro, 0, 0⟩,
   ⟨Reg.STACK_EMB_TABLES_LIVE, [], .ro, 0, 0⟩,
   ⟨Reg.STACK_EMB_RELOC_LIMIT, [], .ro, 0x10000, 0⟩,
   ⟨Reg.STACK_EMB_RELOC_USED, [], .ro, 0, 0⟩,
   ⟨Reg.STACK_EMB_SKEW_WIN, [], .ro, 0x5F5E100, 0⟩,
   ⟨Reg.STACK_EMB_SAMPLE, [], .ro, 0x40, 0⟩,
   ⟨Reg.STACK_EMB_CMD_OP, [(0x20, 4)], .fw, 0, 0x800000FF⟩,
   ⟨Reg.STACK_EMB_CMD_ARG0, [(0x20, 4)], .fw, 0, 0xFFFF03FF⟩,
   ⟨Reg.STACK_EMB_CMD_ARG1, [(0x20, 4)], .fw, 0, 0xFFFFFFFF⟩,
   ⟨Reg.STACK_EMB_CMD_ARG2, [(0x20, 4)], .fw, 0, 0xFFFF1FFF⟩,
   ⟨Reg.STACK_EMB_CMD_RESULT, [(0x20, 4)], .ro, 0, 0⟩,
   ⟨Reg.STACK_EMB_CMD_MP, [(0x20, 4)], .ro, 0, 0⟩,
   ⟨Reg.STACK_EMB_TBL_SEL, [], .rw, 0, 0x3FF⟩,
   ⟨Reg.STACK_EMB_TBL_INFO, [], .ro, 0, 0⟩,
   ⟨Reg.STACK_EMB_TBL_ROWS_LO, [], .ro, 0, 0⟩,
   ⟨Reg.STACK_EMB_TBL_ROWS_HI, [], .ro, 0, 0⟩,
   ⟨Reg.STACK_EMB_TBL_MP_LO, [], .ro, 0, 0⟩,
   ⟨Reg.STACK_EMB_TBL_MP_HI, [], .ro, 0, 0⟩,
   ⟨Reg.STACK_EMB_TBL_DROP_RANGE, [], .ro, 0, 0⟩,
   ⟨Reg.STACK_EMB_TBL_DROP_MISSING, [], .ro, 0, 0⟩,
   ⟨Reg.STACK_EMB_TBL_MOVED, [], .ro, 0, 0⟩,
   ⟨Reg.STACK_EMB_TBL_RELOC, [], .ro, 0, 0⟩,
   ⟨Reg.STACK_EMB_SHARD_SEL, [], .rw, 0, 0x3FFFFFF⟩,
   ⟨Reg.STACK_EMB_SHARD_READS, [], .ro, 0, 0⟩,
   ⟨Reg.STACK_EMB_SHARD_WRITES, [], .ro, 0, 0⟩,
   ⟨Reg.STACK_EMB_HOT_SEL, [], .rw, 0, 0x33F⟩,
   ⟨Reg.STACK_EMB_HOT_TABLE, [], .ro, 0, 0⟩,
   ⟨Reg.STACK_EMB_HOT_ROW_LO, [], .ro, 0, 0⟩,
   ⟨Reg.STACK_EMB_HOT_ROW_HI, [], .ro, 0, 0⟩]

/-- Registers of the STACK block, part 2. -/
def regsStackB : List RegDef :=
  [⟨Reg.STACK_EMB_HOT_COUNT, [], .ro, 0, 0⟩,
   ⟨Reg.STACK_EMB_OWN_SEL, [], .rw, 0, 0xC000FFFF⟩,
   ⟨Reg.STACK_EMB_OWN_DROP_RANGE, [], .ro, 0, 0⟩,
   ⟨Reg.STACK_EMB_OWN_DROP_MISSING, [], .ro, 0, 0⟩,
   ⟨Reg.STACK_EMB_OWN_MOVED, [], .ro, 0, 0⟩,
   ⟨Reg.STACK_GE_STATUS, [(0x40, 16)], .ro, 0, 0⟩,
   ⟨Reg.STACK_GE_OWNER, [(0x40, 16)], .ro, 0, 0⟩,
   ⟨Reg.STACK_GE_ROWS_LO, [(0x40, 16)], .ro, 0, 0⟩,
   ⟨Reg.STACK_GE_ROWS_HI, [(0x40, 16)], .ro, 0, 0⟩,
   ⟨Reg.STACK_GE_WRITES, [(0x40, 16)], .ro, 0, 0⟩,
   ⟨Reg.STACK_GE_COALESCED, [(0x40, 16)], .ro, 0, 0⟩,
   ⟨Reg.STACK_GE_DROP_RANGE, [(0x40, 16)], .ro, 0, 0⟩,
   ⟨Reg.STACK_GE_DROP_MISSING, [(0x40, 16)], .ro, 0, 0⟩,
   ⟨Reg.STACK_GE_MOVED, [(0x40, 16)], .ro, 0, 0⟩,
   ⟨Reg.STACK_GE_FAULT, [(0x40, 16)], .ro, 0, 0⟩,
   ⟨Reg.STACK_GE_CMD_ERR, [(0x40, 16)], .ro, 0, 0⟩,
   ⟨Reg.STACK_GE_WAIT_TO, [(0x40, 16)], .ro, 0, 0⟩]

/-- Registers of the STACK block. -/
def regsStack : List RegDef := regsStackA ++ regsStackB

/-- The register table of a block (Table 17.10). -/
def Block.defs : Block → List RegDef
  | .node => regsNode
  | .mbx => regsMbx
  | .cfg => regsCfg
  | .clk => regsClk
  | .flt => regsFlt
  | .kitty => regsKitty
  | .qry => regsQry
  | .idx => regsIdx
  | .cd => regsCd
  | .media => regsMedia
  | .link => regsLink
  | .sched => regsSched
  | .lend => regsLend
  | .stack => regsStack

/-- The block that holds a BAR0 offset; `none` for space outside the blocks (R608). -/
def blockOf (off : Nat) : Option Block :=
  if 0 ≤ off ∧ off < 0x10000 then some .node
  else if 0x10000 ≤ off ∧ off < 0x20000 then some .mbx
  else if 0x20000 ≤ off ∧ off < 0x30000 then some .cfg
  else if 0x30000 ≤ off ∧ off < 0x40000 then some .clk
  else if 0x40000 ≤ off ∧ off < 0x50000 then some .flt
  else if 0x100000 ≤ off ∧ off < 0x200000 then some .kitty
  else if 0x200000 ≤ off ∧ off < 0x300000 then some .qry
  else if 0x300000 ≤ off ∧ off < 0x400000 then some .idx
  else if 0x400000 ≤ off ∧ off < 0x800000 then some .cd
  else if 0x800000 ≤ off ∧ off < 0xA00000 then some .media
  else if 0xA00000 ≤ off ∧ off < 0xC00000 then some .link
  else if 0xC00000 ≤ off ∧ off < 0xD00000 then some .sched
  else if 0xD00000 ≤ off ∧ off < 0xE00000 then some .lend
  else if 0xE00000 ≤ off ∧ off < 0xF00000 then some .stack
  else none

end Sys2Proof.Machine
end

