-- ==== Sys2Proof/Machine/TypesCore.lean ====
section
/-! DEFINITION. The parts of the state that belong to the transport, the Kitty, stacked memory, quotas, command slots, the host
interface, start and configuration, and faults and drills (chapters Package, The Kitty, Models Near the Data up to R328,
Scheduling from R470, Faults, Start, Host Interface). -/

namespace Sys2Proof.Machine

/-- The register values of BAR0, one table a block: an offset that is not listed holds its reset value (R608). -/
structure RegFile where
  node : Tbl W32
  mbx : Tbl W32
  cfg : Tbl W32
  clk : Tbl W32
  flt : Tbl W32
  kitty : Tbl W32
  qry : Tbl W32
  idx : Tbl W32
  cd : Tbl W32
  media : Tbl W32
  link : Tbl W32
  sched : Tbl W32
  lend : Tbl W32
  stack : Tbl W32
deriving DecidableEq, Repr

/-- The state of a UCIe module (R46, KITTY_XP_STATE). -/
inductive ModState where
  | down | training | active | degraded | retired
deriving DecidableEq, Repr

/-- The counts of a module (R45, Table 1.6). -/
structure XpCounts where
  tx : W64
  rx : W64
  crcErr : W64
  retry : W64
  stall : W64
  e2eTo : W64
deriving DecidableEq, Repr

/-- A UCIe module (R36, R46): its state, data lanes replaced, live counters, and the events counted in the SCLK cycle `cycle` alone, which a clear in
that cycle leaves counted (R49). -/
structure XpModule where
  state : ModState
  lanesRepaired : Nat
  live : XpCounts
  cycle : Nat
  fresh : XpCounts
deriving DecidableEq, Repr

/-- Where a transport message stands: waiting at its source port; issued, at the bank or on its way there; served by the bank (with the line read), its
response waiting for credit; the response on its way. -/
inductive MsgStage where
  | waiting
  | atBank (arrival : Nat)
  | served (data : Bytes)
  | answering (data : Bytes)
deriving DecidableEq, Repr

/-- One hop of a message: the module it leaves by and the one it arrives at (64 x die index + module), and whether it takes the escape virtual
channel (R41). -/
structure XpHop where
  src : Nat
  dst : Nat
  escape : Bool
deriving DecidableEq, Repr

/-- A transport message (R37 to R44): source die index and port, the unit, byte and length addressed, write data, arbitration class,
sequence number, its hops to the bank and back, the modules a reissue keeps off, issue time, whether it was reissued, and whether the bank has accepted its data. -/
structure XpMsg where
  die : Nat
  port : Nat
  unit : Nat
  offset : Nat
  len : Nat
  write : Option Bytes
  cls : Nat
  seq : Nat
  path : List XpHop
  back : List XpHop
  avoid : List Nat
  issued : Nat
  reissued : Bool
  applied : Bool
  stage : MsgStage
  ecc : EccOutcome
deriving DecidableEq, Repr

/-- Line accesses of a unit that wait at the banks of one allocation unit (R74): port, class, allocation unit, its first line and how many lines, and the
accesses served already, by bank of the group. -/
structure BusUse where
  port : Nat
  cls : Nat
  unit : Nat
  line : Nat
  count : Nat
  served : Tbl Nat
deriving DecidableEq, Repr

/-- The Kitty transport (R37 to R50). Modules are keyed 64 x die index + module (R509), messages by number, the last sequence
number a bank accepted by 2^20 x bank + 2^10 x die + port (R44), the next sequence number by 2^10 x die + port; `changing` holds both ends of every
module whose set is about to change, true where it leaves (R42). -/
structure XpSt where
  modules : Tbl XpModule
  msgs : Tbl XpMsg
  nextMsg : Nat
  nextSeq : Tbl Nat
  bankSeq : Tbl Nat
  changing : Tbl Bool
deriving DecidableEq, Repr

/-- Where an allocation unit stands (R62, R515); a unit not listed is free. `out` is a unit that has left the pool for good. -/
inductive UnitSt where
  | allocated
  | draining
  | scrub
  | out
deriving DecidableEq, Repr

/-- A page that is not FREE (R89, R94). A page being spilled stays readable; `release` counts the RELEASEs that wait for the spill,
`waiter` the OPEN (false) or RECALL (true) of another page that takes the frame, `evict` marks a spill for a quota. -/
inductive PageSt where
  | opened (frame : Nat)
  | sealed (frame time : Nat)
  | spilling (frame time : Nat) (release : Nat) (evict : Bool) (waiter : Option (Nat × Bool))
  | spilled (time : Nat)
  | recalling (frame time : Nat)
deriving DecidableEq, Repr

/-- A region (R58 to R60, R88): its map copies in the ports are taken as current once its last command has completed (R67). -/
structure Region where
  gen : Nat
  owner : Owner
  cls : Nat
  readOnly : Bool
  spill : Bool
  units : List Nat
  detour : Nat
  pages : Tbl PageSt
deriving DecidableEq, Repr

/-- One bank's arbiter (R76 to R78): the cycle within its window of 64, the cycles T0 and T1 used in it, the credits of W2 to W7
and the source port served last in each class. -/
structure BankSt where
  cycle : Nat
  t0Used : Nat
  t1Used : Nat
  credits : List Int
  lastPort : List Nat
deriving DecidableEq, Repr

/-- The class counters of one store die and class (R97). -/
structure ClsCount where
  grants : W64
  waits : W64
deriving DecidableEq, Repr

/-- The Kitty (R53 to R98). Regions are keyed by region number; `lastGen` remembers the generation of every number ever
allocated since start; `evict` the window start and count of quota evictions by owner key (R72); class counters are keyed
8 x store die + class; `service` names the node's own regions: the hand pool under 0, the others under their class (R51, R145, R156). -/
structure KittySt where
  units : Tbl UnitSt
  regions : Tbl Region
  lastGen : Tbl Nat
  banks : Tbl BankSt
  classes : Tbl ClsCount
  arrivals : Nat
  evict : Tbl (Nat × Nat)
  stuck : List Nat
  service : Tbl Nat
deriving DecidableEq, Repr

/-- A tile transfer whose writes are under way (R80, R82), with the status it will complete with. -/
structure TileXfer where
  queue : Nat
  id : Nat
  op : Nat
  desc : TileDesc
  status : Nat
deriving DecidableEq, Repr

/-- The tile queues of the stack-bearing store dies (R80): transfers under way, the next transfer's number, and the descriptors of completed transfers
with their STATUS written, by number. -/
structure TileSt where
  running : List TileXfer
  nextId : Nat
  done : Tbl Bytes
deriving DecidableEq, Repr

/-- An extent of a placement descriptor (Table 9.1). -/
structure Extent where
  addr : Nat
  bytes : Nat
deriving DecidableEq, Repr

/-- A placement descriptor (R322). `lost` marks one with an extent on a retired stack (R524). -/
structure PlaceDesc where
  kind : Nat
  tier : Nat
  readOnly : Bool
  coded : Bool
  width : Nat
  interleave : Bool
  owner : Owner
  length : Nat
  extents : List Extent
  lost : Bool
deriving DecidableEq, Repr

/-- Quotas (R470 to R475): the limits set by a QUOTA record, SET_QUOTA or a composition's descriptor, and the refusals counted,
keyed 16 x owner key + resource code. -/
structure QuotaSt where
  limits : Tbl Nat
  denied : Tbl W32
  /-- By key: the SCLK cycle of the last change of a quota, and the quota before it (R475). -/
  before : Tbl (Nat × Nat)
deriving DecidableEq, Repr

/-- The ten families of command slots (R594). -/
inductive Family where
  | kitty | idx | vcmd | pcmd | emb | media | link | sched | lend | flt
deriving DecidableEq, Repr

/-- What a running slot command waits for before it completes. -/
inductive SlotWait where
  | mapNew (number : Nat) (region : Region)
  | mapOwner (handle : Nat) (owner : Owner)
  | mapGrow (handle : Nat) (units : List Nat)
  | mapDrop (units : List Nat) (handle : Nat)
  | load (table : Nat)
  | build (table : Nat)
  | replaceLoad (table : Nat)
  | mergeOf (table list : Nat)
  | moveOf (table list : Nat)
  | other (tag a b : Nat)
deriving DecidableEq, Repr

/-- A command slot at work: the command's words, the SCLK cycle in which GO was written, what it waits for (`none`: it waits its turn, R69), the host request to answer, and whether the core
that ran it has failed (R520: the slot then reports ABORTED). -/
structure SlotRun where
  op : Nat
  cycle : Nat
  args : List W32
  wait : Option SlotWait
  reply : Option (List W32)
  aborted : Bool
deriving DecidableEq, Repr

/-- The command slots, keyed 4 x family + slot, the slot served last in each family, and the host requests whose command has completed
and whose reply is due (slot key, request). -/
structure SlotSt where
  runs : Tbl SlotRun
  last : Tbl Nat
  replies : List (Nat × List W32)
deriving DecidableEq, Repr

/-- A message of a mailbox: its 16 words (R583) and the sender (host mailbox, or 16 + control core). -/
structure MboxMsg where
  words : List W32
  sender : Nat
deriving DecidableEq, Repr

/-- A FIFO of at most 4 messages with the senders recorded since it was last empty, and whether it held a message at the start of the cycle (R588). -/
structure Fifo where
  msgs : List MboxMsg
  senders : List Nat
  held : Bool
deriving DecidableEq, Repr

/-- A host mailbox beside its registers (R582 to R589): its FIFO and the send window's assembly buffer (16 words). -/
structure HostMbox where
  fifo : Fifo
  tx : List W32
deriving DecidableEq, Repr

/-- An RV64GC core with the privileged architecture (R289, R599): program counter, x1 to x31, f0 to f31, control and status registers by number, and privilege
mode (3 machine). Its instructions are no commands of this table: what its program does reaches the node as commands (log 43). -/
structure RvCore where
  pc : W64
  x : List W64
  f : List W64
  csrs : Tbl W64
  mode : Nat
deriving DecidableEq, Repr

/-- A control core (R582, R598): its two FIFOs, doorbells, mask, and its own interrupt flags (message, doorbell, empty, aborted). -/
structure CoreSt where
  cpu : RvCore
  live : Bool
  fromHost : Fifo
  fromCores : Fifo
  doorbells : W32
  dbMask : W32
  irqMsg : Bool
  irqDoorbell : Bool
  irqEmpty : Bool
  aborted : Nat
deriving DecidableEq, Repr

/-- A reply of the host service that its full mailbox holds back (R592). -/
structure HeldReply where
  mailbox : Nat
  words : List W32
deriving DecidableEq, Repr

/-- The PCIe link (R575): lanes in use, rate in units of 0.1 GT/s, and whether it runs in Flit mode. -/
structure PcieLink where
  up : Bool
  width : Nat
  rate : Nat
  flit : Bool
deriving DecidableEq, Repr

/-- The host interface (R574 to R608). Transfer-slot bytes are keyed 4,096 x slot + offset; an unwritten one is a free value of
the slots' epoch (R605). `service` is the core of the host service, `slotCores` the cores that serve command slots 0 to 3 of the blocks (R600); `latched` LTC halves are registers; `latch` holds the HI halves that a read of their
LO half latched, by HI offset; `setNow` the bits of each status register that were set in one SCLK cycle, with that cycle (R12). -/
structure HostSt where
  boxes : Tbl HostMbox
  cores : Tbl CoreSt
  service : Nat
  serviceLive : Bool
  slotCores : List Nat
  blockWait : List (Nat × List W32 × Bool)
  held : List HeldReply
  xfer : Tbl Byte
  xferEpoch : Nat
  msixEnable : Bool
  funcMask : Bool
  busMaster : Bool
  pba : List Nat
  pcie : PcieLink
  cfgLatch : Bytes
  latch : Tbl W32
  setNow : Tbl (Nat × W32)
deriving DecidableEq, Repr

/-- The start phases (Table 16.1). -/
inductive Phase where
  | reset | rom | image | load | config | bringUp | running | standStill | refLost
deriving DecidableEq, Repr

/-- The header and trailer facts of a copy that a start or staging keeps (R546, R551). -/
structure CopyRec where
  seq : Nat
  headerOk : Bool
  reason : Nat
  status : Nat
  tried : Bool
deriving DecidableEq, Repr

/-- Start and the Bymalum image (R538 to R556): the phase and when it began, the configuration flash of both copies as bytes,
the outcome of each copy, attempts, the copy accepted, its manifest facts, staging, the steward dies that passed, and the local SRAM of each steward die (R599). -/
structure StartSt where
  phase : Phase
  phaseLtc : Nat
  loadLtc : Nat
  flashA : Mem
  flashB : Mem
  capacity : Nat
  copyA : CopyRec
  copyB : CopyRec
  attempts : Nat
  trying : Option Bool
  accepted : Option Bool
  fwVersion : Nat
  seqVersion : Nat
  imageSeq : Nat
  imageDigest : Bytes
  releaseDigest : Bytes
  ownerKey : Bytes
  certs : Bytes
  stewards : List Nat
  lead : Nat
  restarting : Bool
  stageOwner : Option Sender
  stageTarget : Bool
  stageStatus : Nat
  stageBlocks : List Nat
  sram : Tbl Bytes
deriving DecidableEq, Repr

/-- One entry of the configuration report (Table 16.10). -/
structure RptEntry where
  reg : Nat
  lsb : Nat
  width : Nat
  reason : Nat
  inst : Nat
  record : Nat
  given : Nat
  applied : Nat
deriving DecidableEq, Repr

/-- One field of the normalised configuration (R566): REG, INSTANCE, LSB, WIDTH and its value bytes. -/
structure NormRec where
  reg : Nat
  inst : Nat
  lsb : Nat
  width : Nat
  value : Bytes
deriving DecidableEq, Repr

/-- Configuration (R557 to R567): scalar fields applied (keyed by their place in the field list), the fields without a register,
the report, the milepost and waymark published and the accepted changes not yet published. -/
structure CfgSt where
  fields : List NormRec
  tenantTables : Tbl Bytes
  deny : List (Nat × Nat)
  entries : List RptEntry
  entriesLost : Nat
  records : Nat
  rptLtc : Nat
  milepost : Nat
  waymark : Bytes
  accepted : Nat
  acceptLtc : Nat
deriving DecidableEq, Repr

/-- Identity (R568 to R571): each die's own record, the package record of each steward die, and the secret of each steward die's
physically unclonable source. -/
structure IdentSt where
  dieRecords : Tbl Bytes
  packages : Tbl Bytes
  puf : Tbl Bytes
  packageInUse : Bytes
  mismatch : Bool
  certMismatch : List Nat
  romVersion : Nat
  recordsRead : Bool
deriving DecidableEq, Repr

/-- A fault log record (Table 15.2). -/
structure FltRec where
  code : Nat
  severity : Nat
  injected : Bool
  crossed : Bool
  cls : Nat
  inst : Nat
  detail : Nat
  ltc : Nat
  seq : Nat
deriving DecidableEq, Repr

/-- An entry of the drill schedule (Table 15.7) with its rotation and its next due count k (R532). -/
structure DrillEntry where
  first : Nat
  last : Nat
  enabled : Bool
  interval : Nat
  nextPoint : Nat
  fired : Nat
deriving DecidableEq, Repr

/-- A drill that waits or runs: its point, instance, due time, entry (none: DRILL_NOW) and its start. -/
structure Drill where
  point : Nat
  due : Nat
  interval : Nat
  inst : Nat
  start : Nat
  clean : Bool
deriving DecidableEq, Repr

/-- The outcome record of a drill point (R534). -/
structure DrillPoint where
  outcome : Nat
  duration : Nat
  runs : W32
  rotation : Nat
deriving DecidableEq, Repr

/-- A bank being copied into a spare (R515). -/
structure SpareCopy where
  bank : Nat
  spare : Nat
  start : Nat
deriving DecidableEq, Repr

/-- Faults and drills (R507 to R537). Counters and last-event times are keyed 2^20 x class + instance; `retired` and `degraded`
hold (class, instance); `spareOf` maps a global bank to the spare instance that stands in for it; `due` holds the class actions
declared within this step that have not run yet. -/
structure FltSt where
  log : List FltRec
  nextSeq : Nat
  counters : Tbl Nat
  lastEvent : Tbl Nat
  retired : List (Nat × Nat)
  degraded : List (Nat × Nat)
  spareOf : Tbl Nat
  sparesUsed : List Nat
  noSpare : List Nat
  copying : List SpareCopy
  due : List (Nat × Nat)
  recovering : List (Nat × Nat)
  schedule : List DrillEntry
  acceptLtc : Nat
  queue : List Drill
  running : Option Drill
  points : Tbl DrillPoint
  unrecovered : Bool
  heartbeats : List Nat
  stopped : Bool
  lastLeak : Nat
deriving DecidableEq, Repr

/-- One temperature sensor (R620, R627): its last and largest reading in 1/16 degree, whether it is valid, and for how many samples the
reading has not changed. -/
structure Sensor where
  last : Int
  max : Int
  valid : Bool
  unchanged : Nat
deriving DecidableEq, Repr

/-- Clocks, power, cooling and the pins (R609 to R629). `ltc` is the local time counter and `sub` the SCLK cycles since it last
counted (18 a unit, R617); sensors are keyed 16 x (die index, or 64 + stack) + sensor; `coolRun` counts, by compute die, the last
samples in a row below the step-up threshold, `hot105` and `hot110` those at or above 105 and 110 degrees, by die or stack. -/
structure ClkSt where
  ltc : W64
  sub : Nat
  ticking : Bool
  pwrok : Bool
  porN : Bool
  refclk : Bool
  pllLocked : Bool
  throttleN : Bool
  flowOk : Bool
  thermtripN : Bool
  workStopped : Bool
  sensors : Tbl Sensor
  duty : List Nat
  coolRun : List Nat
  hot105 : Tbl Nat
  hot110 : List Nat
  halfRate : List Nat
  power : List Nat
  railFault : Bool
deriving DecidableEq, Repr

/-- One queue of a scheduling point (R458, R461): bucket, weight, deficit, a SET_SHAPER that waits for the next refill, and counters. RATE
0xFFFF_FFFF means unshaped; LEVEL has 8 fractional bits. -/
structure SchedQueue where
  rate : Nat
  burst : Nat
  weight : Nat
  level : Int
  deficit : Nat
  fresh : Bool
  change : Option (Nat × Nat × Nat)
  sent : W64
  tokens : W64
  gateWait : W32
  rateWait : W32
deriving DecidableEq, Repr

/-- A scheduling point (R454): its queues, the group's pointer, its gate list (DURATION, MASK) with the entry in force and its start, the
pending list with its S, the LTC of its last refill with its queues' LEVELs before it (R462), and the LTC value of the last change of its gates with the MASK before it (R467). -/
structure PointSt where
  queues : List SchedQueue
  pointer : Nat
  gates : List (Nat × Nat)
  entry : Nat
  entryStart : Nat
  nextGates : Option (Nat × List (Nat × Nat))
  lastRefill : Nat
  before : List Int
  closing : Option (Nat × Nat)
deriving DecidableEq, Repr

/-- Where a message goes: a fabric endpoint (R146, R148), or a seat of the node's table of nodes. -/
inductive MsgDest where
  | endpoint (node : W32)
  | seat (n : Nat)
deriving DecidableEq, Repr

/-- The body of a message a unit hands to the link dies; move messages have no byte layout in the manual (R252). -/
inductive OutBody where
  | bytes (b : Bytes)
  | shuffle (object : MoveObject) (seq : Nat) (msg : ShuffleMsg)
deriving DecidableEq, Repr

/-- A message handed to the link dies: packet type (Table 12.3), header flags, HINT_SEAT and body. -/
structure OutMsg where
  dest : MsgDest
  typ : Nat
  flags : Nat
  hint : Nat
  body : OutBody
deriving DecidableEq, Repr

/-- What leaves the node or a unit, newest first: interrupts, completions to a source, and messages handed out. -/
inductive Output where
  | msix (vector : Nat) (addr : W64) (data : W32)
  | access (die port status : Nat) (data : Bytes)
  | pageCmd (status page : Nat)
  | tileNotice (queue tag status : Nat)
  | coreIrq (core : Nat)
  | completerAbort (offset : Nat)
  | hostRead (value : W32)
  | smbus (value : W32)
  | attestReport (dest : Nat) (bytes : Bytes)
  | syncRead (sq : Nat) (value : W32)
  | firmwareNotice (code inst : Nat)
  | flit (link : Nat) (bytes : Bytes)
  | hello (link : Nat) (packet : Bytes)
  | rowData (tag : Nat) (body : Bytes)
deriving DecidableEq, Repr

end Sys2Proof.Machine
end

