-- ==== Sys2Proof/Machine/TypesIdx.lean ====
section
/-! DEFINITION. The parts of the state that belong to index tables, queries and selection, and updates (chapters Vector Index Model to Updates,
Versions and Shuffles). Centroids, codebooks, list directories, list images, wayside lists, columns, full vectors and key maps stand as bytes in
stacked memory or flash, where placement descriptors put them. -/

namespace Sys2Proof.Machine

/-- A list moved or split away: at which milepost, and that commit's LTC (R254). -/
structure Cut where
  list : Nat
  milepost : Nat
  ltc : Nat
deriving DecidableEq, Repr

/-- The objects of a table as one image gave them (R102, R246): descriptor and column descriptors, the milepost they were committed at, attribute
rows allocated and reclaimed (R225), live key-map entries (R128), and the cutovers whose overlap runs (R254). -/
structure TableGen where
  desc : Bytes
  cols : Bytes
  since : Nat
  rows : Nat
  freeRows : List Nat
  mapLive : Nat
  cuts : List Cut
deriving DecidableEq, Repr

/-- What a commit superseded (R240): a list image (address and bytes), a row, or the table's earlier objects. -/
inductive OldObject where
  | image (list addr : Nat)
  | row (r : Nat)
  | table (g : TableGen)
deriving DecidableEq, Repr

/-- A superseded object, the milepost that superseded it and that commit's LTC; `overlap` names the list whose overlap still reads it (R254). -/
structure Superseded where
  object : OldObject
  milepost : Nat
  ltc : Nat
  overlap : Option Nat
deriving DecidableEq, Repr

/-- A rule of a split table (R258). -/
structure SplitRule where
  list : Nat
  bit : Nat
  value : Bool
  seat : Nat
  milepost : Nat
deriving DecidableEq, Repr

/-- Status, flags, new seat, list and commit milepost of an operation (Table 6.5). -/
structure OpResult where
  status : Nat
  flags : Nat
  seat : Nat
  list : Nat
  milepost : Nat
deriving DecidableEq, Repr

/-- An operation of an update on its way through the commit unit (R229, R232): its update, its record, when it arrived, whether it waited, and the result
that the routing map gives it where it may not run here (R440). -/
structure UpdOp where
  upd : Nat
  idx : Nat
  record : Bytes
  since : Nat
  waited : Bool
  refused : Option OpResult
deriving DecidableEq, Repr

/-- Operations that join a group together: one, or all of an ATOMIC descriptor (R224). -/
structure UpdUnit where
  ops : List UpdOp
  atomic : Bool
deriving DecidableEq, Repr

/-- An operation of a group: the list it inserts into, and whether it replaces a live key. -/
structure GroupOp where
  op : UpdOp
  list : Option Nat
  replaces : Bool
deriving DecidableEq, Repr

/-- A commit group (R229). -/
structure Group where
  ops : List GroupOp
  changes : Nat
  opened : Nat
deriving DecidableEq, Repr

/-- A change of a committed group: the list, the key, the record of its entry (none: a delete), for forwarding and for the change log. -/
structure Change where
  list : Nat
  item : MoveItem
deriving DecidableEq, Repr

/-- A table's state change that waits until the groups before it have committed (R140, R243). -/
inductive PendingState where
  | drop (slot : Nat)
  | replace (slot log : Nat)
deriving DecidableEq, Repr

/-- What LOAD, BUILD or REPLACE_COMMIT has under way for a table: the slot, source, image address, the descriptors, the addresses taken for
list images, and the keys reserved (R101). -/
structure Loading where
  slot : Nat
  flash : Bool
  addr : Nat
  desc : Bytes
  cols : Bytes
  images : List Nat
  keys : Nat
  build : Bool
  arg3 : Nat
  sample : Nat
deriving DecidableEq, Repr

/-- An index table (R102, R129, R132, R240). `log` holds VEC_FORMAT, record and milepost of each committed operation of a REPLACING table; `owedAborts`
counts aborts that the next REPLACE_COMMIT reports (R248); `before` holds the SCLK cycle of the last change with the state and milepost before it (R133). -/
structure IdxTable where
  state : Nat
  gen : TableGen
  prior : List TableGen
  milepost : Nat
  keys : Nat
  floor : Nat
  superseded : List Superseded
  splits : List SplitRule
  moved : List (Nat × Nat)
  before : Option (Nat × Nat × Nat)
  openGroup : Option Group
  closed : List Group
  committing : Option (Group × List Change × List (Nat × Nat))
  waiting : List UpdUnit
  pending : Option PendingState
  loading : Option Loading
  dropSlot : Option Nat
  base : Nat
  logAddr : Nat
  logCap : Nat
  logUsed : Nat
  log : List (Nat × Bytes × Nat)
  owedAborts : Nat
deriving DecidableEq, Repr

/-- An update whose answer is due: where it goes, its header, when it arrived, its operations' results so far, and for an update from inside the
node the descriptor's place and sync counter (R320). -/
structure Update where
  dest : MsgDest
  header : Bytes
  arrived : Nat
  results : List (Option OpResult)
  intake : Option (Nat × Nat × Nat × Nat)
  rflags : Nat
  hint : Nat
deriving DecidableEq, Repr

/-- A merge or move to another stack, triggered or running (R237, R250): destination stack, urgency, order of trigger, the slot that awaits it, when running
the new image's address and snapshot milepost, and the LTC since which it holds the operations on its list (R238). -/
structure ListMerge where
  table : Nat
  list : Nat
  stack : Option Nat
  urgent : Bool
  order : Nat
  slot : Option Nat
  running : Option (Nat × Nat)
  held : Option Nat
deriving DecidableEq, Repr

/-- Phases of a move between seats that its commands see (Table 6.7); one that is closed is over at this seat, and its ABORT awaits its acknowledgement. -/
inductive ShufPhase where
  | copy | handover | aborting | closed
deriving DecidableEq, Repr

/-- A message not yet acknowledged, sent again until it is (R257), and when it was sent last. -/
structure ShufUnacked where
  seq : Nat
  msg : ShuffleMsg
  sent : Nat
deriving DecidableEq, Repr

/-- A move or split between seats (R252 to R258). At the destination `items` are the entries of the image under construction with the rows
allocated for them, and `committed` is M_d; `addr` is the place taken for the image that the commit writes. -/
structure ListMove where
  table : Nat
  list : Nat
  seat : Nat
  dest : Bool
  split : Option (Nat × Bool)
  phase : ShufPhase
  snapshot : Nat
  slot : Option Nat
  nextSeq : Nat
  unacked : List ShufUnacked
  seen : List Nat
  items : List (MoveItem × Nat)
  addr : Nat
  committed : Option Nat
deriving DecidableEq, Repr

/-- The catalogue and commit units. `pool` holds the bytes taken at an address of stacked memory by list images and logs; hot lists are keyed by
quadrant, the counts of the running window by (quadrant, 2^24 x table + list). -/
structure IdxSt where
  tables : Tbl IdxTable
  pool : Tbl Nat
  upds : Tbl Update
  nextUpd : Nat
  merges : List ListMerge
  nextOrder : Nat
  moves : Tbl ListMove
  nextMove : Nat
  hotNow : Tbl (Tbl Nat)
  hotLast : Tbl (List (Nat × Nat))
  hotStart : Tbl Nat
deriving DecidableEq, Repr

/-- A candidate (R194): key, distance, row, the die that computed the distance, wayside flag, and its input number. -/
structure Cand where
  key : W64
  dist : W32
  row : Nat
  die : Nat
  way : Bool
  seq : Nat
deriving DecidableEq, Repr

/-- A pair on its way to a Trick Former: quadrant, list and image address (R164). -/
structure PairTo where
  quadrant : Nat
  list : Nat
  addr : Nat
deriving DecidableEq, Repr

/-- Where a query stands (Table 4.1). -/
inductive QPhase where
  | queued | batched | probing | probed | scanning | exact | rerank | scored
deriving DecidableEq, Repr

/-- An entry being reranked (R178, R180): waiting for its vector, with its vector, or keeping its code distance. -/
inductive Fetch where
  | waiting
  | vector (bytes : Bytes)
  | none_
deriving DecidableEq, Repr

/-- A query that holds a query number (R146, R156): its header and vector bytes, filter program, requester, acceptance, deadline, hands, select unit,
pin, probe distances, ranked lists, stage, and its hands of the pool, `handAt`, with its staging buffer (R194 to R198). `flushAt` is the SCLK cycle of its last
flush, `inForce` the threshold that scans see, and `before` the cycle in which that changed and the threshold before it; an inbox entry carries the SCLK cycle
and engine that presented it (R195). -/
structure Query where
  dest : MsgDest
  header : Bytes
  vector : Bytes
  filter : Bytes
  accept : Nat
  deadline : Nat
  hands : Nat
  handAt : List Nat
  su : Nat
  phase : QPhase
  pin : Nat
  gen : TableGen
  ranks : List Nat
  used : Nat
  stages : Nat
  probe : List W32
  pairsTo : List PairTo
  pairsOpen : Nat
  widened : Bool
  inbox : List (Nat × Nat × Cand)
  entries : List Cand
  t : Nat
  inForce : Nat
  flushAt : Nat
  before : Nat × Nat
  tieDrop : Nat
  staging : List Cand
  oldest : Nat
  nextSeq : Nat
  dups : Nat
  nans : Nat
  partialRerank : Bool
  rerank : List (Cand × Fetch)
  ordered : List (Cand × Bool)
  cursor : Nat
deriving DecidableEq, Repr

/-- An open or launched trick (R165): members with the SCLK cycle in which they joined, the wayside COUNT read at launch (R173), and the scan engine that a
relaunch avoids (R175). A member whose query ended after the launch stands as query number 16,384, and `gone` holds that query by its place: its scan finishes
and the results are discarded (R185). -/
structure Trick where
  table : Nat
  list : Nat
  addr : Nat
  members : List (Nat × Nat)
  deadline : Nat
  count : Nat
  relaunch : Bool
  avoid : Option Nat
  gone : Tbl Query
deriving DecidableEq, Repr

/-- A Trick Former (R165 to R169): open tricks by list-table entry, the launch queue in order, pairs waiting at the input, tricks that met a launch
condition while the queue was full (entry, cause), held relaunches, the SCLK cycle and query of the last pair that opened a trick and of the last that filled one
(R168), and its counters. -/
structure TrickFormer where
  opens : Tbl Trick
  queue : List Trick
  input : List (Nat × PairTo)
  due : List (Nat × Nat)
  held : List Trick
  opener : Nat × Nat
  filler : Nat × Nat
  lqFull : W32
  full : W32
  byDeadline : W32
  idle : W32
  evict : W32
  members : W64
deriving DecidableEq, Repr

/-- A scan engine at work: its trick, the next strip, and whether the wayside list is done. -/
structure ScanRun where
  trick : Trick
  strip : Nat
  wayDone : Bool
deriving DecidableEq, Repr

/-- A probe batch (R161): its queries with the LTC at which each joined. -/
structure Batch where
  table : Nat
  members : List (Nat × Nat)
  lastJoin : Nat
  launched : Bool
deriving DecidableEq, Repr

/-- The query path: queries by number, admission queues by 8 x tenant + queue, probe batches, Trick Formers by quadrant, scan engines by number, and
the select unit whose turn is next (R156). -/
structure QrySt where
  queries : Tbl Query
  queues : Tbl (List Nat)
  /-- By queue: the LTC value at which its head reached the head (R467). -/
  headAt : Tbl Nat
  /-- By quadrant: the tenant whose query its admission unit released last (R457). -/
  turns : Tbl Nat
  batches : Tbl Batch
  nextBatch : Nat
  formers : Tbl TrickFormer
  engines : Tbl ScanRun
  nextSu : Nat
deriving DecidableEq, Repr

end Sys2Proof.Machine
end

