-- ==== Sys2Proof/Machine/TypesEng.lean ====
section
/-! DEFINITION. The parts of the state that belong to the compute dies' engines and to gather engines (chapters Matrix Engines, Number
Formats and Scaling, Gather Engines). -/

namespace Sys2Proof.Machine

/-- A posted command: its 64 bytes, the sequencer that posted it (8 x die + local) and that sequencer's owner then (R279, R281). -/
structure EngCmd where
  bytes : Bytes
  sq : Nat
  owner : Owner
deriving DecidableEq, Repr

/-- What a started command holds until it completes (R282). -/
inductive EngRes where
  | shadow | array (bank : Nat) | drain (bank : Nat) | whole | nothing
deriving DecidableEq, Repr

/-- A started command with the status it completes with; `refused` marks one that fails its checks (R284). -/
structure EngRun where
  cmd : EngCmd
  status : Nat
  refused : Bool
  res : EngRes
deriving DecidableEq, Repr

/-- A weight tile in the cells: shape mode, format, zero point, whether its sums came with it, and the tile's bytes (R269, R275, R276). -/
structure WTile where
  mode : Nat
  fmt : Nat
  zw : Int
  sums : Bool
  bytes : Bytes
deriving DecidableEq, Repr

/-- An accumulator bank: the mode and type recorded by the last CLEAR, and its words by 131,072-word address, m x W + n (R267, R286);
an unlisted word is 0. -/
structure Bank where
  recorded : Option (Nat × Bool)
  words : Tbl W32
deriving DecidableEq, Repr

/-- A completion record that waits for room in its sequencer's queue, with the time the hold began (R285). -/
structure HeldRecord where
  sq : Nat
  record : Bytes
  since : Nat
deriving DecidableEq, Repr

/-- A matrix engine, vector unit, skew DMA engine or gather engine: its owner, queued and started commands, stalled posts, held records in order,
when its front command became ready but for its wait, its generator (R307), and the owner it is being cleared for (R292). Tiles and
banks belong to matrix engines. -/
structure Engine where
  owner : Owner
  queue : List EngCmd
  stalled : List EngCmd
  running : List EngRun
  held : List HeldRecord
  ready : Option Nat
  rng : W64
  clearing : Option Owner
  last : Nat
  shadow : Option WTile
  active : Option WTile
  banks : List Bank
deriving DecidableEq, Repr

/-- A sequencer core (R289 to R291): CD_SQ_STATE, owner, the bytes of its instruction SRAM, its data SRAM, completion queue, oldest record first, and its RV64GC
core. -/
structure SeqCore where
  state : Nat
  owner : Owner
  program : Bytes
  data : Mem
  cq : List Bytes
  cpu : RvCore
deriving DecidableEq, Repr

/-- The engines, keyed 128 x class + global number (ME 0, VU 1, SK 2, GE 3), the sequencers, keyed 8 x die + local, and the draw that seeded the units'
generators at start (R307). -/
structure EngSt where
  units : Tbl Engine
  seqs : Tbl SeqCore
  born : Nat
deriving DecidableEq, Repr

/-- An embedding table (R348): state 1 LIVE, 2 DROPPING; its descriptor, milepost and drop counters. `dropSlot` is the slot of its EMB_DROP. -/
structure EmbTable where
  state : Nat
  rowBytes : Nat
  shardBits : Nat
  rows : Nat
  pdRows : Nat
  pdSpare : Nat
  milepost : Nat
  dropRange : W32
  dropMissing : W32
  moved : W32
  faulted : W32
  dropSlot : Option Nat
  /-- The SCLK cycle of the last commit, and the milepost before it (R133, R365). -/
  before : Option (Nat × Nat)
deriving DecidableEq, Repr

/-- The milepost that a command pins when it starts in an SCLK cycle: that before a commit of the same cycle (R365). -/
def EmbTable.pinAt (t : EmbTable) (cycle : Nat) : Nat :=
  match t.before with
  | some b => if b.1 = cycle then b.2 else t.milepost
  | none => t.milepost

/-- Where a relocated row is (R364). -/
inductive RelocKind where
  | hot (slot : Nat)
  | away (seat : Nat)
  | guest (slot : Nat)
  /-- The row is back at its base location (R368); kept for commands pinned before. -/
  | base
deriving DecidableEq, Repr

/-- A relocation entry with the milepost it was committed at, and what stood before it for commands pinned below (R365, R368). -/
structure Reloc where
  table : Nat
  row : Nat
  kind : RelocKind
  milepost : Nat
  prior : Option RelocKind
deriving DecidableEq, Repr

/-- A SCATTER write held by a row move (R365, R366): engine, position, row, bytes and when the hold began. -/
structure HeldWrite where
  ge : Nat
  pos : Nat
  row : Nat
  bytes : Bytes
  since : Nat
deriving DecidableEq, Repr

/-- A row's write to flash that waits for a free page (R351, R387): its place, its bytes, and the position of the SCATTER that it completes. -/
structure RowWait where
  ge : Nat
  pos : Nat
  table : Nat
  row : Nat
  kind : Option RelocKind
  bytes : Bytes
deriving DecidableEq, Repr

/-- A row move in progress (R364 to R368): to a stack (spare slots by row) or to or from another seat. -/
structure RowMove where
  table : Nat
  rows : List Nat
  /-- Destination seat; none for ROW_MOVE_STACK. -/
  seat : Option Nat
  /-- This node is the destination; the seat is then the source. -/
  dest : Bool
  phase : ShufPhase
  slots : List Nat
  cmdSlot : Option Nat
  holding : Bool
  /-- The SCLK cycle in which the hold began (R366). -/
  holdAt : Nat
  held : List HeldWrite
  nextSeq : Nat
  unacked : List ShufUnacked
  committed : Option Nat
  seen : List Nat
  /-- At a destination that has committed: its own rows that have come home, each with the seat that the table had them AWAY at (R257, R368). -/
  came : List (Nat × Nat)
deriving DecidableEq, Repr

/-- A row read that a gather has outstanding: its row, where it is read, and the positions it serves (R358, R359). -/
structure RowRead where
  id : Nat
  row : Nat
  kind : Option RelocKind
  positions : List Nat
  /-- A parity error in the request table had it issued once more (R507). -/
  reissued : Bool
deriving DecidableEq, Repr

/-- A GATHER or SCATTER that a ROW_GET or ROW_PUT asked for (R422): who asked, its TAG, the indices and rows it carried, and the rows delivered so far. -/
structure RemoteRows where
  dest : W32
  tag : Nat
  indices : Bytes
  rows : Bytes
  data : Tbl Bytes
deriving DecidableEq, Repr

/-- A running GATHER or SCATTER (R352 to R361): parameters, pin, the outcome codes given so far and the reads outstanding. -/
structure GatherRun where
  scatter : Bool
  cmd : EngCmd
  table : Nat
  count : Nat
  stride : Nat
  idx64 : Bool
  pin : Nat
  next : Nat
  codes : Tbl Nat
  reads : List RowRead
  coalesced : Nat
  remote : Option RemoteRows
deriving DecidableEq, Repr

/-- A hot-row entry (R363). -/
structure HotRow where
  table : Nat
  row : Nat
  count : Nat
deriving DecidableEq, Repr

/-- Gather engines and embedding tables (R348 to R370). Runs are keyed by engine, 0 to 15; those asked for through the fabric from 16 up. Shard counts are keyed 65,536 x table + shard: the running window and the last
closed one, reads and writes; per-owner counters by owner key: range, missing, moved, fault; `samples` counts issued reads by engine. -/
structure EmbSt where
  tables : Tbl EmbTable
  relocs : List Reloc
  moves : Tbl RowMove
  runs : Tbl GatherRun
  nextRead : Nat
  shardNow : Tbl (Nat × Nat)
  shardLast : Tbl (Nat × Nat)
  hotNow : Tbl (List HotRow)
  hotLast : Tbl (List HotRow)
  owners : Tbl (List Nat)
  windowStart : Nat
  samples : Tbl Nat
  waiting : List RowWait
deriving DecidableEq, Repr

end Sys2Proof.Machine
end

