-- ==== Sys2Proof/Machine/TypesKv.lean ====
section
/-! DEFINITION. Prefix trees (chapter Models Near the Data, R334 to R342): what the KV service keeps beside the node records, which stand in the
bytes of the tree region. -/

namespace Sys2Proof.Machine

/-- A prefix tree: its spill region's handle, its tree region's handle, capacity, layers and KV pages' parts; the node indices in use, the
ring served next, the entries each ring held when it was last examined (R337), and the slot of a TREE_FREE that waits (R342). -/
structure KvTree where
  spill : Nat
  handle : Nat
  cap : Nat
  layers : Nat
  parts : Nat
  live : List Nat
  next : Nat
  seen : List Nat
  freeSlot : Option Nat
deriving DecidableEq, Repr

end Sys2Proof.Machine
end

