-- ==== Sys2Proof/Machine/TypesLend.lean ====
section
/-! DEFINITION. The part of the state that belongs to lending (R479 to R506): compositions, what they push, detour logs, and keeps. -/

namespace Sys2Proof.Machine

/-- An item pushed (R489, R490, R493): an object, or with `stepRec` a STEP record, whose `bytes` then counts the objects of its step. Its copy lies at
`place` of the push buffer (or of the keep's descriptor in a restore) until its acknowledgement releases the shadow. `offered` is the ownership number
of the last offer, 0 before the first; `sent` its time; `again` the re-pushes in a row; `logged`: its record stands in the detour log. -/
structure PushItem where
  stepRec : Bool
  object : Nat
  step : Nat
  place : Nat
  bytes : Nat
  check : Nat
  offered : Nat
  sent : Nat
  again : Nat
  acked : Bool
  logged : Bool
deriving DecidableEq, Repr

/-- A record of the detour log (R497): its descriptor, where it lies, how many bytes it takes, and its item. -/
structure LogRec where
  pd : Nat
  place : Nat
  size : Nat
  stepRec : Bool
  object : Nat
  step : Nat
  own : Nat
  bytes : Nat
deriving DecidableEq, Repr

/-- A composition (R479 to R504). `state` codes as LEND_C_STATE; KEEPER, LOSE_STEPS and PD_DETOUR in force since the last STEP_BEGIN (R484); `formed` once
its first STEP_BEGIN was taken; `openStep` between STEP_BEGIN and STEP_END, with the objects pushed; `waiting` since when a STEP_BEGIN waits; the slot of
a FORM, CHANGE or RECLAIM that waits; `resuming` once a PROBE was answered during a detour; when a reclaim began and its deadline D; links that went down (R503). -/
structure Comp where
  desc : Bytes
  state : Nat
  reason : Nat
  region : Nat
  changes : Nat
  keeper : W32
  lose : Nat
  pdDetour : Nat
  begun : Nat
  formed : Bool
  openStep : Bool
  objects : List Nat
  waiting : Option Nat
  items : List PushItem
  secKeeper : Nat
  secLocal : Nat
  ownSeq : Nat
  detour : Bool
  resuming : Bool
  log : List LogRec
  logSeq : Nat
  logAt : Nat
  probed : Nat
  slot : Option Nat
  reclaimFrom : Nat
  deadline : Nat
  closed : Bool
  linksDown : List Nat
  pushBytes : W64
  repush : W32
  gateStall : W32
  detours : W32
  ackStale : W32
  reclaimLtc : Nat
deriving DecidableEq, Repr

/-- An open keep (R492): its record, its secured step, and the bytes of each object's fragments that have come so far. -/
structure Keep where
  pusher : W32
  comp : Nat
  pd : Nat
  objects : Nat
  slotBytes : Nat
  secured : Nat
  partials : Tbl Bytes
deriving DecidableEq, Repr

/-- A restore under way (R492): the keep, the endpoint it pushes to, what is left to push, and the next ownership number. -/
structure Restore where
  keep : Nat
  comp : Nat
  dest : W32
  items : List PushItem
  ownSeq : Nat
  secured : Nat
deriving DecidableEq, Repr

/-- Compositions by ID, keeps by number, and restores. -/
structure LendSt where
  comps : Tbl Comp
  keeps : Tbl Keep
  restores : List Restore
deriving DecidableEq, Repr

end Sys2Proof.Machine
end

