-- ==== Sys2Proof/Machine/TypesLink.lean ====
section
/-! DEFINITION. The part of the state that belongs to the Skeldel links (R409 to R433, R628): ports, credits, replay, packets, reassembly, receive
windows. -/

namespace Sys2Proof.Machine

/-- What a partner's HELLO says (Table 12.5). -/
structure Partner where
  kind : Nat
  seat : Nat
  link : Nat
  ranges : List (Nat × Nat × Nat)
  features : Nat
  credits : List Nat
  serial : Nat
  node : Nat
  ton : Nat
  helloNo : Nat
deriving DecidableEq, Repr

/-- What two hellos settle (R428): major and minor (0, 0: management-only) and features. -/
structure Settled where
  major : Nat
  minor : Nat
  features : Nat
deriving DecidableEq, Repr

/-- A data flit that waits for an ACK (R415): SEQ, its VC byte, its payload, and when it was last sent. -/
structure SentFlit where
  seq : Nat
  vc : Nat
  payload : Bytes
  sent : Nat
deriving DecidableEq, Repr

/-- A packet whose flits are being sent (R457): VC, the bytes left, whether its first flit is still to go, and whether it is on its second link. -/
structure Sending where
  vc : Nat
  bytes : Bytes
  first : Bool
  relay : Bool
deriving DecidableEq, Repr

/-- A link port. `state` is the code of Table 12.6. Credits held are by VC, general and relay; `inGen` and `inRel` are flits in the receive buffer, `owed`
credits to return by (VC, relay). `node` is the partner's node ID that an earlier hello gave. -/
structure LinkPort where
  state : Nat
  trainAt : Nat
  helloNo : Nat
  helloAt : Nat
  own : Option Settled
  partner : Option Partner
  node : Option Nat
  txSeq : Nat
  replay : List SentFlit
  resends : Nat
  credGen : List Nat
  credRel : List Nat
  rxLast : Option Nat
  asked : Bool
  inGen : List Nat
  inRel : List Nat
  owed : List (Nat × Bool × Nat)
  partials : Tbl Bytes
  arrived : List (Nat × Bytes)
  queues : Tbl (List Bytes)
  /-- By VC: the LTC value at which the packet at the head of its queue reached it (R467). -/
  headAt : Tbl Nat
  sending : Option Sending
  lastGood : Nat
  lastKa : Nat
deriving DecidableEq, Repr

/-- A segmented message under reassembly (R424). -/
structure Reasm where
  src : W32
  msgId : Nat
  typ : Nat
  segs : Nat
  next : Nat
  bytes : Bytes
  first : Nat
  link : Nat
deriving DecidableEq, Repr

/-- A receive window (R421). -/
structure Window where
  handle : Nat
  endpoint : W32
deriving DecidableEq, Repr

/-- The links: ports, messages delivered whole and not yet taken by their function, messages under reassembly, the next MSG_ID by destination, windows,
and `mute` once a store-die fault stops the node sending on the fabric (R525). -/
structure LinkSt where
  ports : Tbl LinkPort
  inbox : List Msg
  reasm : List Reasm
  msgIds : Tbl Nat
  windows : Tbl Window
  mute : Bool
deriving DecidableEq, Repr

end Sys2Proof.Machine
end

