-- ==== Sys2Proof/Machine/TypesMedia.lean ====
section
/-! DEFINITION. The parts of the state that belong to flash media (chapter Flash Media): what NAND holds, which outlives a start, and what the
media dies and front ends hold while they serve. -/

namespace Sys2Proof.Machine

/-- A journal entry (R401); a trim has no page. -/
structure JournalEntry where
  lmu : Nat
  ppa : Option Nat
  seq : Nat
deriving DecidableEq, Repr

/-- A flush record (R401): the open superblocks with the next page of each, then the next superblocks each group will take. -/
structure FlushRec where
  seq : Nat
  opens : List (Nat × Nat)
  next : List Nat
deriving DecidableEq, Repr

/-- What a programmed page carries (Table 11.2): the bytes of a data page (unlisted ones 0), the trims of a trim record page with their SEQ, the exclusive-or
of its stripe, padding, the entries or the flush record of a journal page with its place in the journal, or a map segment: its number, its capture
sequence number and the pages of its LMUs (R401). -/
inductive PageBody where
  | data (bytes : Mem)
  | trims (entries : List (Nat × Nat))
  | parity (bytes : Mem)
  | pad
  | journal (place : Nat) (entries : List JournalEntry)
  | flush (place : Nat) (record : FlushRec)
  | segment (number capture : Nat) (map : Tbl Nat)
deriving DecidableEq, Repr

/-- A programmed page with its tag (R374): LMU, SEQ, the TYPE of its body, and CHECK. `torn` marks one whose program was cut short or failed (R392, R398). -/
structure FlashPage where
  lmu : Nat
  seq : Nat
  body : PageBody
  torn : Bool
  check : W32
deriving DecidableEq, Repr

/-- An anchor (R400): the mode in force, the logical space, the superblocks of journal and map segments, and the directory of segments (their pages). -/
structure Anchor where
  seq : Nat
  mode : Nat
  logical : Nat
  system : List Nat
  segments : Tbl Nat
deriving DecidableEq, Repr

/-- What NAND holds (R371 to R374, R392, R400, R401): targets by 16 x channel + target (4,096 or 2,048 user blocks; none: absent or
unsupported by `kinds`), pages by PPA, erases of each superblock above those of FORMAT, bad blocks by PPA ÷ 1,024, the spare block that
stands for a bad member (superblock, member, block), the contents of the anchor pages, the newest first, and pages of closed stripes that recovery could
not read (R404). -/
structure NandSt where
  blocks : Tbl Nat
  kinds : Tbl Nat
  pages : Tbl FlashPage
  erases : Tbl Nat
  eraseAll : Nat
  bad : List Nat
  subst : List (Nat × Nat × Nat)
  anchors : List Anchor
  lost : List Nat
deriving DecidableEq, Repr

/-- State of a superblock that is not FREE (Table 11.4): OPEN with the next data page of its order, CLOSED, being emptied for collection, wear,
a bad member or a retired die, or being erased. -/
inductive SbState where
  | opened (next : Nat)
  | closed
  | emptying (wear : Bool)
  | erasing (wear : Bool)
  | system
  | retired
deriving DecidableEq, Repr

/-- A program under way (R387, R388): the page, where it goes, and for a data page the request it serves (id, map unit), for a trim record
the request. -/
structure Program where
  ppa : Nat
  page : FlashPage
  req : Option Nat
  trim : Bool
deriving DecidableEq, Repr

/-- A relocation under way (R380, R389). -/
structure Relocation where
  src : Nat
  dst : Nat
  page : FlashPage
  rebuild : Bool
  counted : Bool
deriving DecidableEq, Repr

/-- A plane read under way: the request and block it serves, the page and the codeword (4 KiB block) within it. -/
structure NandRead where
  req : Nat
  idx : Nat
  lmu : Nat
  ppa : Nat
  cw : Nat
deriving DecidableEq, Repr

/-- A media request in progress (Table 11.5): its ring (64 x quadrant + ring), slot of the ring, entry, domain; map units still to issue and
since when they wait; work outstanding; blocks read by index (none: unreadable); the status found so far. -/
structure MediaReq where
  ring : Nat
  slot : Nat
  entry : Bytes
  domain : Owner
  todo : List Nat
  waitSince : Option Nat
  outstanding : Nat
  done : Nat
  blocks : Tbl (Option Bytes)
  schema : Bytes
  program : Bytes
  status : Nat
deriving DecidableEq, Repr

/-- A request ring (R383): region handle, line, owner, entries accepted, entries completed ahead of the consumer index, detaching slot. -/
structure MediaRing where
  handle : Nat
  line : Nat
  domain : Owner
  accepted : Nat
  finished : List Nat
  detach : Option Nat
deriving DecidableEq, Repr

/-- Channel counters (Table 11.7). -/
structure ChanCount where
  reads : W64
  programs : W32
  erases : W32
  retries : W32
  soft : W32
  uncorr : W32
deriving DecidableEq, Repr

/-- Media in service (R381 to R408): the flash map (forward map by LMU; LMUs unmapped by a trim with its SEQ), superblocks that are not free
(keyed 2^17 x group + 2^13 x target + block), superblocks next to allocate by group (R391), plane reads by block since its erase, work
under way, rings with the one each front end served last, schemas, pending journal entries and the volume programmed since the last flush; the next page of
the system superblocks and the next place in the journal, and the directory of map segments; and the node's own writes to flash that wait for a free page: logical address and bytes, the newest first. -/
structure MediaSt where
  fwd : Tbl Nat
  trims : Tbl Nat
  sbs : Tbl SbState
  prefer : Tbl Nat
  planeReads : Tbl Nat
  eraseLtc : Tbl Nat
  nextGroup : Nat
  seq : Nat
  logical : Nat
  programs : Tbl Program
  relocs : Tbl Relocation
  reads : Tbl NandRead
  reqs : Tbl MediaReq
  nextId : Nat
  rings : Tbl MediaRing
  schemas : Tbl Bytes
  chans : Tbl ChanCount
  pendingJ : List JournalEntry
  sinceFlush : Nat
  lastFlush : Nat
  recovering : Nat
  fullScan : Bool
  enumerated : Bool
  turn : Tbl Nat
  stored : List (Nat × Bytes)
  sysAt : Nat
  journalAt : Nat
  segments : Tbl Nat
deriving DecidableEq, Repr

end Sys2Proof.Machine
end

