-- ==== Sys2Proof/Machine/TypesTon.lean ====
section
/-! DEFINITION. The part of the state that belongs to a table of nodes (R434 to R450): routing maps, the map change in progress, seats, and the
dealer's queries and updates. -/

namespace Sys2Proof.Machine

/-- A map change under R438: the new map, the seats that acknowledged it, its start, the MAP_SET slot (none: a change of the dealer's firmware), and
whether it is a takeover (R447). -/
structure MapChange where
  map : Bytes
  acks : List Nat
  start : Nat
  slot : Option Nat
  takeover : Bool
deriving DecidableEq, Repr

/-- A change that the dealer makes to its map: a link that was lost (R439), a seat declared lost (R446), or a seat that lost tables (R524). -/
inductive MapEdit where
  | loseLink (seat link : Nat)
  | loseSeat (seat : Nat)
  | loseTables (seat : Nat) (tables : List Nat)
deriving DecidableEq, Repr

/-- What the dealer holds of a seat (R446, R450, Table 12.10). -/
structure SeatRec where
  beat : Nat
  waymark : Bytes
  milepost : Nat
  wmLtc : Nat
  wmSeen : Bool
  outstanding : Nat
  sent : Nat
  missing : Nat
  latSum : Nat
  latNum : Nat
  lastSent : Nat
  lastMissing : Nat
  lastLat : Nat
  moved : W32
deriving DecidableEq, Repr

/-- A seat that a dealer's query was sent to: the share-hash ranges it was asked for, when, and its answer record once it came; `again` marks one sent
after MOVED, `dropped` one whose answer will not contribute. -/
structure Asked where
  seat : Nat
  ranges : List (Nat × Nat)
  sent : Nat
  again : Bool
  answer : Option Bytes
  dropped : Bool
deriving DecidableEq, Repr

/-- A query at its dealer (R444): the client's endpoint and descriptor, acceptance and deadline, and whether a share has no seat (R446). -/
structure DealQuery where
  client : W32
  desc : Bytes
  accept : Nat
  deadline : Nat
  asked : List Asked
  short : Bool
deriving DecidableEq, Repr

/-- A part of an update at its dealer (R445): its UPDATE_TAG, seat, the operations by their place in the client's descriptor, when it was sent, the seat's
result entries, or the status that stands for them; `moved` are operations sent again elsewhere (R256, R442). -/
structure DealPart where
  tag : Nat
  seat : Nat
  ops : List Nat
  sent : Nat
  resent : Bool
  answer : Option Bytes
  status : Option Nat
  moved : List Nat
deriving DecidableEq, Repr

/-- An update at its dealer: the client's endpoint, the descriptor's header and records. -/
structure DealUpdate where
  client : W32
  header : Bytes
  records : List Bytes
  arrived : Nat
  parts : List DealPart
deriving DecidableEq, Repr

/-- The table of nodes: maps (current, the one before, the pending one, and the parts of one that is arriving, by milepost), the change in progress and changes that wait for it, seats, the dealer's work, link events kept (R432), and at the dealer the
partner seat of each seat's link, keyed 128 x seat + link. -/
structure TonSt where
  cur : Option Bytes
  installed : Nat
  prev : Option Bytes
  held : Option Bytes
  parts : Option (Nat × Bytes)
  change : Option MapChange
  edits : List MapEdit
  seats : Tbl SeatRec
  window : Nat
  beatSent : Nat
  dealerBeat : Nat
  wmSent : Nat
  wmMilepost : Nat
  queries : Tbl DealQuery
  updates : Tbl DealUpdate
  nextTag : Nat
  events : List LinkEventRec
  wires : Tbl Nat
deriving DecidableEq, Repr

end Sys2Proof.Machine
end

