-- ==== Sys2Proof/Machine/State.lean ====
section
/-! DEFINITION. The whole state of the node, the reasons a step could stop, the state after reset, and the parts of the state by which
a meaning says what it may change. -/

namespace Sys2Proof.Machine

/-- The state: one field a unit of the node, the values of BAR0 registers by block, the outputs made (newest first), the counter that
free values are drawn by (the model's own field), and the commands that wait, first in, first out. -/
structure State where
  /-- Clocks, power, cooling and pins. -/
  clk : ClkSt
  /-- Start phases, configuration flash and staging. -/
  start : StartSt
  /-- Identity records. -/
  ident : IdentSt
  /-- Configuration, its report, milepost and waymark. -/
  cfg : CfgSt
  /-- PCIe function, mailboxes, control cores, transfer slots. -/
  host : HostSt
  /-- Register values of BAR0. -/
  regs : RegFile
  /-- Command slots at work. -/
  slots : SlotSt
  /-- The Kitty transport. -/
  xp : XpSt
  /-- Units, regions, pages and bank arbiters of the Kitty. -/
  kitty : KittySt
  /-- Line accesses of units that wait at the banks, oldest first (R74). -/
  bus : List BusUse
  /-- The bytes of the Kitty: unit x 2 MiB + byte (R54, R62). -/
  kmem : Mem
  /-- The bytes of stacked memory, by STACK_ADDR (Table 2.5). -/
  smem : Mem
  /-- Tile queues. -/
  tiles : TileSt
  /-- Placement descriptors by number (R321). -/
  pds : Tbl PlaceDesc
  /-- Quotas. -/
  quota : QuotaSt
  /-- Scheduling points: link l under l, tenant t under 4,096 + t (R454). -/
  sched : Tbl PointSt
  /-- Index tables, updates, merges and moves. -/
  idx : IdxSt
  /-- Queries, tricks and scan engines. -/
  qry : QrySt
  /-- Skeldel links: ports, packets, windows (R409 to R433). -/
  link : LinkSt
  /-- Table of nodes: routing maps, seats, and the work of a dealer. -/
  ton : TonSt
  /-- Matrix engines, vector units, skew DMA and gather engines, and sequencers. -/
  eng : EngSt
  /-- Prefix trees by spill region number (R334). -/
  kv : Tbl KvTree
  /-- Embedding tables, their rows' moves and load counts. -/
  emb : EmbSt
  /-- What NAND holds. -/
  nand : NandSt
  /-- Compositions, keeps and restores (R479 to R504). -/
  lend : LendSt
  /-- Media in service: flash map, requests, rings. -/
  med : MediaSt
  /-- Messages that units have handed to the link dies, oldest first. -/
  post : List OutMsg
  /-- Fault log, counters, spares, retirements and drills. -/
  flt : FltSt
  /-- Outputs made, newest first. -/
  out : List Output
  /-- Free values drawn so far (the model's own field, log 3). -/
  free : Nat
  /-- Commands that wait; `step` takes the front. -/
  pending : List Instr
deriving DecidableEq, Repr

/-- Reasons to stop with a fault. No meaning of this model raises one: each constructor stands for a stop the manual would have to name.
  `none` is raised by nothing (safe). -/
inductive Fault where
  /-- Raised by no command. Safe. -/
  | unreachable
deriving DecidableEq, Repr

/-- Reasons to refuse a command. -/
inductive Refusal where
  /-- A command whose meaning is not written, by its mnemonic. Safe. -/
  | notModelled (mnemonic : String)
deriving DecidableEq, Repr

/-- The parts of the state a meaning may change; the registers count as one part a block. -/
inductive Part where
  | clk | start | ident | cfg | host | slots | xp | kitty | bus | kmem | smem | tiles | pds | quota | sched | idx | qry | link | ton | eng | kv | emb | nand | lend | med | post | flt | out | free
  | reg (b : Block)
deriving DecidableEq, Repr

/-- The registers of `t` in the listed blocks, of `s` elsewhere. -/
def RegFile.adopt (ps : List Part) (s t : RegFile) : RegFile where
  node := if .reg .node ∈ ps then t.node else s.node
  mbx := if .reg .mbx ∈ ps then t.mbx else s.mbx
  cfg := if .reg .cfg ∈ ps then t.cfg else s.cfg
  clk := if .reg .clk ∈ ps then t.clk else s.clk
  flt := if .reg .flt ∈ ps then t.flt else s.flt
  kitty := if .reg .kitty ∈ ps then t.kitty else s.kitty
  qry := if .reg .qry ∈ ps then t.qry else s.qry
  idx := if .reg .idx ∈ ps then t.idx else s.idx
  cd := if .reg .cd ∈ ps then t.cd else s.cd
  media := if .reg .media ∈ ps then t.media else s.media
  link := if .reg .link ∈ ps then t.link else s.link
  sched := if .reg .sched ∈ ps then t.sched else s.sched
  lend := if .reg .lend ∈ ps then t.lend else s.lend
  stack := if .reg .stack ∈ ps then t.stack else s.stack

/-- The state `s` with the listed parts taken from `t`: every meaning ends so, and changes nothing outside its parts. -/
def State.adopt (ps : List Part) (s t : State) : State where
  clk := if .clk ∈ ps then t.clk else s.clk
  start := if .start ∈ ps then t.start else s.start
  ident := if .ident ∈ ps then t.ident else s.ident
  cfg := if .cfg ∈ ps then t.cfg else s.cfg
  host := if .host ∈ ps then t.host else s.host
  slots := if .slots ∈ ps then t.slots else s.slots
  xp := if .xp ∈ ps then t.xp else s.xp
  kitty := if .kitty ∈ ps then t.kitty else s.kitty
  bus := if .bus ∈ ps then t.bus else s.bus
  kmem := if .kmem ∈ ps then t.kmem else s.kmem
  smem := if .smem ∈ ps then t.smem else s.smem
  tiles := if .tiles ∈ ps then t.tiles else s.tiles
  pds := if .pds ∈ ps then t.pds else s.pds
  quota := if .quota ∈ ps then t.quota else s.quota
  sched := if .sched ∈ ps then t.sched else s.sched
  idx := if .idx ∈ ps then t.idx else s.idx
  qry := if .qry ∈ ps then t.qry else s.qry
  link := if .link ∈ ps then t.link else s.link
  ton := if .ton ∈ ps then t.ton else s.ton
  eng := if .eng ∈ ps then t.eng else s.eng
  kv := if .kv ∈ ps then t.kv else s.kv
  emb := if .emb ∈ ps then t.emb else s.emb
  nand := if .nand ∈ ps then t.nand else s.nand
  lend := if .lend ∈ ps then t.lend else s.lend
  med := if .med ∈ ps then t.med else s.med
  post := if .post ∈ ps then t.post else s.post
  flt := if .flt ∈ ps then t.flt else s.flt
  out := if .out ∈ ps then t.out else s.out
  free := if .free ∈ ps then t.free else s.free
  regs := RegFile.adopt ps s.regs t.regs
  pending := s.pending

/-- Every register at its reset value (R608). -/
def regsReset : RegFile := ⟨[], [], [], [], [], [], [], [], [], [], [], [], [], []⟩

/-- Clocks at reset: POR_N held, nothing running, LTC 0 (R468, R614), D = 16 (Table 18.10); the open inputs at their pulled-up
level (Table 18.9). Which supplies and clocks are present is the integrator's: none yet (log 2). -/
def clkReset : ClkSt where
  ltc := 0
  sub := 0
  ticking := false
  pwrok := false
  porN := false
  refclk := false
  pllLocked := false
  throttleN := true
  flowOk := true
  thermtripN := true
  workStopped := false
  sensors := []
  duty := List.replicate 8 16
  coolRun := List.replicate 8 0
  hot105 := []
  hot110 := []
  halfRate := []
  power := []
  railFault := false

/-- A copy not yet tried (Table 16.6, reason 1). -/
def copyReset : CopyRec := ⟨0, false, 1, 0, false⟩

/-- Phase RESET, no copy tried, configuration flash blank (log 2: the manual gives its contents to the integrator). -/
def startReset : StartSt where
  phase := .reset
  phaseLtc := 0
  loadLtc := 0
  flashA := []
  flashB := []
  capacity := 0x4000000
  copyA := copyReset
  copyB := copyReset
  attempts := 0
  trying := none
  accepted := none
  fwVersion := 0
  seqVersion := 0
  imageSeq := 0
  imageDigest := []
  releaseDigest := []
  ownerKey := []
  certs := []
  stewards := []
  lead := 0
  restarting := false
  stageOwner := none
  stageTarget := false
  stageStatus := 0
  stageBlocks := []
  sram := []

/-- One-time storage: blank until a factory has written it (log 2). -/
def identReset : IdentSt where
  dieRecords := []
  packages := []
  puf := []
  packageInUse := []
  mismatch := false
  certMismatch := []
  romVersion := 0
  recordsRead := false

/-- No configuration read: milepost and waymark 0 (R607). -/
def cfgReset : CfgSt where
  fields := []
  tenantTables := []
  deny := []
  entries := []
  entriesLost := 0
  records := 0
  rptLtc := 0
  milepost := 0
  waymark := List.replicate 64 0
  accepted := 0
  acceptLtc := 0

/-- No core live, every mailbox empty, MSI-X disabled as PCI Express resets it (log 4). -/
def hostReset : HostSt where
  boxes := []
  cores := []
  service := 0
  serviceLive := false
  slotCores := [1, 9, 17, 25]
  blockWait := []
  held := []
  xfer := []
  xferEpoch := 0
  msixEnable := false
  funcMask := false
  busMaster := false
  pba := []
  pcie := ⟨false, 0, 0, false⟩
  cfgLatch := []
  latch := []
  setNow := []

/-- The default drill schedule (R532): points 0 to 199, every 6,000,000,000 LTC units. -/
def defaultDrills : List DrillEntry := [⟨0, 199, true, 6000000000, 0, 0⟩]

/-- An empty fault log, whose next record is number 1 (Table 15.2). -/
def fltReset : FltSt where
  log := []
  nextSeq := 1
  counters := []
  lastEvent := []
  retired := []
  degraded := []
  spareOf := []
  sparesUsed := []
  noSpare := []
  copying := []
  due := []
  recovering := []
  schedule := defaultDrills
  acceptLtc := 0
  queue := []
  running := none
  points := []
  unrecovered := false
  heartbeats := []
  stopped := false
  lastLeak := 0

/-- No NAND enumerated, nothing mapped. -/
def medReset : MediaSt where
  fwd := []
  trims := []
  sbs := []
  prefer := []
  planeReads := []
  eraseLtc := []
  nextGroup := 0
  seq := 0
  logical := 0
  programs := []
  relocs := []
  reads := []
  reqs := []
  nextId := 0
  rings := []
  schemas := []
  chans := []
  pendingJ := []
  sinceFlush := 0
  lastFlush := 0
  recovering := 0
  fullScan := false
  enumerated := false
  turn := []
  stored := []
  sysAt := 0
  journalAt := 0
  segments := []

/-- The machine right after reset: power applied, POR_N held (phase RESET), every register at its reset value. -/
def State.reset : State where
  clk := clkReset
  start := startReset
  ident := identReset
  cfg := cfgReset
  host := hostReset
  regs := regsReset
  slots := ⟨[], [], []⟩
  xp := ⟨[], [], 0, [], [], []⟩
  kitty := ⟨[], [], [], [], [], 0, [], [], []⟩
  bus := []
  kmem := []
  smem := []
  tiles := ⟨[], 0, []⟩
  pds := []
  quota := ⟨[], [], []⟩
  sched := []
  idx := ⟨[], [], [], 0, [], 0, [], 0, [], [], []⟩
  qry := ⟨[], [], [], [], [], 0, [], [], 0⟩
  link := ⟨[], [], [], [], [], false⟩
  ton := ⟨none, 0, none, none, none, none, [], [], 0, 0, 0, 0, 0, [], [], 1, [], []⟩
  eng := ⟨[], [], 0⟩
  kv := []
  emb := ⟨[], [], [], [], 0, [], [], [], [], [], 0, [], []⟩
  nand := ⟨[], [], [], [], 0, [], [], [], []⟩
  lend := ⟨[], [], []⟩
  med := medReset
  post := []
  flt := fltReset
  out := []
  free := 0
  pending := []

end Sys2Proof.Machine
end

