-- ==== Sys2Proof/Machine/Ops.lean ====
section
/-! DEFINITION. The operations every unit shares: status codes, owners, registers and counters, interrupts, the fault log, quotas,
placement, regions and their bytes, stacked memory, and command slots. -/

namespace Sys2Proof.Machine

/-! Status codes (Table 0.5). -/
namespace St
abbrev ok : Nat := 0
abbrev short : Nat := 1
abbrev length : Nat := 2
abbrev range : Nat := 3
abbrev moved : Nat := 4
abbrev aborted : Nat := 5
abbrev quota : Nat := 6
abbrev stale : Nat := 7
abbrev timeout : Nat := 8
abbrev notOwner : Nat := 9
abbrev version : Nat := 10
abbrev fault : Nat := 11
abbrev busy : Nat := 12
abbrev denied : Nat := 13
end St

/-- The order in which failing checks are reported (R21). -/
def r21Order : List Nat :=
  [St.denied, St.version, St.length, St.range, St.notOwner, St.moved, St.stale, St.quota, St.busy]

/-- The status of the first failing check in the order of R21; OK where none fails. -/
def r21 (checks : List (Bool × Nat)) : Nat :=
  (r21Order.find? fun st => checks.any fun c => c.1 && c.2 == st).getD St.ok

/-! ## Owners (R60) -/

/-- An owner as a register or descriptor field: [31:30] type, [15:0] ID. -/
def ownerKey : Owner → Nat
  | .system => 0
  | .tenant i => 0x40000000 + i
  | .comp i => 0x80000000 + i

/-- The owner a register or descriptor field names; type 3 names none (R65). -/
def ownerOf (n : Nat) : Option Owner :=
  match bitsOf n 31 30 with
  | 0 => some .system
  | 1 => some (.tenant (bitsOf n 15 0))
  | 2 => some (.comp (bitsOf n 15 0))
  | _ => none

/-- A port's domain may reach an owner's region (R60). -/
def mayReach (domain owner : Owner) : Bool := domain == owner || domain == .system

/-! ## Time (R15) -/

/-- The LTC as a number. -/
def State.now (s : State) : Nat := s.clk.ltc.toNat

/-- An expiry at LTC value D is taken once the value D has ended, so that every arrival on D comes first (R17). -/
def State.past (s : State) (deadline : Nat) : Bool := decide (deadline < s.now)

/-- The number of the current SCLK cycle: 18 an LTC unit (R617). -/
def State.cycle (s : State) : Nat := 18 * s.now + s.clk.sub

/-- RUNNING: the phase in which units and blocks serve (R545, R579). -/
def State.isRunning (s : State) : Bool := s.start.phase == .running && !s.flt.stopped && !s.clk.workStopped

/-! ## Registers (R8 to R12, R608) -/

/-- Where an offset lies in a repeated register: its distance from the first instance is a sum of strides within the counts. -/
def dimsCover : List (Nat × Nat) → Nat → Bool
  | [], r => r == 0
  | (stride, count) :: rest, r => decide (r / stride < count) && dimsCover rest (r % stride)

/-- The row of the register tables that an offset belongs to. -/
def regDef (off : Nat) : Option RegDef :=
  match blockOf off with
  | some b => b.defs.find? fun d => decide (d.base ≤ off) && dimsCover d.dims (off - d.base)
  | none => none

/-- Default THRESHOLD of a fault class (Table 15.3); 0 for a class without a counter. -/
def defaultThreshold (c : Nat) : Nat :=
  [16, 256, 64, 0, 4, 4, 4, 4, 4, 4, 16, 0, 16, 3, 1024, 32, 0].getD c 0

/-- Default WINDOW of a fault class (Table 15.3). -/
def defaultWindow (c : Nat) : Nat :=
  [6000000000, 100000000, 6000000000, 0, 100000000, 100000000, 100000000, 100000000, 100000000, 100000000, 6000000000, 0,
   6000000000, 6000000000, 100000000, 6000000000, 0].getD c 0

/-- Reset value of a register, with the rows whose instances differ (CD_DIE, LINK_VER_RANGE, FLT_CLS_*). -/
def resetOf (off : Nat) : W32 :=
  match regDef off with
  | none => 0
  | some d =>
    if d.base = Reg.CD_DIE then w32 ((off - d.base) / 0x80000)
    else if d.base = Reg.LINK_VER_RANGE then
      w32 ([0x00010004, 0x00020003, 0x00030002].getD ((off - d.base) / 4) 0)
    else if d.base = Reg.FLT_CLS_THRESH then w32 (defaultThreshold ((off - d.base) / 0x10))
    else if d.base = Reg.FLT_CLS_WINDOW_LO then w32 (defaultWindow ((off - d.base) / 0x10))
    else if d.base = Reg.FLT_CLS_WINDOW_HI then w32 (defaultWindow ((off - d.base) / 0x10) / 2 ^ 32)
    else w32 d.reset

/-- The values kept for a block. -/
def RegFile.table (r : RegFile) : Block → Tbl W32
  | .node => r.node | .mbx => r.mbx | .cfg => r.cfg | .clk => r.clk | .flt => r.flt | .kitty => r.kitty | .qry => r.qry
  | .idx => r.idx | .cd => r.cd | .media => r.media | .link => r.link | .sched => r.sched | .lend => r.lend | .stack => r.stack

/-- Replaces the values kept for a block. -/
def RegFile.setTable (r : RegFile) (b : Block) (t : Tbl W32) : RegFile :=
  match b with
  | .node => { r with node := t } | .mbx => { r with mbx := t } | .cfg => { r with cfg := t } | .clk => { r with clk := t }
  | .flt => { r with flt := t } | .kitty => { r with kitty := t } | .qry => { r with qry := t } | .idx => { r with idx := t }
  | .cd => { r with cd := t } | .media => { r with media := t } | .link => { r with link := t } | .sched => { r with sched := t }
  | .lend => { r with lend := t } | .stack => { r with stack := t }

/-- The stored value of a register; 0 for reserved space (R11). -/
def State.reg (s : State) (off : Nat) : W32 :=
  match blockOf off with
  | none => 0
  | some b => match (s.regs.table b).get off with
    | some v => v
    | none => resetOf off

/-- Stores a register's value; nothing where the offset is in no block. -/
def State.setReg (off : Nat) (v : W32) (s : State) : State :=
  match blockOf off with
  | none => s
  | some b => { s with regs := s.regs.setTable b ((s.regs.table b).put off v) }

/-- Stores a number in a register, its low 32 bits. -/
def State.setNat (off n : Nat) (s : State) : State := s.setReg off (w32 n)

/-- Stores a number in a LO and HI pair. -/
def State.setPair (lo n : Nat) (s : State) : State := (s.setNat lo n).setNat (lo + 4) (n / 2 ^ 32)

/-- The number a LO and HI pair holds. -/
def State.pair (s : State) (lo : Nat) : Nat := (s.reg lo).toNat + 2 ^ 32 * (s.reg (lo + 4)).toNat

/-- Adds to a 32-bit counter, saturating at all ones. -/
def State.bumpBy (off n : Nat) (s : State) : State := s.setNat off (min 0xFFFFFFFF ((s.reg off).toNat + n))
/-- Counts one event in a 32-bit counter, saturating. -/
def State.bump (off : Nat) (s : State) : State := s.bumpBy off 1
/-- Adds to a 64-bit counter in a LO and HI pair, saturating. -/
def State.bump64 (lo n : Nat) (s : State) : State := s.setPair lo (min (2 ^ 64 - 1) (s.pair lo + n))
/-- Counts in a 32-bit counter where a condition holds. -/
def State.bumpIf (c : Bool) (off : Nat) (s : State) : State := if c then s.bump off else s
/-- Adds to a saturating 64-bit count held in a structure. -/
def satAdd64 (v : W64) (n : Nat) : W64 := w64 (min (2 ^ 64 - 1) (v.toNat + n))
/-- Adds to a saturating 32-bit count held in a structure. -/
def satAdd32 (v : W32) (n : Nat) : W32 := w32 (min (2 ^ 32 - 1) (v.toNat + n))

/-- Records an output. -/
def State.emit (o : Output) (s : State) : State := { s with out := o :: s.out }

/-- Hands a message to the link dies, with a hint (R441). -/
def State.handHint (dest : MsgDest) (typ flags hint : Nat) (body : OutBody) (s : State) : State := { s with post := s.post ++ [⟨dest, typ, flags, hint, body⟩] }
/-- Hands a message to the link dies. -/
def State.hand (dest : MsgDest) (typ flags : Nat) (body : OutBody) (s : State) : State := s.handHint dest typ flags 0 body

/-! ## Interrupts (R580, R581) -/

/-- Status register, mask register and vector of an interrupt source (Table 17.2). -/
def irqSource : IrqReg → Nat × Nat × Nat
  | .nodeStatus | .nodeMask => (Reg.NODE_IRQ_STATUS, Reg.NODE_IRQ_MASK, 0)
  | .fltStatus | .fltMask => (Reg.FLT_IRQ_STATUS, Reg.FLT_IRQ_MASK, 1)
  | .clkStatus | .clkMask => (Reg.CLK_IRQ_STATUS, Reg.CLK_IRQ_MASK, 2)
  | .mbxStatus h | .mbxMask h => (Reg.MBX_H_IRQ_STATUS + 0x100 * h, Reg.MBX_H_IRQ_MASK + 0x100 * h, 4 + h)

/-- A source is asserted while its status AND its mask is not 0. -/
def State.asserted (s : State) (r : IrqReg) : Bool :=
  s.reg (irqSource r).1 &&& s.reg (irqSource r).2.1 != 0

/-- Sends the MSI-X message of a vector, or sets its Pending Bit while it is masked (R581); a function whose MSI-X or bus mastering
is off sends nothing (R576). -/
def State.sendMsix (v : Nat) (s : State) : State :=
  if !s.host.msixEnable then s
  else if s.host.funcMask || (s.reg (Reg.MSIX_CTRL + 0x10 * v)).getLsbD 0 then
    { s with host := { s.host with pba := if v ∈ s.host.pba then s.host.pba else v :: s.host.pba } }
  else if s.host.busMaster then
    s.emit (.msix v (w64 (s.pair (Reg.MSIX_ADDR_LO + 0x10 * v))) (s.reg (Reg.MSIX_DATA + 0x10 * v)))
  else s

/-- The bits of a W1C register that events have set in the current SCLK cycle (R12). -/
def State.setBits (s : State) (off : Nat) : W32 :=
  match s.host.setNow.get off with
  | some (c, b) => if c = s.cycle ∧ s.clk.ticking then b else 0
  | none => 0

/-- An event sets bits of a W1C register, which a write of 1 in the same SCLK cycle does not clear (R12). -/
def State.setOnes (off : Nat) (bits : W32) (s : State) : State :=
  { (s.setReg off (s.reg off ||| bits)) with
    host := { s.host with setNow := s.host.setNow.put off (s.cycle, s.setBits off ||| bits) } }

/-- A write to a W1C register: each 1 clears its bit, but for bits that an event set in the same SCLK cycle (R9, R12). -/
def State.clearOnes (off : Nat) (v : W32) (s : State) : State := s.setReg off (s.reg off &&& (~~~v ||| s.setBits off))

/-- Sets bits of a source's status; a message goes out where the source becomes asserted. -/
def State.raise (r : IrqReg) (bits : Nat) (s : State) : State :=
  let t := s.setOnes (irqSource r).1 (w32 bits)
  if !s.asserted r && t.asserted r then t.sendMsix (irqSource r).2.2 else t

/-- A write to a source's status (W1C) or mask; a message goes out where the write leaves it asserted. -/
def State.irqWrite (r : IrqReg) (off : Nat) (v : W32) (s : State) : State :=
  let t := s.setReg off v
  if t.asserted r then t.sendMsix (irqSource r).2.2 else t

/-! ## Fault log and counters (R507 to R513) -/

/-- Severities of Table 15.2. -/
abbrev sevCounted : Nat := 0
abbrev sevLasting : Nat := 1
abbrev sevAction : Nat := 2
abbrev sevUnrecovered : Nat := 3

/-- The catalogue of Table 15.1: class (0xFF: none) and Adds; an Adds of 65,536 stands for "at once", 0 for "—". -/
def faultRow (code : Nat) : Nat × Nat :=
  match code with
  | 0x0001 => (0, 1) | 0x0002 => (0, 65536) | 0x0003 => (0, 0) | 0x0004 => (0, 0)
  | 0x0010 => (1, 1) | 0x0011 => (1, 16) | 0x0012 => (1, 0) | 0x0013 => (1, 0) | 0x0014 => (1, 0)
  | 0x0020 => (2, 1) | 0x0021 => (2, 65536) | 0x0022 => (3, 0) | 0x0023 => (3, 0)
  | 0x0030 => (4, 1) | 0x0031 => (5, 1) | 0x0032 => (6, 1) | 0x0033 => (8, 1) | 0x0034 => (10, 1) | 0x0035 => (10, 65536)
  | 0x0036 => (0xFF, 0) | 0x0037 => (11, 65536) | 0x0038 => (11, 0) | 0x0039 => (0xFF, 0)
  | 0x0040 => (12, 1) | 0x0041 => (12, 65536) | 0x0042 => (13, 1) | 0x0043 => (13, 65536) | 0x0044 => (13, 0)
  | 0x0050 => (14, 1) | 0x0051 => (14, 128) | 0x0052 => (14, 0) | 0x0053 => (14, 65536)
  | 0x0060 => (15, 1) | 0x0061 => (15, 0) | 0x0062 => (15, 65536) | 0x0063 => (15, 0) | 0x0064 => (16, 65536)
  | 0x0065 => (15, 0) | 0x0066 => (16, 0) | 0x0080 => (0xFF, 65536)
  | _ => (0xFF, 0)

/-- Key of a class and instance. -/
def fltKey (cls inst : Nat) : Nat := cls * 2 ^ 20 + inst

/-- THRESHOLD and WINDOW of a class as applied (R513). -/
def State.fltThreshold (s : State) (c : Nat) : Nat := (s.reg (Reg.FLT_CLS_THRESH + 0x10 * c)).toNat % 65536
def State.fltWindow (s : State) (c : Nat) : Nat := s.pair (Reg.FLT_CLS_WINDOW_LO + 0x10 * c)
/-- The leak period P of a class (R511). -/
def State.leakPeriod (s : State) (c : Nat) : Nat := s.fltWindow c / s.fltThreshold c

/-- Records held that the host has not processed (FLT_LOG_READ, R535). -/
def State.unread (s : State) : Nat := (s.flt.nextSeq - 1 + 2 ^ 32 - (s.reg Reg.FLT_LOG_READ).toNat) % 2 ^ 32

/-- Writes a record to the fault log (R508, R510): the newest 1,024 stay. The log begins in LOAD (R541). -/
def State.logEvent (code sev cls inst detail : Nat) (crossed injected : Bool) (s : State) : State :=
  match s.start.phase with
  | .reset | .rom | .image => s
  | _ =>
    let r : FltRec := ⟨code, sev, injected, crossed, cls, inst, detail, s.now, s.flt.nextSeq⟩
    let full := decide (1024 ≤ s.flt.log.length)
    let log := if full then (r :: s.flt.log).take 1024 else r :: s.flt.log
    let t := { s with flt := { s.flt with log := log, nextSeq := s.flt.nextSeq + 1,
                                           unrecovered := s.flt.unrecovered || sev == sevUnrecovered } }
    let t := t.bumpIf full Reg.FLT_LOG_LOST
    let bits := (if sev = sevLasting then 1 else if sev = sevAction then 2 else if sev = sevUnrecovered then 4 else 0)
      + (if 768 < t.unread then 16 else 0)
    if bits = 0 then t else t.raise .fltStatus bits

/-- Declares an instance's fault lasting (R507, R511): counted by class, and its action falls due in this step. -/
def State.declareLasting (cls inst : Nat) (s : State) : State :=
  if (cls, inst) ∈ s.flt.retired then s
  else { (s.bump (Reg.FLT_CLS_CROSSED + 0x10 * cls)) with
         flt := { s.flt with due := s.flt.due ++ [(cls, inst)] } }

/-- An event of the catalogue on an instance of a class (R507, R511): its record, its addition to the instance's counter, and the
declaration of a lasting fault where the event says so or the counter reaches THRESHOLD. -/
def State.faultOf (code cls inst detail : Nat) (s : State) : State :=
  let adds := (faultRow code).2
  if adds = 65536 then
    (s.logEvent code (if code = 0x0080 then sevUnrecovered else sevLasting) cls inst detail false false).declareLasting cls inst
  else if adds = 0 ∨ s.fltThreshold cls = 0 ∨ cls = 0xFF then
    s.logEvent code (if adds = 0 then (if code = 0x0066 then sevUnrecovered else sevAction) else sevCounted) cls inst detail false false
  else if (cls, inst) ∈ s.flt.retired then s.logEvent code sevCounted cls inst detail false false
  else
    let k := fltKey cls inst
    let v := min (s.fltThreshold cls) (s.flt.counters.getD k 0 + adds)
    let crossed := decide (s.fltThreshold cls ≤ v)
    let t := { s with flt := { s.flt with counters := s.flt.counters.put k (if crossed then 0 else v),
                                          lastEvent := s.flt.lastEvent.put k s.now } }
    let t := t.logEvent code (if crossed then sevLasting else sevCounted) cls inst detail crossed false
    if crossed then t.declareLasting cls inst else t

/-- An event on an instance of its code's own class. -/
def State.fault (code inst detail : Nat) (s : State) : State := s.faultOf code (faultRow code).1 inst detail

/-- An outcome recorded with a severity of its own (R527). -/
def State.outcome (code sev cls inst detail : Nat) (s : State) : State := s.logEvent code sev cls inst detail false false

/-- An instance is retired (R514). -/
def State.isRetired (s : State) (cls inst : Nat) : Bool := (cls, inst) ∈ s.flt.retired

/-- The physical instance behind a global bank number (R509). -/
def State.physBank (s : State) (bank : Nat) : Nat := s.flt.spareOf.getD bank bank

/-! ## Kitty addressing (R54 to R56) -/

/-- Bytes of a unit, a page and a spill slot. -/
abbrev unitBytes : Nat := 0x200000
abbrev pageBytes : Nat := 0x10000
abbrev slotBytes : Nat := 69632

/-- The store die, bank and line within the bank of byte `b` of unit `u` (R54, R55). -/
def unitDie (u : Nat) : Nat := u / 96
def bankOf (u b : Nat) : Nat := 96 * (u / 96) + 32 * (u % 96 / 32) + b / 64 % 32
def bankLine (u b : Nat) : Nat := 1024 * (u % 32) + b / 64 / 32

/-! ## Regions (R57 to R61) -/

/-- The current region a handle names (R58, R61). -/
def State.region (s : State) (h : Nat) : Option Region :=
  match s.kitty.regions.get (h % 4096) with
  | some r => if r.gen = h / 4096 % 16 then some r else none
  | none => none

/-- The handle of a region number. -/
def Region.handle (r : Region) (n : Nat) : Nat := r.gen * 4096 + n

/-- A unit that an eviction returned, within a spill region's list (R72): it holds no frame. -/
abbrev noUnit : Nat := 4095

/-- Units a region holds. -/
def Region.unitCount (r : Region) : Nat := (r.units.filter (· != noUnit)).length

/-- Size in bytes of the addresses a region has (R59, R88). -/
def Region.size (r : Region) : Nat := if r.spill then r.units.length * 128 * pageBytes else r.units.length * unitBytes

/-- The frame that holds a page's bytes, where they are resident. -/
def PageSt.frame : PageSt → Option Nat
  | .opened f | .sealed f _ | .spilling f _ _ _ _ => some f
  | .spilled _ | .recalling _ _ => none

/-- The frame a page occupies, resident or being filled. -/
def PageSt.holds : PageSt → Option Nat
  | .recalling f _ => some f
  | p => p.frame

/-- The unit and byte of a frame's byte (R88). -/
def Region.frameAddr (r : Region) (f b : Nat) : Nat := r.units.getD (f / 32) 0 * unitBytes + f % 32 * pageBytes + b

/-- The Kitty byte address of a region offset; `none` where no byte is resident there (R59, R88). -/
def Region.addr (r : Region) (o : Nat) : Option Nat :=
  if r.spill then
    match (r.pages.get (o / pageBytes)).bind PageSt.frame with
    | some f => some (r.frameAddr f (o % pageBytes))
    | none => none
  else match r.units[o / unitBytes]? with
    | some u => some (u * unitBytes + o % unitBytes)
    | none => none

/-- Bytes of a region, 0 where none is resident. -/
def State.rgnRead (s : State) (r : Region) (off n : Nat) : Bytes :=
  (List.range n).map fun i => match r.addr (off + i) with
    | some a => Mem.read s.kmem a
    | none => 0

/-- Writes bytes of a memory through a region's map. -/
def Region.store (r : Region) : Nat → Bytes → Mem → Mem
  | _, [], m => m
  | o, b :: rest, m => Region.store r (o + 1) rest (match r.addr o with | some a => Mem.write m a b | none => m)

/-- Writes bytes of a region; bytes with no address are lost. -/
def State.rgnWrite (r : Region) (off : Nat) (b : Bytes) (s : State) : State := { s with kmem := r.store off b s.kmem }

/-- What a page of a spill region answers to an access (R89, R93): a write to a page that is not OPEN is DENIED, a read of a SPILLED page BUSY, any
access to a FREE page RANGE. -/
def pageStatus (write : Bool) : Option PageSt → Nat
  | none => St.range
  | some (.opened _) => St.ok
  | some (.sealed _ _) | some (.spilling _ _ _ _ _) => if write then St.denied else St.ok
  | some (.spilled _) | some (.recalling _ _) => if write then St.denied else St.busy

/-- The pages that `n` bytes at an offset touch. -/
def pagesOf (off n : Nat) : List Nat := (List.range ((off + max n 1 - 1) / pageBytes + 1 - off / pageBytes)).map (off / pageBytes + ·)

/-- The checks of the pages that a range of a spill region touches (R89, R93); a plain region has none. -/
def Region.pageChecks (r : Region) (off n : Nat) (write : Bool) : List (Bool × Nat) :=
  if r.spill && decide (0 < n ∧ off + n ≤ r.size) then (pagesOf off n).map fun p => (pageStatus write (r.pages.get p) != St.ok, pageStatus write (r.pages.get p))
  else []

/-- Reads through a handle; `none` where it is not current, the range ends beyond the region, or one of its pages cannot be read (R89, R93). -/
def State.handleRead (s : State) (h off n : Nat) : Option Bytes :=
  match s.region h with
  | some r => if off + n ≤ r.size && (r.pageChecks off n false).all fun c => !c.1 then some (s.rgnRead r off n) else none
  | none => none

/-- The checks of a range of a region named by a handle, for a domain (R61, R81): DENIED, LENGTH, NOT_OWNER, and those of its pages (R89, R93). -/
def State.rgnChecks (s : State) (domain : Owner) (h off n : Nat) (write : Bool) : List (Bool × Nat) :=
  match s.region h with
  | some r => [(!mayReach domain r.owner || (write && r.readOnly && domain != .system), St.denied),
               (decide (r.size < off + n), St.length)] ++ r.pageChecks off n write
  | none => [(true, St.notOwner)]

/-- An operand ends beyond its region (R284). -/
def State.beyond (s : State) (h off n : Nat) : Bool := (s.region h).elim false fun r => decide (r.size < off + n)

/-- An RV64GC core as reset leaves it: machine mode, registers at 0 (the manual gives no values, log 43). -/
def rvReset : RvCore := ⟨0, List.replicate 31 0, List.replicate 32 0, [], 3⟩

/-! ## Accesses of units at the banks (R51, R74)

A unit reads and writes regions in one command; its line accesses then wait at the banks in the region's class, are granted by BANK_ARBITRATION, and have
all been granted where the command completes (log 1). -/

/-- Source ports of units (the manual numbers none; log 42): above every port of a die. -/
def unitPort (kind n : Nat) : Nat := 2 ^ 17 + 4096 * kind + n
/-- Tile queue of a store die. -/
abbrev tilePort (sd : Nat) : Nat := unitPort 0 sd
/-- Scrub, spill and eviction of a store die. -/
abbrev scrubPort (sd : Nat) : Nat := unitPort 1 sd
/-- A unit with a command queue: class 0 to 3, global number. -/
abbrev enginePort (cls n : Nat) : Nat := unitPort (2 + cls) n
/-- A scan engine. -/
abbrev scanPort (n : Nat) : Nat := unitPort 6 n
/-- The query path of a quadrant: hands, probes, reranks. -/
abbrev queryPort (q : Nat) : Nat := unitPort 7 q
/-- Commit units, merges and moves of an index table. -/
abbrev commitPort (t : Nat) : Nat := unitPort 8 t
/-- The media front end of a quadrant. -/
abbrev mediaPort (q : Nat) : Nat := unitPort 9 q
/-- The link dies. -/
abbrev linkPort (l : Nat) : Nat := unitPort 10 l
/-- The KV service. -/
abbrev kvPort : Nat := unitPort 11 0
/-- The control cores. -/
abbrev corePort (n : Nat) : Nat := unitPort 12 n
/-- The push unit of a composition. -/
abbrev pushPort (n : Nat) : Nat := unitPort 13 (n % 4096)

/-- Line accesses to a byte range of one unit begin to wait in a class. -/
def State.busUnit (port cls unit byte n : Nat) (s : State) : State :=
  if n = 0 ∨ 2304 ≤ unit then s
  else { s with bus := s.bus ++ [⟨port, cls, unit, byte / 64, (byte % 64 + n + 63) / 64, []⟩] }

/-- The byte ranges of units that a range of a region covers: unit, byte, length; `chunk` divides a unit evenly. -/
def Region.spans (r : Region) (chunk : Nat) : Nat → Nat → Nat → List (Nat × Nat × Nat)
  | 0, _, _ => []
  | fuel + 1, off, n =>
    if n = 0 then []
    else
      let k := min n (chunk - off % chunk)
      let rest := r.spans chunk fuel (off + k) (n - k)
      match r.addr off with
      | some a => (a / unitBytes, a % unitBytes, k) :: rest
      | none => rest

/-- A unit's line accesses to a range of a region, in the region's class (R74). -/
def State.busRgn (port : Nat) (r : Region) (off n : Nat) (s : State) : State :=
  let chunk := if r.spill then pageBytes else unitBytes
  (r.spans chunk (n / chunk + 2) off n).foldl (fun s x => s.busUnit port r.cls x.1 x.2.1 x.2.2) s

/-- A unit's line accesses to a range that a handle names. -/
def State.busHandle (port h off n : Nat) (s : State) : State := (s.region h).elim s fun r => s.busRgn port r off n

/-- A unit writes bytes of a region: the bytes, and its accesses at the banks. -/
def State.portWrite (port : Nat) (r : Region) (off : Nat) (b : Bytes) (s : State) : State := (s.rgnWrite r off b).busRgn port r off b.length

/-- Accesses of an entry that fall on bank `j` of the group, and those not yet served. -/
def BusUse.onBank (u : BusUse) (j : Nat) : Nat := (u.line + u.count + 31 - j) / 32 - (u.line + 31 - j) / 32
def BusUse.left (u : BusUse) (j : Nat) : Nat := u.onBank j - u.served.getD j 0
/-- All accesses of an entry not yet served. -/
def BusUse.rest (u : BusUse) : Nat := u.count - (u.served.vals.foldl (· + ·) 0)

/-- Counts accesses granted in a class on a store die (R97). -/
def State.countGrants (sd cls n : Nat) (s : State) : State :=
  { s with kitty := { s.kitty with classes := s.kitty.classes.modifyD (8 * sd + cls) ⟨0, 0⟩ fun k => { k with grants := satAdd64 k.grants n } } }

/-- Some waiting accesses of units have all been granted. -/
def State.busGranted (p : BusUse → Bool) (s : State) : State :=
  (s.bus.filter p).foldl (fun s u => s.countGrants (unitDie u.unit) u.cls u.rest) { s with bus := s.bus.filter fun u => !p u }

/-- All accesses of a port have been granted: what its command completes with has reached the banks. -/
def State.busDrain (port : Nat) (s : State) : State := s.busGranted fun u => u.port == port

/-- The node's own region of a class, the hand pool under 0 (R51, R145, R156). -/
def State.service (s : State) (k : Nat) : Option Region := (s.kitty.service.get k).bind s.kitty.regions.get

/-- Bytes on their way from their source to the unit that uses them: they are written into part `q` of the node's own region of a class and read from it
(R51, R178, R183). -/
def State.through (port k q off : Nat) (b : Bytes) (s : State) : State :=
  match s.service k with
  | some r => (s.portWrite port r (q * unitBytes + off) b).busRgn port r (q * unitBytes + off) b.length
  | none => s

/-- Accesses to a range of a region that are made and granted within one command (R51, R74). -/
def State.usedNow (r : Region) (off n : Nat) (s : State) : State :=
  let t := (({ s with bus := [] } : State).busRgn 0 r off n).busDrain 0
  { t with bus := s.bus }
/-- Such accesses to a range that a handle names. -/
def State.usedHandle (h off n : Nat) (s : State) : State := (s.region h).elim s fun r => s.usedNow r off n
/-- Writes bytes of a region within one command: the bytes, and their accesses. -/
def State.rgnPut (r : Region) (off : Nat) (b : Bytes) (s : State) : State := (s.rgnWrite r off b).usedNow r off b.length

/-- Bytes that pass through part `q` of the node's own region of a class within one command. -/
def State.throughNow (k q off : Nat) (b : Bytes) (s : State) : State :=
  match s.service k with
  | some r => (s.rgnPut r (q * unitBytes + off) b).usedNow r (q * unitBytes + off) b.length
  | none => s

/-- A long transfer that passes part `q` of the node's own region of a class in pieces of 64 KiB. -/
def State.throughPieces (k q : Nat) (b : Bytes) (s : State) : State :=
  (List.range ((b.length + 65535) / 65536)).foldl (fun s i => s.throughNow k q 0 ((b.drop (65536 * i)).take 65536)) s

/-- Changes the waiting accesses. -/
def State.bus' (f : List BusUse → List BusUse) (s : State) : State := { s with bus := f s.bus }

/-! ## Placement descriptors (R321 to R328) -/

/-- Without INTERLEAVE: the address of logical byte `o` among extents taken in order (R323). -/
def extentSeek : List Extent → Nat → Option Nat
  | [], _ => none
  | e :: rest, o => if o < e.bytes then some (e.addr + o) else extentSeek rest (o - e.bytes)

/-- The address of logical byte `o` of an object (R323). -/
def PlaceDesc.addr (d : PlaceDesc) (o : Nat) : Option Nat :=
  if d.interleave then
    let g := o / pageBytes
    match d.extents[g % d.extents.length]? with
    | some e => some (e.addr + g / d.extents.length * pageBytes + o % pageBytes)
    | none => none
  else extentSeek d.extents o

/-- Bytes that a descriptor's extents hold. -/
def PlaceDesc.total (d : PlaceDesc) : Nat := (d.extents.map Extent.bytes).foldl (· + ·) 0

/-- The stack of a stacked-memory address (Table 2.5). -/
def stackOf (a : Nat) : Nat := a / 2 ^ 36 % 32

/-- The descriptor in stacked memory whose extent holds an address. -/
def State.descAt (s : State) (a : Nat) : Option PlaceDesc :=
  (s.pds.vals).find? fun d => d.tier == 1 && d.extents.any fun e => decide (e.addr ≤ a ∧ a < e.addr + e.bytes)

/-- Extents that together cover `n` bytes at an address; `fuel` bounds the extents taken. -/
def extentsCover (es : List Extent) : Nat → Nat → Nat → Bool
  | 0, _, n => n == 0
  | fuel + 1, a, n =>
    n == 0 || match es.find? fun e => decide (e.addr ≤ a ∧ a < e.addr + e.bytes) with
      | some e => extentsCover es fuel (e.addr + e.bytes) (n - (e.addr + e.bytes - a))
      | none => false

/-- Extents in stacked memory that a domain may read or write (R326). -/
def State.extentsOf (s : State) (domain : Owner) (write : Bool) : List Extent :=
  (s.pds.vals.filter fun d => d.tier == 1 && d.owner == domain && !(write && d.readOnly)).flatMap PlaceDesc.extents

/-- A domain may reach `n` bytes of stacked memory at an address (R326), for reading or writing: they lie in extents of its own. -/
def State.stackMay (s : State) (domain : Owner) (a n : Nat) (write : Bool) : Bool :=
  domain == .system || extentsCover (s.extentsOf domain write) (s.extentsOf domain write).length a n

/-- Bytes of an object in stacked memory, by its descriptor's logical offset. -/
def State.objRead (s : State) (d : PlaceDesc) (off n : Nat) : Bytes :=
  (List.range n).map fun i => match d.addr (off + i) with
    | some a => Mem.read s.smem a
    | none => 0

/-- Writes bytes of an object into a memory. -/
def PlaceDesc.store (d : PlaceDesc) : Nat → Bytes → Mem → Mem
  | _, [], m => m
  | o, b :: rest, m => PlaceDesc.store d (o + 1) rest (match d.addr o with | some a => Mem.write m a b | none => m)

/-! ## Quotas of Kitty units, KV pages and stacked memory (R66, R470 to R473) -/

/-- Key of a holder's resource. -/
def quotaKey (o : Owner) (code : Nat) : Nat := 16 * ownerKey o + code

/-- Shows how many descriptors are live (Table 9.6). -/
def State.showPds (s : State) : State := s.setNat Reg.STACK_PD_LIVE s.pds.length

/-- A tenant is configured where a TENANT_TABLES record names it (R160, R566). -/
def State.tenantConfigured (s : State) (t : Nat) : Bool := s.cfg.tenantTables.has t

/-- The limit of a holder's resource (R470). -/
def State.quotaLimit (s : State) (o : Owner) (code : Nat) : Nat :=
  match o with
  | .system => 0
  | .tenant t => s.quota.limits.getD (quotaKey o code) (if (code = 3 ∨ code = 4) ∧ s.tenantConfigured t then 64 else 0)
  | .comp _ => s.quota.limits.getD (quotaKey o code) 0

/-- The limit that an allocation is checked against: that before a change of the same SCLK cycle (R475). -/
def State.quotaChecked (s : State) (o : Owner) (code : Nat) : Nat :=
  match s.quota.before.get (quotaKey o code) with
  | some b => if b.1 = s.cycle then b.2 else s.quotaLimit o code
  | none => s.quotaLimit o code

/-- Sets a quota while the node runs (R475). -/
def State.setLimit (o : Owner) (code q : Nat) (s : State) : State :=
  { s with quota := { s.quota with limits := s.quota.limits.put (quotaKey o code) q,
                                   before := s.quota.before.put (quotaKey o code) (s.cycle, s.quotaChecked o code) } }

/-- Units that a region command under way has charged to a holder before its new map is in force (R66, R67). -/
def State.unitsComing (s : State) (o : Owner) : Nat :=
  (s.slots.runs.vals.map fun r => match r.wait with
    | some (.mapNew _ g) => if g.owner == o then g.unitCount else 0
    | some (.mapGrow h us) => if (s.region h).any (fun g => g.owner == o) then us.length else 0
    | some (.mapOwner h o') => if o' == o && (s.region h).any (fun g => g.owner != o) then (s.region h).elim 0 Region.unitCount else 0
    | _ => 0).foldl (· + ·) 0

/-- Kitty units charged to a holder (R66): those of its regions and those coming to them. -/
def State.unitUse (s : State) (o : Owner) : Nat :=
  ((s.kitty.regions.vals.filter fun r => r.owner == o).map Region.unitCount).foldl (· + ·) 0 + s.unitsComing o

/-- Resident pages, OPEN or SEALED, of a region. -/
def Region.resident (r : Region) : Nat := (r.pages.vals.filter fun p => p.frame.isSome).length

/-- Resident KV pages of a holder's spill regions (Table 13.5). -/
def State.pageUse (s : State) (o : Owner) : Nat :=
  ((s.kitty.regions.vals.filter fun r => r.owner == o && r.spill).map Region.resident).foldl (· + ·) 0

/-- Bytes of a holder's placement descriptors. -/
def State.stackUse (s : State) (o : Owner) : Nat :=
  ((s.pds.vals.filter fun d => d.owner == o && d.tier == 1).map PlaceDesc.total).foldl (· + ·) 0

/-- A quota admits `more` above a use; the system carries none (R66, R471). -/
def State.quotaAdmits (s : State) (o : Owner) (code use more : Nat) : Bool :=
  o == .system || decide (use + more ≤ s.quotaChecked o code)

/-- Counts a refusal with QUOTA (R471). -/
def State.quotaRefused (o : Owner) (code : Nat) (s : State) : State :=
  let k := quotaKey o code
  (({ s with quota := { s.quota with denied := s.quota.denied.put k (satAdd32 (s.quota.denied.getD k 0) 1) } }).bump
    Reg.SCHED_QUOTA_REFUSED)

/-! ## Command slots (R69, R594) -/

/-- Offset of a family's OP register of slot 0 (R594). -/
def Family.base : Family → Nat
  | .kitty => Reg.KITTY_RCMD_OP | .idx => Reg.IDX_CMD_OP | .vcmd => Reg.IDX_VCMD_OP | .pcmd => Reg.STACK_PCMD_OP
  | .emb => Reg.STACK_EMB_CMD_OP | .media => Reg.MEDIA_CMD_OP | .link => Reg.LINK_CMD_OP | .sched => Reg.SCHED_CMD_OP
  | .lend => Reg.LEND_CMD_OP | .flt => Reg.FLT_CMD_OP

/-- Argument registers of a family; its RESULT register follows them. -/
def Family.args : Family → Nat
  | .kitty => 3 | .idx => 5 | .vcmd => 5 | .pcmd => 4 | .emb => 3 | .media => 2 | .link => 2 | .sched => 5 | .lend => 3 | .flt => 2

/-- Number of a family, for the slot table's keys. -/
def Family.num : Family → Nat
  | .kitty => 0 | .idx => 1 | .vcmd => 2 | .pcmd => 3 | .emb => 4 | .media => 5 | .link => 6 | .sched => 7 | .lend => 8 | .flt => 9

def allFamilies : List Family := [.kitty, .idx, .vcmd, .pcmd, .emb, .media, .link, .sched, .lend, .flt]

/-- Key of a slot. -/
def slotKey (f : Family) (slot : Nat) : Nat := 4 * f.num + slot
/-- Word `w` of a slot: 0 OP, 1 ARG0, …; the RESULT follows the arguments. -/
def slotReg (f : Family) (slot w : Nat) : Nat := f.base + 0x20 * slot + 4 * w
def slotResult (f : Family) (slot : Nat) : Nat := slotReg f slot (f.args + 1)

/-- A slot's argument word: that of the command at work, else the register's. -/
def State.slotArg (s : State) (f : Family) (slot i : Nat) : Nat :=
  match s.slots.runs.get (slotKey f slot) with
  | some r => (r.args.getD i 0).toNat
  | none => (s.reg (slotReg f slot (i + 1))).toNat

/-- Writes argument registers, ARG `i` the value given, as far as their reserved bits allow (R10). -/
def State.setArgs (f : Family) (slot : Nat) (args : List (Nat × W32)) (s : State) : State :=
  args.foldl (fun s a =>
    let off := slotReg f slot (a.1 + 1)
    match regDef off with
    | some d => s.setReg off (a.2 &&& w32 d.mask)
    | none => s) s

/-- A slot is running: its GO reads 1. -/
def State.slotBusy (s : State) (f : Family) (slot : Nat) : Bool := s.slots.runs.has (slotKey f slot)

/-- GO: the command of a free slot starts; that of a running slot is rejected, and RESULT reads BUSY (R69). -/
def State.slotGo (f : Family) (slot op : Nat) (s : State) : State :=
  if s.slotBusy f slot then s.setNat (slotResult f slot) St.busy
  else
    let args := (List.range f.args).map fun i => s.reg (slotReg f slot (i + 1))
    { (s.setNat (slotReg f slot 0) (0x80000000 + op)) with
      slots := { s.slots with runs := s.slots.runs.put (slotKey f slot) ⟨op, s.cycle, args, none, none, false⟩ } }

/-- A running command now waits for something. -/
def State.slotWaits (f : Family) (slot : Nat) (w : SlotWait) (s : State) : State :=
  { s with slots := { s.slots with runs := s.slots.runs.modify (slotKey f slot) fun r => { r with wait := some w } } }

/-- A command completes: GO reads 0, RESULT holds what it returns. -/
def State.slotDone (f : Family) (slot result : Nat) (s : State) : State :=
  let op := (s.slots.runs.get (slotKey f slot)).elim 0 SlotRun.op
  let aborted := (s.slots.runs.get (slotKey f slot)).elim false SlotRun.aborted
  let t := (s.setNat (slotReg f slot 0) op).setNat (slotResult f slot) (if aborted then St.aborted else result)
  let due := match (s.slots.runs.get (slotKey f slot)).bind SlotRun.reply with
    | some q => [(slotKey f slot, q)]
    | none => []
  { t with slots := { runs := t.slots.runs.del (slotKey f slot), last := t.slots.last.put f.num slot,
                      replies := t.slots.replies ++ due } }

/-- Another slot of the family has a command past its start. -/
def State.familyActive (s : State) (f : Family) : Bool :=
  (List.range 4).any fun k => match s.slots.runs.get (slotKey f k) with
    | some r => r.wait.isSome
    | none => false

/-- The next slot of a serial family whose command has not started, in turn after the slot served last; of slots that GO started in one SCLK cycle, the
lowest (R69). -/
def State.nextWaiting (s : State) (f : Family) : Option Nat :=
  let waits (k : Nat) : Option Nat := (s.slots.runs.get (slotKey f k)).bind fun r => if r.wait.isNone then some r.cycle else none
  match ((List.range 4).map fun i => (s.slots.last.getD f.num 3 + 1 + i) % 4).find? fun k => (waits k).isSome with
  | some k => (List.range 4).find? fun j => waits j == waits k
  | none => none

/-- Runs a serial family's waiting commands, in turn, until one is under way (R69). -/
def serialTurn (f : Family) (run : Nat → Nat → State → State) : Nat → State → State
  | 0, s => s
  | n + 1, s =>
    if s.familyActive f then s
    else match s.nextWaiting f with
      | none => s
      | some k => serialTurn f run n (run k ((s.slots.runs.get (slotKey f k)).elim 0 SlotRun.op) s)

end Sys2Proof.Machine
end

