-- ==== Sys2Proof/Machine/Transport.lean ====
section
/-! DEFINITION. The Kitty transport: modules and routes (R35, R36, R40, R41), messages (R37 to R44), the bank arbiter (R74 to R79),
and the transport registers (R45 to R50). -/

namespace Sys2Proof.Machine

/-! ## Dies and modules -/

/-- Mesh column and row of a store die (R35). -/
def meshCol (n : Nat) : Nat := 3 * (n / 6 % 2) + n % 6 % 3
def meshRow (n : Nat) : Nat := 2 * (n / 6 / 2) + n % 6 / 3
/-- The store die at a mesh position (Table 1.4). -/
def meshAt (c r : Nat) : Nat := 6 * (2 * (r / 2) + c / 3) + 3 * (r % 2) + c % 3

/-- The die index that a module of a die reaches (Table 1.5); `none` where the module does not exist (R36). -/
def moduleReach (die m : Nat) : Option Nat :=
  if die < 8 then if m < 48 then some (8 + 6 * (die / 2) + m / 8) else none
  else if die < 32 then
    let n := die - 8
    let q := n / 6
    let i := n % 6
    let c := meshCol n
    let r := meshRow n
    if m < 8 then some (2 * q)
    else if m < 16 then some (2 * q + 1)
    else if m < 18 then some (32 + 3 * q + i / 2)
    else if m = 18 ∧ i < 4 then some (44 + 4 * q + i)
    else if (m = 19 ∨ m = 20) ∧ i = 5 then some (60 + q)
    else if 24 ≤ m ∧ m < 32 ∧ c < 5 then some (8 + meshAt (c + 1) r)
    else if 32 ≤ m ∧ m < 40 ∧ 0 < c then some (8 + meshAt (c - 1) r)
    else if 40 ≤ m ∧ m < 48 ∧ r < 3 then some (8 + meshAt c (r + 1))
    else if 48 ≤ m ∧ m < 56 ∧ 0 < r then some (8 + meshAt c (r - 1))
    else none
  else if die < 44 then
    let k := (die - 32) % 3
    let q := (die - 32) / 3
    if m < 2 then some (8 + 6 * q + 2 * k) else if m < 4 then some (8 + 6 * q + 2 * k + 1) else none
  else if die < 60 then if m = 0 then some (8 + 6 * ((die - 44) / 4) + (die - 44) % 4) else none
  else if die < 64 then if m < 2 then some (8 + 6 * (die - 60) + 5) else none
  else none

/-- Modules of a die (Table 1.5), their numbers rising. -/
def modulesOf (die : Nat) : List Nat := (List.range 64).filter fun m => (moduleReach die m).isSome

/-- Modules of a die that reach another. -/
def modulesTo (die dst_ : Nat) : List Nat := (List.range 64).filter fun m => moduleReach die m == some dst_

/-- The far end of a module: the module of the reached die at the same place among those that lead back (PRESUMED, log 10). -/
def modulePeer (die m : Nat) : Nat :=
  match moduleReach die m with
  | none => 0
  | some d =>
    let i := (modulesTo die d).findIdx (· == m)
    64 * d + (modulesTo d die).getD i 0

/-- No event counted. -/
def noCounts : XpCounts := ⟨0, 0, 0, 0, 0, 0⟩

/-- A module that has never carried an event: down, counters 0. -/
def moduleReset : XpModule := ⟨.down, 0, noCounts, 0, noCounts⟩

/-- A module's record. -/
def State.module (s : State) (key : Nat) : XpModule := s.xp.modules.getD key moduleReset

/-- A module that carries traffic: active or degraded (R50). -/
def XpModule.usable (m : XpModule) : Bool := m.state == .active || m.state == .degraded

/-- The far end of a module by key. -/
def peerKey (key : Nat) : Nat := modulePeer (key / 64) (key % 64)

/-- Changes a module's record. -/
def State.modModule (key : Nat) (f : XpModule → XpModule) (s : State) : State :=
  { s with xp := { s.xp with modules := s.xp.modules.put key (f (s.module key)) } }

/-- Changes the state of a module and of its far end, which are one connection. -/
def State.setModules (key : Nat) (f : ModState → ModState) (s : State) : State :=
  (s.modModule key fun m => { m with state := f m.state }).modModule (peerKey key) fun m => { m with state := f m.state }

/-- An event of a module in a given SCLK cycle (R49). -/
def XpModule.event (cycle : Nat) (f : XpCounts → XpCounts) (m : XpModule) : XpModule :=
  { m with live := f m.live, cycle := cycle, fresh := f (if m.cycle = cycle then m.fresh else noCounts) }

/-- The live counters cleared: events of the same SCLK cycle stay counted (R49). -/
def XpModule.cleared (cycle : Nat) (m : XpModule) : XpModule := { m with live := if m.cycle = cycle then m.fresh else noCounts }

/-- Counts an event of a module (R45). -/
def State.countModule (key : Nat) (f : XpCounts → XpCounts) (s : State) : State := s.modModule key (XpModule.event s.cycle f)

/-! ## Events of the adapter (R45, R46, R50) -/

/-- A module is degraded: logged once, and it carries traffic still (R50). -/
def State.degradeModule (key : Nat) (s : State) : State :=
  let t := { s with flt := { s.flt with degraded := if (1, key) ∈ s.flt.degraded then s.flt.degraded else (1, key) :: s.flt.degraded } }
  if (s.module key).state == .degraded then t
  else (t.modModule key fun m => { m with state := match m.state with | .active => .degraded | x => x }).outcome 0x0012 sevAction 1 key 0

/-- A module set is about to change (R42): both ends of a module that leaves, or of one that returns, which trains meanwhile. -/
def setChange (die module : Nat) (retire : Bool) (s : State) : State :=
  let key := 64 * die + module
  let m := s.module key
  if (moduleReach die module).isNone || s.xp.changing.has key || m.state == .retired || m.usable != retire then s
  else
    let t := { s with xp := { s.xp with changing := (s.xp.changing.put key retire).put (peerKey key) retire } }
    if retire then t else t.setModules key fun _ => .training

/-- What the adapters of a hop found (log 10): a CRC error is counted by the receiver and the retry by the sender, each an event of its module; a lane is
repaired at both ends, which leaves them degraded; with no redundant lane left the module retires; a lost connection is down at both ends. -/
def State.adapterEvent (h : XpHop) (e : AdapterEvent) (s : State) : State :=
  match e with
  | .crcError =>
    ((s.countModule h.dst fun c => { c with crcErr := satAdd64 c.crcErr 1 }).countModule h.src
      fun c => { c with retry := satAdd64 c.retry 1 }).fault 0x0010 h.dst 0 |>.fault 0x0010 h.src 0
  | .laneRepaired =>
    let up (m : XpModule) : XpModule := { m with lanesRepaired := m.lanesRepaired + 1 }
    (((s.modModule h.src up).modModule h.dst up).degradeModule h.src).degradeModule h.dst
  | .noSpareLane =>
    setChange (h.src / 64) (h.src % 64) true { s with flt := { s.flt with recovering := (1, h.src) :: s.flt.recovering } }
  | .down => s.setModules h.src fun x => match x with | .retired => .retired | _ => .down

/-- The events found along a path, each with the place of its hop. -/
def State.adapterEvents (path : List XpHop) (found : List (Nat × AdapterEvent)) (s : State) : State :=
  found.foldl (fun s f => match path[f.1]? with | some h => s.adapterEvent h f.2 | none => s) s

/-! ## Routes (R40, R41) -/

/-- The store die after `n` towards `d`: along the row first, or along the column first. -/
def nextHop (rowFirst : Bool) (n d : Nat) : Nat :=
  let c := meshCol n; let r := meshRow n; let dc := meshCol d; let dr := meshRow d
  let alongRow := if c < dc then meshAt (c + 1) r else meshAt (c - 1) r
  let alongCol := if r < dr then meshAt c (r + 1) else meshAt c (r - 1)
  if rowFirst then (if c ≠ dc then alongRow else alongCol) else (if r ≠ dr then alongCol else alongRow)

/-- Hops between two store dies. -/
def meshHops (a b : Nat) : Nat :=
  (max (meshCol a) (meshCol b) - min (meshCol a) (meshCol b)) + (max (meshRow a) (meshRow b) - min (meshRow a) (meshRow b))

/-- The modules from one die to another that carry traffic and are not `avoid`. -/
def State.usableTo (s : State) (avoid : List Nat) (die dst_ : Nat) : List Nat :=
  (modulesTo die dst_).filter fun m => (s.module (64 * die + m)).usable && !(64 * die + m ∈ avoid)

/-- The module a line takes among those that reach a die (R38). -/
def pickModule (ms : List Nat) (line : Nat) : Option Nat := ms[Config.xpHash line % ms.length]?

/-- The hops from store die `n` to `d` (R40: column-first, that is along the row to the destination's column first), with the row-first
escape from the store die at which a hop has no module (R41); `none` where no route remains. -/
def State.meshPath (s : State) (avoid : List Nat) (line : Nat) : Nat → Bool → Nat → Nat → Option (List XpHop)
  | 0, _, n, d => if n = d then some [] else none
  | fuel + 1, esc, n, d =>
    if n = d then some []
    else
      let go (esc : Bool) : Option (List XpHop) :=
        let k := nextHop (!esc) n d
        match pickModule (s.usableTo avoid (8 + n) (8 + k)) line with
        | none => none
        | some m => (s.meshPath avoid line fuel esc k d).map fun rest => ⟨64 * (8 + n) + m, modulePeer (8 + n) m, esc⟩ :: rest
      match s.usableTo avoid (8 + n) (8 + nextHop (!esc) n d) with
      | _ :: _ => go esc
      | [] => if esc then none else go true

/-- The store dies at which a die's messages may enter the mesh (R40), nearest to the destination first, the lower number on a tie. -/
def entryDies (die dest : Nat) : List Nat :=
  let es := dedupList ((modulesOf die).filterMap fun m => match moduleReach die m with
    | some d => if 8 ≤ d ∧ d < 32 then some (d - 8) else none
    | none => none)
  sortBy (fun a b => decide (meshHops a dest * 32 + a < meshHops b dest * 32 + b)) es

/-- The first answer that a list of tries gives. -/
def firstSome {α β : Type} (f : α → Option β) : List α → Option β
  | [] => none
  | x :: rest => match f x with
    | some y => some y
    | none => firstSome f rest

/-- The path of a message from a die to a store die: from a die outside the mesh by the nearest entry die from which a route remains (log 10). -/
def State.route (s : State) (avoid : List Nat) (die dest line : Nat) : Option (List XpHop) :=
  if 8 ≤ die ∧ die < 32 then s.meshPath avoid line 8 false (die - 8) dest
  else firstSome (fun e =>
    match pickModule (s.usableTo avoid die (8 + e)) line with
    | none => none
    | some m => (s.meshPath avoid line 8 false e dest).map fun rest => ⟨64 * die + m, modulePeer die m, false⟩ :: rest) (entryDies die dest)

/-- The path of a response from a bank's store die to the source's die (R40): over the mesh along the row first as every message, and out of it by the
store die of the source's nearest to the bank (log 10). -/
def State.routeBack (s : State) (die dest line : Nat) : Option (List XpHop) :=
  if 8 ≤ die ∧ die < 32 then s.meshPath [] line 8 false dest (die - 8)
  else firstSome (fun e =>
    match s.meshPath [] line 8 false dest e, pickModule (s.usableTo [] (8 + e) die) line with
    | some rest, some m => some (rest ++ [⟨64 * (8 + e) + m, modulePeer (8 + e) m, false⟩])
    | _, _ => none) (entryDies die dest)

/-- The modules that will reach a die once the changes under way are done (R42). -/
def State.nextSet (s : State) (die dst_ : Nat) : List Nat :=
  (modulesTo die dst_).filter fun m => match s.xp.changing.get (64 * die + m) with
    | some retire => !retire
    | none => (s.module (64 * die + m)).usable

/-- A line whose module between two dies differs before and after the changes under way: its messages wait (R42). -/
def State.lineMoves (s : State) (die dst_ line : Nat) : Bool :=
  pickModule (s.usableTo [] die dst_) line != pickModule (s.nextSet die dst_) line

/-! ## Messages -/

/-- The line address of a message, which the hash reads (R38). -/
def XpMsg.line (m : XpMsg) : Nat := bankLine m.unit m.offset * 4096 + bankOf m.unit m.offset

/-- Virtual channels (R37): read requests 0, read responses 1, writes 2, control (with write acknowledgements) 3; 4 is the escape channel (R41). -/
def XpMsg.vc (m : XpMsg) : Nat := if m.write.isSome then 2 else 0
def XpMsg.backVc (m : XpMsg) : Nat := if m.write.isSome then 3 else 1
def XpHop.channel (h : XpHop) (vc : Nat) : Nat := if h.escape then 4 else vc

/-- Messages issued and not completed. -/
def State.inFlight (s : State) : List XpMsg := s.xp.msgs.vals.filter fun m => m.stage != .waiting

/-- The credits a message holds (R37, log 10): sending module and channel of every hop, of its request until the bank has served it, then of its response. -/
def XpMsg.credits (m : XpMsg) : List (Nat × Nat) :=
  match m.stage with
  | .atBank _ => m.path.map fun h => (h.src, h.channel m.vc)
  | .answering _ => m.back.map fun h => (h.src, h.channel m.backVc)
  | _ => []

/-- A hop whose receiver has granted no further credit on a channel (R37). -/
def State.hopFull (s : State) (vc : Nat) (h : XpHop) : Bool :=
  decide (Config.xpCredits (h.channel vc) + 1 ≤ (s.inFlight.filter fun m => (h.src, h.channel vc) ∈ m.credits).length)

/-- Counts one flit sent and received at every hop (R45; one flit a message, log 10). -/
def State.countPath (path : List XpHop) (s : State) : State :=
  path.foldl (fun s h =>
    (s.countModule h.src fun c => { c with tx := satAdd64 c.tx 1 }).countModule h.dst fun c => { c with rx := satAdd64 c.rx 1 }) s

/-- Marks a die in KITTY_XP_ERR_DIE: it had a message complete with FAULT. -/
def State.markErrDie (die : Nat) (s : State) : State :=
  s.setOnes (if die < 32 then Reg.KITTY_XP_ERR_DIE_LO else Reg.KITTY_XP_ERR_DIE_HI) (w32 (2 ^ (die % 32)))

/-- A message completes with FAULT. -/
def State.msgFault (id : Nat) (m : XpMsg) (s : State) : State :=
  (({ s with xp := { s.xp with msgs := s.xp.msgs.del id } }).markErrDie m.die).emit (.access m.die m.port St.fault [])

/-- No route remains for a message: it completes with FAULT, and XP_NO_ROUTE is logged with instance 64 x source die index and DETAIL 0 (R41, log 10). -/
def State.msgNoRoute (id : Nat) (m : XpMsg) (s : State) : State := (s.msgFault id m).fault 0x0014 (64 * m.die) 0

/-- A message's record changed. -/
def State.setMsg (id : Nat) (m : XpMsg) (s : State) : State := { s with xp := { s.xp with msgs := s.xp.msgs.put id m } }

/-- A message must wait at its port: a hop of its path changes its module (R42) or has no credit (R37). -/
def State.mustWait (s : State) (m : XpMsg) (path : List XpHop) : Bool :=
  path.any fun h => s.lineMoves (h.src / 64) (h.dst / 64) m.line || s.hopFull m.vc h

/-- Issues a message on its path (R38, R40), or leaves it waiting; with no route left it completes with FAULT (R41). -/
def State.send (id : Nat) (m : XpMsg) (found : List (Nat × AdapterEvent)) (s : State) : State :=
  match s.route m.avoid m.die (unitDie m.unit) m.line with
  | none => s.msgNoRoute id m
  | some path =>
    if s.mustWait m path then s.setMsg id { m with stage := .waiting }
    else
      let t := s.setMsg id { m with path := path, issued := s.now, stage := .atBank s.kitty.arrivals }
      (({ t with kitty := { t.kitty with arrivals := t.kitty.arrivals + 1 } }).countPath path).adapterEvents path found

/-- A source port issues the first message that waits at it (R38), when it holds credit (R37). -/
def issueMsg (die port : Nat) (found : List (Nat × AdapterEvent)) (s : State) : State :=
  match s.xp.msgs.find? fun e => e.2.die == die && e.2.port == port && e.2.stage == .waiting with
  | some (id, m) => s.send id m found
  | none => s

/-- The response of a served message leaves when every hop of its way back grants credit (R37). -/
def State.respond (id : Nat) (s : State) : State :=
  match s.xp.msgs.get id with
  | none => s
  | some m =>
    match m.stage with
    | .served d =>
      match s.routeBack m.die (unitDie m.unit) m.line with
      | none => s.msgNoRoute id m
      | some back =>
        if back.any (s.hopFull m.backVc) then s
        else (s.setMsg id { m with back := back, stage := .answering d }).countPath back
    | _ => s

/-- The bank serves a message: a write reaches the bank unless it is a reissue whose data the bank has accepted already (R44); a read takes the line. The
response leaves as soon as it has credit. -/
def State.serve (id : Nat) (s : State) : State :=
  match s.xp.msgs.get id with
  | none => s
  | some m =>
    match m.stage with
    | .atBank _ =>
      let a := m.unit * unitBytes + m.offset
      match m.write with
      | some b =>
        let k := bankOf m.unit m.offset * 2 ^ 20 + m.die * 2 ^ 10 + m.port
        let dup := m.reissued && (m.applied || s.xp.bankSeq.get k == some m.seq)
        let t := s.setMsg id { m with applied := true, stage := .served [] }
        (if dup then t
         else { t with kmem := Mem.writeBytes t.kmem a b, xp := { t.xp with bankSeq := t.xp.bankSeq.put k m.seq } }).respond id
      | none => (s.setMsg id { m with stage := .served (Mem.readBytes s.kmem a m.len) }).respond id
    | _ => s

/-- The sets of modules a reissue may keep off, in the order they are tried (R43, log 10): all modules of the old path, all but one, one alone, none. -/
def avoidSets (old : List Nat) : List (List Nat) :=
  [old] ++ old.map (fun k => old.filter (· != k)) ++ old.map (fun k => [k]) ++ [[]]

/-- End-to-end timeout of a message (R43): counted and logged at the first module of its path, each time it expires (log 10); reissued once over another
module or route where one exists, then FAULT. -/
def e2eTimeout (id : Nat) (s : State) : State :=
  match s.xp.msgs.get id with
  | none => s
  | some m =>
    if m.stage == .waiting || !s.past (m.issued + 2000) then s
    else
      let first := (m.path.head?.map XpHop.src).getD (64 * m.die)
      let t := (s.countModule first fun c => { c with e2eTo := satAdd64 c.e2eTo 1 }).fault 0x0011 first 0
      if m.reissued then t.msgFault id m
      else
        let use := (avoidSets (m.path.map XpHop.src)).find? fun a => (t.route a m.die (unitDie m.unit) m.line).isSome
        t.send id { m with avoid := use.getD [], reissued := true, stage := .waiting } []

/-- A retired module: both ends carry no traffic until the next start, each with a record (R50). -/
def State.retireModule (key : Nat) (s : State) : State :=
  [key, peerKey key].foldl (fun s k =>
    ({ s with flt := { s.flt with retired := if (1, k) ∈ s.flt.retired then s.flt.retired else (1, k) :: s.flt.retired,
                                  recovering := s.flt.recovering.filter (· != (1, k)) } }).logEvent 0x0013 sevAction 1 k 0 false false)
    (s.setModules key fun _ => .retired)

/-- A message in flight whose line takes another module between two dies once the changes under way are done. -/
def State.lineOutstanding (s : State) (a b : Nat) : Bool :=
  s.inFlight.any fun m => (m.path ++ m.back).any fun h =>
    ((h.src / 64 == a && h.dst / 64 == b) || (h.src / 64 == b && h.dst / 64 == a)) && s.lineMoves (h.src / 64) (h.dst / 64) m.line

/-- With no message of the affected lines outstanding, the source resumes on the new set (R42); a module retired so is logged (R50), and one that returns is
active, or degraded where its lanes are repaired or it has crossed. -/
def setResume (die module : Nat) (s : State) : State :=
  let key := 64 * die + module
  match s.xp.changing.get key with
  | none => s
  | some retire =>
    if s.lineOutstanding die (peerKey key / 64) then s
    else
      let t := { s with xp := { s.xp with changing := (s.xp.changing.del key).del (peerKey key) } }
      if retire then t.retireModule key
      else [key, peerKey key].foldl (fun t k => t.modModule k fun m =>
        { m with state := if m.lanesRepaired = 0 ∧ (1, k) ∉ s.flt.degraded then .active else .degraded }) t

/-- The modules at which a message waits for credit in this SCLK cycle: the first waiting message of each port, and responses (R45). -/
def State.stalledAt (s : State) : List Nat :=
  let front := s.xp.msgs.filter fun e => e.2.stage == .waiting && !(s.xp.msgs.any fun f => f.1 < e.1 && f.2.stage == .waiting && f.2.die == e.2.die && f.2.port == e.2.port)
  dedupList (s.xp.msgs.vals.flatMap (fun m => match m.stage with
      | .served _ => ((s.routeBack m.die (unitDie m.unit) m.line).getD []).filterMap fun h => if s.hopFull m.backVc h then some h.src else none
      | _ => [])
    ++ front.flatMap fun e => ((s.route e.2.avoid e.2.die (unitDie e.2.unit) e.2.line).getD []).filterMap fun h =>
      if s.hopFull e.2.vc h then some h.src else none)

/-- One SCLK cycle in which messages wait for credit, counted at each module (R45). -/
def State.countStalls (s : State) : State :=
  s.stalledAt.foldl (fun s k => s.countModule k fun c => { c with stall := satAdd64 c.stall 1 }) s

/-! ## The bank arbiter (R74 to R79) -/

/-- A bank's arbiter at start: window at its first cycle, credits 0 (R77). -/
def bankReset : BankSt := ⟨0, 0, 0, List.replicate 6 0, List.replicate 8 0⟩

/-- Weight of class W2 to W7, i = 0 to 5, as applied (Table 2.9). -/
def State.weight (s : State) (i : Nat) : Nat :=
  if i < 4 then fld (s.reg Reg.KITTY_ARB_WEIGHT_LO) (8 * i + 7) (8 * i)
  else fld (s.reg Reg.KITTY_ARB_WEIGHT_HI) (8 * (i - 4) + 7) (8 * (i - 4))

/-- An access waiting at a bank: its source port, its arrival, and the message, or the place of the unit's accesses. -/
structure Waiting where
  port : Nat
  arrival : Nat
  msg : Option Nat
  place : Nat
deriving DecidableEq, Repr

/-- Accesses waiting at a bank in a class: messages, and the accesses of units. -/
def State.bankWaiting (s : State) (bank cls : Nat) : List Waiting :=
  (s.xp.msgs.filterMap fun e => match e.2.stage with
    | .atBank a => if bankOf e.2.unit e.2.offset == bank && e.2.cls == cls then some ⟨e.2.die * 1024 + e.2.port + 1, a, some e.1, 0⟩ else none
    | _ => none)
  ++ (List.range s.bus.length).filterMap fun i => (s.bus[i]?).bind fun u =>
    if bankOf u.unit 0 / 32 == bank / 32 && u.cls == cls && 0 < u.left (bank % 32) then some ⟨u.port, i, none, i⟩ else none

/-- Accesses waiting at a bank. -/
def State.bankLoad (s : State) (bank : Nat) : Nat :=
  (s.xp.msgs.vals.filter fun m => bankOf m.unit m.offset == bank && match m.stage with | .atBank _ => true | _ => false).length
    + (s.bus.map fun u => if bankOf u.unit 0 / 32 = bank / 32 then u.left (bank % 32) else 0).foldl (· + ·) 0

/-- A unit's access is served at a bank. -/
def State.serveUse (place bank : Nat) (s : State) : State :=
  match s.bus[place]? with
  | none => s
  | some u =>
    let u' : BusUse := { u with served := u.served.put (bank % 32) (u.served.getD (bank % 32) 0 + 1) }
    { s with bus := if u'.rest = 0 then s.bus.eraseIdx place else s.bus.set place u' }

/-- The weighted group's choice (R77): new credits and the class code served. -/
def weightedChoice (waiting : List Bool) (weights : List Nat) (credits : List Int) : List Int × Option Nat :=
  let c1 : List Int := (List.range 6).map fun i => if waiting.getD i false then credits.getD i 0 + (weights.getD i 0 : Int) else 0
  let sum := ((List.range 6).map fun i => if waiting.getD i false then weights.getD i 0 else 0).foldl (· + ·) 0
  let best := (List.range 6).foldl (fun (b : Option Nat) i =>
    if waiting.getD i false then
      match b with
      | none => some i
      | some j => if c1.getD j 0 < c1.getD i 0 then some i else some j
    else b) none
  match best with
  | none => (c1, none)
  | some i => (c1.set i (c1.getD i 0 - (sum : Int)), some (i + 2))

/-- Within a class: ports in turn after the one served last, each port's accesses in order of arrival (R78). -/
def pickPort (last : Nat) (ws : List Waiting) : Option Waiting :=
  minBy (fun w => ((w.port + 2 ^ 20 - 1 - last % 2 ^ 20) % 2 ^ 20) * 2 ^ 64 + w.arrival) ws

/-- One SCLK cycle of a bank (R76): T0 and T1 within their caps, then the weighted group, then a capped trump class. -/
def arbitrate (bank : Nat) (s : State) : State :=
  let b := s.kitty.banks.getD bank bankReset
  let b := if b.cycle = 0 then { b with t0Used := 0, t1Used := 0 } else b
  let wait (c : Nat) := !(s.bankWaiting bank c).isEmpty
  let caps := s.reg Reg.KITTY_ARB_CAPS
  let anyW := (List.range 6).any fun i => wait (i + 2)
  let t0 := wait 0 && (decide (b.t0Used < fld caps 7 0) || !anyW)
  let t1 := wait 1 && (decide (b.t1Used < fld caps 15 8) || !anyW)
  -- a capped trump class is served only after a trump class within its cap
  let cls : Option Nat × List Int :=
    if wait 0 && decide (b.t0Used < fld caps 7 0) then (some 0, b.credits)
    else if wait 1 && decide (b.t1Used < fld caps 15 8) then (some 1, b.credits)
    else if anyW then
      let r := weightedChoice ((List.range 6).map fun i => wait (i + 2)) ((List.range 6).map s.weight) b.credits
      (r.2, r.1)
    else if t0 then (some 0, b.credits)
    else if t1 then (some 1, b.credits)
    else (none, b.credits)
  let credits := (List.range 6).map fun i => if wait (i + 2) then cls.2.getD i 0 else 0
  let sd := bank / 96
  -- a class that has an access waiting and is not the one served counts one bank cycle waited (log 42)
  let s1 := (List.range 8).foldl (fun (s : State) c =>
    if wait c && cls.1 != some c then
      { s with kitty := { s.kitty with classes := s.kitty.classes.modifyD (8 * sd + c) ⟨0, 0⟩ fun k => { k with waits := satAdd64 k.waits 1 } } }
    else s) s
  match cls.1 with
  | none => { s1 with kitty := { s1.kitty with banks := s1.kitty.banks.put bank { b with cycle := (b.cycle + 1) % 64, credits := credits } } }
  | some c =>
    match pickPort (b.lastPort.getD c 0) (s.bankWaiting bank c) with
    | none => s1
    | some w =>
      let b' : BankSt := { b with
        cycle := (b.cycle + 1) % 64
        t0Used := b.t0Used + b1 (c == 0)
        t1Used := b.t1Used + b1 (c == 1)
        credits := credits
        lastPort := b.lastPort.set c w.port }
      let s2 := ({ s1 with kitty := { s1.kitty with banks := s1.kitty.banks.put bank b' } }).countGrants sd c 1
      match w.msg with
      | some id => s2.serve id
      | none => s2.serveUse w.place bank

/-- The bank's cycles pass until it has served a message: every cycle serves one access while any waits (R76). -/
def State.serveUntil (bank id : Nat) : Nat → State → State
  | 0, s => s
  | fuel + 1, s =>
    match (s.xp.msgs.get id).map XpMsg.stage with
    | some (.atBank _) => State.serveUntil bank id fuel (arbitrate bank s)
    | _ => s

/-- A message completes at its source (R39): the bank has served it in its turn, and its response, which left with credit, arrives. -/
def State.completeMsg (id : Nat) (write : Bool) (found : List (Nat × AdapterEvent)) (s : State) : State :=
  match s.xp.msgs.get id with
  | none => s
  | some m =>
    if m.write.isSome != write || m.stage == .waiting then s
    else
      let bank := bankOf m.unit m.offset
      let t := (s.serveUntil bank id (s.bankLoad bank)).respond id
      match t.xp.msgs.get id with
      | none => t
      | some m' =>
        match m'.stage with
        | .answering d =>
          let t := t.adapterEvents m'.back found
          if m.ecc == .uncorrectable then t.msgFault id m
          else ({ t with xp := { t.xp with msgs := t.xp.msgs.del id } }).emit (.access m.die m.port St.ok d)
        | _ => t

/-! ## Transport registers (R45 to R50) -/

/-- Code of a module state (Table 1.7). -/
def ModState.code : ModState → Nat
  | .down => 0 | .training => 1 | .active => 2 | .degraded => 3 | .retired => 4

/-- Copies the selected module's counters and state into the snapshot registers (R47, R48). -/
def xpSnapshot (s : State) : State :=
  let sel := s.reg Reg.KITTY_XP_SEL
  let die := fld sel 13 8
  let m := fld sel 5 0
  let ok := (moduleReach die m).isSome
  let r := s.module (64 * die + m)
  let v (x : W64) : Nat := if ok then x.toNat else 0
  (((((((s.setNat Reg.KITTY_XP_STATUS
      (if ok then 2 ^ 31 + r.lanesRepaired % 256 * 2 ^ 16 + (modulesOf die).length * 2 ^ 8 + r.state.code else 0)).setPair
    Reg.KITTY_XP_TX_FLITS_LO (v r.live.tx)).setPair Reg.KITTY_XP_RX_FLITS_LO (v r.live.rx)).setPair
    Reg.KITTY_XP_CRC_ERR_LO (v r.live.crcErr)).setPair Reg.KITTY_XP_RETRY_LO (v r.live.retry)).setPair
    Reg.KITTY_XP_STALL_LO (v r.live.stall)).setPair Reg.KITTY_XP_E2E_TO_LO (v r.live.e2eTo))

/-- A write to KITTY_XP_SEL (R47). -/
def xpSel (v : W32) (s : State) : State :=
  if s.isRunning then xpSnapshot (s.setReg Reg.KITTY_XP_SEL (v &&& 0x3F3F)) else s

/-- A write of 1 to KITTY_XP_SNAP (R47). -/
def xpSnap (s : State) : State := if s.isRunning then xpSnapshot s else s

/-- A write of 1 to KITTY_XP_CLEAR: the selected module (R46). -/
def xpClear (s : State) : State :=
  let sel := s.reg Reg.KITTY_XP_SEL
  if s.isRunning && (moduleReach (fld sel 13 8) (fld sel 5 0)).isSome then s.modModule (64 * fld sel 13 8 + fld sel 5 0) (XpModule.cleared s.cycle)
  else s

/-- A write of 1 to KITTY_XP_CLEAR_ALL: every module of every die (R46). -/
def xpClearAll (s : State) : State :=
  if s.isRunning then { s with xp := { s.xp with modules := s.xp.modules.mapVals (XpModule.cleared s.cycle) } } else s

end Sys2Proof.Machine
end

