-- ==== Sys2Proof/Machine/Kitty.lean ====
section
/-! DEFINITION. The Kitty: accesses, region commands, quotas of units, tile transfers, spill regions and their page commands, and the
KITTY registers (R57 to R98). -/

namespace Sys2Proof.Machine

/-! ## Accesses (R57 to R61, R89) -/

/-- The status of an access (R61, R89, R93); OK where it is to be issued. -/
def State.accessStatus (s : State) (a : Access) : Nat :=
  match s.region a.handle.toNat with
  | none => St.notOwner
  | some r =>
    let page := r.pages.get (a.offset / pageBytes)
    let w := a.write.isSome
    if !mayReach a.domain r.owner || (w && r.readOnly && a.domain != .system) then St.denied
    else if r.size ≤ a.offset then St.range
    else if r.spill then pageStatus w page
    else St.ok

/-- Counts a refused access (R61, R89, R97). -/
def State.countRefusal (st : Nat) (s : State) : State :=
  if st = St.notOwner then s.bump Reg.KITTY_ACC_NOT_OWNER
  else if st = St.denied then s.bump Reg.KITTY_ACC_DENIED
  else if st = St.range then s.bump Reg.KITTY_ACC_RANGE
  else s

/-- A unit's access: checked and translated by its source port, then waiting to be issued, or completed with its status (R57, R61). The
codes of a read's line report here (R507). -/
def accessRegion (a : Access) (s : State) : State :=
  let st := s.accessStatus a
  if st ≠ St.ok then (s.countRefusal st).emit (.access a.die a.port st [])
  else match s.region a.handle.toNat with
    | none => s
    | some r =>
      match r.addr a.offset with
      | none => s
      | some ad =>
        let k := a.die * 1024 + a.port
        let seq := s.xp.nextSeq.getD k 1
        let u := ad / unitBytes
        let b := ad % unitBytes
        let n := min a.len (64 - b % 64)
        let ecc := if a.write.isSome then EccOutcome.clean else a.ecc
        let m : XpMsg := ⟨a.die, a.port, u, b, n, a.write.map (List.take n), if a.recovery then 0 else r.cls,
          seq, [], [], [], 0, false, false, .waiting, ecc⟩
        let t := { s with xp := { s.xp with msgs := s.xp.msgs.put s.xp.nextMsg m, nextMsg := s.xp.nextMsg + 1,
                                            nextSeq := s.xp.nextSeq.put k (seq + 1) } }
        let bank := bankOf u b
        match ecc with
        | .clean => t
        | .corrected => t.fault 0x0001 (t.physBank bank) bank
        | .uncorrectable => t.fault 0x0002 (t.physBank bank) bank

/-- An access is in flight to a Kitty byte range (R67, R92). -/
def State.accessInFlight (s : State) (lo n : Nat) : Bool :=
  s.xp.msgs.vals.any fun m => decide (lo ≤ m.unit * unitBytes + m.offset ∧ m.unit * unitBytes + m.offset < lo + n)

/-! ## Units (R54, R62, R64) -/

/-- A unit is in the free pool. -/
def State.unitFree (s : State) (u : Nat) : Bool := (s.kitty.units.get u).isNone

/-- Units in the free pool, and units awaiting scrub (Table 2.9). -/
def State.freeUnits (s : State) : Nat := 2304 - s.kitty.units.length
def State.scrubPending (s : State) : Nat := (s.kitty.units.vals.filter fun u => u == .scrub).length

/-- The units a placement offers, in the order it takes them (R64): in turn over its dies, each die's lowest free unit first. -/
def State.offer (s : State) (dies : List Nat) : List Nat :=
  let free := dies.map fun d => (List.range 96).filterMap fun i => if s.unitFree (96 * d + i) then some (96 * d + i) else none
  (List.range 96).flatMap fun j => free.filterMap fun l => l[j]?

/-- The dies of a placement (R64). -/
def placementDies (placement sel : Nat) : List Nat :=
  match placement with
  | 0 => List.range 24
  | 1 => (List.range 6).map (6 * sel + ·)
  | _ => [sel]

/-- Sets the state of units. -/
def State.setUnits (st : UnitSt) (us : List Nat) (s : State) : State :=
  { s with kitty := { s.kitty with units := us.foldl (fun t u => if u < 2304 then t.put u st else t) s.kitty.units } }

/-- Freed units begin their scrub: every line is written in class W7 (R62, R74). -/
def State.startScrub (us : List Nat) (s : State) : State :=
  (s.setUnits .scrub us).bus' fun b => b ++ (us.filter (· < 2304)).map fun u => ⟨scrubPort (unitDie u), 7, u, 0, unitBytes / 64, []⟩

/-- Region numbers, those a running ALLOC has taken among them (R58, R67). -/
def State.numbersTaken (s : State) : Tbl Unit :=
  s.slots.runs.vals.foldl (fun t r => match r.wait with | some (.mapNew n _) => t.put n () | _ => t) (s.kitty.regions.mapVals fun _ => ())

/-- The lowest-numbered region number that is not allocated (R58). -/
def State.freeNumber (s : State) : Option Nat := s.numbersTaken.lowestFree 1 4095

/-- The generation that the next allocation of a region number carries (R58). -/
def State.nextGen (s : State) (num : Nat) : Nat := (s.kitty.lastGen.get num).elim 0 fun g => (g + 1) % 16

/-- Sets a region. -/
def State.setRegion (n : Nat) (r : Region) (s : State) : State :=
  { s with kitty := { s.kitty with regions := s.kitty.regions.put n r } }

/-! ## Region commands (R63 to R70) -/

/-- Slots of a detour extent: one page each (R328). -/
def PlaceDesc.spillSlots (d : PlaceDesc) : Nat := d.length / slotBytes

/-- ALLOC (R64 to R66, R328): on failure the slot completes; otherwise units and number are taken and charged, and the map is in force once every port
has it (R67). -/
def allocRun (slot : Nat) (s : State) : State :=
  let a0 := s.slotArg .kitty slot 0
  let a1 := s.slotArg .kitty slot 1
  let a2 := s.slotArg .kitty slot 2
  let n := bitsOf a0 11 0
  let pl := bitsOf a0 15 12
  let sel := bitsOf a0 20 16
  let spill := bitOf a0 24
  let owner := (ownerOf a1).getD .system
  let pd := s.pds.get a2
  let us := (s.offer (placementDies pl sel)).take n
  let num := s.freeNumber
  let st := r21 [
    (decide (2304 < n) || (spill && decide (256 < n)), St.length),
    (spill && pd.any fun d => decide (d.spillSlots < 128 * n), St.length),
    (n == 0 || (ownerOf a1).isNone || decide (3 ≤ pl) || (pl == 1 && decide (3 < sel)) || (pl == 2 && decide (23 < sel)), St.range),
    (spill && !(pd.any fun d => d.kind == 3 && d.tier == 1 && d.owner == owner), St.range),
    (!s.quotaAdmits owner 0 (s.unitUse owner) n, St.quota),
    (decide (us.length < n) || num.isNone, St.busy)]
  if st ≠ St.ok then
    ((if st = St.quota then s.quotaRefused owner 0 else s)).slotDone .kitty slot st
  else
    let num := num.getD 0
    let gen := s.nextGen num
    let r : Region := ⟨gen, owner, bitsOf a0 23 21, bitOf a0 25, spill, us, if spill then a2 else 0, []⟩
    let t := s.setUnits .allocated us
    ({ t with kitty := { t.kitty with lastGen := t.kitty.lastGen.put num gen } }).slotWaits .kitty slot (.mapNew num r)

/-- A system region of the node's own over given units, known as `k` (R58, R60). -/
def State.systemRegion (k cls num : Nat) (us : List Nat) (s : State) : State :=
  let gen := s.nextGen num
  let t := (s.setRegion num ⟨gen, .system, cls, false, false, us, 0, []⟩).setUnits .allocated us
  { t with kitty := { t.kitty with lastGen := t.kitty.lastGen.put num gen, service := t.kitty.service.put k num } }

/-- The hand pool: the lowest-numbered region number and units as ALLOC takes them; where there is no room, none (R64, R156). -/
def State.handPool (n : Nat) (s : State) : State :=
  let us := (s.offer (placementDies 0 0)).take n
  match s.freeNumber with
  | some num => if us.length < n then s else s.systemRegion 0 1 num us
  | none => s

/-- The region that the node's own transfers of a class pass through (R51, R145, R178, R183): `n` units for each quadrant, on SD 6q+5, the highest free; part
`4 i + q` is a unit of quadrant `q`. The manual places none of them (log 42). -/
def State.serviceRegion (cls n : Nat) (s : State) : State :=
  let dies := (List.range 4).map fun q => ((List.range 96).map fun i => 96 * (6 * q + 5) + 95 - i).filter s.unitFree
  let us := (List.range n).flatMap fun i => dies.filterMap fun l => l[i]?
  if us.length < 4 * n then s
  else match ((List.range 4095).map (4095 - ·)).find? fun k => !s.numbersTaken.has k with
    | some num => s.systemRegion cls cls num us
    | none => s

/-- Page commands that wait for a spill or a recall of a region that is freed complete with NOT_OWNER (R69). -/
def State.pagesDropped (r : Region) (s : State) : State :=
  r.pages.foldl (fun s e => match e.2 with
    | .spilling _ _ k _ w =>
      let t := (List.range k).foldl (fun s _ => s.emit (.pageCmd St.notOwner e.1)) s
      w.elim t fun x => t.emit (.pageCmd St.notOwner x.1)
    | .recalling _ _ => s.emit (.pageCmd St.notOwner e.1)
    | _ => s) s

/-- FREE (R68): the handle is invalid at once; the units drain until the map copies are gone. -/
def freeRun (slot : Nat) (s : State) : State :=
  let h := s.slotArg .kitty slot 2 % 65536
  match s.region h with
  | none => s.slotDone .kitty slot St.notOwner
  | some r =>
    let t := ({ (s.pagesDropped r) with kitty := { s.kitty with regions := s.kitty.regions.del (h % 4096) } }).setUnits .draining r.units
    t.slotWaits .kitty slot (.mapDrop r.units h)

/-- TRANSFER (R65, R66): a new owner is charged, and takes the region once the new map is in force (R67); to the present owner nothing is charged (log 17). -/
def transferRun (slot : Nat) (s : State) : State :=
  let h := s.slotArg .kitty slot 2 % 65536
  let a1 := s.slotArg .kitty slot 1
  match ownerOf a1, s.region h with
  | none, _ => s.slotDone .kitty slot St.range
  | some _, none => s.slotDone .kitty slot St.notOwner
  | some o, some r =>
    if r.owner != o && !s.quotaAdmits o 0 (s.unitUse o) r.unitCount then (s.quotaRefused o 0).slotDone .kitty slot St.quota
    else s.slotWaits .kitty slot (.mapOwner h o)

/-- Frames of the units at some places of a region's list (R88). -/
def framesOf (places : List Nat) : List Nat := places.flatMap fun i => (List.range 32).map (32 * i + ·)

/-- The places of a region's list that hold units. -/
def Region.places (r : Region) : List Nat := (List.range r.units.length).filter fun i => r.units.getD i noUnit != noUnit

/-- A frame no page occupies. -/
def Region.frameFree (r : Region) (f : Nat) : Bool := !(r.pages.vals.any fun p => p.holds == some f)

/-- Copies a page's bytes from one frame to another, in class W7 (R95). -/
def State.copyFrame (r : Region) (f g : Nat) (s : State) : State :=
  let a := r.frameAddr f 0
  let b := r.frameAddr g 0
  let port := scrubPort (unitDie (b / unitBytes))
  (({ s with kmem := Mem.writeBytes s.kmem b (Mem.readBytes s.kmem a pageBytes) }).busUnit port 7 (a / unitBytes) (a % unitBytes) pageBytes).busUnit port 7
    (b / unitBytes) (b % unitBytes) pageBytes

/-- Moves the sealed pages of removed units into free frames of the rest, by page number, each into the lowest frame left (R95, log 17). -/
def shrinkPages : List (Nat × PageSt) → List Nat → Region → State → Region × State
  | [], _, r, s => (r, s)
  | (p, .sealed f t) :: rest, g :: gs, r, s =>
    shrinkPages rest gs { r with pages := r.pages.put p (.sealed g t) } (s.copyFrame r f g)
  | _ :: rest, gs, r, s => shrinkPages rest gs r s

/-- A page's frame renumbered. -/
def PageSt.reframe (g : Nat → Nat) : PageSt → PageSt
  | .opened f => .opened (g f)
  | .sealed f t => .sealed (g f) t
  | .spilling f t r e w => .spilling (g f) t r e w
  | .spilled t => .spilled t
  | .recalling f t => .recalling (g f) t

/-- A region with only the units at some places of its list, in their order; the frames that stay keep their units. -/
def Region.keep (r : Region) (places : List Nat) : Region :=
  { r with units := places.map fun i => r.units.getD i noUnit
           pages := r.pages.mapVals (PageSt.reframe fun f => 32 * places.findIdx (· == f / 32) + f % 32) }

/-- Units added to a region: into the places of returned units first, then at the tail (R72, R95). -/
def Region.grow (r : Region) (us : List Nat) : Region :=
  let holes := (List.range r.units.length).filter fun i => r.units.getD i 0 == noUnit
  { r with units := (holes.zip us).foldl (fun l x => l.set x.1 x.2) r.units ++ us.drop holes.length }

/-- RESIZE (R64 to R66, R68, R95). A growing RESIZE has its units and their charge at once, and the region them once the new map is in force (R67). A
shrinking one waits its turn while a page in a removed unit has an access in flight, or is being spilled or recalled (log 17). -/
def resizeRun (slot : Nat) (s : State) : State :=
  let a0 := s.slotArg .kitty slot 0
  let h := s.slotArg .kitty slot 2 % 65536
  let n := bitsOf a0 11 0
  let pl := bitsOf a0 15 12
  let sel := bitsOf a0 20 16
  let num := h % 4096
  match s.region h with
  | none =>
    s.slotDone .kitty slot (r21 [(decide (2304 < n), St.length), (n == 0, St.range), (true, St.notOwner)])
  | some r =>
    let have_ := r.unitCount
    if have_ < n then
      let more := n - have_
      let us := (s.offer (placementDies pl sel)).take more
      let pd := s.pds.get r.detour
      let st := r21 [
        (decide (2304 < n) || (r.spill && decide (256 < n)), St.length),
        (r.spill && decide ((pd.elim 0 PlaceDesc.spillSlots) < 128 * n), St.length),
        (decide (3 ≤ pl) || (pl == 1 && decide (3 < sel)) || (pl == 2 && decide (23 < sel)), St.range),
        (!s.quotaAdmits r.owner 0 (s.unitUse r.owner) more, St.quota),
        (decide (us.length < more), St.busy)]
      if st ≠ St.ok then (if st = St.quota then s.quotaRefused r.owner 0 else s).slotDone .kitty slot st
      else (s.setUnits .allocated us).slotWaits .kitty slot (.mapGrow h us)
    else if n = 0 then s.slotDone .kitty slot St.range
    else
      let stay := r.places.take n
      let gone := (r.places.drop n).map fun i => r.units.getD i noUnit
      let inGone (p : PageSt) : Bool := match p.holds with | some f => !(f / 32 ∈ stay) | none => false
      let moved := r.pages.filter fun e => inGone e.2
      let free := (framesOf stay).filter r.frameFree
      let bad := r.spill && (
        r.pages.any (fun e => decide (128 * n ≤ e.1)) ||
        moved.any (fun e => match e.2 with | .opened _ => true | _ => false) ||
        decide (free.length < moved.length))
      let waits := r.spill && moved.any fun e => match e.2 with
        | .sealed f _ => s.accessInFlight (r.frameAddr f 0) pageBytes
        | _ => true
      if bad then s.slotDone .kitty slot St.busy
      else if waits then s
      else
        let x := if r.spill then shrinkPages moved free r s else (r, s)
        ((x.2.setRegion num (x.1.keep stay)).setUnits .draining gone).slotWaits .kitty slot (.mapDrop gone h)

/-- Runs a region command that has just come to its turn (R63); an undefined opcode completes with RANGE. -/
def kittyRun (slot op : Nat) (s : State) : State :=
  match op with
  | 1 => allocRun slot s
  | 2 => freeRun slot s
  | 3 => transferRun slot s
  | 4 => resizeRun slot s
  | _ => s.slotDone .kitty slot St.range

/-- A region command completes once every port has dropped its stale map copy: the new map is in force from here on, and issued accesses to freed units are
done (R67, R68). -/
def rcmdComplete (slot : Nat) (s : State) : State :=
  let done (st : Nat) (h : Nat) (t : State) : State :=
    serialTurn .kitty kittyRun 4 (t.slotDone .kitty slot (if st = St.ok then h * 65536 else st))
  match (s.slots.runs.get (slotKey .kitty slot)).bind SlotRun.wait with
  | some (.mapNew num r) => done St.ok (r.handle num) (s.setRegion num r)
  | some (.mapOwner h o) => match s.region h with
    | some r => done St.ok h (s.setRegion (h % 4096) { r with owner := o })
    | none => done St.notOwner h s
  | some (.mapGrow h us) => match s.region h with
    | some r => done St.ok h (s.setRegion (h % 4096) (r.grow us))
    | none => done St.notOwner h (s.startScrub us)
  | some (.mapDrop units h) =>
    if units.any fun u => s.accessInFlight (u * unitBytes) unitBytes then s
    else done St.ok h (s.startScrub units)
  | _ => s

/-- The bank group of a unit holds a bank that is served without a spare (R515). -/
def State.groupUnspared (s : State) (u : Nat) : Bool := s.flt.noSpare.any fun b => decide (b / 32 = u / 32)

/-- A unit's scrub ends: its accesses have been granted, its bytes are 0, and it returns to the free pool (R62), or leaves it for good (R515). An access
issued before the unit was freed comes first (R68). -/
def unitScrubDone (u : Nat) (s : State) : State :=
  match s.kitty.units.get u with
  | some .scrub =>
    if s.accessInFlight (u * unitBytes) unitBytes then s
    else
      let t := s.busGranted fun x => x.port == scrubPort (unitDie u) && x.unit == u
      { t with
        kmem := Mem.zero t.kmem (u * unitBytes) unitBytes
        kitty := { t.kitty with units := if t.groupUnspared u then t.kitty.units.put u .out else t.kitty.units.del u } }
  | _ => s

/-! ## Pages (R88 to R94) -/

/-- The oldest sealed resident page with no access in flight: smallest seal time, then lower page number (R92). -/
def State.oldestSealed (s : State) (r : Region) : Option (Nat × Nat × Nat) :=
  (minBy (fun e : Nat × Nat × Nat => e.2.2 * 2 ^ 16 + e.1) (r.pages.filterMap fun e => match e.2 with
    | .sealed f t => if s.accessInFlight (r.frameAddr f 0) pageBytes then none else some (e.1, f, t)
    | _ => none))

/-- How a frame is found for OPEN or RECALL (R91, R473): a frame, a frame in a unit added, a page to spill first, or a status. -/
inductive FrameFor where
  | frame (f : Nat)
  | newUnit (unit pos : Nat)
  | spill (page frame time : Nat)
  | fails (status : Nat)
deriving DecidableEq, Repr

/-- Step order of R91; at its KV page quota the holder takes step 3 only (R473). Step 2 takes the unit that ALLOC would take under SPREAD (log 17). -/
def State.findFrame (s : State) (r : Region) : FrameFor :=
  let atPageQuota := !s.quotaAdmits r.owner 1 (s.pageUse r.owner) 1
  let freeFrame := (framesOf r.places).find? r.frameFree
  let pos := if r.units.contains noUnit then r.units.findIdx (· == noUnit) else r.units.length
  let slots := ((s.pds.get r.detour).elim 0 PlaceDesc.spillSlots) / 128
  let unitQuota := s.quotaAdmits r.owner 0 (s.unitUse r.owner) 1
  let newUnit := (s.offer (List.range 24)).head?
  let spill := match s.oldestSealed r with
    | some (p, f, t) => FrameFor.spill p f t
    | none => .fails (if atPageQuota || !unitQuota then St.quota else St.busy)
  if atPageQuota then spill
  else match freeFrame with
    | some f => .frame f
    | none =>
      if unitQuota && decide (r.unitCount < 256) && decide (pos < slots) then
        match newUnit with
        | some u => .newUnit u pos
        | none => spill
      else spill

/-- Answers a page command. -/
def State.pageAnswer (st page : Nat) (s : State) : State := s.emit (.pageCmd st page)

/-- The page gets its frame: OPEN makes it OPEN, RECALL starts the expansion of its slot (R90). A page that has left the state its command needs completes
with RANGE, and the frame stays free (log 17). -/
def State.givePage (num page : Nat) (back : Bool) (f : Nat) (s : State) : State :=
  match s.kitty.regions.get num with
  | none => s.pageAnswer St.notOwner page
  | some r =>
    match back, r.pages.get page with
    | true, some (.spilled t) => s.setRegion num { r with pages := r.pages.put page (.recalling f t) }
    | false, none => (s.setRegion num { r with pages := r.pages.put page (.opened f) }).pageAnswer St.ok page
    | _, _ => s.pageAnswer St.range page

/-- Finds a frame for a page and gives it, or starts the spill that frees one (R91). -/
def State.takeFrame (num page : Nat) (back : Bool) (s : State) : State :=
  match s.kitty.regions.get num with
  | none => s
  | some r =>
    match s.findFrame r with
    | .frame f => s.givePage num page back f
    | .newUnit u pos =>
      let us := if pos < r.units.length then r.units.set pos u else r.units ++ [u]
      ((s.setRegion num { r with units := us }).setUnits .allocated [u]).givePage num page back (32 * pos)
    | .spill p f t => s.setRegion num { r with pages := r.pages.put p (.spilling f t 0 false (some (page, back))) }
    | .fails st => (if st = St.quota then s.quotaRefused r.owner (if !s.quotaAdmits r.owner 1 (s.pageUse r.owner) 1 then 1 else 0) else s).pageAnswer st page

/-- A page command is a transport control message: its access is granted in class T0 on the store die of the region's first unit (R74, R90, log 42). -/
def State.controlMsg (h : W16) (s : State) : State :=
  match (s.region h.toNat).bind fun r => r.units.find? (· != noUnit) with
  | some u => s.countGrants (unitDie u) 0 1
  | none => s

/-- A page command's checks (R61, R90); the port has write access to the region. -/
def State.pageChecks (s : State) (domain : Owner) (h page : Nat) (okState : Option PageSt → Bool) : Nat :=
  match s.region h with
  | none => St.notOwner
  | some r =>
    r21 [(!mayReach domain r.owner || (r.readOnly && domain != .system), St.denied),
         (!r.spill || decide (128 * r.units.length ≤ page) || !okState (r.pages.get page), St.range)]

/-- OPEN (R90, R91). -/
def pageOpen (domain : Owner) (h : W16) (page : Nat) (s : State) : State :=
  let waits := (s.region h.toNat).any fun r => r.pages.vals.any fun p =>
    match p with | .spilling _ _ _ _ (some (q, false)) => q == page | _ => false
  let st := s.pageChecks domain h.toNat page fun p => p.isNone && !waits
  if st ≠ St.ok then s.pageAnswer st page else s.takeFrame (h.toNat % 4096) page false

/-- SEAL (R90): the page becomes SEALED at the LTC of now (R89). -/
def pageSeal (domain : Owner) (h : W16) (page : Nat) (s : State) : State :=
  let st := s.pageChecks domain h.toNat page fun p => match p with | some (.opened _) => true | _ => false
  match s.region h.toNat with
  | some r =>
    match r.pages.get page, st with
    | some (.opened f), 0 => (s.setRegion (h.toNat % 4096) { r with pages := r.pages.put page (.sealed f s.now) }).pageAnswer St.ok page
    | _, _ => s.pageAnswer st page
  | none => s.pageAnswer st page

/-- RECALL (R90, R91). A page whose slot lay on a retired stack completes with FAULT (R524). `prefetch` marks a recall of the decode runtime's, which counts it
(R345). -/
def pageRecall (domain : Owner) (h : W16) (page : Nat) (prefetch : Bool) (s : State) : State :=
  let st := s.pageChecks domain h.toNat page fun p => match p with | some (.spilled _) => true | _ => false
  match s.region h.toNat with
  | none => s.pageAnswer st page
  | some r =>
    if st ≠ St.ok then s.pageAnswer st page
    else if (s.pds.get r.detour).elim true PlaceDesc.lost then s.pageAnswer St.fault page
    else (s.bumpIf prefetch Reg.STACK_KV_PREFETCHES).takeFrame (h.toNat % 4096) page true

/-- The bytes of a page's detour slot, read as a tile (R88). -/
def State.slotTile (s : State) (d : PlaceDesc) (page : Nat) : Bytes × Bool :=
  let base := page * slotBytes
  let hdr := s.objRead d base 192
  let n := fieldAt hdr 0 2
  if n = 0 ∨ 64 < n then ([], false)
  else decodeTile (fun o k => s.objRead d (base + o) k) (byteAt hdr 2) ((List.range n).map fun i => fieldAt hdr (64 + 2 * i) 2)

/-- The slot of a recalled page is expanded: SEALED with its original seal time (R90). -/
def pageRecallDone (h : W16) (page : Nat) (s : State) : State :=
  match s.region h.toNat with
  | none => s
  | some r =>
    match r.pages.get page, s.pds.get r.detour with
    | some (.recalling f t), some d =>
      let x := s.slotTile d page
      if x.2 then
        let a := r.frameAddr f 0
        let m := Mem.writeBytes s.kmem a (sliceAt x.1 0 pageBytes)
        let u := ({ s with kmem := m }).busUnit (scrubPort (unitDie (a / unitBytes))) r.cls (a / unitBytes) (a % unitBytes) pageBytes
        ((u.setRegion (h.toNat % 4096) { r with pages := r.pages.put page (.sealed f t) }).bump
          Reg.KITTY_RECALL_PAGES).pageAnswer St.ok page
      else
        ((s.setRegion (h.toNat % 4096) { r with pages := r.pages.put page (.spilled t) }).bump Reg.KITTY_CODEC_ERR).pageAnswer St.fault page
    | _, _ => s

/-- RELEASE (R90): the frame is free and the page FREE; during a spill it waits for the spill to end (R94). A RECALL under way of the page then completes with
RANGE: the page is no longer SPILLED (log 17). -/
def pageRelease (domain : Owner) (h : W16) (page : Nat) (s : State) : State :=
  let st := s.pageChecks domain h.toNat page fun p => p.isSome
  match s.region h.toNat with
  | none => s.pageAnswer st page
  | some r =>
    let free := s.setRegion (h.toNat % 4096) { r with pages := r.pages.del page }
    match r.pages.get page, st with
    | some (.spilling f t k e w), 0 => s.setRegion (h.toNat % 4096) { r with pages := r.pages.put page (.spilling f t (k + 1) e w) }
    | some (.recalling _ _), 0 => (free.pageAnswer St.range page).pageAnswer St.ok page
    | some _, 0 => free.pageAnswer St.ok page
    | _, _ => s.pageAnswer st page

/-- Returns the units of a region whose 32 frames are all free, while its holder is over its quota (R72); one with an access in flight stays for now. -/
def returnUnits : List Nat → Nat → State → State
  | [], _, s => s
  | i :: rest, num, s =>
    match s.kitty.regions.get num with
    | none => s
    | some r =>
      let u := r.units.getD i noUnit
      let excess := !s.quotaAdmits r.owner 0 (s.unitUse r.owner) 0
      if excess && u != noUnit && decide (1 < r.unitCount) && ((List.range 32).all fun k => r.frameFree (32 * i + k))
          && !s.accessInFlight (u * unitBytes) unitBytes then
        returnUnits rest num ((s.setRegion num { r with units := r.units.set i noUnit }).startScrub [u])
      else returnUnits rest num s

/-- Returns the emptied units of all spill regions of a holder over its quota (R72). -/
def State.returnEmptied (o : Owner) (s : State) : State :=
  (s.kitty.regions.filter fun e => e.2.owner == o && e.2.spill).foldl (fun s e => returnUnits (List.range e.2.units.length) e.1 s) s

/-- A spill's slot is written, its accesses granted: the page is SPILLED and its frame free in the same cycle (R94). RELEASEs that waited are answered; the
frame goes to the page that waits for it, and emptied units of a holder over its quota return (R72). -/
def pageSpillDone (h : W16) (page : Nat) (s : State) : State :=
  let num := h.toNat % 4096
  match s.region h.toNat with
  | none => s
  | some r =>
    match r.pages.get page, s.pds.get r.detour with
    | some (.spilling f t release evict waiter), some d =>
      let a := r.frameAddr f 0
      let tile := codeTile d.width (cutBlocks 16 (Mem.readBytes s.kmem a pageBytes))
      let s0 := s.busUnit (scrubPort (unitDie (a / unitBytes))) (if evict then 7 else r.cls) (a / unitBytes) (a % unitBytes) pageBytes
      let s1 := { s0 with smem := d.store (page * slotBytes) tile s0.smem }
      let r1 := { r with pages := if release = 0 then r.pages.put page (.spilled t) else r.pages.del page }
      let s2 := ((s1.setRegion num r1).bump Reg.KITTY_SPILL_PAGES).bumpIf evict Reg.KITTY_EVICT_PAGES
      let s3 := (List.range release).foldl (fun s i => s.pageAnswer (if i = 0 then St.ok else St.range) page) s2
      match waiter with
      | some (p, back) => s3.givePage num p back f
      | none => s3.returnEmptied r.owner
    | _, _ => s

/-- The oldest sealed resident page of a holder over all its spill regions: region number, page, frame, time (R72); at equal time and page number the lower
region number (log 17). -/
def State.oldestOf (s : State) (o : Owner) : Option (Nat × Nat × Nat × Nat) :=
  minBy (fun e : Nat × Nat × Nat × Nat => (e.2.2.2 * 2 ^ 16 + e.2.1) * 4096 + e.1)
    ((s.kitty.regions.filter fun e => e.2.owner == o && e.2.spill).filterMap fun e =>
      (s.oldestSealed e.2).map fun p => (e.1, p.1, p.2.1, p.2.2))

/-- A holder is over its Kitty unit quota or its KV page quota (R72, R472). -/
def State.overQuota (s : State) (o : Owner) : Bool :=
  !s.quotaAdmits o 0 (s.unitUse o) 0 || !s.quotaAdmits o 1 (s.pageUse o) 0

/-- The holder has a sealed resident page left, be it with an access in flight or on its way out (R73). -/
def State.sealedLeft (s : State) (o : Owner) : Bool :=
  s.kitty.regions.vals.any fun r => r.owner == o && r.spill && r.pages.vals.any fun p => match p with | .sealed _ _ | .spilling _ _ _ _ _ => true | _ => false

/-- One quota eviction (R72, R73): emptied units return; while the holder is still over, the oldest sealed page starts to spill, within KITTY_EVICT_RATE
pages in each span of 10,000 LTC units counted from LTC 0 (log 17); with no sealed resident page left the eviction stops, counted once. -/
def quotaEvict (o : Owner) (s0 : State) : State :=
  let s := s0.returnEmptied o
  let k := ownerKey o
  if !s.overQuota o then { s with kitty := { s.kitty with stuck := s.kitty.stuck.filter (· != k) } }
  else if !s.sealedLeft o then
    if k ∈ s.kitty.stuck then s
    else ({ s with kitty := { s.kitty with stuck := k :: s.kitty.stuck } }).bump Reg.KITTY_EVICT_STUCK
  else
    let w := s.now / 10000
    let used := match s.kitty.evict.get k with
      | some (w', c) => if w' = w then c else 0
      | none => 0
    if (s.reg Reg.KITTY_EVICT_RATE).toNat ≤ used then s
    else match s.oldestOf o with
      | none => s
      | some (num, p, f, t) =>
        match s.kitty.regions.get num with
        | none => s
        | some r =>
          (({ s with kitty := { s.kitty with evict := s.kitty.evict.put k (w, used + 1) } }).setRegion num
            { r with pages := r.pages.put p (.spilling f t 0 true none) })

/-! ## Tile transfers (R80 to R82, R87) -/

/-- Draws bytes that the manual leaves undefined (log 3). -/
def State.drawBytes (n : Nat) (s : State) : Bytes × State :=
  ((List.range n).map (Config.undefinedByte s.free), { s with free := s.free + 1 })

/-- The store die that carries the stack at site HS 5q+j: SD 6q+j (R31). -/
def stackDie (h : Nat) : Nat := 6 * (h / 5) + h % 5
/-- The stack attached to a store die, where it bears one (R31). -/
def dieStack (sd : Nat) : Option Nat := if sd < 24 ∧ sd % 6 < 5 then some (5 * (sd / 6) + sd % 6) else none

/-- The address that STACK_ADDR names, its reserved bits ignored (Table 2.5, R10). -/
def tileAddr (d : TileDesc) : Nat := d.stackAddr.toNat % 2 ^ 41
/-- Element width code and notify bit of FLAGS. -/
def tileWidth (d : TileDesc) : Nat := bitsOf d.flags.toNat 2 1
def tileNotify (d : TileDesc) : Bool := bitOf d.flags.toNat 0
/-- Byte offsets of source and destination. -/
def tileSrcOff (d : TileDesc) : Nat := 64 * d.srcLine.toNat
def tileDstOff (d : TileDesc) : Nat := 64 * d.dstLine.toNat

/-- The 32 bytes of a descriptor with a STATUS (Table 2.5). -/
def tileBytes (d : TileDesc) (status : Nat) : Bytes :=
  [d.op, d.flags] ++ leBytes 2 d.dstHandle.toNat ++ leBytes 4 d.dstLine.toNat ++ leBytes 8 d.stackAddr.toNat ++ leBytes 2 d.srcHandle.toNat
    ++ [0, 0] ++ leBytes 4 d.srcLine.toNat ++ leBytes 2 d.length.toNat ++ leBytes 2 d.tag.toNat ++ [BitVec.ofNat 8 status, 0, 0, 0]

/-- An address lies in a stack that exists, at a multiple of 64 (Table 2.5). -/
def stackOk (a : Nat) : Bool := decide (stackOf a < 20) && decide (a % 64 = 0)

/-- The fault event of a stack read's codes (R507: HS_CORR, HS_UNCORR). -/
def State.stackEcc (a : Nat) (e : EccOutcome) (s : State) : State :=
  let inst := 64 * stackOf a + Config.pseudoChannel a % 64
  match e with
  | .clean => s
  | .corrected => s.fault 0x0020 inst 0
  | .uncorrectable => s.fault 0x0021 inst 0

/-- Lists a transfer as under way, with the status it completes with (R82). -/
def State.tileStart (queue op status : Nat) (d : TileDesc) (s : State) : State :=
  { s with tiles := { s.tiles with running := s.tiles.running ++ [⟨queue, s.tiles.nextId, op, d, status⟩], nextId := s.tiles.nextId + 1 } }

/-- Tile queue `h` is that of the store die of stack `h`; it reads or writes lines of a region (R51, R74). -/
def State.tileRead (queue : Nat) (h : W16) (off n : Nat) (s : State) : Bytes × State :=
  match s.region h.toNat with
  | some r => (s.rgnRead r off n, s.busRgn (tilePort (stackDie queue)) r off n)
  | none => ([], s)
def State.tileWrite (queue : Nat) (h : W16) (off : Nat) (b : Bytes) (s : State) : State :=
  (s.region h.toNat).elim s fun r => s.portWrite (tilePort (stackDie queue)) r off b

/-- The checks of the stack that a transfer names (R81, R326). -/
def stackChecks (domain : Owner) (a : Nat) (may : Bool) : List (Bool × Nat) :=
  [(stackOk a && !(domain == .system || may), St.denied), (!stackOk a, St.range)]

/-- A range of a region that a transfer names: handle, offset, bytes, write. -/
abbrev TileRange := W16 × Nat × Nat × Bool

/-- The checks of the regions a transfer names (R81, R89, R93). -/
def State.tileChecks (s : State) (domain : Owner) (rgns : List TileRange) : List (Bool × Nat) :=
  rgns.flatMap fun g => s.rgnChecks domain g.1.toNat g.2.1 g.2.2.1 g.2.2.2

/-- A transfer is refused before any data moves (R81): counted where a page refused it (R89, R344) or the stack did (R326). -/
def State.tileRefused (queue op st : Nat) (d : TileDesc) (rgns : List TileRange) (stackDenied : Bool) (s : State) : State :=
  let byPage (c : Bool) (w : Bool) := rgns.any fun g => g.2.2.2 == w && (s.region g.1.toNat).any fun r =>
    c && (r.pageChecks g.2.1 g.2.2.1 g.2.2.2).any fun x => x.1 && x.2 == st
  let t := s.bumpIf (byPage (st == St.denied) true) Reg.KITTY_ACC_DENIED
  let t := t.bumpIf (byPage (st == St.range) true || byPage (st == St.range) false) Reg.KITTY_ACC_RANGE
  let t := t.bumpIf (byPage (st == St.busy) false) Reg.STACK_KV_SPILLED_READS
  (t.bumpIf stackDenied Reg.STACK_STK_DENIED).tileStart queue op st d

/-- An address on a retired stack, or in a lost descriptor (R524). -/
def State.stackGone (s : State) (a : Nat) : Bool :=
  s.isRetired 3 (stackOf a) || (s.descAt a).elim false PlaceDesc.lost

/-- A descriptor's opcode is one of the five (R81). -/
def tileOpOk (d : TileDesc) : Bool := decide (1 ≤ d.op.toNat ∧ d.op.toNat ≤ 5)

/-- The stack bytes that an EXPAND reads are open to the domain: the tile header and every block of it (R326, R83, R84). -/
def State.tileMay (s : State) (domain : Owner) (a : Nat) : Bool :=
  s.stackMay domain a 192 false &&
    (List.range (min 64 (leNat (Mem.readBytes s.smem a 2)))).all fun i =>
      let b := a + 64 * leNat (Mem.readBytes s.smem (a + 64 + 2 * i) 2)
      s.stackMay domain b 8 false && s.stackMay domain b (8 + leNat (Mem.readBytes s.smem b 2)) false

/-- EXPAND (R81, R87). A descriptor whose stack another store die carries runs in the queue it was posted to (log 17). -/
def tileExpand (queue : Nat) (domain : Owner) (d : TileDesc) (ecc : EccOutcome) (s : State) : State :=
  let a := tileAddr d
  let hdr := Mem.readBytes s.smem a 192
  let n := fieldAt hdr 0 2
  let rgns : List TileRange := [(d.dstHandle, (tileDstOff d), if stackOk a then 4096 * n else 0, true)]
  let may := s.tileMay domain a
  let st := if (tileOpOk d) then r21 (stackChecks domain a may ++ s.tileChecks domain rgns) else St.range
  if st ≠ St.ok then s.tileRefused queue 1 st d rgns ((tileOpOk d) && stackOk a && !(domain == .system || may))
  else if s.stackGone a then s.tileStart queue 1 St.fault d
  else
    let s := s.stackEcc a ecc
    if ecc = .uncorrectable then s.tileStart queue 1 St.fault d
    else if n = 0 ∨ 64 < n then (s.bump Reg.KITTY_CODEC_ERR).tileStart queue 1 St.fault d
    else
      let x := decodeTile (fun o k => Mem.readBytes s.smem (a + o) k) (byteAt hdr 2)
        ((List.range n).map fun i => fieldAt hdr (64 + 2 * i) 2)
      if x.2 then (s.tileWrite queue d.dstHandle (tileDstOff d) x.1).tileStart queue 1 St.ok d
      else
        let u := s.drawBytes x.1.length
        ((u.2.tileWrite queue d.dstHandle (tileDstOff d) u.1).bump Reg.KITTY_CODEC_ERR).tileStart queue 1 St.fault d

/-- COMPRESS (R81, R86). -/
def tileCompress (queue : Nat) (domain : Owner) (d : TileDesc) (s : State) : State :=
  let a := tileAddr d
  let n := d.length.toNat
  let rgns : List TileRange := [(d.srcHandle, (tileSrcOff d), 4096 * n, false)]
  let x := s.tileRead queue d.srcHandle (tileSrcOff d) (4096 * n)
  let tile := if n ≤ 64 then codeTile (tileWidth d) (cutBlocks n x.1) else []
  let may := s.stackMay domain a tile.length true
  if (tileOpOk d) && n == 0 then s.tileStart queue 2 St.ok d
  else
    let st := if (tileOpOk d) then r21 (stackChecks domain a may ++ s.tileChecks domain rgns ++ [(decide (64 < n), St.length), (decide (3 ≤ (tileWidth d)), St.range)])
      else St.range
    if st ≠ St.ok then s.tileRefused queue 2 st d rgns ((tileOpOk d) && stackOk a && !(domain == .system || may))
    else if s.stackGone a then s.tileStart queue 2 St.fault d
    else ({ x.2 with smem := Mem.writeBytes x.2.smem a tile }).tileStart queue 2 St.ok d

/-- COPY (R81). -/
def tileCopy (queue : Nat) (domain : Owner) (d : TileDesc) (s : State) : State :=
  let n := 64 * d.length.toNat
  let rgns : List TileRange := [(d.dstHandle, (tileDstOff d), n, true), (d.srcHandle, (tileSrcOff d), n, false)]
  if (tileOpOk d) && n == 0 then s.tileStart queue 3 St.ok d
  else
    let st := if (tileOpOk d) then r21 (s.tileChecks domain rgns) else St.range
    if st ≠ St.ok then s.tileRefused queue 3 st d rgns false
    else
      let x := s.tileRead queue d.srcHandle (tileSrcOff d) n
      (x.2.tileWrite queue d.dstHandle (tileDstOff d) x.1).tileStart queue 3 St.ok d

/-- FETCH_RAW (R81). -/
def tileFetchRaw (queue : Nat) (domain : Owner) (d : TileDesc) (ecc : EccOutcome) (s : State) : State :=
  let a := tileAddr d
  let n := 64 * d.length.toNat
  let rgns : List TileRange := [(d.dstHandle, (tileDstOff d), n, true)]
  let may := s.stackMay domain a n false
  if (tileOpOk d) && n == 0 then s.tileStart queue 4 St.ok d
  else
    let st := if (tileOpOk d) then r21 (stackChecks domain a may ++ s.tileChecks domain rgns) else St.range
    if st ≠ St.ok then s.tileRefused queue 4 st d rgns ((tileOpOk d) && stackOk a && !(domain == .system || may))
    else if s.stackGone a then s.tileStart queue 4 St.fault d
    else
      let s := s.stackEcc a ecc
      if ecc = .uncorrectable then s.tileStart queue 4 St.fault d
      else (s.tileWrite queue d.dstHandle (tileDstOff d) (Mem.readBytes s.smem a n)).tileStart queue 4 St.ok d

/-- STORE_RAW (R81). -/
def tileStoreRaw (queue : Nat) (domain : Owner) (d : TileDesc) (s : State) : State :=
  let a := tileAddr d
  let n := 64 * d.length.toNat
  let rgns : List TileRange := [(d.srcHandle, (tileSrcOff d), n, false)]
  let may := s.stackMay domain a n true
  if (tileOpOk d) && n == 0 then s.tileStart queue 5 St.ok d
  else
    let st := if (tileOpOk d) then r21 (stackChecks domain a may ++ s.tileChecks domain rgns) else St.range
    if st ≠ St.ok then s.tileRefused queue 5 st d rgns ((tileOpOk d) && stackOk a && !(domain == .system || may))
    else if s.stackGone a then s.tileStart queue 5 St.fault d
    else
      let x := s.tileRead queue d.srcHandle (tileSrcOff d) n
      ({ x.2 with smem := Mem.writeBytes x.2.smem a x.1 }).tileStart queue 5 St.ok d

/-- A transfer completes: its accesses have been granted and its writes acknowledged, STATUS is written in its descriptor, and the issuer notified when
asked (R82, Table 2.5). -/
def tileComplete (queue id : Nat) (s : State) : State :=
  match s.tiles.running.find? fun x => x.queue == queue && x.id == id with
  | none => s
  | some x =>
    let t := s.busDrain (tilePort (stackDie queue))
    let t := { t with tiles := { t.tiles with running := t.tiles.running.filter fun y => !(y.queue == queue && y.id == id),
                                              done := t.tiles.done.put id (tileBytes x.desc x.status) } }
    if tileNotify x.desc then t.emit (.tileNotice queue x.desc.tag.toNat x.status) else t

/-! ## KITTY registers (R96 to R98) -/

/-- A write to KITTY_RGN_SEL: a snapshot of the region (R98). -/
def rgnSel (v : W32) (s : State) : State :=
  if !s.isRunning then s
  else
    let n := (v &&& 0xFFF).toNat
    let t := s.setNat Reg.KITTY_RGN_SEL n
    match s.kitty.regions.get n with
    | none => ((t.setNat Reg.KITTY_RGN_INFO0 0).setNat Reg.KITTY_RGN_INFO1 0).setNat Reg.KITTY_RGN_INFO2 0
    | some r =>
      let spilled := (r.pages.vals.filter fun p => match p with | .spilled _ | .recalling _ _ => true | _ => false).length
      let sealed_ := (r.pages.vals.filter fun p => match p with | .sealed _ _ | .spilling _ _ _ _ _ => true | _ => false).length
      (((t.setNat Reg.KITTY_RGN_INFO0 (2 ^ 31 + r.gen * 2 ^ 27 + r.cls * 2 ^ 24 + b1 r.spill * 2 ^ 23 + b1 r.readOnly * 2 ^ 22
          + r.unitCount)).setNat Reg.KITTY_RGN_INFO1 (ownerKey r.owner)).setNat Reg.KITTY_RGN_INFO2
        (if r.spill then spilled * 2 ^ 16 + sealed_ else 0))

/-- A write to KITTY_QUOTA_SEL: the owner's quota and use (R98, R470). -/
def kquotaSel (v : W32) (s : State) : State :=
  if !s.isRunning then s
  else
    let n := (v &&& 0xC000FFFF).toNat
    let t := s.setNat Reg.KITTY_QUOTA_SEL n
    match ownerOf n with
    | some o =>
      if o = .system then (t.setNat Reg.KITTY_QUOTA_LIMIT 0).setNat Reg.KITTY_QUOTA_USE 0
      else (t.setNat Reg.KITTY_QUOTA_LIMIT (s.quotaLimit o 0)).setNat Reg.KITTY_QUOTA_USE (s.unitUse o)
    | none => (t.setNat Reg.KITTY_QUOTA_LIMIT 0).setNat Reg.KITTY_QUOTA_USE 0

/-- A write to KITTY_CLS_SEL: the class counters of a store die, or their sum over all (R97). -/
def clsSel (v : W32) (s : State) : State :=
  if !s.isRunning then s
  else
    let n := (v &&& 0x1F07).toNat
    let sd := bitsOf n 12 8
    let c := bitsOf n 2 0
    let one (d : Nat) : ClsCount := s.kitty.classes.getD (8 * d + c) ⟨0, 0⟩
    let sum (f : ClsCount → W64) : Nat :=
      if sd = 31 then min (2 ^ 64 - 1) (((List.range 24).map fun d => (f (one d)).toNat).foldl (· + ·) 0)
      else if sd < 24 then (f (one sd)).toNat else 0
    ((s.setNat Reg.KITTY_CLS_SEL n).setPair Reg.KITTY_CLS_GRANT_LO (sum ClsCount.grants)).setPair Reg.KITTY_CLS_WAIT_LO (sum ClsCount.waits)

end Sys2Proof.Machine
end

