-- ==== Sys2Proof/Machine/Engine.lean ====
section
/-! DEFINITION. Command queues, sync counters, completion records and sequencers of the compute dies (R279 to R285, R289 to R292), and
their registers (R294 to R296). What the commands compute stands in Matrix, Vector and Gather. -/

namespace Sys2Proof.Machine

/-! ## Units -/

/-- Number of a class in keys and completion records (R285, R348). -/
def clsNum : UnitClass → Nat
  | .me => 0 | .vu => 1 | .sk => 2 | .ge => 3
/-- Units of a class on one die, and the depth of their queues (R279, R352). -/
def clsPerDie : UnitClass → Nat
  | .me => 4 | .vu => 4 | .sk => 8 | .ge => 2
def clsDepth : UnitClass → Nat
  | .me => 64 | .vu => 64 | .sk => 32 | .ge => 32
/-- Fault class of a unit class (Table 15.3). -/
def clsFault : UnitClass → Nat
  | .me => 4 | .vu => 7 | .sk => 9 | .ge => 8

def engKey (c : UnitClass) (n : Nat) : Nat := 128 * clsNum c + n
def engDie (c : UnitClass) (n : Nat) : Nat := n / clsPerDie c
def engOk (c : UnitClass) (n : Nat) : Bool := decide (n < 8 * clsPerDie c)

/-- A unit as it is at start: the system's, empty, cleared, its generator seeded. -/
def engineReset (seed : W64) : Engine := ⟨.system, [], [], [], [], none, seed, none, 0, none, none, [⟨none, []⟩, ⟨none, []⟩]⟩
/-- A sequencer at start: off, its SRAMs and registers at 0 (the manual gives them no reset value, log 43). -/
def seqReset : SeqCore := ⟨0, .system, [], [], [], rvReset⟩

def State.engine (s : State) (c : UnitClass) (n : Nat) : Engine := s.eng.units.getD (engKey c n) (engineReset (Config.unitSeed s.eng.born (engKey c n)))
def State.seqCore (s : State) (q : Nat) : SeqCore := s.eng.seqs.getD q seqReset

/-- Offset of a unit's STATUS register and of a register beside it. -/
def engReg (c : UnitClass) (n : Nat) (meOff vuOff skOff geOff : Nat) : Nat :=
  match c with
  | .me => meOff + 0x80000 * (n / 4) + 0x100 * (n % 4)
  | .vu => vuOff + 0x80000 * (n / 4) + 0x40 * (n % 4)
  | .sk => skOff + 0x80000 * (n / 8) + 0x40 * (n % 8)
  | .ge => geOff + 0x40 * n

/-- A unit is retired (R514, R517). -/
def State.engRetired (s : State) (c : UnitClass) (n : Nat) : Bool := s.isRetired (clsFault c) n

/-- CD_ME_SHADOW (Table 7.11). -/
def Engine.shadowCode (e : Engine) : Nat :=
  if e.running.any fun r => r.res == .shadow then 1 else if e.shadow.isSome then 2 else 0

/-- A bank is written or read by a started command. -/
def Engine.bankBusy (e : Engine) (b : Nat) : Bool := e.running.any fun r => r.res == .array b || r.res == .drain b

/-- The STATUS register of a unit (Tables 7.10, 7.11, 10.7). -/
def State.engStatus (s : State) (c : UnitClass) (n : Nat) : Nat :=
  let e := s.engine c n
  let top := 2 ^ 31 * b1 (!e.running.isEmpty) + 2 ^ 30 * b1 (s.engRetired c n) + e.last
  match c with
  | .me => top + 2 ^ 28 * (e.active.elim 0 WTile.mode) + 2 ^ 24 * (e.active.elim 0 WTile.fmt) + 2 ^ 22 * e.shadowCode
      + 2 ^ 20 * (b1 (e.bankBusy 0) + 2 * b1 (e.bankBusy 1)) + 2 ^ 8 * e.queue.length
  | .vu => top + 2 ^ 8 * e.queue.length
  | .sk => top + 2 ^ 8 * e.queue.length
  | .ge => top + 2 ^ 24 * e.queue.length + 2 ^ 8 * ((s.emb.runs.get n).elim 0 fun r => r.reads.length)

/-- Stores a unit and shows its status. -/
def State.setEngine (c : UnitClass) (n : Nat) (e : Engine) (s : State) : State :=
  let t := { s with eng := { s.eng with units := s.eng.units.put (engKey c n) e } }
  t.setNat (engReg c n Reg.CD_ME_STATUS Reg.CD_VU_STATUS Reg.CD_SK_STATUS Reg.STACK_GE_STATUS) (t.engStatus c n)

def State.setSeq (q : Nat) (x : SeqCore) (s : State) : State :=
  ({ s with eng := { s.eng with seqs := s.eng.seqs.put q x } }).setNat (Reg.CD_SQ_STATE + 0x80000 * (q / 8) + 0x40 * (q % 8)) x.state

/-! ## Command fields (Table 7.5) -/

def cmdOp (b : Bytes) : Nat := byteAt b 0
def cmdFlag (b : Bytes) (i : Nat) : Bool := bitOf (byteAt b 1) i
def cmdWaitCtr (b : Bytes) : Nat := byteAt b 2 % 64
def cmdSigCtr (b : Bytes) : Nat := byteAt b 3 % 64
/-- Operand `k` (0 OPA, 1 OPB, 2 OPC): handle and byte offset. -/
def cmdHandle (b : Bytes) (k : Nat) : Nat := fieldAt b (16 + 8 * k) 2
def cmdOffset (b : Bytes) (k : Nat) : Nat := 64 * fieldAt b (20 + 8 * k) 4

/-! ## Sync counters (R283) -/

def syncOff (die ctr : Nat) : Nat := Reg.CD_SYNC + 0x80000 * die + 4 * ctr
/-- The owner of a counter's group: that of the local sequencer of the group. -/
def State.syncOwner (s : State) (die ctr : Nat) : Owner := (s.seqCore (8 * die + ctr / 8)).owner
/-- The counter's group is held by an owner. -/
def State.holdsCtr (s : State) (o : Owner) (die ctr : Nat) : Bool := s.syncOwner die ctr == o
/-- A request's DIE and SYNC, 0xFF for none, name a counter that its owner's groups do not hold; no die above 7 has one (R283). -/
def State.ctrRefused (s : State) (o : Owner) (die ctr : Nat) : Bool := die != 255 && (decide (7 < die) || !s.holdsCtr o die ctr)
/-- A wait is satisfied: (counter − value) mod 2^32 < 2^31. -/
def waitMet (ctr : W32) (value : Nat) : Bool := decide ((ctr - w32 value).toNat < 2 ^ 31)
/-- Adds 1 to a counter. -/
def State.signal (die ctr : Nat) (s : State) : State := s.setReg (syncOff die ctr) (s.reg (syncOff die ctr) + 1)

/-- A counter that the command names with WAIT or SIGNAL belongs to another owner. -/
def State.ctrDenied (s : State) (die : Nat) (x : EngCmd) : Bool :=
  let o := (s.seqCore x.sq).owner
  (cmdFlag x.bytes 1 && !s.holdsCtr o die (cmdWaitCtr x.bytes)) || (cmdFlag x.bytes 2 && !s.holdsCtr o die (cmdSigCtr x.bytes))

/-- The command's wait is met; a counter it may not name holds nothing up, since the command is then refused. -/
def State.cmdWaitMet (s : State) (die : Nat) (x : EngCmd) : Bool :=
  !cmdFlag x.bytes 1 || s.ctrDenied die x || waitMet (s.reg (syncOff die (cmdWaitCtr x.bytes))) (fieldAt x.bytes 4 4)

/-! ## Resources (R282) -/

/-- The resources a command uses are free (R270, R282). -/
def Engine.free (c : UnitClass) (e : Engine) (b : Bytes) : Bool :=
  match c with
  | .me =>
    let bank := byteAt b 44
    match cmdOp b with
    | 0x10 => e.shadow.isNone
    | 0x11 => !(e.running.any fun r => match r.res with | .array _ => true | _ => false) && !e.bankBusy bank
        && (!bitOf (byteAt b 45) 0 || e.shadowCode == 2)
    | 0x12 => !e.bankBusy bank
    | _ => true
  | _ => e.running.isEmpty

/-- A unit may start commands: it is not retired, not being cleared and holds no record (R285). -/
def State.engAble (s : State) (c : UnitClass) (n : Nat) : Bool :=
  let e := s.engine c n
  s.isRunning && engOk c n && !s.engRetired c n && e.clearing.isNone && e.held.isEmpty

/-- Notes when the front command became ready but for its wait (R283). -/
def State.noteReady (c : UnitClass) (n : Nat) (s : State) : State :=
  let e := s.engine c n
  match e.queue with
  | [] => s.setEngine c n { e with ready := none }
  | x :: _ =>
    if s.engAble c n && e.free c x.bytes then
      if e.ready.isSome then s else s.setEngine c n { e with ready := some s.now }
    else s.setEngine c n { e with ready := none }

/-- Counts a posted command in its sequencer's register. -/
def State.countPosted (q : Nat) (s : State) : State := s.bump (Reg.CD_SQ_POSTED + 0x80000 * (q / 8) + 0x40 * (q % 8))

/-- Stalled posts enter the queue as room appears (R281). -/
def State.admitStalled : Nat → UnitClass → Nat → State → State
  | 0, _, _, s => s
  | k + 1, c, n, s =>
    let e := s.engine c n
    match e.stalled with
    | x :: rest =>
      if e.queue.length < clsDepth c then
        State.admitStalled k c n ((s.setEngine c n { e with queue := e.queue ++ [x], stalled := rest }).countPosted x.sq)
      else s
    | [] => s

/-- A sequencer is stalled on a store. -/
def State.seqStalled (s : State) (q : Nat) : Bool := s.eng.units.vals.any fun e => e.stalled.any fun x => x.sq == q

/-- COMMAND_POST (R281): the command enters the unit's queue, or the sequencer stalls while the queue is full. `corrected`: the codes of the sequencer's SRAMs
corrected an error as it ran up to this post (R289, R507). -/
def commandPost (die sq : Nat) (c : UnitClass) (unit : Nat) (b : Bytes) (corrected : Bool) (s : State) : State :=
  let q := 8 * die + sq
  let n := clsPerDie c * die + unit
  if !(s.isRunning && decide (die < 8 ∧ sq < 8 ∧ unit < clsPerDie c)) || (s.seqCore q).state != 2 || s.seqStalled q then s
  else
    let s := if corrected then (s.bump (Reg.CD_SQ_ECC_CE + 0x80000 * die + 0x40 * sq)).fault 0x0034 q 0 else s
    let x : EngCmd := ⟨sliceAt b 0 64, q, (s.seqCore q).owner⟩
    let e := s.engine c n
    if e.queue.length < clsDepth c && e.stalled.isEmpty then
      ((s.setEngine c n { e with queue := e.queue ++ [x] }).countPosted q).noteReady c n
    else s.setEngine c n { e with stalled := e.stalled ++ [x] }

/-- The front command of a unit, where it is the operation asked for and may start. -/
def State.startable (s : State) (c : UnitClass) (n : Nat) (op : Nat → Bool) : Option EngCmd :=
  let e := s.engine c n
  match e.queue with
  | x :: _ =>
    if s.engAble c n && op (cmdOp x.bytes) && e.free c x.bytes && s.cmdWaitMet (engDie c n) x then some x else none
  | [] => none

/-- Starts the front command with the status and resource found; it stays started until it completes. One refused with BUSY reads a spilled page (R344). -/
def State.startCmd (c : UnitClass) (n : Nat) (x : EngCmd) (st : Nat) (refused : Bool) (res : EngRes) (s : State) : State :=
  let e := s.engine c n
  let t := s.setEngine c n { e with queue := e.queue.drop 1, running := e.running ++ [⟨x, st, refused, res⟩], ready := none }
  let t := if refused then
      (t.bump (engReg c n Reg.CD_ME_CMD_ERR Reg.CD_VU_CMD_ERR Reg.CD_SK_CMD_ERR Reg.STACK_GE_CMD_ERR)).bumpIf (st == St.busy) Reg.STACK_KV_SPILLED_READS
    else t
  (t.admitStalled 8 c n).noteReady c n

/-- The checks every command gets first: DENIED (R284). -/
def State.engDenied (s : State) (c : UnitClass) (n : Nat) (x : EngCmd) : Bool :=
  (s.seqCore x.sq).owner != (s.engine c n).owner || s.ctrDenied (engDie c n) x

/-- The first bytes of each page of a range, and its start: where a region's access check can differ. -/
def pageStarts (off n : Nat) : List Nat :=
  if n = 0 then [] else off :: ((List.range ((off + n - 1) / pageBytes - off / pageBytes)).map fun i => (off / pageBytes + 1 + i) * pageBytes)

/-- An operand's check by R61, over its whole range. -/
def State.operandStatus (s : State) (domain : Owner) (h off n : Nat) (write : Bool) : Nat :=
  let acc (o : Nat) : Access := ⟨0, 0, domain, BitVec.ofNat 16 h, o, 1, if write then some [0] else none, false, .clean⟩
  match (pageStarts off (max n 1)).find? fun o => s.accessStatus (acc o) != 0 with
  | some o => s.accessStatus (acc o)
  | none => St.ok


/-- The status of a command's checks (R284): DENIED, LENGTH, RANGE, then each operand in turn. Operands: handle, offset, bytes, write. -/
def State.engChecks (s : State) (c : UnitClass) (n : Nat) (x : EngCmd) (length range : Bool) (ops : List (Nat × Nat × Nat × Bool)) : Nat :=
  let o := (s.engine c n).owner
  let first := r21 [(s.engDenied c n x, St.denied), (length || ops.any fun p => s.beyond p.1 p.2.1 p.2.2.1, St.length), (range, St.range)]
  if first ≠ St.ok then first
  else match ops.find? fun p => s.operandStatus o p.1 p.2.1 p.2.2.1 p.2.2.2 != 0 with
    | some p => s.operandStatus o p.1 p.2.1 p.2.2.1 p.2.2.2
    | none => St.ok

/-- KV page parts that a range of a spill region reads are counted (R343). -/
def State.countKvRead (h off n : Nat) (s : State) : State :=
  match s.region h with
  | some r => if r.spill && n != 0 then s.bump64 Reg.STACK_KV_PAGE_READS_LO (pagesOf off n).length else s
  | none => s

/-- The accesses of a unit's command to its operands wait at the banks until it completes (R51, R74): handle, offset and bytes of each; the parts of KV pages that
it reads are counted (R343). -/
def State.opUses (c : UnitClass) (n : Nat) (ops : List (Nat × Nat × Nat × Bool)) (s : State) : State :=
  ops.foldl (fun s p => (if p.2.2.2 then s else s.countKvRead p.1 p.2.1 p.2.2.1).busHandle (enginePort (clsNum c) n) p.1 p.2.1 p.2.2.1) s

/-- Bytes of an operand. -/
def State.opRead (s : State) (b : Bytes) (k n : Nat) : Bytes :=
  match s.region (cmdHandle b k) with
  | some r => s.rgnRead r (cmdOffset b k) n
  | none => []

/-- Writes bytes at an operand. -/
def State.opWrite (b : Bytes) (k : Nat) (v : Bytes) (s : State) : State :=
  match s.region (cmdHandle b k) with
  | some r => s.rgnWrite r (cmdOffset b k) v
  | none => s

/-! ## Completion (R283, R285) -/

/-- The completion record of a command (R285). -/
def State.cmdRecord (s : State) (c : UnitClass) (n : Nat) (x : EngCmd) (st : Nat) : Bytes :=
  leBytes 2 (fieldAt x.bytes 8 2) ++ leBytes 1 st ++ leBytes 1 (64 * clsNum c + n % clsPerDie c) ++ leBytes 4 0 ++ leBytes 8 s.now

/-- Writes a record to a completion queue, or holds it in its unit while the queue is full (R285). -/
def State.record (c : UnitClass) (n : Nat) (sq : Nat) (r : Bytes) (s : State) : State :=
  let x := s.seqCore sq
  if x.cq.length < 64 then s.setSeq sq { x with cq := x.cq ++ [r] }
  else s.setEngine c n { (s.engine c n) with held := (s.engine c n).held ++ [⟨sq, r, s.now⟩] }

/-- What a completed command counts (Table 7.10): tiles loaded, passes and their MACs, SKEW commands. -/
def State.countDone (c : UnitClass) (n : Nat) (r : EngRun) (s : State) : State :=
  if r.status ≠ St.ok then s
  else match c, r.res with
  | .sk, _ => s.bump (engReg c n 0 0 Reg.CD_SK_DONE 0)
  | .me, .shadow => s.bump (engReg .me n Reg.CD_ME_TILES 0 0 0)
  | .me, .array _ => (s.bump64 (engReg .me n Reg.CD_ME_MACS_LO 0 0 0) (fieldAt r.cmd.bytes 42 2 * 65536)).bump (engReg .me n Reg.CD_ME_PASSES 0 0 0)
  | _, _ => s

/-- A command completes: its accesses have been granted, its counters, its signal, its record and the unit's last status. A refused command has no effect, so it
signals nothing. -/
def State.completeCmd (c : UnitClass) (n : Nat) (r : EngRun) (s : State) : State :=
  let e := s.engine c n
  let t := s.setEngine c n { e with last := r.status }
  let t := if cmdFlag r.cmd.bytes 2 && !r.refused then t.signal (engDie c n) (cmdSigCtr r.cmd.bytes) else t
  let t := (t.countDone c n r).busDrain (enginePort (clsNum c) n)
  let t := if cmdFlag r.cmd.bytes 0 then t.record c n r.cmd.sq (t.cmdRecord c n r.cmd r.status) else t
  t.noteReady c n

/-- Operations of a class. -/
def opsOf : UnitClass → List Nat
  | .me => [0x10, 0x11, 0x12]
  | .vu => [0x20, 0x21, 0x22, 0x23, 0x24, 0x25, 0x26, 0x27, 0x28, 0x29, 0x2A]
  | .sk => [0x30]
  | .ge => [0x40, 0x41]

/-- Residue mismatches of vector units and skew DMA engines (R507): each counted; after two the operation, repeated once, completes with FAULT. -/
def State.residue (c : UnitClass) (n mismatches : Nat) (s : State) : State :=
  match c with
  | .vu | .sk => (List.range (min 2 mismatches)).foldl (fun s _ => s.faultOf 0x0032 (clsFault c) n 0) s
  | _ => s
def residueStatus (c : UnitClass) (mismatches : Nat) (r : EngRun) : Nat :=
  if (c == .vu || c == .sk) && decide (2 ≤ mismatches) && !r.refused then St.fault else r.status

/-- UNIT_COMMAND_COMPLETE: the started command at `place`, in starting order, completes, which need not be the first (R282); a front command with an undefined OP
is refused with RANGE (R284). A gather completes with its last position, not here. -/
def unitCommandComplete (c : UnitClass) (n place mismatches : Nat) (s : State) : State :=
  let e := s.engine c n
  if !s.isRunning || !engOk c n || !e.held.isEmpty then s
  else match e.running[place]?, e.running with
    | some r, _ =>
      if c == .ge && s.emb.runs.has n && !r.refused then s
      else (((if r.refused then s else s.residue c n mismatches)).setEngine c n { e with running := e.running.eraseIdx place }).completeCmd c n
        { r with status := residueStatus c mismatches r }
    | none, _ :: _ => s
    | none, [] => match s.startable c n fun op => !(opsOf c).contains op with
      | some x =>
        let t := s.startCmd c n x (if s.engDenied c n x then St.denied else St.range) true .nothing
        let e := t.engine c n
        match e.running with
        | r :: rest => (t.setEngine c n { e with running := rest }).completeCmd c n r
        | [] => t
      | none => s

/-- COMPLETION_QUEUE_SPACE: the sequencer takes its oldest record; the oldest record held for it is then written (R285). -/
def completionQueueSpace (die sq : Nat) (s : State) : State :=
  let q := 8 * die + sq
  let x := s.seqCore q
  if !(s.isRunning && decide (die < 8 ∧ sq < 8)) || x.cq.isEmpty then s
  else
    let t := s.setSeq q { x with cq := x.cq.drop 1 }
    let waiting := [UnitClass.me, .vu, .sk, .ge].flatMap fun c => (List.range (clsPerDie c)).filterMap fun u =>
      let n := clsPerDie c * die + u
      ((t.engine c n).held.find? fun h => h.sq == q).map fun h => (h.since, c, n, h)
    match minBy (fun w => w.1) waiting with
    | none => t
    | some (_, c, n, h) =>
      ((t.setEngine c n { (t.engine c n) with held := (t.engine c n).held.erase h }).record c n q h.record).noteReady c n

/-- One LTC unit passes: each unit that holds a record for a sequencer adds to its CD_SQ_CQ_STALL (R285). -/
def countHolds (s : State) : State :=
  s.eng.units.vals.foldl (fun s e => match e.held with
    | h :: _ => s.bump (Reg.CD_SQ_CQ_STALL + 0x80000 * (h.sq / 8) + 0x40 * (h.sq % 8))
    | [] => s) s

/-- CD_WAIT_TIMEOUT (R283): a front command that was ready but for its wait for CD_WAIT_LIMIT completes with TIMEOUT; a signal on the LTC value of the limit comes
first (R17). -/
def cdWaitTimeout (c : UnitClass) (n : Nat) (s : State) : State :=
  let e := s.engine c n
  match e.queue, e.ready with
  | x :: rest, some since =>
    let limit := (s.reg (Reg.CD_WAIT_LIMIT + 0x80000 * engDie c n)).toNat
    if s.engAble c n && !s.cmdWaitMet (engDie c n) x && s.past (since + limit) then
      let t := (s.setEngine c n { e with queue := rest, ready := none }).bump
        (engReg c n Reg.CD_ME_WAIT_TO Reg.CD_VU_WAIT_TO Reg.CD_SK_WAIT_TO Reg.STACK_GE_WAIT_TO)
      (t.admitStalled 8 c n).completeCmd c n ⟨x, St.timeout, false, .nothing⟩
    else s
  | _, _ => s

/-- SYNC_COUNTER_ACCESS (R283): a counter of another owner's group reads 0, and a write to it is ignored. -/
def syncAccess (die sq ctr : Nat) (w : Option W32) (s : State) : State :=
  let q := 8 * die + sq
  if !(s.isRunning && decide (die < 8 ∧ sq < 8 ∧ ctr < 64)) || (s.seqCore q).state != 2 then s
  else
    let mine := s.holdsCtr (s.seqCore q).owner die ctr
    match w with
    | some v => if mine then s.setReg (syncOff die ctr) v else s
    | none => s.emit (.syncRead q (if mine then s.reg (syncOff die ctr) else 0))

/-! ## Sequencers, owners and reclaim (R290 to R292, R517) -/

/-- Counts commands ended with ABORTED, for matrix engines (R292). -/
def State.countAborted (c : UnitClass) (n k : Nat) (s : State) : State :=
  match c with
  | .me => s.bumpBy (engReg .me n Reg.CD_ME_ABORTED 0 0 0) k
  | _ => s

/-- Commands that sequencer `q` posted to a unit and that have not started complete with ABORTED, without records (R291). -/
def State.dropPosted (q : Nat) (c : UnitClass) (n : Nat) (s : State) : State :=
  let e := s.engine c n
  let gone := (e.queue.filter fun x => x.sq == q).length + (e.stalled.filter fun x => x.sq == q).length
  if gone = 0 then s
  else
    let t := s.setEngine c n { e with queue := e.queue.filter fun x => x.sq != q, stalled := e.stalled.filter fun x => x.sq != q,
                                      ready := none, last := St.aborted }
    ((t.countAborted c n gone).admitStalled 8 c n).noteReady c n

/-- A sequencer's halt on a die: every unit of the die drops what it posted. -/
def State.haltSeq (q : Nat) (s : State) : State :=
  [UnitClass.me, .vu, .sk, .ge].foldl (fun s c => (List.range (clsPerDie c)).foldl (fun s u => s.dropPosted q c (clsPerDie c * (q / 8) + u)) s) s

/-- SEQUENCER_HALT (R291): an uncorrectable ECC error (SQ_ECC_UE) or an unhandled trap. -/
def sequencerHalt (die sq : Nat) (ecc : Bool) (s : State) : State :=
  let q := 8 * die + sq
  if !(s.isRunning && decide (die < 8 ∧ sq < 8)) || (s.seqCore q).state != 2 then s
  else
    let t := ((s.setSeq q { (s.seqCore q) with state := 4 }).haltSeq q).emit (.firmwareNotice 4 q)
    if ecc then (t.bump (Reg.CD_SQ_ECC_UE + 0x80000 * die + 0x40 * sq)).fault 0x0035 q 0 else t

/-- SEQUENCER_ASSIGN (R290, R296): the group's 8 counters become 0, the owner and program are set, and the sequencer runs. -/
def sequencerAssign (die sq : Nat) (o : Owner) (program : Bytes) (s : State) : State :=
  let q := 8 * die + sq
  let isTenant := match o with | .tenant _ => true | _ => false
  if !(s.isRunning && decide (die < 8 ∧ sq < 8)) || isTenant || s.isRetired 10 q then s
  else
    let t := (List.range 8).foldl (fun t i => t.setNat (syncOff die (8 * sq + i)) 0) s
    (t.setSeq q { (s.seqCore q) with state := 2, owner := o, program := program, cpu := rvReset }).setNat (Reg.CD_SQ_OWNER + 0x80000 * die + 0x40 * sq) (ownerKey o)

/-- A unit leaves its owner (R292): its commands complete with ABORTED at once, and it is cleared for its new owner. -/
def State.reclaimUnit (c : UnitClass) (n : Nat) (o : Owner) (s : State) : State :=
  let e := s.engine c n
  let all := e.running.map EngRun.cmd ++ e.queue
  let t := s.setEngine c n { e with queue := [], running := [], ready := none, clearing := some o,
                                    last := if all.isEmpty then e.last else St.aborted }
  let t := t.bus' fun b => b.filter fun u => u.port != enginePort (clsNum c) n
  let t := match c with
    | .ge => { t with emb := { t.emb with runs := t.emb.runs.del n, waiting := t.emb.waiting.filter fun w => w.ge != n,
                                          moves := t.emb.moves.mapVals fun m => { m with held := m.held.filter fun h => h.ge != n } } }
    | _ => t
  let t := t.countAborted c n all.length
  all.foldl (fun t x => if cmdFlag x.bytes 0 then t.record c n x.sq (t.cmdRecord c n x St.aborted) else t) t

/-- UNIT_CLEAR_DONE (R292, R307): weights and banks are 0, the generator is reseeded from the random source, and the unit is its new
owner's. -/
def unitClearDone (c : UnitClass) (n : Nat) (s : State) : State :=
  let e := s.engine c n
  match e.clearing with
  | none => s
  | some o =>
    let e' := { e with owner := o, clearing := none, shadow := none, active := none, banks := (engineReset 0).banks,
                       rng := Config.unitSeed s.free (engKey c n) }
    let t := ({ s with free := s.free + 1 }).setEngine c n e'
    let t := match c with
      | .sk => t
      | _ => t.setNat (engReg c n Reg.CD_ME_OWNER Reg.CD_VU_OWNER 0 Reg.STACK_GE_OWNER) (ownerKey o)
    (t.admitStalled 8 c n).noteReady c n

/-- Takes `n` draws of a unit's generator. -/
def State.engDraws (c : UnitClass) (n k : Nat) (s : State) : List Nat × State :=
  let e := s.engine c n
  let d := rngDraws k e.rng
  (d.1, s.setEngine c n { e with rng := d.2 })

end Sys2Proof.Machine
end

