-- ==== Sys2Proof/Machine/Matrix.lean ====
section
/-! DEFINITION. What matrix engines and skew DMA engines compute: weight and activation tiles, passes, banks, drains and SKEW (R262 to R278,
R286, R287, R293, R297, R298). -/

namespace Sys2Proof.Machine

/-- Depth of a shape mode, its width, and the rows its banks hold (Table 7.2). -/
def modeDepth : Nat → Nat
  | 0 => 256 | 1 => 64 | _ => 16
def modeWidth (m : Nat) : Nat := 65536 / modeDepth m
def modeRows (m : Nat) : Nat := 131072 / modeWidth m

/-- Bytes of an element in a tile; 0 for two elements to a byte (R273, R275, R302). -/
def tileElem (fmt : Nat) : Nat :=
  match fmt with
  | 1 => 0 | 10 => 0 | 4 => 2 | _ => 1

/-- Formats of operands (R280): all but the output formats. -/
def operandFmt (f : Nat) : Bool := decide (f ≤ 4 ∨ (6 ≤ f ∧ f ≤ 11))

/-- The pairs of Table 7.1. -/
def pairOk (w a : Nat) : Bool :=
  let fp8 (f : Nat) : Bool := f == 2 || f == 3
  ((w == 0 || w == 1) && a == 0) || (w == 1 && a == 1) || (fp8 w && fp8 a) || (w == 4 && a == 4) || (isMx w && isMx a)

/-- Two rows a cycle (R264, R265). -/
def rowPairs (w a : Nat) : Bool := (w == 1 && a == 1) || (w == 10 && a == 10)

/-- Cycles of the array clock that M rows take at the pair's rate (R271). -/
def passCycles (w a m : Nat) : Nat := if rowPairs w a then (m + 1) / 2 else if w == 4 then 4 * m else m

/-- Bytes of the elements of a weight tile, and where its sums or scales start (R275, R276, R302). -/
def weightBody (fmt : Nat) : Nat := if tileElem fmt = 0 then 32768 else 65536 * tileElem fmt
/-- Bytes of a weight tile with its sums or scales. -/
def weightBytes (fmt mode : Nat) (sums : Bool) : Nat :=
  weightBody fmt + (if isMx fmt then (modeDepth mode + 31) / 32 * modeWidth mode else if isIntFmt fmt && sums then 4 * modeWidth mode else 0)

/-- Words of an activation tile (R273), and where its sums or scales start (R276, R302). -/
def actWords (fmt m : Nat) : Nat := if tileElem fmt = 0 then (m + 1) / 2 else m
def actTail (fmt d m : Nat) : Nat := 64 * ((actWords fmt m * d * max 1 (tileElem fmt) + 63) / 64)
/-- Bytes of an activation tile with its sums or scales. -/
def actBytes (fmt d m : Nat) (sums : Bool) : Nat :=
  if isMx fmt then actTail fmt d m + m * ((d + 31) / 32)
  else if isIntFmt fmt && sums then actTail fmt d m + 4 * (if tileElem fmt = 0 then 2 * actWords fmt m else m)
  else actWords fmt m * d * max 1 (tileElem fmt)

/-- The code at (m, k) of an activation tile (R273). -/
def actCode (fmt d mRows : Nat) (b : Bytes) (m k : Nat) : Nat :=
  let mw := actWords fmt mRows
  match tileElem fmt with
  | 0 => byteAt b ((m / 2 + k) % mw * d + k) / 2 ^ (4 * (m % 2)) % 16
  | e => fieldAt b ((m + k) % mw * d * e + k * e) e

/-- The code at (k, n) of a weight tile (R275). -/
def weightCode (fmt mode : Nat) (b : Bytes) (k n : Nat) : Nat :=
  let d := modeDepth mode
  let w := modeWidth mode
  match tileElem fmt with
  | 0 => byteAt b ((d - 1 - k) * w / 2 + n / 2) / 2 ^ (4 * (n % 2)) % 16
  | e => fieldAt b ((d - 1 - k) * w * e + n * e) e

/-- The integer of a code (R297). -/
def intCode (fmt n : Nat) : Int := if fmt = 1 then signedOf (n % 16) 4 else signedOf (n % 256) 8

/-- The value of an activation with its block's scale (R266, R302). -/
def actVal (fmt d mRows : Nat) (b : Bytes) (m k : Nat) : FVal :=
  let v := elemVal fmt (actCode fmt d mRows b m k)
  if isMx fmt then scaleVal (byteAt b (actTail fmt d mRows + m * ((d + 31) / 32) + k / 32)) v else v

/-- The value of a weight with its block's scale. -/
def weightVal (fmt mode : Nat) (b : Bytes) (k n : Nat) : FVal :=
  let v := elemVal fmt (weightCode fmt mode b k n)
  if isMx fmt then scaleVal (byteAt b (weightBody fmt + k / 32 * modeWidth mode + n)) v else v

/-- A column's pass sum in integers, corrected for the zero points (R277). Sums that a tile does not carry are those of its lanes. -/
def intPass (w : WTile) (fmtA d mRows : Nat) (za : Int) (sumsA : Bool) (a : Bytes) (m n : Nat) : Int :=
  let ks := List.range d
  let x (k : Nat) : Int := intCode fmtA (actCode fmtA d mRows a m k)
  let y (k : Nat) : Int := intCode w.fmt (weightCode w.fmt w.mode w.bytes k n)
  let s := ks.foldl (fun acc k => acc + x k * y k) 0
  let ra := if sumsA then signedOf (fieldAt a (actTail fmtA d mRows + 4 * m) 4) 32 else ks.foldl (fun acc k => acc + x k) 0
  let cw := if w.sums then signedOf (fieldAt w.bytes (weightBody w.fmt + 4 * n) 4) 32 else ks.foldl (fun acc k => acc + y k) 0
  s - w.zw * ra - za * cw + d * za * w.zw

/-- A column's pass sum in FP32: products rounded, added in ascending k (R263, R267). -/
def fpPass (w : WTile) (fmtA d mRows : Nat) (a : Bytes) (m n : Nat) : W32 :=
  (List.range d).foldl (fun acc k => fadd acc (f32Of (mulVal (actVal fmtA d mRows a m k) (weightVal w.fmt w.mode w.bytes k n)))) 0

/-- A bank after a pass, and the column results that saturated (R267, R277, R286). -/
def passBank (w : WTile) (fmtA mRows : Nat) (za : Int) (sumsA clear : Bool) (a : Bytes) (b : Bank) : Bank × Nat :=
  let d := modeDepth w.mode
  let wd := modeWidth w.mode
  let int := isIntFmt w.fmt
  let cell (acc : Tbl W32 × Nat) (i : Nat) : Tbl W32 × Nat :=
    let m := i / wd
    let n := i % wd
    let old : W32 := if clear then 0 else b.words.getD i 0
    let r : W32 × Bool :=
      if int then
        let x := satInt32 (old.toInt + intPass w fmtA d mRows za sumsA a m n)
        (BitVec.ofInt 32 x.1, x.2)
      else
        let p := fpPass w fmtA d mRows a m n
        (if clear then p else fadd old p, false)
    (acc.1.put i r.1, acc.2 + b1 r.2)
  let r := (List.range (mRows * wd)).foldl cell (b.words, 0)
  (⟨some (w.mode, int), r.1⟩, r.2)

/-- LOAD_WEIGHTS (R269, R277, R284, R298). -/
def loadWeights (n : Nat) (s : State) : State :=
  match s.startable .me n (· == 0x10) with
  | none => s
  | some x =>
    let fmt := byteAt x.bytes 40
    let mode := byteAt x.bytes 41
    let zw := signedOf (byteAt x.bytes 42) 8
    let sums := bitOf (byteAt x.bytes 43) 0
    let size := weightBytes fmt mode sums
    let ops := [(cmdHandle x.bytes 0, cmdOffset x.bytes 0, size, false)]
    let st := s.engChecks .me n x false
      (!operandFmt fmt || decide (2 < mode) || (isIntFmt fmt && !sums && zw != 0) || (fmt == 1 && decide (zw < -8 ∨ 7 < zw))) ops
    if st ≠ St.ok then s.startCmd .me n x st true .nothing
    else
      let e := s.engine .me n
      let t := s.setEngine .me n { e with shadow := some ⟨mode, fmt, zw, sums, s.opRead x.bytes 0 size⟩ }
      (t.opUses .me n ops).startCmd .me n x St.ok false .shadow

/-- STREAM (R270, R271, R277, R284, R286, R293): `mismatches` residue mismatches, each counted; after two the command completes with FAULT. -/
def stream (n mismatches : Nat) (s : State) : State :=
  match s.startable .me n (· == 0x11) with
  | none => s
  | some x =>
    let e := s.engine .me n
    let fmt := byteAt x.bytes 40
    let za := signedOf (byteAt x.bytes 41) 8
    let m := fieldAt x.bytes 42 2
    let bank := byteAt x.bytes 44
    let swap := bitOf (byteAt x.bytes 45) 0
    let clear := bitOf (byteAt x.bytes 45) 1
    let sums := bitOf (byteAt x.bytes 45) 2
    let tile := if swap then e.shadow else e.active
    let d := tile.elim 0 fun w => modeDepth w.mode
    let b := e.banks.getD bank ⟨none, []⟩
    let size := if operandFmt fmt then actBytes fmt d m sums else 0
    let ops := [(cmdHandle x.bytes 0, cmdOffset x.bytes 0, size, false)]
    let st := s.engChecks .me n x (tile.elim false fun w => decide (modeRows w.mode < m))
      (!operandFmt fmt || decide (1 < bank) || tile.isNone || (tile.elim false fun w => !pairOk w.fmt fmt)
        || (isIntFmt fmt && !sums && za != 0) || (fmt == 1 && decide (za < -8 ∨ 7 < za))
        || (!clear && b.recorded != tile.map fun w => (w.mode, isIntFmt w.fmt))) ops
    match tile, st with
    | some w, 0 =>
      if m = 0 then s.startCmd .me n x St.ok false .nothing
      else
        let k := min 2 mismatches
        let sw := swap && e.active.any fun o => o.mode != w.mode
        let a := s.opRead x.bytes 0 size
        let r := passBank w fmt m za sums clear a b
        let e1 := if swap then { e with active := some w, shadow := none } else e
        let e2 := if k < 2 then { e1 with banks := e1.banks.set bank r.1 } else e1
        let t := ((s.opUses .me n ops).setEngine .me n e2).bumpIf sw (engReg .me n Reg.CD_ME_MODE_SW 0 0 0)
        let t := (List.range k).foldl (fun t _ => (t.bump (engReg .me n Reg.CD_ME_RESIDUE 0 0 0)).fault 0x0030 n 0) t
        let t := t.bump64 (engReg .me n Reg.CD_ME_BUSY_LO 0 0 0) (passCycles w.fmt fmt m * (if k = 0 then 1 else 2))
        if 2 ≤ k then t.startCmd .me n x St.fault false (.array bank)
        else
          (t.bumpBy (engReg .me n Reg.CD_ME_SAT 0 0 0) r.2).startCmd .me n x St.ok false (.array bank)
    | _, _ => s.startCmd .me n x st true .nothing

/-- DRAIN (R284, R286, R287, R303, R304, R308). -/
def drain (n : Nat) (s : State) : State :=
  match s.startable .me n (· == 0x12) with
  | none => s
  | some x =>
    let e := s.engine .me n
    let fmt := byteAt x.bytes 40
    let zy := signedOf (byteAt x.bytes 41) 8
    let m := fieldAt x.bytes 42 2
    let bank := byteAt x.bytes 44
    let mode := byteAt x.bytes 45 % 4
    let resc := bitOf (byteAt x.bytes 45) 2
    let b := e.banks.getD bank ⟨none, []⟩
    let sm := b.recorded.elim 0 Prod.fst
    let int := b.recorded.elim false Prod.snd
    let wd := modeWidth sm
    let combo := if int then (if resc then fmt == 0 || fmt == 1 else fmt == 12) else !resc && decide (2 ≤ fmt ∧ fmt ≤ 11)
    let size := arrayBytes fmt m wd
    let table := s.opRead x.bytes 1 (8 * wd)
    let shift (j : Nat) : Nat := byteAt table (8 * j + 4)
    let ops := (cmdHandle x.bytes 0, cmdOffset x.bytes 0, size, true) ::
      (if resc then [(cmdHandle x.bytes 1, cmdOffset x.bytes 1, 8 * wd, false)] else [])
    let st := s.engChecks .me n x (b.recorded.isSome && decide (modeRows sm < m))
      (decide (12 < fmt) || decide (1 < bank) || mode == 3 || b.recorded.isNone || !combo) ops
    let st := if st = St.ok && resc && (List.range wd).any fun j => decide (63 < shift j) then St.range else st
    if st ≠ St.ok then s.startCmd .me n x st true .nothing
    else if m = 0 then s.startCmd .me n x St.ok false .nothing
    else
      let cells := List.range (m * wd)
      let dr := if mode = 2 then s.engDraws .me n cells.length else ([], s)
      let t := dr.2
      let word (i : Nat) : W32 := b.words.getD i 0
      let out : Bytes × Nat :=
        if int then
          if resc then
            let rs := (cells.zip (dr.1 ++ List.replicate cells.length 0)).map fun p =>
              rescale (word p.1).toInt (fieldAt table (8 * (p.1 % wd)) 4) (shift (p.1 % wd)) zy mode fmt p.2
            (packElems fmt (rs.map fun r => (BitVec.ofInt 8 r.1).toNat), (rs.filter Prod.snd).length)
          else (cells.flatMap fun i => leBytes 4 (word i).toNat, 0)
        else
          let r := encodeArray fmt mode m wd (cells.map fun i => f32Val (word i)) dr.1
          (r.1, r.2.1)
      (((t.opUses .me n ops).opWrite x.bytes 0 out.1).bumpBy (engReg .me n Reg.CD_ME_SAT 0 0 0) out.2).startCmd .me n x St.ok false (.drain bank)

/-! ## SKEW (R278) -/

/-- The element code of a row-major source with a row stride; nibbles two to a byte (R297). -/
def srcCode (fmt stride : Nat) (b : Bytes) (i j : Nat) : Nat :=
  match tileElem fmt with
  | 0 => byteAt b (i * stride + j / 2) / 2 ^ (4 * (j % 2)) % 16
  | e => fieldAt b (i * stride + j * e) e

/-- Packs nibbles, low first. -/
def nibbles : List Nat → Bytes
  | [] => []
  | [a] => [BitVec.ofNat 8 (a % 16)]
  | a :: b :: rest => BitVec.ofNat 8 (a % 16 + 16 * (b % 16)) :: nibbles rest

/-- An activation tile from its element codes (R273); `pad` fills a missing high nibble. -/
def buildAct (fmt d m pad : Nat) (code : Nat → Nat → Nat) : Bytes :=
  let mw := actWords fmt m
  (List.range mw).flatMap fun w => (List.range d).flatMap fun k =>
    let r := (w + mw * d - k) % mw
    match tileElem fmt with
    | 0 => [BitVec.ofNat 8 (code (2 * r) k % 16 + 16 * ((if 2 * r + 1 < m then code (2 * r + 1) k else pad) % 16))]
    | e => leBytes e (code r k)

/-- A weight tile from its element codes (R275). -/
def buildWeight (fmt mode : Nat) (code : Nat → Nat → Nat) : Bytes :=
  let d := modeDepth mode
  let w := modeWidth mode
  (List.range d).flatMap fun i =>
    let k := d - 1 - i
    match tileElem fmt with
    | 0 => nibbles ((List.range w).map fun n => code k n)
    | e => (List.range w).flatMap fun n => leBytes e (code k n)

/-- Bytes of an element as SKEW copies it: an FP6 element has bits 7 and 6 written 0 (R301, R302). -/
def skewCode (fmt stride : Nat) (b : Bytes) (i j : Nat) : Nat :=
  let c := srcCode fmt stride b i j
  if fmt = 8 ∨ fmt = 9 then c % 64 else c

/-- Elements in a source row of `stride` bytes (R301). -/
def strideElems (fmt stride : Nat) : Nat := match tileElem fmt with | 0 => 2 * stride | e => stride / e

/-- SKEW (R276, R278, R284, R288, R298, R302): a tile of pre-skewed operands, with integer sums or copied scales where SUMS is set; an MX tile without SUMS has
elements only. The source's scales stand as in an R301 array whose rows take the stride; those it does not hold are free bytes (log 21). -/
def skewTile (n : Nat) (s : State) : State :=
  match s.startable .sk n (· == 0x30) with
  | none => s
  | some x =>
    let kind := byteAt x.bytes 40
    let mode := byteAt x.bytes 41
    let fmt := byteAt x.bytes 42
    let sums := bitOf (byteAt x.bytes 43) 0
    let tr := bitOf (byteAt x.bytes 43) 1 && kind == 1
    let rows := fieldAt x.bytes 44 2
    let cols := fieldAt x.bytes 46 2
    let stride := fieldAt x.bytes 48 4
    let z := signedOf (byteAt x.bytes 52) 8
    let d := modeDepth mode
    let wd := modeWidth mode
    let kRows := if tr then cols else rows
    let nCols := if tr then rows else cols
    let long := if kind = 0 then decide (d < cols) else decide (d < rows ∨ wd < cols)
    let body := if rows = 0 then 0 else (rows - 1) * stride + arrBytes fmt cols
    let scAt := 64 * ((rows * stride + 63) / 64)
    let pitch := (strideElems fmt stride + 31) / 32
    let srcBytes := if isMx fmt && sums then max body (scAt + (rows - 1) * pitch + (cols + 31) / 32) else body
    let dst := if isMx fmt && !sums then (if kind = 0 then actWords fmt rows * d * max 1 (tileElem fmt) else weightBody fmt)
      else if kind = 0 then actBytes fmt d rows sums else weightBytes fmt mode sums
    let ops := [(cmdHandle x.bytes 0, cmdOffset x.bytes 0, srcBytes, false), (cmdHandle x.bytes 1, cmdOffset x.bytes 1, dst, true)]
    let st := s.engChecks .sk n x long
      (!operandFmt fmt || decide (2 < mode) || decide (1 < kind) || (fmt == 1 && decide (z < -8 ∨ 7 < z))) ops
    if st ≠ St.ok then s.startCmd .sk n x st true .nothing
    else if rows = 0 ∨ cols = 0 then s.startCmd .sk n x St.ok false .nothing
    else
      let src := s.opRead x.bytes 0 srcBytes
      let pad : Nat := if isIntFmt fmt then (BitVec.ofInt 8 z).toNat % 2 ^ elemBits fmt else 0
      let code (k j : Nat) : Nat := if k < kRows ∧ j < nCols then (if tr then skewCode fmt stride src j k else skewCode fmt stride src k j) else pad
      let act (m k : Nat) : Nat := if m < rows ∧ k < cols then skewCode fmt stride src m k else pad
      let u := s.drawBytes (if isMx fmt && sums then dst else 0)
      let free (i : Nat) : Byte := u.1.getD i 0
      let scale (i j at_ : Nat) : Byte := if i < rows ∧ j < (cols + 31) / 32 then src.getD (scAt + i * pitch + j) 0 else free at_
      let blocks := (d + 31) / 32
      let tile : Bytes :=
        if kind = 0 then
          let b0 := buildAct fmt d rows pad act
          let b := b0 ++ List.replicate (actTail fmt d rows - b0.length) 0
          if isMx fmt then
            (if sums then b ++ (List.range (rows * blocks)).map (fun i => scale (i / blocks) (i % blocks) i) else b0)
          else if isIntFmt fmt && sums then
            b ++ (List.range (if tileElem fmt = 0 then 2 * actWords fmt rows else rows)).flatMap fun m =>
              leBytes 4 (BitVec.ofInt 32 ((List.range d).foldl (fun a k => a + intCode fmt (act m k)) 0)).toNat
          else b0
        else
          let b := buildWeight fmt mode code
          if isMx fmt then
            (if sums then b ++ (List.range (blocks * wd)).map (fun i => if tr then scale (i % wd) (i / wd) i else free i) else b)
          else if isIntFmt fmt && sums then
            b ++ (List.range wd).flatMap fun c =>
              leBytes 4 (BitVec.ofInt 32 ((List.range d).foldl (fun a k => a + intCode fmt (code k c)) 0)).toNat
          else b
      let t := if isMx fmt && sums then u.2 else s
      (((t.opUses .sk n ops).opWrite x.bytes 1 tile).bump64 (engReg .sk n 0 0 Reg.CD_SK_BYTES_LO 0) tile.length).startCmd .sk n x St.ok false .whole

end Sys2Proof.Machine
end

