-- ==== Sys2Proof/Machine/Sched.lean ====
section
/-! DEFINITION. Scheduling, shaping and gates (R454 to R469), quotas by command (R470 to R476), and the SCHED registers (R477, R478). The
items of a point are its link's packets or its tenant's queries; their units call `selectQueue` and `afterSend`. -/

namespace Sys2Proof.Machine

/-- RATE of an unshaped queue (R461). -/
abbrev unshaped : Nat := 0xFFFFFFFF

/-- A queue at start: LEVEL 0, no deficit. -/
def queueReset (rate burst weight : Nat) : SchedQueue := ⟨rate, burst, weight, 0, 0, true, none, 0, 0, 0, 0⟩

/-- Default egress settings of a link (Table 13.2). -/
def linkPoint : PointSt :=
  ⟨[queueReset 10000 64 1, queueReset 60000 1024 1, queueReset unshaped 64 64, queueReset unshaped 64 32, queueReset unshaped 64 32,
    queueReset unshaped 64 48, queueReset unshaped 64 48, queueReset unshaped 64 8], 2, [], 0, 0, none, 0, [], none⟩

/-- Default admission settings of a tenant (R460). -/
def tenantPoint : PointSt := ⟨List.replicate 8 (queueReset unshaped 64 32), 2, [], 0, 0, none, 0, [], none⟩

/-- Key of a point. -/
def pointKey : Point → Nat
  | .link l => l
  | .tenant t => 4096 + t

/-- A point's record. -/
def State.point (s : State) (p : Point) : PointSt :=
  s.sched.getD (pointKey p) (match p with | .link _ => linkPoint | .tenant _ => tenantPoint)

/-- Replaces a point's record. -/
def State.setPoint (p : Point) (v : PointSt) (s : State) : State := { s with sched := s.sched.put (pointKey p) v }

/-- The point exists: a link of the node, or a configured tenant (R454). -/
def State.pointOk (s : State) : Point → Bool
  | .link l => decide (l < 96)
  | .tenant t => s.tenantConfigured t

/-- The refill period of a kind of point (Table 13.1). -/
def refillPeriod : Point → Nat
  | .link _ => 100
  | .tenant _ => 1000

/-- The quantum unit QU (Table 13.1). -/
def quantumUnit : Point → Nat
  | .link _ => 4
  | .tenant _ => 1

/-- The queue a point keeps at an index. -/
def PointSt.queue (p : PointSt) (q : Nat) : SchedQueue := p.queues.getD q (queueReset unshaped 64 1)

/-- The gate of a queue is open: under no list, or where the entry's MASK has its bit (R464). -/
def PointSt.gateOpen (p : PointSt) (q : Nat) : Bool :=
  match p.gates[p.entry]? with
  | none => true
  | some g => bitOf g.2 q

/-- The MASK in force: every gate open under no list (R464). -/
def PointSt.mask (p : PointSt) : Nat := (p.gates[p.entry]?).elim 255 Prod.snd
/-- The gates change at an LTC value: what was open before any change of that value is kept (R467). -/
def PointSt.gatesChange (p : PointSt) (ltc : Nat) : PointSt :=
  { p with closing := if p.closing.any fun c => c.1 == ltc then p.closing else some (ltc, p.mask) }
/-- A queue whose item reached the head on the LTC value at which the gate closes is selected under the gates before the change (R467). -/
def PointSt.stillOpen (p : PointSt) (now : Nat) (headAt : Nat → Nat) (q : Nat) : Bool :=
  p.closing.any fun c => c.1 == now && bitOf c.2 q && headAt q == now

/-- A bucket lets its queue send (R456). -/
def SchedQueue.levelOk (q : SchedQueue) : Bool := q.rate == unshaped || decide (0 < q.level)

/-- A queue with a head item, by its cost, is eligible (R456); `credit` is the partner's credit for the head packet, `still` the gate that closes on this
LTC value. -/
def PointSt.eligible (p : PointSt) (heads : List (Option Nat)) (credit still : Nat → Bool) (q : Nat) : Bool :=
  (heads.getD q none).isSome && (p.queue q).levelOk && (p.gateOpen q || still q) && credit q

/-- The weighted group's walk (R458): each visit of an eligible queue gives a fresh one its quantum and serves the head the deficit covers;
`fuel` bounds the visits, 6 for each item of at most 69 tokens a queue of weight 1 may have to gather. -/
def selectWeighted (qu : Nat) (heads : List (Option Nat)) (ok : Nat → Bool) : Nat → PointSt → Option Nat × PointSt
  | 0, p => (none, p)
  | fuel + 1, p =>
    let q := p.pointer
    let x := p.queue q
    let next := if q ≥ 7 then 2 else q + 1
    let walk (x : SchedQueue) := selectWeighted qu heads ok fuel
      { p with queues := p.queues.set q { x with fresh := true }, pointer := next }
    if ok q then
      let x := if x.fresh then { x with deficit := x.deficit + x.weight * qu, fresh := false } else x
      let c := (heads.getD q none).getD 0
      if c ≤ x.deficit then (some q, { p with queues := p.queues.set q { x with deficit := x.deficit - c } })
      else walk x
    else walk x

/-- The queue a point selects (R457): queue 0, else 1, else the weighted group's. -/
def PointSt.select (qu : Nat) (heads : List (Option Nat)) (credit still : Nat → Bool) (p : PointSt) : Option Nat × PointSt :=
  let ok := p.eligible heads credit still
  if ok 0 then (some 0, p) else if ok 1 then (some 1, p)
  else if (List.range 6).any fun i => ok (i + 2) then selectWeighted qu heads ok 120 p
  else (none, p)

/-- After an item of a queue was sent: its bucket pays, its counters count, and an emptied weighted queue loses its deficit (R458, R461). -/
def PointSt.sentItem (p : PointSt) (q cost : Nat) (emptied : Bool) : PointSt :=
  let x := p.queue q
  let level := if x.rate = unshaped then x.level else x.level - 256 * (cost : Int)
  { p with queues := p.queues.set q { x with
      level := level
      sent := satAdd64 x.sent 1
      tokens := satAdd64 x.tokens cost
      deficit := if emptied then 0 else x.deficit
      fresh := emptied || x.fresh } }

/-- One refill of a bucket (R461, R462); the flag says that tokens were lost only because BURST was lowered. -/
def SchedQueue.refill (x : SchedQueue) : SchedQueue × Bool :=
  let y := match x.change with
    | some (r, b, w) => { x with rate := r, burst := b, weight := w, change := none,
                                 level := if x.rate = unshaped ∨ r = unshaped then 0 else x.level }
    | none => x
  if y.rate = unshaped then (y, false)
  else
    let up := y.level + (y.rate : Int)
    ({ y with level := min up (256 * (y.burst : Int)) },
     decide (256 * (y.burst : Int) < up) && decide (y.burst < x.burst) && x.rate != unshaped)

/-- A change accepted on the LTC value of a refill that the bucket has already had takes effect at that refill (R462): LEVEL is what it is from `was`, the
LEVEL before it, less what was spent since. -/
def SchedQueue.late (was : Int) (c : Nat × Nat × Nat) (x : SchedQueue) : SchedQueue × Bool :=
  let spent : Int := if x.rate = unshaped then 0 else min (was + (x.rate : Int)) (256 * (x.burst : Int)) - x.level
  let r := ({ x with level := was, change := some c }).refill
  (if c.1 = unshaped then r.1 else { r.1 with level := r.1.level - spent }, r.2)

/-- A point takes a shaper change of a queue: it waits for the next refill, or joins that of this LTC value; the flag says that tokens were clipped. -/
def PointSt.shaped (x : PointSt) (now q : Nat) (c : Nat × Nat × Nat) : PointSt × Bool :=
  if x.lastRefill = now + 1 then
    let r := (x.queue q).late (x.before.getD q 0) c
    ({ x with queues := x.queues.set q r.1 }, r.2)
  else ({ x with queues := x.queues.set q { x.queue q with change := some c } }, false)

/-- A refill of a point at a refill time, once (R455, R463). -/
def bucketRefill (p : Point) (s : State) : State :=
  let x := s.point p
  if !s.isRunning || !s.pointOk p || s.now % refillPeriod p != 0 || x.lastRefill == s.now + 1 then s
  else
    let r := x.queues.map SchedQueue.refill
    (s.setPoint p { x with queues := r.map Prod.fst, lastRefill := s.now + 1, before := x.queues.map SchedQueue.level }).bumpBy Reg.SCHED_CLIPS (r.filter Prod.snd).length

/-- The current entry has held for its DURATION: the next follows (R464). -/
def gateEntryChange (p : Point) (s : State) : State :=
  let x := s.point p
  match x.gates[x.entry]? with
  | none => s
  | some g =>
    if !s.isRunning || decide (s.now < x.entryStart + g.1) then s
    else s.setPoint p { x.gatesChange (x.entryStart + g.1) with entry := (x.entry + 1) % x.gates.length, entryStart := x.entryStart + g.1 }

/-- Makes the pending list current at its entry 0 (R465). -/
def State.gateTake (p : Point) (s : State) : State :=
  let x := s.point p
  match x.nextGates with
  | none => s
  | some (start, l) =>
    (s.setPoint p { x.gatesChange start with gates := l, entry := 0, entryStart := start, nextGates := none }).bump Reg.SCHED_GATE_TAKEOVERS

/-- LTC S of the pending list is reached: it takes over (R465). -/
def gateTakeover (p : Point) (s : State) : State :=
  match (s.point p).nextGates with
  | some (start, _) => if s.isRunning && decide (start ≤ s.now) then s.gateTake p else s
  | none => s

/-! ## Live changes (R476) -/

/-- An accepted live command advances the configuration milepost (R565); its publication is `configPublish`. -/
def State.liveChange (s : State) : State :=
  { s with cfg := { s.cfg with accepted := s.cfg.accepted + 1,
                               acceptLtc := if s.cfg.accepted = 0 then s.now else s.cfg.acceptLtc } }

/-- The point and queue an ARG0 or a selection names. -/
def pointOf (a : Nat) : Point × Nat := (if bitOf a 31 then .tenant (bitsOf a 11 0) else .link (bitsOf a 11 0), bitsOf a 18 16)

/-- A refused SCHED command. -/
def State.schedFail (slot st : Nat) (s : State) : State := (s.bump Reg.SCHED_CMD_ERR).slotDone .sched slot st

/-- SET_SHAPER (R460 to R462): takes effect at the next refill, or at that of this LTC value. -/
def setShaperRun (slot : Nat) (s : State) : State :=
  let pq := pointOf (s.slotArg .sched slot 0)
  let rate := s.slotArg .sched slot 1
  let burst := bitsOf (s.slotArg .sched slot 2) 15 0
  let x := s.point pq.1
  let weight := if pq.2 < 2 then (x.queue pq.2).weight else bitsOf (s.slotArg .sched slot 2) 23 16
  let planned (q : Nat) : Nat := match (x.queue q).change with | some (r, _, _) => r | none => (x.queue q).rate
  let trump := match pq.1 with
    | .link _ => decide (pq.2 < 2) && (rate == unshaped || decide (75000 < rate + planned (1 - pq.2)))
    | .tenant _ => false
  if !s.pointOk pq.1 || burst == 0 || weight == 0 || trump then s.schedFail slot St.range
  else
    let r := x.shaped s.now pq.2 (rate, burst, weight)
    (((s.setPoint pq.1 r.1).bumpIf r.2 Reg.SCHED_CLIPS).liveChange).slotDone .sched slot St.ok

/-- A gate list read from bytes (Table 13.4). -/
def readGates (n : Nat) (b : Bytes) : List (Nat × Nat) := (List.range n).map fun i => (fieldAt b (8 * i) 4, byteAt b (8 * i + 4))

/-- SET_GATES (R465). -/
def setGatesRun (slot : Nat) (s : State) : State :=
  let pq := pointOf (s.slotArg .sched slot 0)
  let a1 := s.slotArg .sched slot 1
  let n := bitsOf a1 6 0
  let h := bitsOf a1 31 16
  let start := s.slotArg .sched slot 2 + 2 ^ 32 * s.slotArg .sched slot 3
  let off := 64 * s.slotArg .sched slot 4
  let bytes := s.handleRead h off (8 * n)
  let l := readGates n (bytes.getD [])
  let st := r21 [
    (decide (64 < n), St.length),
    (n != 0 && s.beyond h off (8 * n), St.length),
    (decide (start < s.now) || decide (s.now + 2 ^ 42 < start) || !s.pointOk pq.1, St.range),
    (n != 0 && bytes.isSome && l.any fun g => g.1 == 0, St.range),
    (n != 0 && (s.region h).isNone, St.notOwner)]
  let st := if st = St.ok ∧ n ≠ 0 then r21 (s.rgnChecks .system h off (8 * n) false) else st
  let s := s.usedHandle h off (if n = 0 then 0 else bytes.elim 0 List.length)
  if st ≠ St.ok then s.schedFail slot st
  else
    let x := s.point pq.1
    let t := (s.setPoint pq.1 { x with nextGates := some (start, l) }).bumpIf x.nextGates.isSome Reg.SCHED_GATE_SUPERSEDED
    let t := if start = s.now then t.gateTake pq.1 else t
    t.liveChange.slotDone .sched slot St.ok

/-- CANCEL_GATES (R465): the pending list is discarded. -/
def cancelGatesRun (slot : Nat) (s : State) : State :=
  let pq := pointOf (s.slotArg .sched slot 0)
  if !s.pointOk pq.1 then s.schedFail slot St.range
  else (s.setPoint pq.1 { s.point pq.1 with nextGates := none }).liveChange.slotDone .sched slot St.ok

/-- Largest quota of a resource (Table 13.5). -/
def quotaMax : Nat → Nat
  | 0 => 2304 | 1 => 294912 | 2 => 1374389534720 | _ => 16384

/-- SET_QUOTA (R470 to R472, R476), for a configured tenant or any composition ID (R479). -/
def setQuotaRun (slot : Nat) (s : State) : State :=
  let a0 := s.slotArg .sched slot 0
  let code := bitsOf a0 19 16
  let q := s.slotArg .sched slot 1 + 2 ^ 32 * s.slotArg .sched slot 2
  match ownerOf a0 with
  | some o =>
    let ok := match o with
      | .system => false
      | .tenant t => s.tenantConfigured t
      | .comp c => c != 0
    if !ok || decide (4 < code) || decide (quotaMax code < q) then s.schedFail slot St.range
    else ((s.setLimit o code q).liveChange).slotDone .sched slot St.ok
  | none => s.schedFail slot St.range

/-! ## SCHED registers (R477, R478) -/

/-- A read of SCHED_LTC_LO latches the high half (R469) and answers the low. -/
def schedLtcLo (s : State) : State :=
  if s.isRunning then
    ((s.setNat Reg.SCHED_LTC_LO s.now).setNat Reg.SCHED_LTC_HI (s.now / 2 ^ 32)).emit (.hostRead (w32 s.now))
  else s.emit (.hostRead 0)

/-- Two's complement of a signed level. -/
def levelWord (l : Int) : Nat := (BitVec.ofInt 32 l).toNat

/-- A write to SCHED_PT_SEL (R478); `depth` is the number of items that wait. -/
def schedPtSel (depth : Point → Nat → State → Nat) (v : W32) (s : State) : State :=
  if !s.isRunning then s
  else
    let a := (v &&& 0x80070FFF).toNat
    let pq := pointOf a
    let ok := s.pointOk pq.1
    let x := s.point pq.1
    let q := x.queue pq.2
    let z (n : Nat) : Nat := if ok then n else 0
    let shaped := q.rate != unshaped
    let t := s.setNat Reg.SCHED_PT_SEL a
    let t := t.setNat Reg.SCHED_Q_CFG (z (b1 shaped * 2 ^ 31 + b1 (x.gateOpen pq.2) * 2 ^ 30 + q.weight * 2 ^ 16 + q.burst))
    let t := t.setNat Reg.SCHED_Q_RATE (z q.rate)
    let t := t.setNat Reg.SCHED_Q_LEVEL (z (if shaped then levelWord q.level else 0))
    let t := t.setNat Reg.SCHED_Q_DEFICIT (z (if pq.2 < 2 then 0 else q.deficit))
    let t := t.setNat Reg.SCHED_Q_DEPTH (z (depth pq.1 pq.2 s))
    let t := (t.setPair Reg.SCHED_Q_SENT_LO (z q.sent.toNat)).setPair Reg.SCHED_Q_TOKENS_LO (z q.tokens.toNat)
    let t := (t.setNat Reg.SCHED_Q_GATE_WAIT (z q.gateWait.toNat)).setNat Reg.SCHED_Q_RATE_WAIT (z q.rateWait.toNat)
    let nx := (x.nextGates.map Prod.snd).getD []
    let t := t.setNat Reg.SCHED_PT_GATES
      (z (b1 x.nextGates.isSome * 2 ^ 31 + x.gates.length * 2 ^ 16 + nx.length * 2 ^ 8 + x.entry))
    t.setPair Reg.SCHED_PT_START_LO (z ((x.nextGates.map Prod.fst).getD 0))

/-- A write to SCHED_QUOTA_SEL (R478); `use` is the holder's use of a resource. -/
def schedQuotaSel (use : Owner → Nat → State → Nat) (v : W32) (s : State) : State :=
  if !s.isRunning then s
  else
    let a := (v &&& 0xC00FFFFF).toNat
    let code := bitsOf a 19 16
    let o := ownerOf a
    let ok := decide (code ≤ 4) && (match o with
      | some (.tenant t) => s.tenantConfigured t
      | some (.comp _) => true
      | _ => false)
    let o := o.getD .system
    let z (n : Nat) : Nat := if ok then n else 0
    (((s.setNat Reg.SCHED_QUOTA_SEL a).setPair Reg.SCHED_QUOTA_LIMIT_LO (z (s.quotaLimit o code))).setPair Reg.SCHED_QUOTA_USE_LO
      (z (use o code s))).setNat Reg.SCHED_QUOTA_DENIED (z (s.quota.denied.getD (quotaKey o code) 0).toNat)

/-- Counts, for each LTC unit that passes, the queues that hold an item behind a closed gate or an empty bucket (Table 13.6). -/
def countWaits (depth : Point → Nat → State → Nat) (s : State) : State :=
  { s with sched := s.sched.map fun e =>
      let p : Point := if e.1 < 4096 then .link e.1 else .tenant (e.1 - 4096)
      (e.1, { e.2 with queues := (List.range 8).map fun q =>
        let x := e.2.queue q
        if (depth p q s) = 0 then x
        else { x with gateWait := satAdd32 x.gateWait (b1 (!e.2.gateOpen q)),
                      rateWait := satAdd32 x.rateWait (b1 (!x.levelOk)) } }) }

end Sys2Proof.Machine
end

