-- ==== Sys2Proof/Machine/Cfg.lean ====
section
/-! DEFINITION. Configuration: the fields (R558, R559), the reading of a CONFIG section (R557, R560 to R562), the report (R563), the
normalised configuration, the waymark and their publication (R564 to R567). -/

namespace Sys2Proof.Machine

/-- A register field: its register, lowest bit, width, range, default, whether it is read through a snapshot by tenant, and per node. -/
structure FieldSpec where
  reg : Nat
  lsb : Nat
  width : Nat
  lo : Nat
  hi : Nat
  dflt : Nat
  tenant : Bool
  perNode : Bool
deriving DecidableEq, Repr

/-- Scalar fields, each with the range and default its register's table states (R558). -/
def scalarFieldsA : List FieldSpec :=
  [⟨Reg.CLK_THERM_THROTTLE, 0, 32, 1360, 1600, 1520, false, false⟩, ⟨Reg.CLK_THERM_HYST, 0, 32, 16, 160, 48, false, false⟩,
   ⟨Reg.CLK_POWER_LIMIT, 0, 32, 2000, 4200, 4200, false, false⟩,
   ⟨Reg.KITTY_ARB_CAPS, 0, 8, 1, 16, 8, false, false⟩, ⟨Reg.KITTY_ARB_CAPS, 8, 8, 1, 48, 40, false, false⟩,
   ⟨Reg.KITTY_ARB_WEIGHT_LO, 0, 8, 1, 255, 48, false, false⟩, ⟨Reg.KITTY_ARB_WEIGHT_LO, 8, 8, 1, 255, 32, false, false⟩,
   ⟨Reg.KITTY_ARB_WEIGHT_LO, 16, 8, 1, 255, 32, false, false⟩, ⟨Reg.KITTY_ARB_WEIGHT_LO, 24, 8, 1, 255, 64, false, false⟩,
   ⟨Reg.KITTY_ARB_WEIGHT_HI, 0, 8, 1, 255, 48, false, false⟩, ⟨Reg.KITTY_ARB_WEIGHT_HI, 8, 8, 1, 255, 16, false, false⟩,
   ⟨Reg.KITTY_EVICT_RATE, 0, 32, 1, 1024, 64, false, false⟩,
   ⟨Reg.QRY_HAND_POOL, 0, 32, 1024, 16384, 4096, false, false⟩, ⟨Reg.QRY_PROBE_CFG, 0, 9, 1, 256, 64, false, false⟩,
   ⟨Reg.QRY_PROBE_CFG, 16, 16, 0, 10000, 100, false, false⟩, ⟨Reg.QRY_TRICK_MIN_AGE, 0, 16, 0, 10000, 50, false, false⟩,
   ⟨Reg.QRY_TNT_CFG, 0, 13, 1, 4096, 256, true, false⟩, ⟨Reg.QRY_TNT_CFG, 24, 3, 0, 7, 0, true, false⟩,
   ⟨Reg.QRY_TNT_CFG, 27, 3, 2, 7, 7, true, false⟩, ⟨Reg.QRY_TNT_CFG, 30, 1, 0, 1, 0, true, false⟩,
   ⟨Reg.QRY_TNT_DEADLINE, 0, 32, 1000, 100000000, 1000000, true, false⟩,
   ⟨Reg.QRY_MRG_MARGIN, 0, 32, 0, 1000000, 20000, false, false⟩,
   ⟨Reg.IDX_COMMIT_DL, 0, 32, 1, 1000, 20, false, false⟩, ⟨Reg.IDX_UPD_WAIT, 0, 32, 1000, 10000000, 100000, false, false⟩,
   ⟨Reg.IDX_MERGE_CFG, 0, 8, 10, 100, 75, false, false⟩, ⟨Reg.IDX_MERGE_CFG, 8, 8, 10, 100, 75, false, false⟩,
   ⟨Reg.IDX_MERGE_MAX, 0, 32, 1, 256, 64, false, false⟩, ⟨Reg.IDX_RETAIN, 0, 32, 0, 100000000, 100000, false, false⟩,
   ⟨Reg.IDX_SKEW_WIN, 0, 32, 1000000, 1000000000, 100000000, false, false⟩,
   ⟨Reg.IDX_SHUF_RESEND, 0, 32, 10000, 10000000, 100000, false, false⟩,
   ⟨Reg.IDX_SHUF_OVERLAP, 0, 32, 0, 100000000, 5000000, false, false⟩]

def scalarFieldsB : List FieldSpec :=
  [⟨Reg.MEDIA_MAP_MODE, 0, 1, 0, 1, 0, false, false⟩, ⟨Reg.MEDIA_RESERVE_PCT, 0, 32, 3, 50, 7, false, false⟩,
   ⟨Reg.MEDIA_WL_SPREAD, 0, 32, 50, 5000, 400, false, false⟩, ⟨Reg.MEDIA_JOURNAL_BYTES, 0, 32, 64, 16384, 1024, false, false⟩,
   ⟨Reg.MEDIA_JOURNAL_INTERVAL, 0, 32, 1000000, 1000000000, 50000000, false, false⟩,
   ⟨Reg.MEDIA_GC_LOW, 0, 32, 2, 256, 8, false, false⟩,
   ⟨Reg.LINK_IDENT, 0, 8, 0, 63, 255, false, true⟩, ⟨Reg.LINK_IDENT, 16, 16, 0, 65534, 0, false, true⟩,
   ⟨Reg.LINK_TON, 0, 16, 0, 65535, 0, false, false⟩, ⟨Reg.LINK_KA_INTERVAL, 0, 32, 1000, 1000000, 10000, false, false⟩,
   ⟨Reg.LINK_KA_MISS, 0, 32, 2, 16, 3, false, false⟩, ⟨Reg.LINK_HELLO_RETRY, 0, 32, 10000, 10000000, 100000, false, false⟩,
   ⟨Reg.LINK_TRAIN_TO, 0, 32, 1000000, 500000000, 50000000, false, false⟩,
   ⟨Reg.LINK_REPLAY_TO, 0, 32, 100, 100000, 1000, false, false⟩, ⟨Reg.LINK_GRACE, 0, 32, 0, 100000000, 5000000, false, false⟩,
   ⟨Reg.LINK_BEAT, 0, 32, 100000, 10000000, 1000000, false, false⟩,
   ⟨Reg.LINK_DEALER_LOSS, 0, 32, 3000000, 60000000, 30000000, false, false⟩,
   ⟨Reg.LINK_SEAT_LOSS, 0, 32, 3000000, 200000000, 100000000, false, false⟩,
   ⟨Reg.LINK_MAP_ACK_TO, 0, 32, 1000000, 20000000, 10000000, false, false⟩,
   ⟨Reg.LINK_REASM_TO, 0, 32, 100000, 100000000, 10000000, false, false⟩,
   ⟨Reg.LINK_VC_CREDITS_LO, 0, 8, 4, 255, 8, false, false⟩, ⟨Reg.LINK_VC_CREDITS_LO, 8, 8, 4, 255, 56, false, false⟩,
   ⟨Reg.LINK_VC_CREDITS_LO, 16, 8, 4, 255, 56, false, false⟩, ⟨Reg.LINK_VC_CREDITS_LO, 24, 8, 4, 255, 32, false, false⟩,
   ⟨Reg.LINK_VC_CREDITS_HI, 0, 8, 4, 255, 24, false, false⟩, ⟨Reg.LINK_VC_CREDITS_HI, 8, 8, 4, 255, 32, false, false⟩,
   ⟨Reg.LINK_VC_CREDITS_HI, 16, 8, 4, 255, 40, false, false⟩, ⟨Reg.LINK_VC_CREDITS_HI, 24, 8, 4, 255, 8, false, false⟩,
   ⟨Reg.LEND_HANDOFF_TO, 0, 32, 1000000, 100000000, 20000000, false, false⟩,
   ⟨Reg.LEND_RECLAIM_DL, 0, 32, 1000, 60000, 30000, false, false⟩, ⟨Reg.LEND_REPUSH_MAX, 0, 32, 1, 16, 3, false, false⟩,
   ⟨Reg.LEND_PROBE, 0, 32, 1000000, 100000000, 10000000, false, false⟩,
   ⟨Reg.STACK_KV_POLL, 0, 32, 10, 10000, 100, false, false⟩, ⟨Reg.STACK_KV_PREFETCH, 0, 32, 0, 64, 8, false, false⟩,
   ⟨Reg.STACK_EMB_SKEW_WIN, 0, 32, 1000000, 1000000000, 100000000, false, false⟩,
   ⟨Reg.STACK_EMB_SAMPLE, 0, 32, 1, 65536, 64, false, false⟩]

/-- The field a REG, LSB and WIDTH name (R558), the repeated registers among them. -/
def fieldSpec (reg lsb width : Nat) : Option FieldSpec :=
  match (scalarFieldsA ++ scalarFieldsB).find? fun f => f.reg == reg && f.lsb == lsb && f.width == width with
  | some f => some f
  | none =>
    let trick := (reg - Reg.QRY_TRICK_DL) / 4
    let wait := (reg - Reg.CD_WAIT_LIMIT) / 0x80000
    let thr := (reg - Reg.FLT_CLS_THRESH) / 0x10
    let win := (reg - Reg.FLT_CLS_WINDOW_LO) / 0x10
    if lsb ≠ 0 then none
    else if width = 16 ∧ reg = Reg.QRY_TRICK_DL + 4 * trick ∧ trick < 8 then some ⟨reg, 0, 16, 0, 10000, 200, false, false⟩
    else if width = 32 ∧ reg = Reg.CD_WAIT_LIMIT + 0x80000 * wait ∧ wait < 8 then
      some ⟨reg, 0, 32, 1000, 1000000000, 10000000, false, false⟩
    else if width = 16 ∧ reg = Reg.FLT_CLS_THRESH + 0x10 * thr ∧ thr < 17 ∧ defaultThreshold thr ≠ 0 then
      some ⟨reg, 0, 16, 1, 65535, defaultThreshold thr, false, false⟩
    else if width = 64 ∧ reg = Reg.FLT_CLS_WINDOW_LO + 0x10 * win ∧ win < 17 ∧ defaultThreshold win ≠ 0 then
      some ⟨reg, 0, 64, 1000000, 360000000000, defaultWindow win, false, false⟩
    else none

/-! ## Reading records (R557, R560) -/

/-- A field record of a CONFIG section (Table 16.8), with its byte offset. -/
structure CfgRec where
  off : Nat
  reg : Nat
  lsb : Nat
  width : Nat
  inst : Nat
  value : Bytes
deriving DecidableEq, Repr

/-- What a record comes to: ignored for a reason, or applied with a value and the entries of its own (reason, GIVEN, APPLIED). -/
structure RecOutcome where
  rec_ : CfgRec
  applied : Option Bytes
  notes : List (Nat × Nat × Nat)
deriving DecidableEq, Repr

/-- Codes of the fields without a register (Table 16.9). -/
abbrev tenantTablesCode : Nat := 0xFF000001
abbrev quotaCode : Nat := 0xFF000002
abbrev shaperCode : Nat := 0xFF000003
abbrev gatesCode : Nat := 0xFF000004
abbrev drillsCode : Nat := 0xFF000005
abbrev denyCode : Nat := 0xFF000006

/-- Reads `n` records from an offset (R557); the flag says that the section ended first (rule 1 of R560). -/
def readRecords (sec : Bytes) : Nat → Nat → List CfgRec × Option Nat
  | 0, _ => ([], none)
  | n + 1, off =>
    let vb := fieldAt sec (off + 6) 2
    let len := 16 + (vb + 15) / 16 * 16
    if sec.length < off + 16 ∨ sec.length < off + len then ([], some off)
    else
      let r := readRecords sec n (off + len)
      (⟨off, fieldAt sec off 4, byteAt sec (off + 4), byteAt sec (off + 5), fieldAt sec (off + 8) 4, sliceAt sec (off + 16) vb⟩ :: r.1, r.2)

/-- The number a value counts as in a report: a scalar's value, or a list's entries. -/
def reportNum (r : CfgRec) (v : Bytes) : Nat :=
  if r.reg = gatesCode then v.length / 8 else if r.reg = drillsCode then v.length / 16 else if r.reg = denyCode then v.length / 4
  else leNat v % 2 ^ 64

/-- An ignored record: reasons 2 UNKNOWN, 3 INSTANCE, 4 MALFORMED (Table 16.11). -/
def ignored (r : CfgRec) (reason : Nat) : RecOutcome := ⟨r, none, [(reason, reportNum r r.value, 0)]⟩

/-- A scalar below or above its range takes the bound (rule 5). -/
def clampScalar (r : CfgRec) (lo hi : Nat) : RecOutcome :=
  let v := leNat r.value
  if v < lo then ⟨r, some (leBytes 8 lo), [(0, v, lo)]⟩
  else if hi < v then ⟨r, some (leBytes 8 hi), [(1, v, hi)]⟩
  else ⟨r, some r.value, []⟩

/-- A list of entries of `sz` bytes, at most `limit`: truncated, then entries out of range dropped (rule 6). -/
def clampList (r : CfgRec) (sz limit : Nat) (ok : Bytes → Bool) : RecOutcome :=
  if r.value.length % sz ≠ 0 then ignored r 4
  else
    let n := r.value.length / sz
    let es := (List.range (min n limit)).map fun i => (i, sliceAt r.value (sz * i) sz)
    let kept := es.filter fun e => ok e.2
    let cut := if limit < n then [(6, n, kept.length)] else []
    let dropped := (es.filter fun e => !ok e.2).map fun e => (7, e.1, kept.length)
    ⟨r, some (kept.flatMap Prod.snd), cut ++ dropped⟩

/-- A class and instance that exist (R509, Table 15.3). -/
def instanceCount (c : Nat) : Nat :=
  [2352, 4096, 1280, 20, 32, 128, 32, 32, 16, 64, 64, 8, 32, 4, 96, 2048, 16].getD c 0

/-- An instance exists (R509). -/
def instanceOk (cls inst : Nat) : Bool :=
  if cls = 1 then (moduleReach (inst / 64) (inst % 64)).isSome else decide (inst < instanceCount cls)

/-- One record by the first rule of R560 it meets. -/
def applyRecord (r : CfgRec) : RecOutcome :=
  if r.reg = tenantTablesCode then
    if r.lsb ≠ 0 ∨ r.width ≠ 0 then ignored r 2 else if 4096 ≤ r.inst then ignored r 3
    else if r.value.length ≠ 128 then ignored r 4 else ⟨r, some r.value, []⟩
  else if r.reg = quotaCode then
    let code := bitsOf r.inst 19 16
    if r.lsb ≠ 0 ∨ r.width ≠ 0 then ignored r 2
    else if bitsOf r.inst 31 30 ≠ 1 ∨ 4 < code ∨ 4096 ≤ bitsOf r.inst 15 0 ∨ bitsOf r.inst 29 20 ≠ 0 then ignored r 3
    else if r.value.length ≠ 8 then ignored r 4 else clampScalar r 0 (quotaMax code)
  else if r.reg = shaperCode then
    if r.lsb ≠ 0 ∨ r.width ≠ 0 then ignored r 2
    else if bitsOf r.inst 30 19 ≠ 0 ∨ bitsOf r.inst 15 12 ≠ 0 ∨ (¬ bitOf r.inst 31 ∧ 96 ≤ bitsOf r.inst 11 0) then ignored r 3
    else if r.value.length ≠ 8 then ignored r 4
    else
      let b := fieldAt r.value 4 2
      let w := byteAt r.value 6
      let v := leBytes 4 (fieldAt r.value 0 4) ++ leBytes 2 (max b 1) ++ leBytes 1 (max w 1) ++ [0]
      ⟨r, some v, if b = 0 ∨ w = 0 then [(0, leNat r.value, leNat v)] else []⟩
  else if r.reg = gatesCode then
    if r.lsb ≠ 0 ∨ r.width ≠ 0 then ignored r 2
    else if bitsOf r.inst 30 12 ≠ 0 ∨ (¬ bitOf r.inst 31 ∧ 96 ≤ bitsOf r.inst 11 0) then ignored r 3
    else clampList r 8 64 fun e => fieldAt e 0 4 != 0
  else if r.reg = drillsCode then
    if r.lsb ≠ 0 ∨ r.width ≠ 0 then ignored r 2 else if r.inst ≠ 0 then ignored r 3
    else clampList r 16 64 fun e => decide (fieldAt e 0 2 ≤ fieldAt e 2 2 ∧ fieldAt e 2 2 < 200
      ∧ 100000000 ≤ fieldAt e 8 8 ∧ fieldAt e 8 8 ≤ 2 ^ 48)
  else if r.reg = denyCode then
    if r.lsb ≠ 0 ∨ r.width ≠ 0 then ignored r 2 else if r.inst ≠ 0 then ignored r 3
    else clampList r 4 256 fun e => let v := leNat e; instanceOk (bitsOf v 20 16) (bitsOf v 15 0)
  else match fieldSpec r.reg r.lsb r.width with
    | none => ignored r 2
    | some f =>
      if (f.tenant ∧ 4096 ≤ r.inst) ∨ (¬ f.tenant ∧ r.inst ≠ 0) then ignored r 3
      else if r.value.length ≠ 8 then ignored r 4
      else if f.reg = Reg.LINK_IDENT ∧ f.lsb = 0 then
        let v := leNat r.value
        if v ≤ 63 ∨ v = 255 then ⟨r, some r.value, []⟩ else ⟨r, some (leBytes 8 255), [(1, v, 255)]⟩
      else clampScalar r f.lo f.hi

/-- The tenant a record names (R160). -/
def recTenant (r : CfgRec) : Option Nat :=
  if r.reg = tenantTablesCode ∨ r.reg = Reg.QRY_TNT_CFG ∨ r.reg = Reg.QRY_TNT_DEADLINE then some r.inst
  else if r.reg = quotaCode then some (bitsOf r.inst 15 0)
  else if (r.reg = shaperCode ∨ r.reg = gatesCode) ∧ bitOf r.inst 31 then some (bitsOf r.inst 11 0)
  else none

/-- Records that name the same field (R561). -/
def sameField (a b : CfgRec) : Bool := a.reg == b.reg && a.lsb == b.lsb && a.inst == b.inst

/-- Entries of an outcome: its own, then SUPERSEDED where a later applied record names the same field (R561). -/
def outcomeEntries : List RecOutcome → List RptEntry
  | [] => []
  | o :: rest =>
    let r := o.rec_
    let own := o.notes.map fun n => (⟨r.reg, r.lsb, r.width, n.1, r.inst, r.off, n.2.1, n.2.2⟩ : RptEntry)
    let later := (rest.filter fun p => p.applied.isSome && sameField p.rec_ r).getLast?
    let sup := match o.applied, later with
      | some _, some p => [(⟨r.reg, r.lsb, r.width, 5, r.inst, r.off, reportNum r r.value, reportNum r (p.applied.getD [])⟩ : RptEntry)]
      | _, _ => []
    own ++ sup ++ outcomeEntries rest

/-- The records in force: the last applied one of each field. -/
def inForce : List RecOutcome → List (CfgRec × Bytes)
  | [] => []
  | o :: rest =>
    match o.applied with
    | some v => if rest.any fun p => p.applied.isSome && sameField p.rec_ o.rec_ then inForce rest else (o.rec_, v) :: inForce rest
    | none => inForce rest

/-- A field's value among those in force, with the record's offset. -/
def fieldValue (fs : List (CfgRec × Bytes)) (reg lsb inst : Nat) : Option (Nat × Nat) :=
  (fs.find? fun e => e.1.reg == reg && e.1.lsb == lsb && e.1.inst == inst).map fun e => (leNat e.2, e.1.off)

/-- Sets a scalar in the list in force. -/
def setField (reg lsb width : Nat) (v : Nat) (fs : List (CfgRec × Bytes)) : List (CfgRec × Bytes) :=
  match fieldValue fs reg lsb 0 with
  | some _ => fs.map fun e => if e.1.reg = reg ∧ e.1.lsb = lsb ∧ e.1.inst = 0 then (e.1, leBytes 8 v) else e
  | none => fs ++ [(⟨0xFFFFFFFF, reg, lsb, width, 0, []⟩, leBytes 8 v)]

/-- A DEPENDENT change of a scalar (R562): the new list and its entry, where the value changes. -/
def dependent (reg lsb width dflt new : Nat) (fs : List (CfgRec × Bytes)) : List (CfgRec × Bytes) × List RptEntry :=
  let old := fieldValue fs reg lsb 0
  let v := (old.map Prod.fst).getD dflt
  if v = new then (fs, [])
  else (setField reg lsb width new fs, [⟨reg, lsb, width, 8, 0, (old.map Prod.snd).getD 0xFFFFFFFF, v, new⟩])

/-- R76: the caps sum to 48 at most, by lowering T1. -/
def joinCaps (fs : List (CfgRec × Bytes)) : List (CfgRec × Bytes) × List RptEntry :=
  let t0 := ((fieldValue fs Reg.KITTY_ARB_CAPS 0 0).map Prod.fst).getD 8
  let t1 := ((fieldValue fs Reg.KITTY_ARB_CAPS 8 0).map Prod.fst).getD 40
  dependent Reg.KITTY_ARB_CAPS 8 8 40 (min t1 (48 - t0)) fs

/-- Register and bit of the receive buffer of VC `v`, and its default (Table 12.10). -/
def vcField (v : Nat) : Nat × Nat × Nat :=
  (if v < 4 then Reg.LINK_VC_CREDITS_LO else Reg.LINK_VC_CREDITS_HI, 8 * (v % 4), [8, 56, 56, 32, 24, 32, 40, 8].getD v 0)

/-- R427: the buffers sum to 256 units, lowered from the highest VC down, the rest to VC 1. -/
def adjustBuffers (b : List Nat) : List Nat :=
  let low := ([7, 6, 5, 4, 3, 2, 1, 0] : List Nat).foldl (fun (b : List Nat) v =>
    let sum := b.foldl (· + ·) 0
    b.set v (b.getD v 0 - min (b.getD v 0 - 4) (sum - 256))) b
  let sum := low.foldl (· + ·) 0
  low.set 1 (low.getD 1 0 + (256 - sum))

/-- R427 applied to the fields. -/
def joinBuffers (fs : List (CfgRec × Bytes)) : List (CfgRec × Bytes) × List RptEntry :=
  let b := (List.range 8).map fun v => ((fieldValue fs (vcField v).1 (vcField v).2.1 0).map Prod.fst).getD (vcField v).2.2
  let n := adjustBuffers b
  (List.range 8).foldl (fun x v =>
    let r := dependent (vcField v).1 (vcField v).2.1 8 (vcField v).2.2 (n.getD v 0) x.1
    (r.1, x.2 ++ r.2)) (fs, [])

/-- RATE of a link queue among the fields in force, with its value bytes. -/
def shaperOf (fs : List (CfgRec × Bytes)) (inst : Nat) : Option (CfgRec × Bytes) :=
  fs.find? fun e => e.1.reg == shaperCode && e.1.inst == inst

/-- R460 for one link: queue 1, then queue 0, is lowered until both RATE values sum to 75,000 at most. -/
def joinTrump (l : Nat) (fs : List (CfgRec × Bytes)) : List (CfgRec × Bytes) × List RptEntry :=
  let q0 := shaperOf fs l
  let q1 := shaperOf fs (l + 2 ^ 16)
  match q0, q1 with
  | none, none => (fs, [])
  | _, _ =>
    let r0 := (q0.map fun e => fieldAt e.2 0 4).getD 10000
    let r1 := (q1.map fun e => fieldAt e.2 0 4).getD 60000
    let n1 := min r1 (75000 - min r0 75000)
    let n0 := min r0 (75000 - n1)
    let change (inst old new : Nat) (q : Option (CfgRec × Bytes)) (dflt : Bytes) (x : List (CfgRec × Bytes) × List RptEntry) :=
      if old = new then x
      else
        let v := (q.map Prod.snd).getD dflt
        let v' := patch v 0 (leBytes 4 new)
        let e : RptEntry := ⟨shaperCode, 0, 0, 8, inst, (q.map fun e => e.1.off).getD 0xFFFFFFFF, leNat v, leNat v'⟩
        (match q with
          | some _ => x.1.map fun f => if f.1.reg = shaperCode ∧ f.1.inst = inst then (f.1, v') else f
          | none => x.1 ++ [(⟨0xFFFFFFFF, shaperCode, 0, 0, inst, []⟩, v')], x.2 ++ [e])
    change l r0 n0 q0 (leBytes 4 10000 ++ leBytes 2 64 ++ [1, 0])
      (change (l + 2 ^ 16) r1 n1 q1 (leBytes 4 60000 ++ leBytes 2 1024 ++ [1, 0]) (fs, []))

/-- Every rule that joins fields (R562). -/
def joinAll (fs : List (CfgRec × Bytes)) : List (CfgRec × Bytes) × List RptEntry :=
  let a := joinCaps fs
  let b := joinBuffers a.1
  (List.range 96).foldl (fun x l => let r := joinTrump l x.1; (r.1, x.2 ++ r.2)) (b.1, a.2 ++ b.2)

/-- A drill schedule read from entries (Table 15.7). -/
def readDrills (b : Bytes) : List DrillEntry :=
  (List.range (b.length / 16)).map fun i =>
    let e := sliceAt b (16 * i) 16
    ⟨fieldAt e 0 2, fieldAt e 2 2, bitOf (byteAt e 4) 0, fieldAt e 8 8, fieldAt e 0 2, 0⟩

/-- Puts one field in force into the machine: its register, or what a field without a register sets. -/
def installField (e : CfgRec × Bytes) (s : State) : State :=
  let r := e.1
  let v := leNat e.2
  if r.reg = tenantTablesCode then { s with cfg := { s.cfg with tenantTables := s.cfg.tenantTables.put r.inst e.2 } }
  else if r.reg = quotaCode then { s with quota := { s.quota with limits := s.quota.limits.put (16 * (r.inst - bitsOf r.inst 19 16 * 2 ^ 16) + bitsOf r.inst 19 16) v } }
  else if r.reg = shaperCode then
    let pq := pointOf r.inst
    let x := s.point pq.1
    s.setPoint pq.1 { x with queues := x.queues.set pq.2 { x.queue pq.2 with
      rate := fieldAt e.2 0 4, burst := fieldAt e.2 4 2, weight := byteAt e.2 6 } }
  else if r.reg = gatesCode then
    let pq := pointOf r.inst
    s.setPoint pq.1 { s.point pq.1 with nextGates := some (0, readGates (e.2.length / 8) e.2) }
  else if r.reg = drillsCode then { s with flt := { s.flt with schedule := readDrills e.2 } }
  else if r.reg = denyCode then
    { s with cfg := { s.cfg with deny := (List.range (e.2.length / 4)).map fun i =>
        let v := fieldAt e.2 (4 * i) 4; (bitsOf v 20 16, bitsOf v 15 0) } }
  else match fieldSpec r.reg r.lsb r.width with
    | none => s
    | some f =>
      let t := { s with cfg := { s.cfg with fields := s.cfg.fields ++ (if v = f.dflt ∨ f.perNode then [] else [⟨r.reg, r.inst, r.lsb, r.width, leBytes 8 v⟩]) } }
      if f.tenant then t
      else if f.width = 64 then t.setPair r.reg v
      else
        let old := (t.reg r.reg).toNat
        t.setNat r.reg (old - bitsOf old (r.lsb + r.width - 1) r.lsb * 2 ^ r.lsb + v * 2 ^ r.lsb)

/-- Marks the tenants that records name as configured (R160), each with no table permitted until a record says so. -/
def nameTenants (rs : List CfgRec) (s : State) : State :=
  rs.foldl (fun s r => match recTenant r with
    | some t => if s.cfg.tenantTables.has t then s
                else { s with cfg := { s.cfg with tenantTables := s.cfg.tenantTables.put t (List.replicate 128 0) } }
    | none => s) s

/-- Reads and applies a CONFIG section (R560 to R563). -/
def applyConfig (sec : Bytes) (s : State) : State :=
  let n := fieldAt sec 0 4
  let rd := readRecords sec n 16
  let outs := rd.1.map applyRecord
  let force := inForce outs
  let joined := joinAll force
  let bad := match rd.2 with
    | some off => [(⟨fieldAt sec off 4, byteAt sec (off + 4), byteAt sec (off + 5), 4, fieldAt sec (off + 8) 4, off, 0, 0⟩ : RptEntry)]
    | none => []
  let entries := sortBy (fun (a b : RptEntry) => decide (a.record < b.record)) (outcomeEntries outs ++ bad ++ joined.2)
  let named := (outs.filter fun o => o.applied.isSome).map RecOutcome.rec_
  let s := nameTenants named { s with cfg := { s.cfg with
    fields := [], tenantTables := [], deny := [], entries := entries.take 4096, entriesLost := entries.length - 4096, records := rd.1.length } }
  joined.1.foldl (fun s e => installField e s) s

/-! ## The normalised configuration and the waymark (R566, R567) -/

/-- A record in the form of Table 16.8. -/
def encodeRec (r : NormRec) : Bytes :=
  leBytes 4 r.reg ++ leBytes 1 r.lsb ++ leBytes 1 r.width ++ leBytes 2 r.value.length ++ leBytes 4 r.inst ++ leBytes 4 0
    ++ r.value ++ List.replicate ((16 - r.value.length % 16) % 16) 0

/-- A queue's shaper value: RATE, BURST, weight, as set and not yet in force where a change waits. -/
def SchedQueue.setting (x : SchedQueue) : Nat × Nat × Nat := x.change.getD (x.rate, x.burst, x.weight)

/-- Records of the live fields (R564, R566). -/
def State.liveRecs (s : State) : List NormRec :=
  let tables := s.cfg.tenantTables.map fun e => (⟨tenantTablesCode, e.1, 0, 0, e.2⟩ : NormRec)
  let quotas := (s.quota.limits.filter fun e =>
      let code := e.1 % 16
      bitsOf (e.1 / 16) 31 30 == 1 && e.2 != (if code = 3 ∨ code = 4 then 64 else 0)).map fun e =>
    (⟨quotaCode, e.1 / 16 + e.1 % 16 * 2 ^ 16, 0, 0, leBytes 8 e.2⟩ : NormRec)
  let shapers := s.sched.flatMap fun e =>
    let d := if e.1 < 4096 then linkPoint else tenantPoint
    let inst := if e.1 < 4096 then e.1 else 2 ^ 31 + (e.1 - 4096)
    (List.range 8).filterMap fun q =>
      let v := (e.2.queue q).setting
      if v = (d.queue q).setting then none
      else some (⟨shaperCode, inst + q * 2 ^ 16, 0, 0, leBytes 4 v.1 ++ leBytes 2 v.2.1 ++ leBytes 1 v.2.2 ++ [0]⟩ : NormRec)
  let gates := s.sched.filterMap fun e =>
    let l := (e.2.nextGates.map Prod.snd).getD e.2.gates
    let inst := if e.1 < 4096 then e.1 else 2 ^ 31 + (e.1 - 4096)
    if l.isEmpty then none
    else some (⟨gatesCode, inst, 0, 0, l.flatMap fun g => leBytes 4 g.1 ++ leBytes 1 g.2 ++ [0, 0, 0]⟩ : NormRec)
  let plain (d : DrillEntry) : DrillEntry := { d with nextPoint := 0, fired := 0 }
  let drills := if s.flt.schedule.map plain = defaultDrills.map plain then []
    else [(⟨drillsCode, 0, 0, 0, s.flt.schedule.flatMap fun d =>
      leBytes 2 d.first ++ leBytes 2 d.last ++ leBytes 1 (b1 d.enabled) ++ [0, 0, 0] ++ leBytes 8 d.interval⟩ : NormRec)]
  tables ++ quotas ++ shapers ++ gates ++ drills

/-- The normalised configuration (R566): records by REG, then INSTANCE, then LSB. -/
def State.normalised (s : State) : Bytes :=
  let key (r : NormRec) : Nat := (r.reg * 2 ^ 32 + r.inst) * 256 + r.lsb
  (sortBy (fun a b => decide (key a < key b)) (s.cfg.fields ++ s.liveRecs)).flatMap encodeRec

/-- The ASCII bytes VOIND-WAYMARK-01. -/
def waymarkHead : Bytes := [0x56, 0x4F, 0x49, 0x4E, 0x44, 0x2D, 0x57, 0x41, 0x59, 0x4D, 0x41, 0x52, 0x4B, 0x2D, 0x30, 0x31]

/-- The waymark of the configuration in force (R567). -/
def State.computeWaymark (s : State) : Bytes := sha3_512 (waymarkHead ++ s.start.releaseDigest ++ s.normalised)

/-- Publishes the milepost and waymark that cover every command accepted so far (R565). -/
def configPublish (s : State) : State :=
  if s.cfg.accepted = 0 || !s.isRunning then s
  else
    ({ s with cfg := { s.cfg with milepost := s.cfg.milepost + s.cfg.accepted, accepted := 0, waymark := s.computeWaymark } }).raise
      .nodeStatus 8

/-- A read of CFG_MP_LO latches a milepost and a waymark of one publication (R607); both read 0 before CONFIG ends and in stand-still. -/
def cfgMpLo (s : State) : State :=
  let live := match s.start.phase with | .bringUp | .running | .refLost => true | _ => false
  let mp := if live then s.cfg.milepost else 0
  let wm := if live then s.cfg.waymark else List.replicate 64 0
  let t := s.setPair Reg.CFG_MP_LO mp
  let t := (List.range 16).foldl (fun t i => t.setNat (Reg.CFG_WAYMARK + 4 * i) (fieldAt wm (4 * i) 4)) t
  t.emit (.hostRead (w32 mp))

end Sys2Proof.Machine
end

