-- ==== Sys2Proof/Machine/Host.lean ====
section
/-! DEFINITION. The host interface: mailboxes and doorbells (R582 to R590), the host service's replies (R591 to R597), control cores
(R598), MSI-X unmasking and function resets (R577, R581), and reads of live registers (R602 to R608). -/

namespace Sys2Proof.Machine

/-! ## Receivers -/

/-- An empty FIFO. -/
def fifoReset : Fifo := ⟨[], [], false⟩
def hostMboxReset : HostMbox := ⟨fifoReset, List.replicate 16 0⟩
def coreReset : CoreSt := ⟨rvReset, false, fifoReset, fifoReset, 0, 0xFFFFFFFF, false, false, false, 0⟩

def State.box (s : State) (h : Nat) : HostMbox := s.host.boxes.getD h hostMboxReset
def State.core (s : State) (c : Nat) : CoreSt := s.host.cores.getD c coreReset
def State.setBox (h : Nat) (b : HostMbox) (s : State) : State := { s with host := { s.host with boxes := s.host.boxes.put h b } }
def State.setCore (c : Nat) (x : CoreSt) (s : State) : State := { s with host := { s.host with cores := s.host.cores.put c x } }

/-- Register of host mailbox `h` (R604). -/
def mboxReg (base h : Nat) : Nat := base + 0x100 * h

/-- Posts to a FIFO and records the sender (R588). -/
def Fifo.post (f : Fifo) (m : MboxMsg) : Fifo :=
  { f with msgs := f.msgs ++ [m], senders := if m.sender ∈ f.senders then f.senders else f.senders ++ [m.sender] }

/-- Removes the head; a pop of an empty FIFO is ignored (R586). -/
def Fifo.pop (f : Fifo) : Fifo := { f with msgs := f.msgs.drop 1 }

/-- The end of a CCLK cycle (R588): a FIFO that held a message at its start and holds none now has become empty, and its record of senders is cleared. -/
def Fifo.cycleEnd (f : Fifo) : Fifo × List Nat :=
  if f.held && f.msgs.isEmpty then (fifoReset, f.senders) else ({ f with held := !f.msgs.isEmpty }, [])

/-- The empty interrupt of a sender: bit 2 of a host mailbox, or the core's own (R588). -/
def State.notifyEmpty (senders : List Nat) (s : State) : State :=
  senders.foldl (fun s x =>
    if x < 16 then s.raise (.mbxStatus x) 4
    else (s.setCore (x - 16) { s.core (x - 16) with irqEmpty := true }).emit (.coreIrq (x - 16))) s

/-- ABORTED notices to the senders of discarded messages (R589); `core` is the receiver, where it is one. -/
def State.notifyAborted (msgs : List MboxMsg) (core : Nat) (s : State) : State :=
  (dedupList (msgs.map MboxMsg.sender)).foldl (fun s x =>
    let n := (msgs.filter fun m => m.sender == x).length
    if x < 16 then
      let off := mboxReg Reg.MBX_H_ABORT_INFO x
      let old := s.reg off
      (s.setNat off (min 65535 (fld old 31 16 + n) * 2 ^ 16 + core)).raise (.mbxStatus x) 8
    else (s.setCore (x - 16) { s.core (x - 16) with aborted := (s.core (x - 16)).aborted + n }).emit (.coreIrq (x - 16))) s

/-- A receiver reset of a host mailbox (R589): FIFO, doorbells and interrupt status cleared, its senders told. -/
def State.resetBox (h : Nat) (notify : Bool) (s : State) : State :=
  let b := s.box h
  let t := ((s.setBox h { b with fifo := fifoReset }).setNat (mboxReg Reg.MBX_H_DB h) 0).setNat (mboxReg Reg.MBX_H_IRQ_STATUS h) 0
  if notify then t.notifyAborted b.fifo.msgs 0 else t

/-- A receiver reset of a control core (R589, R520). -/
def State.resetCore (c : Nat) (notify : Bool) (live : Bool) (s : State) : State :=
  let x := s.core c
  let t := s.setCore c { coreReset with live := live }
  if notify then t.notifyAborted (x.fromHost.msgs ++ x.fromCores.msgs) c else t

/-- Sets doorbells of a host mailbox (R587). -/
def State.ringHost (h : Nat) (bits : W32) (s : State) : State :=
  let off := mboxReg Reg.MBX_H_DB h
  let t := s.setOnes off bits
  if bits &&& s.reg (mboxReg Reg.MBX_H_DB_MASK h) != 0 then t.raise (.mbxStatus h) 2 else t

/-- Sets doorbells of a control core (R587). -/
def State.ringCore (c : Nat) (bits : W32) (s : State) : State :=
  let x := s.core c
  (s.setCore c { x with doorbells := x.doorbells ||| bits, irqDoorbell := x.irqDoorbell || bits &&& x.dbMask != 0 }).emit (.coreIrq c)

/-- A message enters a host mailbox with room (R586); word 0 is the node's (R583). -/
def State.postToHost (h core : Nat) (words : List W32) (s : State) : State :=
  let b := s.box h
  let w := w32 (0x40000000 + core) :: (List.range 15).map fun i => words.getD (i + 1) 0
  (s.setBox h { b with fifo := b.fifo.post ⟨w, 16 + core⟩ }).raise (.mbxStatus h) 1

/-- The host service's reply to a request, held where the mailbox is full (R592). -/
def State.sendReply (h core : Nat) (words : List W32) (s : State) : State :=
  if (s.box h).fifo.msgs.length < 4 then s.postToHost h core words
  else { s with host := { s.host with held := s.host.held ++ [⟨h, words⟩] } }

/-- Posts the held reply of a mailbox that has room again (R592). -/
def State.releaseHeld (h : Nat) (s : State) : State :=
  match s.host.held.find? fun r => r.mailbox == h with
  | some r =>
    if (s.box h).fifo.msgs.length < 4 then
      ({ s with host := { s.host with held := removeFirst (fun x => x.mailbox == h) s.host.held } }).postToHost h s.host.service r.words
    else s
  | none => s

/-! ## The host's mailbox registers -/

/-- A write to the send window from word `first` on (R584); covering word 15 posts the buffer, or is rejected (R585). -/
def mailboxPost (h first : Nat) (words : List W32) (s : State) : State :=
  if 16 ≤ h then s
  else
    let b := s.box h
    let tx := (List.range 16).map fun i => if first ≤ i then words.getD (i - first) (b.tx.getD i 0) else b.tx.getD i 0
    if 15 < first ∨ first + words.length < 16 then s.setBox h { b with tx := tx }
    else
      let c := fld (s.reg (mboxReg Reg.MBX_H_TARGET h)) 4 0
      let x := s.core c
      let s1 := s.setBox h { b with tx := List.replicate 16 0 }
      if !x.live || decide (4 ≤ x.fromHost.msgs.length) then
        (s1.bump (mboxReg Reg.MBX_H_REJECTS h)).emit (.completerAbort (mboxReg Reg.MBX_H_TX h))
      else
        let w := w32 (h * 2 ^ 24 + Config.hostRequesterId % 65536) :: tx.drop 1
        (s1.setCore c { x with fromHost := x.fromHost.post ⟨w, h⟩, irqMsg := true }).emit (.coreIrq c)

/-- A write to MBX_H_POP (R586): a pop of an empty FIFO is ignored. -/
def mbxPop (h : Nat) (v : W32) (s : State) : State :=
  if 16 ≤ h ∨ !v.getLsbD 0 then s
  else
    let b := s.box h
    (s.setBox h { b with fifo := b.fifo.pop }).releaseHeld h

/-- A write to MBX_H_RING (R587). -/
def mbxRing (h : Nat) (v : W32) (s : State) : State :=
  if 16 ≤ h then s else s.ringCore (fld (s.reg (mboxReg Reg.MBX_H_TARGET h)) 4 0) v

/-- A write to MBX_H_CTL (R589). -/
def mbxCtl (h : Nat) (v : W32) (s : State) : State :=
  if 16 ≤ h ∨ !v.getLsbD 0 then s else (s.resetBox h true).releaseHeld h

/-- A read that clears a register (R9: RC). -/
def readClear (off : Nat) (s : State) : State := (s.emit (.hostRead (s.reg off))).setNat off 0

def mbxRejects (h : Nat) (s : State) : State := if 16 ≤ h then s else readClear (mboxReg Reg.MBX_H_REJECTS h) s
def mbxAbortInfo (h : Nat) (s : State) : State := if 16 ≤ h then s else readClear (mboxReg Reg.MBX_H_ABORT_INFO h) s

/-- A control core posts or rings (R582, R585, R587). A post to a full FIFO or a core that is not live is rejected. -/
def corePost (c : Nat) (p : CorePost) (s : State) : State :=
  if !(s.core c).live then s
  else match p with
    | .hostMsg h words => if 16 ≤ h ∨ 4 ≤ (s.box h).fifo.msgs.length then s else s.postToHost h c words
    | .coreMsg d words =>
      let x := s.core d
      if !x.live || decide (4 ≤ x.fromCores.msgs.length) then s
      else
        let w := w32 (0x40000000 + c) :: (List.range 15).map fun i => words.getD (i + 1) 0
        (s.setCore d { x with fromCores := x.fromCores.post ⟨w, 16 + c⟩, irqMsg := true }).emit (.coreIrq d)
    | .hostDoorbells h bits => if 16 ≤ h then s else s.ringHost h bits
    | .coreDoorbells d bits => if 32 ≤ d then s else s.ringCore d bits

/-- A control core pops its mailbox 0 (from the host) or 1 (R588). -/
def corePop (c : Nat) (fromHost : Bool) (s : State) : State :=
  let x := s.core c
  if !x.live then s
  else if fromHost then s.setCore c { x with fromHost := x.fromHost.pop }
  else s.setCore c { x with fromCores := x.fromCores.pop }

/-- CORE_MAILBOX_POP; `corrected`: the codes of the core's memory corrected an error as it did so (R599, R507). -/
def coreTakes (c : Nat) (fromHost corrected : Bool) (s : State) : State :=
  corePop c fromHost (if corrected && s.isRunning && (s.core c).live then s.fault 0x0040 c 0 else s)

/-- The end of a CCLK cycle at every FIFO (R588, R590): a receiver that has become empty interrupts the senders it had recorded. -/
def mailboxCycle (s : State) : State :=
  let t := s.host.boxes.foldl (fun t e =>
    let r := e.2.fifo.cycleEnd
    (t.setBox e.1 { t.box e.1 with fifo := r.1 }).notifyEmpty r.2) s
  s.host.cores.foldl (fun t e =>
    let a := e.2.fromHost.cycleEnd
    let b := e.2.fromCores.cycleEnd
    (t.setCore e.1 { t.core e.1 with fromHost := a.1, fromCores := b.1 }).notifyEmpty (a.2 ++ b.2)) t

/-- A write to an interrupt source's status or mask (R9, R581). FLT and CLK answer in RUNNING only (R579). -/
def irqStatusWrite (r : IrqReg) (v : W32) (s : State) : State :=
  let src := irqSource r
  let served := match r with
    | .fltStatus | .fltMask | .clkStatus | .clkMask => s.isRunning
    | .mbxStatus h | .mbxMask h => decide (h < 16)
    | _ => true
  if !served then s
  else match r with
    | .nodeStatus | .fltStatus | .clkStatus | .mbxStatus _ => s.irqWrite r src.1 ((s.clearOnes src.1 v).reg src.1)
    | .nodeMask | .mbxMask _ => s.irqWrite r src.2.1 (v &&& 0xF)
    | .fltMask => s.irqWrite r src.2.1 (v &&& 0x1F)
    | .clkMask => s.irqWrite r src.2.1 (v &&& 0x3F)

/-- The interrupt source of a vector (Table 17.2). -/
def vectorSource (v : Nat) : Option IrqReg :=
  match v with
  | 0 => some .nodeStatus | 1 => some .fltStatus | 2 => some .clkStatus
  | _ => if 4 ≤ v ∧ v < 20 then some (.mbxStatus (v - 4)) else none

/-- A vector is unmasked in the MSI-X table (R581): a pending message goes out while its source is still asserted. -/
def msixUnmask (v : Nat) (s : State) : State :=
  if 64 ≤ v then s
  else
    let off := Reg.MSIX_CTRL + 0x10 * v
    let t := s.setReg off (s.reg off &&& ~~~1)
    if v ∈ s.host.pba then
      let t := { t with host := { t.host with pba := t.host.pba.filter (· != v) } }
      match vectorSource v with
      | some r => if t.asserted r then t.sendMsix v else t
      | none => t
    else t

/-! ## The PCIe link (R575) -/

/-- The link trains to the widest width and highest rate that both ends have, in Flit mode at 64 GT/s and at lower rates where the partner supports it. -/
def pcieTrained : PcieLink :=
  let rate := [25, 50, 80, 160, 320, 640].getD (Config.pcieRate % 6) 640
  ⟨true, [1, 2, 4].getD (Config.pcieLanes % 3) 4, rate, rate == 640 || Config.pcieFlit⟩

/-- The endpoint answers from phase ROM on; before, a configuration request completes with Request Retry Status (Table 16.1). -/
def State.endpointAnswers (s : State) : Bool := s.start.phase != .reset
inductive ConfigReply where
  | none | retry | success (word : W32)
deriving DecidableEq, Repr

/-- The function's configuration header (Table 17.1), by the offset of a 4-byte word: IDs, revision and class, BAR0 as 64-bit non-prefetchable memory, subsystem
IDs; BAR2 to BAR5 and the expansion ROM are not implemented. -/
def configHeader : Nat → Option W32
  | 0x00 => some 0x09601F5B
  | 0x08 => some 0x12000001
  | 0x10 => some 4 -- before the host has assigned an address
  | 0x18 | 0x1C | 0x20 | 0x24 | 0x30 => some 0
  | 0x2C => some 0x00011F5B
  | _ => none
/-- Size of BAR0, MSI-X vectors, and the largest payload in bytes (Table 17.1). -/
def bar0Bytes : Nat := 64 * 2 ^ 20
def msixVectors : Nat := 64
def maxPayload : Nat := 256
/-- The capabilities of the function (Table 17.1). -/
inductive PcieCapability where
  | powerManagement | express | msix | advancedErrorReporting | deviceSerialNumber
deriving DecidableEq, Repr
def capabilities : List PcieCapability := [.powerManagement, .express, .msix, .advancedErrorReporting, .deviceSerialNumber]
/-- The Device Serial Number: SERIAL of the package record (R569). -/
def State.deviceSerial (s : State) : W64 := w64 (fieldAt s.ident.packageInUse 0 8)

/-- The answer to a read of a word of configuration space (R574, R575); a word that the manual leaves to PCI Express is free (log 4). -/
def State.configReply (off : Nat) (s : State) : ConfigReply :=
  if !s.host.pcie.up then .none else if s.endpointAnswers then .success ((configHeader off).getD (Config.configWord off)) else .retry

/-- A link that is down trains again, with power applied (R575); once the endpoint answers, the host's configuration writes enable bus mastering and MSI-X
(log 4). -/
def pcieCycle (s : State) : State :=
  if !s.host.pcie.up then { s with host := { s.host with pcie := pcieTrained } }
  else if s.endpointAnswers then { s with host := { s.host with busMaster := true, msixEnable := true } }
  else s

/-- FLR, hot reset or loss of the link (R577): PCIe and MSI-X state, and the host mailboxes as receivers; replies that were held arrive there. -/
def pcieReset (k : PcieReset) (s : State) : State :=
  let t := { s with
    host := { s.host with msixEnable := false, funcMask := false, busMaster := false, pba := [],
                          pcie := match k with | .linkLoss => ⟨false, 0, 0, false⟩ | _ => s.host.pcie }
    regs := { s.regs with node := s.regs.node.filter fun e => decide (e.1 < 0x8000) } }
  (List.range 16).foldl (fun s h => (s.resetBox h true).releaseHeld h) t

/-! ## The host service (R591 to R597) -/

/-- A request's fields (R592). -/
def reqOp (w : List W32) : Nat := fld (w.getD 1 0) 7 0
def reqTag (w : List W32) : Nat := fld (w.getD 1 0) 31 16
def reqBox (w : List W32) : Nat := fld (w.getD 0 0) 27 24

/-- A reply to a request: opcode, status, tag, and results from word 2 on. -/
def replyWords (w : List W32) (st : Nat) (results : List W32) : List W32 :=
  [0, w32 (reqTag w * 2 ^ 16 + st * 2 ^ 8 + reqOp w)] ++ (List.range 14).map fun i => results.getD i 0

/-- Answers a request from the service core. -/
def State.answer (c : Nat) (w : List W32) (st : Nat) (results : List W32) (s : State) : State :=
  s.sendReply (reqBox w) c (replyWords w st results)

/-- Takes the request at the head of a core's mailbox 0, unless a reply to its mailbox is held (R592). -/
def State.takeRequest (c : Nat) (s : State) : Option (List W32 × State) :=
  let x := s.core c
  match x.fromHost.msgs with
  | [] => none
  | m :: _ =>
    if !x.live || s.host.held.any fun r => r.mailbox == reqBox m.words then none
    else some (m.words, corePop c true s)

/-- Opcodes of the host service (Table 17.4). -/
def hostOps : List Nat := [0x01, 0x02, 0x10, 0x11, 0x12, 0x13, 0x20]

/-- What every request meets first: NOT_OWNER from a core that is not the service (R591), RANGE for an undefined opcode (R593), VERSION
for BLOCK_CMD outside RUNNING (R598); `none` where the request is to be served. -/
def State.requestRefusal (s : State) (c : Nat) (w : List W32) : Option Nat :=
  if c ≠ s.host.service ∨ !s.host.serviceLive then some St.notOwner
  else if s.start.phase != .running ∧ !(reqOp w ∈ [0x01, 0x10, 0x11, 0x12, 0x13, 0x20]) then some St.version
  else if !(reqOp w ∈ hostOps) then some St.range
  else none

/-- Serves the head request where it is refused or has the opcode of the command; otherwise nothing happens. -/
def State.serveRequest (c op : Nat) (f : List W32 → State → State) (s : State) : State :=
  match s.takeRequest c with
  | none => s
  | some (w, t) =>
    match t.requestRefusal c w with
    | some st => t.answer c w st []
    | none => if reqOp w = op then f w t else s

/-- ECHO (Table 17.4). -/
def hostEcho (c : Nat) (s : State) : State := s.serveRequest c 1 (fun w t => t.answer c w St.ok (w.drop 2))

/-- The family whose slot 0 has its OP register at an offset (R594). -/
def familyAt (off : Nat) : Option Family := allFamilies.find? fun f => f.base == off

/-- The reply to a BLOCK_CMD whose slot has completed: its status, and the result register with those that follow it (Table 17.4). -/
def State.blockReply (k : Nat) (w : List W32) (s : State) : State :=
  match allFamilies.find? fun f => f.num == k / 4 with
  | none => s
  | some f =>
    let r := slotResult f (k % 4)
    let extra := (List.range 3).map fun i => if f.args + 2 + i < 8 then s.reg (r + 4 + 4 * i) else 0
    s.answer s.host.service w (fld (s.reg r) 7 0) (s.reg r :: extra)

/-- Posts the replies of slot commands that have completed. -/
def flushReplies (s : State) : State :=
  s.slots.replies.foldl (fun s r => s.blockReply r.1 r.2) { s with slots := { s.slots with replies := [] } }

/-! ## Restart and phases touch every receiver (R589, R601) -/

/-- Resets every core and host mailbox together, without notices (R589). -/
def resetReceivers (s : State) : State :=
  let t := (List.range 16).foldl (fun s h => (s.resetBox h false).setNat (mboxReg Reg.MBX_H_ABORT_INFO h) 0) s
  { t with host := { t.host with cores := [], serviceLive := false, held := [], blockWait := [] } }

/-! ## Reads of live registers -/

/-- NODE_STATUS (Table 17.7). -/
def Phase.code : Phase → Nat
  | .reset => 0 | .rom => 1 | .image => 2 | .load => 3 | .config => 4 | .bringUp => 5 | .running => 6 | .standStill => 7 | .refLost => 8

/-- Steward dies that are live: passed their tests and not retired (R539, R521). -/
def State.liveStewards (s : State) : List Nat :=
  if s.start.phase == .refLost then [] else s.start.stewards.filter fun n => !s.isRetired 13 n

def bitmap (l : List Nat) : Nat := (dedupList l).foldl (fun a n => a + 2 ^ n) 0

def State.nodeStatus (s : State) : Nat :=
  b1 s.start.restarting * 2 ^ 31 + bitmap s.liveStewards * 2 ^ 20 + bitmap s.ident.certMismatch * 2 ^ 16
    + b1 s.ident.mismatch * 2 ^ 8 + s.start.phase.code

/-- The die record a selection names, once read (R607). -/
def State.dieRecord (s : State) (i : Nat) : Bytes := if s.ident.recordsRead then s.ident.dieRecords.getD i [] else []

/-- NODE_DIE_CHECK of a record against the package map (R569, Table 17.6). -/
def State.dieCheck (s : State) (i : Nat) : Nat :=
  let r := s.dieRecord i
  let role := if i < 8 then 0 else if i < 32 then 1 else if i < 44 then 2 else if i < 60 then 3 else 4
  if r.isEmpty then 0
  else
    let crcBad := (crc32c (sliceAt r 0 28)).toNat != fieldAt r 28 4
    let differs := sliceAt s.ident.packageInUse (64 + 32 * i) 32 != sliceAt r 0 32 || byteAt r 9 != role
    b1 crcBad * 2 + b1 differs

/-- A figure of the accepted copy, 0 while none is accepted (R551). -/
def State.ofAccepted (s : State) (n : Nat) : Nat := if s.start.accepted.isSome then n else 0

/-- Report header (Table 16.10). -/
def State.reportHeader (s : State) : Bytes :=
  let copyCode := match s.start.accepted with | some false => 0 | some true => 1 | none => 0xFF
  let full := s.cfg.rptLtc != 0 || !s.cfg.entries.isEmpty
  [0, if full then 1 else 0] ++ leBytes 1 copyCode ++ leBytes 1 s.start.attempts ++ leBytes 4 s.cfg.entries.length
    ++ leBytes 4 s.cfg.entriesLost ++ leBytes 4 s.cfg.records ++ leBytes 8 (s.ofAccepted s.start.imageSeq) ++ leBytes 8 s.cfg.rptLtc
    ++ [BitVec.ofNat 8 s.start.copyA.status, BitVec.ofNat 8 s.start.copyA.reason, BitVec.ofNat 8 s.start.copyB.status,
        BitVec.ofNat 8 s.start.copyB.reason] ++ List.replicate 28 0

/-- One report entry (Table 16.10). -/
def RptEntry.bytes (e : RptEntry) : Bytes :=
  leBytes 4 e.reg ++ leBytes 1 e.lsb ++ leBytes 1 e.width ++ leBytes 1 e.reason ++ [0] ++ leBytes 4 e.inst ++ leBytes 4 e.record
    ++ leBytes 8 e.given ++ leBytes 8 e.applied

/-- A byte of a transfer slot; one never written since power-on or restart is a free value of that epoch (R605). -/
def State.xferByte (s : State) (a : Nat) : Byte :=
  match s.host.xfer.get a with
  | some b => b
  | none => Config.undefinedByte (2 ^ 40 + s.host.xferEpoch) a

/-- A block is served now (Table 17.10, R579). -/
def State.served (s : State) (b : Block) : Bool :=
  match b with
  | .node | .mbx | .cfg => true
  | _ => s.isRunning

/-- The value a register shows now: registers that show live state are computed, the rest give their stored value. -/
def State.liveReg (s : State) (off : Nat) : W32 :=
    if 0x18000 ≤ off ∧ off < 0x20000 then
      w32 (leNat ((List.range 4).map fun i => s.xferByte (off - 0x18000 + i)))
    else if 0x28000 ≤ off ∧ off < 0x30000 then
      let i := 1024 * fld (s.reg Reg.CFG_RPT_PAGE) 1 0 + (off - 0x28000) / 32
      match s.cfg.entries[i]? with
      | some e => w32 (fieldAt e.bytes ((off - 0x28000) % 32) 4)
      | none => 0
    else if off = 0x9000 then w32 (bitmap (s.host.pba.filter (· < 32)))
    else if off = 0x9004 then w32 (bitmap ((s.host.pba.filter (32 ≤ ·)).map (· - 32)))
    else match regDef off with
      | none => 0
      | some d =>
        let i := off - d.base
        if d.acc = .wo then 0
        else if d.base = Reg.NODE_STATUS then w32 s.nodeStatus
        else if d.base = Reg.NODE_PHASE_LTC_LO then w32 s.start.phaseLtc
        else if d.base = Reg.NODE_PHASE_LTC_HI then w32 (s.start.phaseLtc / 2 ^ 32)
        else if d.base = Reg.NODE_LTC_LO then w32 s.now
        else if d.base = Reg.SCHED_LTC_LO then w32 s.now
        else if d.base = Reg.MBX_H_RX then ((((s.box (i / 0x100)).fifo.msgs.head?).map MboxMsg.words).getD []).getD (i % 0x100 / 4) 0
        else if d.base = Reg.MBX_H_COUNT then w32 (s.box (i / 0x100)).fifo.msgs.length
        else if d.base = Reg.MBX_H_TX_STATUS then
          let x := s.core (fld (s.reg (mboxReg Reg.MBX_H_TARGET (i / 0x100))) 4 0)
          w32 (b1 x.live * 2 ^ 31 + (4 - x.fromHost.msgs.length))
        else if d.base = Reg.MBX_HOST_SERVICE then w32 (b1 s.host.serviceLive * 2 ^ 31 + s.host.service)
        else if d.base = Reg.MBX_CORE_LIVE then w32 (bitmap ((s.host.cores.filter fun e => e.2.live).map Prod.fst))
        else if d.base = Reg.CFG_RPT_HDR then w32 (fieldAt s.reportHeader i 4)
        else if d.base = Reg.CFG_ACCEPTED then
          w32 (s.start.attempts * 2 ^ 8 + match s.start.accepted with | some false => 0 | some true => 1 | none => 0xFF)
        else if d.base = Reg.CFG_FW_VER_LO then w32 (s.ofAccepted s.start.fwVersion)
        else if d.base = Reg.CFG_FW_VER_HI then w32 (s.ofAccepted s.start.fwVersion / 2 ^ 32)
        else if d.base = Reg.CFG_SEQ_A_LO then w32 s.start.copyA.seq
        else if d.base = Reg.CFG_SEQ_A_HI then w32 (s.start.copyA.seq / 2 ^ 32)
        else if d.base = Reg.CFG_SEQ_B_LO then w32 s.start.copyB.seq
        else if d.base = Reg.CFG_SEQ_B_HI then w32 (s.start.copyB.seq / 2 ^ 32)
        else if d.base = Reg.CFG_STAGE then
          w32 (b1 s.start.stageOwner.isSome * 2 ^ 31 + b1 s.start.stageTarget * 2 ^ 24 + s.start.stageStatus * 2 ^ 16
            + s.start.stageBlocks.length)
        else if d.base = Reg.KITTY_FREE_UNITS then w32 s.freeUnits
        else if d.base = Reg.KITTY_SCRUB_PENDING then w32 s.scrubPending
        else if d.base = Reg.FLT_STATUS then
          w32 (b1 s.flt.unrecovered * 2 ^ 31 + b1 s.flt.running.isSome * 2 ^ 30 + min 255 s.flt.recovering.length * 2 ^ 8)
        else if d.base = Reg.FLT_LOG_NEXT_LO then w32 s.flt.nextSeq
        else if d.base = Reg.FLT_LOG_NEXT_HI then w32 (s.flt.nextSeq / 2 ^ 32)
        else if d.base = Reg.FLT_LOG_OLDEST_LO then w32 ((s.flt.log.getLast?.map FltRec.seq).getD 0)
        else if d.base = Reg.FLT_LOG_OLDEST_HI then w32 ((s.flt.log.getLast?.map FltRec.seq).getD 0 / 2 ^ 32)
        else if d.base = Reg.FLT_SPARE_BANKS then w32 (48 - s.flt.sparesUsed.length)
        else if d.base = Reg.FLT_DRILL_STATE then
          w32 (b1 s.flt.running.isSome * 2 ^ 31 + s.flt.schedule.length * 2 ^ 16 + (s.flt.running.map Drill.point).getD 0)
        else if d.base = Reg.CLK_STATUS then
          w32 (b1 s.clk.pllLocked * 2 ^ 31 + b1 s.clk.refclk * 2 ^ 30 + b1 s.clk.flowOk * 2 ^ 29 + b1 (!s.clk.throttleN) * 2 ^ 28)
        else if d.base = Reg.CLK_DUTY then w32 (leNat ((s.clk.duty.take 4).map (BitVec.ofNat 8)))
        else if d.base = Reg.CLK_DUTY_HI then w32 (leNat ((s.clk.duty.drop 4).map (BitVec.ofNat 8)))
        else s.reg off

/-- The value a 4-byte read of BAR0 finds; reserved space, and a block that is not served, read 0 (R11, R579). -/
def State.regNow (s : State) (off : Nat) : W32 :=
  match blockOf off with
  | none => 0
  | some b => if s.served b then s.liveReg off else 0

/-- LO registers of LO and HI pairs: a read of one latches its HI half, so that LO and then HI give one 64-bit value (R188, R216, R261, R296, R347, R453,
R469, R478, R506, R537, R602). -/
def pairLows : List Nat :=
  [Reg.QRY_ACCEPTED_LO, Reg.QRY_SCAN_PAIRS_LO, Reg.QRY_SCAN_DIST_LO, Reg.QRY_FILTER_REJECT_LO, Reg.QRY_TF_MEMBERS_LO, Reg.QRY_SEL_FLUSH_LO,
   Reg.IDX_KEYS_LO, Reg.IDX_KEY_LIMIT_LO, Reg.IDX_TBL_MP_LO, Reg.IDX_TBL_KEYS_LO, Reg.IDX_TBL_OLDEST_LO, Reg.IDX_LST_MP_LO, Reg.IDX_LST_IMAGE_MP_LO,
   Reg.IDX_UPD_OPS_LO, Reg.IDX_UPD_GROUPS_LO, Reg.IDX_TBL_FLOOR_LO, Reg.IDX_TBL_BASE_LO] ++
  [Reg.CD_ME_MACS_LO, Reg.CD_ME_BUSY_LO, Reg.CD_ME_WSTALL_LO, Reg.CD_SK_BYTES_LO, Reg.CD_VU_OPS_LO, Reg.STACK_PD_LEN_LO, Reg.STACK_KV_PAGE_READS_LO,
   Reg.STACK_EMB_TBL_ROWS_LO, Reg.STACK_EMB_TBL_MP_LO, Reg.STACK_EMB_HOT_ROW_LO, Reg.STACK_GE_ROWS_LO, Reg.MEDIA_LOGICAL_MU_LO, Reg.MEDIA_CH_READS_LO,
   Reg.MEDIA_READS_LO, Reg.MEDIA_WRITES_LO, Reg.MEDIA_SIEVE_RECORDS_LO, Reg.MEDIA_SIEVE_PASSED_LO] ++
  [Reg.LINK_VC_CREDITS_LO, Reg.LINK_MAP_MP_LO, Reg.LINK_MAP_PENDING_LO, Reg.LINK_MAP_INSTALL_LO, Reg.LINK_L_SERIAL_LO, Reg.LINK_L_TX_FLITS_LO,
   Reg.LINK_L_RX_FLITS_LO, Reg.LINK_L_FEC_CORR_LO, Reg.LINK_TON_MISMATCH_LO, Reg.LINK_TON_SILENT_LO, Reg.SCHED_LTC_LO, Reg.SCHED_Q_SENT_LO,
   Reg.SCHED_Q_TOKENS_LO, Reg.SCHED_PT_START_LO, Reg.SCHED_QUOTA_LIMIT_LO, Reg.SCHED_QUOTA_USE_LO] ++
  [Reg.LEND_C_BEGUN_LO, Reg.LEND_C_SEC_KEEPER_LO, Reg.LEND_C_SEC_LOCAL_LO, Reg.LEND_C_OWN_SEQ_LO, Reg.LEND_C_PUSH_BYTES_LO, Reg.LEND_K_SECURED_LO,
   Reg.FLT_LOG_NEXT_LO, Reg.FLT_LOG_OLDEST_LO, Reg.FLT_CLS_WINDOW_LO, Reg.NODE_SERIAL_LO, Reg.NODE_PHASE_LTC_LO, Reg.NODE_LTC_LO]

/-- A register is the LO half of a pair. -/
def pairLow (off : Nat) : Bool := (regDef off).any fun d => d.base ∈ pairLows

/-- A 4-byte read: the value returned, and the state after it. A LO half latches its HI half, which the next read of HI returns. -/
def State.readReg (off : Nat) (s : State) : W32 × State :=
  if pairLow off then (s.regNow off, { s with host := { s.host with latch := s.host.latch.put (off + 4) (s.regNow (off + 4)) } })
  else match s.host.latch.get off with
    | some v => (v, { s with host := { s.host with latch := s.host.latch.del off } })
    | none => (s.regNow off, s)

/-- A read of a whole accepted request, LO first (R578). -/
def State.readRegs (off : Nat) : Nat → State → List W32 × State
  | 0, s => ([], s)
  | words + 1, s =>
    let a := s.readReg off
    let b := a.2.readRegs (off + 4) words
    (a.1 :: b.1, b.2)

end Sys2Proof.Machine
end

