-- ==== Sys2Proof/Machine/Filter.lean ====
section
/-! DEFINITION. Filter programs and sieve programs (R149 to R153, R395), and the column types they compare (R103, R393). -/

namespace Sys2Proof.Machine

/-- A column (Table 3.3): TYPE, WIDTH and NULL. -/
structure Column where
  typ : Nat
  width : Nat
  null : Nat
deriving DecidableEq, Repr

/-- WIDTH of a TYPE (Table 3.3, R393). -/
def colWidth (t : Nat) : Nat :=
  match t with
  | 0 => 1 | 1 => 1 | 2 => 2 | 3 => 2 | 4 => 4 | 5 => 4 | 6 => 8 | 7 => 8 | 8 => 4 | 9 => 8 | 10 => 4 | 11 => 4 | _ => 0

/-- A column descriptor of 16 bytes (Table 3.3). -/
def readColumn (b : Bytes) : Column := ⟨byteAt b 0, byteAt b 1, fieldAt b 8 (min 8 (byteAt b 1))⟩

/-- A filter node (Table 4.4). -/
structure FNode where
  op : Nat
  arg : Nat
  value : Nat
deriving DecidableEq, Repr

/-- The nodes of a program. -/
def readNodes (b : Bytes) : List FNode :=
  (List.range (b.length / 16)).map fun i => ⟨byteAt b (16 * i), byteAt b (16 * i + 1), fieldAt b (16 * i + 8) 8⟩

def FNode.isJoin (n : FNode) : Bool := n.op == 0x20 || n.op == 0x21

/-- Order of two values of a type: less, equal (R151); an FP32 NaN is neither. -/
def colLt (t v c : Nat) : Bool :=
  if t = 8 then flt (w32 v) (w32 c)
  else if t = 1 ∨ t = 3 ∨ t = 5 ∨ t = 7 then decide (signedOf v (8 * colWidth t) < signedOf c (8 * colWidth t))
  else decide (v < c)
def colEq (t v c : Nat) : Bool := if t = 8 then feq (w32 v) (w32 c) else v == c

/-- A predicate on a value of a fixed column (R150, R152). -/
def predicate (col : Column) (n : FNode) (v : Nat) : Bool :=
  let t := col.typ
  let c := n.value % 2 ^ (8 * col.width)
  let null := v == col.null
  match n.op with
  | 0x0A => null
  | 0x0B => !null
  | 0x01 => !null && colEq t v c
  | 0x02 => !null && !colEq t v c
  | 0x03 => !null && colLt t v c
  | 0x04 => !null && (colLt t v c || colEq t v c)
  | 0x05 => !null && colLt t c v
  | 0x06 => !null && (colLt t c v || colEq t v c)
  | 0x07 => !null && v &&& c != 0
  | 0x08 => !null && v &&& c == c
  | 0x09 => !null && v &&& c == 0
  | _ => false

/-- Runs a program on a stack of truth values: a predicate pushes `pred`, AND and OR pop ARITY values (R149). -/
def runFilter (pred : FNode → Bool) : List FNode → List Bool → List Bool
  | [], st => st
  | n :: rest, st =>
    if n.isJoin then
      let xs := st.take n.arg
      runFilter pred rest ((if n.op = 0x20 then xs.all id else xs.any id) :: st.drop n.arg)
    else runFilter pred rest (pred n :: st)

/-- A program passes; one of 0 bytes passes everything. -/
def filterPass (pred : FNode → Bool) (ns : List FNode) : Bool := ns.isEmpty || (runFilter pred ns []).headD false

/-- Stack depths of a valid program: a predicate has depth 0, AND and OR one more than their deepest operand; `none` where a node pops more
than the stack holds (R153). -/
def filterDepth : List FNode → List Nat → Option (List Nat)
  | [], st => some st
  | n :: rest, st =>
    if n.isJoin then
      if st.length < n.arg then none else filterDepth rest ((1 + (st.take n.arg).foldl max 0) :: st.drop n.arg)
    else filterDepth rest (0 :: st)

/-- The greatest depth any AND or OR reaches. -/
def filterMax : List FNode → List Nat → Nat → Nat
  | [], _, m => m
  | n :: rest, st, m =>
    let d := if n.isJoin then 1 + (st.take n.arg).foldl max 0 else 0
    filterMax rest (d :: (if n.isJoin then st.drop n.arg else st)) (max m d)

/-- A node's operation is defined and allowed for its column's type; ARITY and constants are legal (R150, R153, R395). -/
def nodeOk (cols : List Column) (sieve : Bool) (n : FNode) : Bool :=
  if n.isJoin then decide (2 ≤ n.arg ∧ n.arg ≤ 16)
  else match cols[n.arg]? with
    | none => false
    | some c =>
      let cmp := decide (1 ≤ n.op ∧ n.op ≤ 6)
      if c.typ = 10 ∨ c.typ = 11 then sieve && (n.op == 0x0A || n.op == 0x0B || (n.op == 0x0C && c.typ == 11) || n.op == 0x0D)
      else if c.typ = 9 then decide (7 ≤ n.op ∧ n.op ≤ 0x0B)
      else (cmp && !(c.typ == 8 && isNan (w32 n.value))) || n.op == 0x0A || n.op == 0x0B

/-- A program is valid (R153). -/
def filterValid (cols : List Column) (sieve : Bool) (ns : List FNode) : Bool :=
  ns.isEmpty || (ns.all (nodeOk cols sieve) && decide ((ns.filter fun n => !n.isJoin).length ≤ 16)
    && (filterDepth ns []).elim false (fun st => st.length == 1) && decide (filterMax ns [] 0 ≤ 4))

end Sys2Proof.Machine
end

