-- ==== Sys2Proof/Machine/Media.lean ====
section
/-! DEFINITION. Flash media: addresses, superblocks and stripes, the flash map, request rings, reads, writes, trims, collection, wear, journal
and recovery, scans, and the MEDIA commands and registers (R371 to R408). -/

namespace Sys2Proof.Machine

/-! ## Addresses (R371 to R376) -/

def ppaCh (p : Nat) : Nat := p / 2 ^ 27 % 128
def ppaTarget (p : Nat) : Nat := p / 2 ^ 23 % 16
def ppaBlock (p : Nat) : Nat := p / 2 ^ 10 % 8192
def ppaPage (p : Nat) : Nat := p % 1024
def mkPpa (ch target block page : Nat) : Nat := ch * 2 ^ 27 + target * 2 ^ 23 + block * 2 ^ 10 + page
/-- Instance of a NAND die: 16 x channel + target. -/
def nandInst (p : Nat) : Nat := 16 * ppaCh p + ppaTarget p
/-- Key of superblock (g, t, b). -/
def sbKey (g t b : Nat) : Nat := g * 2 ^ 17 + t * 2 ^ 13 + b
def sbGroup (k : Nat) : Nat := k / 2 ^ 17
def sbTarget (k : Nat) : Nat := k / 2 ^ 13 % 16
def sbBlock (k : Nat) : Nat := k % 2 ^ 13

/-- User blocks of the NAND die at a channel and target. -/
def State.nandBlocks (s : State) (ch t : Nat) : Nat := s.nand.blocks.getD (16 * ch + t) 0
/-- Superblocks of (g, t) (R376). -/
def State.sbCount (s : State) (g t : Nat) : Nat :=
  (List.range 16).foldl (fun n m => min n (s.nandBlocks (8 * m + g) t)) 8192
/-- A retired die is a member of (g, t) (R380). -/
def State.sbRetired (s : State) (g t : Nat) : Bool := (List.range 16).any fun m => s.isRetired 15 (16 * (8 * m + g) + t)
/-- The block that member `m` of a superblock is (R392). -/
def State.memberBlock (s : State) (k m : Nat) : Nat :=
  ((s.nand.subst.find? fun x => x.1 == k && x.2.1 == m).map fun x => x.2.2).getD (sbBlock k)
/-- The superblock that holds a page. -/
def State.sbOf (s : State) (p : Nat) : Nat :=
  let g := ppaCh p % 8
  let t := ppaTarget p
  ((s.nand.subst.find? fun x => sbGroup x.1 == g && sbTarget x.1 == t && x.2.1 == ppaCh p / 8 && x.2.2 == ppaBlock p).map fun x => x.1).getD
    (sbKey g t (ppaBlock p))
/-- Page `page` of member `m` of a superblock. -/
def State.sbPage (s : State) (k m page : Nat) : Nat := mkPpa (8 * m + sbGroup k) (sbTarget k) (s.memberBlock k m) page
/-- The member with the parity page of stripe `p` (R377). -/
def parityMember (k p : Nat) : Nat := (p + sbBlock k) % 16
/-- Data page `n` in program order: ascending stripes, ascending members without the parity member (R377). -/
def State.dataPage (s : State) (k n : Nat) : Nat :=
  let p := n / 15
  let i := n % 15
  s.sbPage k (if i < parityMember k p then i else i + 1) p

/-- Superblocks that may hold data: all members present, none retired; the anchors' are excluded (R381, R400). -/
def State.sbUsable (s : State) (g t : Nat) : Nat := if s.sbRetired g t then 0 else s.sbCount g t
def State.sbTotal (s : State) : Nat :=
  ((List.range 8).map fun g => ((List.range 16).map fun t => s.sbUsable g t).foldl (· + ·) 0).foldl (· + ·) 0
/-- Free superblocks of a group. -/
def State.sbFree (s : State) (g : Nat) : Nat :=
  ((List.range 16).map fun t =>
    s.sbUsable g t - (if t = 0 ∧ 0 < s.sbUsable g t then 1 else 0)
      - (s.med.sbs.filter fun e => sbGroup e.1 == g && sbTarget e.1 == t && decide (sbBlock e.1 < s.sbUsable g t)
          && !(t == 0 && sbBlock e.1 == 0)).length).foldl (· + ·) 0
/-- The free superblocks of a group in the order in which it takes them: the one that wear levelling freed, then the lowest first (R391). -/
def State.freeSbs (s : State) (g : Nat) : List Nat :=
  let first := s.med.prefer.get g
  first.toList ++ (List.range 16).flatMap fun t =>
    ((List.range (s.sbUsable g t)).filter fun b => !s.med.sbs.has (sbKey g t b) && !(t == 0 && b == 0) && first != some (sbKey g t b)).map fun b => sbKey g t b
/-- The superblock a group takes next. -/
def State.nextSb (s : State) (g : Nat) : Option Nat := (s.freeSbs g).head?
/-- ERASES of a superblock. -/
def State.sbErases (s : State) (k : Nat) : Nat := s.nand.eraseAll + s.nand.erases.getD k 0

/-! ## Records of the media -/

def State.med' (f : MediaSt → MediaSt) (s : State) : State := { s with med := f s.med }
def State.nand' (f : NandSt → NandSt) (s : State) : State := { s with nand := f s.nand }
def chanZero : ChanCount := ⟨0, 0, 0, 0, 0, 0⟩
def State.chan (ch : Nat) (f : ChanCount → ChanCount) (s : State) : State := s.med' fun m => { m with chans := m.chans.modifyD ch chanZero f }
/-- MEDIA_STATE [2:0]. -/
def State.mediaState (s : State) : Nat := fld (s.reg Reg.MEDIA_STATE) 2 0
/-- The recovery mode of the newest anchor (R399). -/
def State.mapMode (s : State) : Nat := (s.nand.anchors.head?).elim 0 Anchor.mode
def State.setMediaState (n : Nat) (s : State) : State := s.setNat Reg.MEDIA_STATE (256 * s.mapMode + n)
/-- The next value of the sequence counter (R386). -/
def State.nextSeq (s : State) : Nat × State := (s.med.seq + 1, s.med' fun m => { m with seq := m.seq + 1 })
/-- SEQ of the change an LMU's map entry stands for. -/
def State.lmuSeq (s : State) (x : Nat) : Nat :=
  match s.med.fwd.get x with
  | some p => (s.nand.pages.get p).elim 0 FlashPage.seq
  | none => s.med.trims.getD x 0
/-- TYPE of a page (Table 11.2). -/
def PageBody.code : PageBody → Nat
  | .data _ => 0 | .parity _ => 1 | .pad => 2 | .journal _ _ | .flush _ _ => 3 | .segment _ _ _ => 4 | .trims _ => 5
/-- CHECK of a tag at a page address (Table 11.2): CRC-32C of LMU, TYPE, SEQ and the address. -/
def tagCheck (ppa lmu seq : Nat) (b : PageBody) : W32 := crc32c (leBytes 5 lmu ++ leBytes 1 b.code ++ leBytes 6 seq ++ leBytes 5 ppa)
/-- A page as it is programmed at an address. -/
def pageFor (ppa lmu seq : Nat) (b : PageBody) : FlashPage := ⟨lmu, seq, b, false, tagCheck ppa lmu seq b⟩
/-- LMU of a page that holds none. -/
abbrev noLmu : Nat := 2 ^ 40 - 1
/-- A page reads with a tag that passes its check (R374, R398). -/
def FlashPage.good (pg : FlashPage) (ppa : Nat) : Bool := !pg.torn && pg.check == tagCheck ppa pg.lmu pg.seq pg.body
/-- The bytes a data or parity page holds. -/
def FlashPage.mem (pg : FlashPage) : Mem :=
  match pg.body with
  | .data m | .parity m => m
  | _ => []
/-- The exclusive-or of two pages. -/
def memXor (a b : Mem) : Mem := b.foldl (fun m e => Mem.write m e.1 (Mem.read m e.1 ^^^ e.2)) a

/-- A page holds the current copy of its LMU, or a live trim (R382, R388). -/
def State.pageLive (s : State) (ppa : Nat) (pg : FlashPage) : Bool :=
  match pg.body with
  | .data _ => s.med.fwd.get pg.lmu == some ppa
  | .trims es => es.any fun e => s.med.trims.get e.1 == some e.2
  | _ => false
/-- The live pages of a superblock. -/
def State.livePages (s : State) (k : Nat) : List (Nat × FlashPage) :=
  s.nand.pages.filter fun e => s.sbOf e.1 == k && s.pageLive e.1 e.2
/-- The pages of retired dies that hold live data and await rebuilding (R380). -/
def State.rebuildPending (s : State) : Nat := (s.nand.pages.filter fun e => s.isRetired 15 (nandInst e.1) && s.pageLive e.1 e.2).length
/-- Shows the superblock counts and the pages that await rebuilding (Table 11.7). -/
def State.mediaCounts (s : State) : State :=
  let free := ((List.range 8).map s.sbFree).foldl (· + ·) 0
  let er := s.nand.erases.vals.map (s.nand.eraseAll + ·)
  let lo := if er.length < s.sbTotal then s.nand.eraseAll else er.foldl min (er.headD 0)
  (((s.setNat Reg.MEDIA_FREE_SB free).setNat Reg.MEDIA_ERASE_MIN lo).setNat Reg.MEDIA_ERASE_MAX (er.foldl max s.nand.eraseAll)).setNat
    Reg.MEDIA_REBUILD_PENDING s.rebuildPending

/-! ## Programs (R377, R387) -/

/-- Starts a program. -/
def State.startProgram (p : Program) (s : State) : State :=
  s.med' fun m => { m with programs := m.programs.put m.nextId p, nextId := m.nextId + 1 }

/-- The next free data page of a group, opening a superblock where the open one is full (R387). -/
def State.allocPage (g : Nat) (s : State) : Option (Nat × State) :=
  let cur := s.med.sbs.find? fun e => sbGroup e.1 == g && match e.2 with | .opened _ => true | _ => false
  let take (k n : Nat) (s : State) : Nat × State :=
    (s.dataPage k n, s.med' fun m => { m with sbs := m.sbs.put k (if n + 1 = 15360 then .closed else .opened (n + 1)) })
  match cur with
  | some (k, .opened n) => some (take k n s)
  | _ => match s.nextSb g with
    | some k => some (take k 0 (s.med' fun m => { m with prefer := if m.prefer.get g = some k then m.prefer.del g else m.prefer }))
    | none => none

/-- A page being programmed or copied. -/
def State.pageInFlight (s : State) (ppa : Nat) : Bool := (s.med.programs.vals.any fun p => p.ppa == ppa) || s.med.relocs.vals.any fun r => r.dst == ppa
/-- The data pages of a stripe. -/
def State.stripeData (s : State) (k p : Nat) : List Nat := (List.range 15).map fun i => s.dataPage k (15 * p + i)
def State.stripeParity (s : State) (k p : Nat) : Nat := s.sbPage k (parityMember k p) p
/-- The exclusive-or of the data pages of a stripe that are programmed (R377). -/
def State.stripeXor (s : State) (k p : Nat) : Mem :=
  ((s.stripeData k p).filterMap s.nand.pages.get).foldl (fun m pg => if pg.torn then m else memXor m pg.mem) []
/-- Bytes pass through the region of a class in which the media die at a quadrant works: read buffers, page buffers (R51, R380, R385, R389; log 42). -/
def State.mediaBuffer (cls q : Nat) (b : Bytes) (s : State) : State := s.throughNow cls (q % 4) (2 ^ 19) b
/-- Quadrant of the media die that drives a page's channel (R371). -/
def ppaQuadrant (ppa : Nat) : Nat := ppaCh ppa / 32

/-- A page of a stripe has been programmed or has failed (R377): the exclusive-or so far stands in the group's accumulator in the region of class W4, and the
parity page is programmed once the 15 data pages are. -/
def State.stripeStep (ppa : Nat) (s : State) : State :=
  let k := s.sbOf ppa
  let p := ppaPage ppa
  let x := s.stripeXor k p
  let t := match s.service 4 with
    | some r => s.rgnPut r (sbGroup k % 4 * unitBytes + 2 ^ 20 + 65536 * (sbGroup k / 4)) (Mem.readBytes x 0 65536)
    | none => s
  let par := t.stripeParity k p
  if (t.stripeData k p).all (fun a => t.nand.pages.has a && !t.pageInFlight a) && !t.nand.pages.has par && !t.pageInFlight par && !t.nand.bad.contains (par / 1024) then
    t.startProgram ⟨par, pageFor par noLmu t.med.seq (.parity x), none, false⟩
  else t

/-- The next data page, channel groups in turn (R387). -/
def State.takePage (s : State) : Option (Nat × State) :=
  let g := s.med.nextGroup % 8
  (s.allocPage g).map fun r => (r.1, r.2.med' fun m => { m with nextGroup := (g + 1) % 8 })

/-- Records a map change: the forward map, and the journal in journal mode (R401). -/
def State.mapSet (x : Nat) (p : Option Nat) (seq : Nat) (s : State) : State :=
  let j := if s.mapMode = 0 then s.med.pendingJ ++ [⟨x, p, seq⟩] else s.med.pendingJ
  s.med' fun m => match p with
    | some q => { m with fwd := m.fwd.put x q, trims := m.trims.del x, pendingJ := j }
    | none => { m with fwd := m.fwd.del x, trims := m.trims.put x seq, pendingJ := j }

/-- The superblocks of the journal and the map segments, as the newest anchor names them (R400). -/
def State.sysSbs (s : State) : List Nat := (s.nand.anchors.head?).elim [] Anchor.system

/-- Programs a page at an address at once: journal, segment and parity pages of the system superblocks, which no command reports. -/
def State.programNow (ppa : Nat) (b : PageBody) (s : State) : State :=
  (s.nand' fun n => { n with pages := n.pages.put ppa (pageFor ppa noLmu s.med.seq b) }).chan (ppaCh ppa) fun c => { c with programs := satAdd32 c.programs 1 }

/-- The bytes of a page of the system superblocks, as far as R401 lays them out: 16 bytes a journal entry, 5 bytes a map entry. -/
def PageBody.bytes : PageBody → Bytes
  | .journal _ es => es.flatMap fun e => leBytes 5 e.lmu ++ leBytes 5 (e.ppa.getD noLmu) ++ leBytes 6 e.seq
  | .segment n _ m => (List.range 12800).flatMap fun i => leBytes 5 (m.getD (12800 * n + i) noLmu)
  | _ => []

/-- Programs the next page of the system superblocks, in turn, with the parity page of a stripe after its last data page (R377, R400, R401). -/
def State.sysProgram (b : PageBody) (s : State) : State :=
  let sys := s.sysSbs
  if sys.isEmpty then s
  else
    let k := sys.getD (s.med.sysAt / 15360 % sys.length) 0
    let n := s.med.sysAt % 15360
    let t := ((s.mediaBuffer 4 (ppaQuadrant (s.dataPage k n)) b.bytes).programNow (s.dataPage k n) b).med' fun m => { m with sysAt := m.sysAt + 1 }
    if n % 15 = 14 then t.programNow (t.stripeParity k (n / 15)) (.parity []) else t

/-- An anchor in a mode, in the next page of the 8 anchor superblocks, round-robin (R399, R400). -/
def State.writeAnchor (mode logical : Nat) (system : List Nat) (s : State) : State :=
  let i := s.nand.anchors.length
  let ppa := s.dataPage (sbKey (i % 8) 0 0) (i / 8 % 15360)
  (s.nand' fun n => { n with anchors := ⟨s.med.seq, mode, logical, system, s.med.segments⟩ :: n.anchors }).chan (ppaCh ppa)
    fun c => { c with programs := satAdd32 c.programs 1 }

/-- A segment's capture sequence number: every program of an LMU with one above it may not be in the segment (R402). -/
def State.captureSeq (s : State) : Nat := s.med.programs.vals.foldl (fun m p => min m (p.page.seq - 1)) s.med.seq

/-- Writes a map segment back: 12,800 entries, one segment to a page (R401). -/
def State.writeSegment (n : Nat) (s : State) : State :=
  let sys := s.sysSbs
  let ppa := s.dataPage (sys.getD (s.med.sysAt / 15360 % max 1 sys.length) 0) (s.med.sysAt % 15360)
  (s.sysProgram (.segment n s.captureSeq (s.med.fwd.filter fun e => e.1 / 12800 == n))).med' fun m => { m with segments := m.segments.put n ppa }

/-- Map segments that a page of the system superblocks still serves: those whose changes it carries, and the one it is. -/
def PageBody.segmentsOf : PageBody → List Nat
  | .journal _ es => es.map fun e => e.lmu / 12800
  | .segment n _ _ => [n]
  | _ => []

/-- The system superblock after the one in use is made free: what its journal pages and segments carry is written back as segments first, with an anchor that
names them (R400, R401). -/
def State.sysReclaim (s : State) : State :=
  let sys := s.sysSbs
  if sys.length < 2 then s
  else
    let k := sys.getD ((s.med.sysAt / 15360 + 1) % sys.length) 0
    let old := s.nand.pages.filter fun e => s.sbOf e.1 == k
    if old.isEmpty then s
    else
      let t := (dedupList (old.flatMap fun e => e.2.body.segmentsOf)).foldl (fun t n => t.writeSegment n) s
      let t := t.writeAnchor t.mapMode t.med.logical sys
      let t := t.nand' fun n => { n with pages := n.pages.filter fun e => !(old.any fun o => o.1 == e.1), erases := n.erases.modifyD k 0 (· + 1) }
      (List.range 16).foldl (fun t m => t.chan (8 * m + sbGroup k) fun c => { c with erases := satAdd32 c.erases 1 }) t

/-- Programs pending journal entries, 4,096 to a page. -/
def State.programJournal : Nat → List JournalEntry → State → State
  | 0, _, s => s
  | fuel + 1, es, s =>
    if es.isEmpty then s
    else State.programJournal fuel (es.drop 4096) ((s.sysProgram (.journal s.med.journalAt (es.take 4096))).med' fun m => { m with journalAt := m.journalAt + 1 })

/-- The flush record (R401): the open superblocks with the next page of each, and the next 4 that each group's allocator takes. -/
def State.flushRecord (s : State) : FlushRec :=
  ⟨s.med.seq, s.med.sbs.filterMap fun e => match e.2 with | .opened n => some (e.1, n) | _ => none, (List.range 8).flatMap fun g => (s.freeSbs g).take 4⟩

/-- A flush of the journal (R401): the pending entries as journal pages, and a flush record. -/
def State.journalFlush (s : State) : State :=
  let t := s.programJournal s.med.pendingJ.length s.med.pendingJ
  let t := (t.sysProgram (.flush t.med.journalAt s.flushRecord)).med' fun m => { m with journalAt := m.journalAt + 1 }
  (t.med' fun m => { m with pendingJ := [], sinceFlush := 0, lastFlush := s.now }).sysReclaim

/-- The flush that a volume of programmed map units triggers (R401). -/
def State.flushByVolume (s : State) : State :=
  if s.mapMode = 0 ∧ (s.reg Reg.MEDIA_JOURNAL_BYTES).toNat * 16 ≤ s.med.sinceFlush then s.journalFlush else s
/-- A map unit has been programmed. -/
def State.unitProgrammed (s : State) : State := (s.med' fun m => { m with sinceFlush := m.sinceFlush + 1 }).flushByVolume

/-! ## Emptying, collection and wear (R389 to R392) -/

/-- Starts a relocation of a page. -/
def State.relocate (src : Nat) (pg : FlashPage) (rebuild counted : Bool) (s : State) : State :=
  if s.med.relocs.vals.any fun r => r.src == src then s
  else match s.takePage with
    | some (dst, t) => t.med' fun m => { m with relocs := m.relocs.put m.nextId ⟨src, dst, pg, rebuild, counted⟩, nextId := m.nextId + 1 }
    | none => s

/-- Moves the pages of superblocks being emptied, and erases one that has none left and that no read still uses (R389); those of a superblock with a retired die
move once its rebuild has ended (R380). -/
def State.pumpEmpty (s : State) : State :=
  s.med.sbs.foldl (fun s e => match e.2 with
    | .emptying wear =>
      let live := s.livePages e.1
      let t := live.foldl (fun s p => s.relocate p.1 p.2 false (!wear)) s
      let busy := (t.med.relocs.vals.any fun r => t.sbOf r.src == e.1) || (t.med.reads.vals.any fun r => t.sbOf r.ppa == e.1)
        || (t.med.programs.vals.any fun p => t.sbOf p.ppa == e.1)
      if live.isEmpty && !busy then t.med' fun m => { m with sbs := m.sbs.put e.1 (.erasing wear) } else t
    | .retired =>
      let live := s.livePages e.1
      if live.any fun p => s.isRetired 15 (nandInst p.1) then s else live.foldl (fun s p => s.relocate p.1 p.2 false false) s
    | _ => s) s

/-- Starts collection in groups short of free superblocks (R390). -/
def State.collect (s : State) : State :=
  (List.range 8).foldl (fun s g =>
    let working := s.med.sbs.any fun e => sbGroup e.1 == g && match e.2 with | .emptying _ => true | .erasing _ => true | _ => false
    if decide ((s.reg Reg.MEDIA_GC_LOW).toNat ≤ s.sbFree g) || working then s
    else
      let closed := s.med.sbs.filterMap fun e => if sbGroup e.1 = g ∧ e.2 = .closed then some e.1 else none
      match minBy (fun k => (s.livePages k).length) closed with
      | some k => s.med' fun m => { m with sbs := m.sbs.put k (.emptying false) }
      | none => s) s

/-- The wear check after an erase in a group, over its CLOSED and FREE superblocks (R391). -/
def State.wearCheck (g : Nat) (s : State) : State :=
  let closed := s.med.sbs.filterMap fun e => if sbGroup e.1 = g ∧ e.2 = .closed then some e.1 else none
  let held (k : Nat) : Bool := decide (sbBlock k < s.sbUsable g (sbTarget k)) && !(sbTarget k == 0 && sbBlock k == 0)
    && match s.med.sbs.get k with | none => true | some .closed => true | _ => false
  let listed := s.nand.erases.filterMap fun e => if sbGroup e.1 == g && held e.1 then some (s.sbErases e.1) else none
  let total := closed.length + s.sbFree g
  let lo := if listed.length < total then s.nand.eraseAll else listed.foldl min (listed.headD 0)
  let hi := listed.foldl max lo
  match minBy s.sbErases closed with
  | some k =>
    if (s.reg Reg.MEDIA_WL_SPREAD).toNat < hi - lo then
      (s.med' fun m => { m with sbs := m.sbs.put k (.emptying true) }).bump Reg.MEDIA_WL_MOVES
    else s
  | none => s

/-! ## Rings and requests (R383, R384) -/

/-- The fields of a request entry (Table 11.5). -/
def reqOpc (b : Bytes) : Nat := byteAt b 0
def reqRaw (b : Bytes) : Bool := bitOf (byteAt b 1) 0
def reqLen (b : Bytes) : Nat := fieldAt b 12 4
def reqOff (b : Bytes) : Nat := fieldAt b 16 8
def reqHandle (b : Bytes) : Nat := fieldAt b 24 2
def reqLine (b : Bytes) : Nat := 64 * fieldAt b 28 4

/-- Bytes of a ring. -/
def MediaRing.at (r : MediaRing) (line : Nat) : Nat := 64 * (r.line + line)
def State.ringRead (s : State) (r : MediaRing) (line n : Nat) : Bytes := (s.handleRead r.handle (r.at line) n).getD (List.replicate n 0)
def State.ringWrite (r : MediaRing) (off : Nat) (b : Bytes) (s : State) : State :=
  match s.region r.handle with
  | some g => s.rgnPut g off b
  | none => s
/-- The producer and consumer indices: 32 bits at bytes 0 to 3 of their lines, counting requests (log 7). -/
def State.producer (s : State) (r : MediaRing) : Nat := fieldAt (s.ringRead r 0 64) 0 4

/-- The requester's data size: bytes READ, WRITE and SCAN need in the data region. -/
def reqData (b : Bytes) : Nat :=
  match reqOpc b with
  | 1 => 4096 * reqLen b | 2 => 65536 * reqLen b | 4 => 64 | _ => 0

/-- Bytes of the object a request covers. -/
def reqSpan (b : Bytes) : Nat := if reqOpc b = 1 ∨ reqOpc b = 4 then 4096 * reqLen b else 65536 * reqLen b

/-- The logical flash address of byte `o` of a request's object (R323, R384). -/
def State.reqAddr (s : State) (b : Bytes) (o : Nat) : Nat :=
  if reqRaw b then o else ((s.pds.get (fieldAt b 8 4)).bind fun d => d.addr o).getD 0

/-- The columns of a schema (R393). -/
def schemaCols (sc : Bytes) : List Column :=
  (List.range (byteAt sc 0)).map fun i => let c := readColumn (sliceAt sc (16 + 16 * i) 16); { c with width := colWidth c.typ }

/-- The checks of R384 and R283 and those of the data region; OK where the request is accepted. -/
def State.reqStatus (s : State) (domain : Owner) (b : Bytes) : Nat :=
  let op := reqOpc b
  let pd := s.pds.get (fieldAt b 8 4)
  let wr := op == 2 || op == 3
  let raw := reqRaw b
  let lim := if op = 1 ∨ op = 4 then 4096 else 256
  let grain := if wr then 65536 else 4096
  let size := if raw then 65536 * s.med.logical else pd.elim 0 PlaceDesc.length
  let known := raw || pd.isSome
  let rgn := if reqData b = 0 then [] else s.rgnChecks domain (reqHandle b) (reqLine b) (reqData b) (op != 2)
  let prog := s.handleRead (fieldAt b 26 2) (64 * fieldAt b 32 4) (fieldAt b 36 2)
  let sc := s.med.schemas.get (byteAt b 6)
  let st := s.mediaState
  let die := byteAt b 4
  r21 ([(raw && domain != .system, St.denied),
    (!raw && pd.any fun d => d.owner != domain && domain != .system, St.denied),
    (!raw && wr && pd.any fun d => d.readOnly && domain != .system, St.denied),
    (die != 255 && (decide (7 < die) || !s.holdsCtr domain die (byteAt b 5 % 64)), St.denied),
    (decide (lim < reqLen b) || (known && decide (size < reqOff b + reqSpan b)), St.length),
    (op == 4 && (fieldAt b 36 2 != 0) && prog.isNone && (s.region (fieldAt b 26 2)).isSome, St.length),
    (decide (op = 0 ∨ 4 < op) || decide (reqOff b % grain ≠ 0) || (!raw && !pd.any fun d => d.tier == 2), St.range),
    (op == 4 && (sc.isNone || decide (512 < fieldAt b 36 2 ∨ fieldAt b 36 2 % 16 ≠ 0)
      || !filterValid (schemaCols (sc.getD [])) true (readNodes (prog.getD []))), St.range),
    (st == 0 || st == 4, St.range), (st == 1 || st == 2, St.busy)] ++ rgn ++
    (if op = 4 ∧ fieldAt b 36 2 ≠ 0 then s.rgnChecks domain (fieldAt b 26 2) 0 0 false else []))

/-- The domain of a ring's requests: the owner of its region (R383). -/
def State.ringDomain (s : State) (r : MediaRing) : Owner := (s.region r.handle).elim r.domain Region.owner

/-- Writes a request's STATUS and RESULT, advances the consumer index past finished entries and raises the sync counter (R384). -/
def State.reqAnswer (ringK slot : Nat) (entry : Bytes) (st result resume : Nat) (s : State) : State :=
  match s.med.rings.get ringK with
  | none => s
  | some r =>
    let base := r.at (2 + slot % 64)
    let t := (s.ringWrite r (base + 48) (leBytes 1 st)).ringWrite r (base + 52) (leBytes 4 result ++ (if reqOpc entry = 4 then leBytes 8 resume else []))
    let cons := fieldAt (t.ringRead r 1 64) 0 4
    let fin := slot :: r.finished
    let rec adv : Nat → Nat → Nat
      | 0, c => c
      | n + 1, c => if c % 2 ^ 32 ∈ fin then adv n (c + 1) else c
    let c' := adv 65 cons % 2 ^ 32
    let t := t.ringWrite r (r.at 1) (leBytes 4 c')
    let t := t.med' fun m => { m with rings := m.rings.put ringK { r with finished := fin.filter fun x => !((x + 2 ^ 32 - cons) % 2 ^ 32 < (c' + 2 ^ 32 - cons) % 2 ^ 32) } }
    if byteAt entry 4 < 8 ∧ t.holdsCtr (t.ringDomain r) (byteAt entry 4) (byteAt entry 5 % 64) then t.signal (byteAt entry 4) (byteAt entry 5 % 64) else t

/-- A ring being detached with nothing left completes its RING_DETACH (R383). -/
def State.detachDone (ringK : Nat) (s : State) : State :=
  match s.med.rings.get ringK with
  | some r => match r.detach with
    | some slot =>
      if s.med.reqs.vals.any fun q => q.ring == ringK then s
      else (s.med' fun m => { m with rings := m.rings.del ringK }).slotDone .media slot St.ok
    | none => s
  | none => s

/-- A ring has an entry to serve. -/
def State.ringWaits (s : State) (r : MediaRing) : Bool := r.detach.isNone && s.producer r != r.accepted % 2 ^ 32

/-- The ring that a quadrant's front end serves next: its rings in turn, one entry from each (R383). -/
def State.ringNext (s : State) (q : Nat) : Option Nat :=
  ((List.range 64).map fun i => 64 * q + (s.med.turn.getD q 63 + 1 + i) % 64).find? fun k => (s.med.rings.get k).any s.ringWaits

/-- Takes the next entry of a ring, where it has one and it is the ring's turn: its slot number and bytes. -/
def State.takeEntry (ringK : Nat) (s : State) : Option (Nat × Bytes × MediaRing × State) :=
  match s.med.rings.get ringK with
  | none => none
  | some r =>
    if s.ringNext (ringK / 64) != some ringK then none
    else
      let e := s.ringRead r (2 + r.accepted % 64) 64
      some (r.accepted % 2 ^ 32, e, r, (s.usedHandle r.handle (r.at (2 + r.accepted % 64)) 64).med' fun m =>
        { m with rings := m.rings.put ringK { r with accepted := r.accepted + 1 }, turn := m.turn.put (ringK / 64) (ringK % 64) })

/-- Starts a request of operation `op` at the front of a ring: refused, failed with the media, or accepted and handed to `go`. -/
def State.serveRing (op ringK : Nat) (go : Nat → MediaReq → State → State) (s : State) : State :=
  if !s.isRunning then s
  else match s.takeEntry ringK with
    | none => s
    | some (slot, e, r, t) =>
      let kind := if reqOpc e = 0 ∨ 4 < reqOpc e then 1 else reqOpc e
      if kind ≠ op then s
      else
        let st := t.reqStatus (t.ringDomain r) e
        if st ≠ St.ok then ((t.bump Reg.MEDIA_REQ_ERR).reqAnswer ringK slot e st 0 0).detachDone ringK
        else if t.mediaState = 5 then (t.reqAnswer ringK slot e St.fault 0 0).detachDone ringK
        else if reqLen e = 0 then (t.reqAnswer ringK slot e St.ok 0 0).detachDone ringK
        else
          let id := t.med.nextId
          let q : MediaReq := ⟨ringK, slot, e, t.ringDomain r, [], none, 0, 0, [], [], [], St.ok⟩
          go id q (t.med' fun m => { m with nextId := id + 1, reqs := m.reqs.put id q })

def State.setReq (id : Nat) (q : MediaReq) (s : State) : State := s.med' fun m => { m with reqs := m.reqs.put id q }

/-! ## Sieve (R394 to R397) -/

/-- A record of a block: its start, RECORD_BYTES and flags. -/
def recordsOf (blk : Bytes) : Nat → Nat → List (Nat × Nat) → Option (List (Nat × Nat))
  | 0, _, acc => some acc.reverse
  | n + 1, at_, acc =>
    let len := fieldAt blk at_ 2
    if len < 32 ∨ 4064 < len ∨ fieldAt blk 2 2 < at_ + len then none
    else recordsOf blk n ((at_ + len + 15) / 16 * 16) ((at_, len) :: acc)

/-- The records of a block, or `none` for one that is skipped whole (R394). -/
def blockRecords (blk : Bytes) (schema : Nat) : Option (List (Nat × Nat)) :=
  let used := fieldAt blk 2 2
  if used = 0 then some []
  else if used < 32 ∨ 4096 < used ∨ fieldAt blk 4 2 ≠ schema ∨ fieldAt blk 28 4 ≠ (crc32c (sliceAt blk 32 (used - 32))).toNat then none
  else recordsOf blk (fieldAt blk 0 2) 32 []

/-- Offset of a fixed column in a record. -/
def colOffset (cols : List Column) (k : Nat) : Nat := 16 + ((cols.take k).map Column.width).foldl (· + ·) 0

/-- A sieve predicate on a record (R395). -/
def sievePred (cols : List Column) (rec_ : Bytes) (n : FNode) : Bool :=
  match cols[n.arg]? with
  | none => false
  | some c =>
    let v := fieldAt rec_ (colOffset cols n.arg) c.width
    if c.typ = 10 ∨ c.typ = 11 then
      let off := v % 65536
      let len := v / 65536
      match n.op with
      | 0x0A => len == 0
      | 0x0B => len != 0
      | 0x0C => (List.range len).any fun i => fieldAt rec_ (off + 4 * i) 4 == n.value % 2 ^ 32
      | _ => len != 0 && decide (n.value ≤ len)
    else predicate c n v

/-- The sieve's running result (R396, R397): output, where it stands, counts, and where a scan that does not fit resumes. -/
structure SieveOut where
  bytes : Bytes
  records : Nat
  examined : Nat
  deleted : Nat
  bad : Nat
  stop : Option (Nat × Nat × Nat)
deriving DecidableEq, Repr

/-- Passes one block's records through the sieve. -/
def sieveBlock (cols : List Column) (ns : List FNode) (room base : Nat) (blk : Bytes) : List (Nat × Nat × Nat) → SieveOut → SieveOut
  | [], o => o
  | (i, at_, len) :: rest, o =>
    if o.stop.isSome then o
    else
      let r := sliceAt blk at_ len
      if bitOf (byteAt r 2) 0 then sieveBlock cols ns room base blk rest { o with deleted := o.deleted + 1 }
      else
        let o := { o with examined := o.examined + 1 }
        if !filterPass (sievePred cols r) ns then sieveBlock cols ns room base blk rest o
        else
          let out := leBytes 8 base ++ leBytes 2 i ++ leBytes 2 len ++ leBytes 4 0 ++ r ++ List.replicate ((16 - len % 16) % 16) 0
          if room < 64 + o.bytes.length + out.length then { o with stop := some (St.short, base, i) }
          else sieveBlock cols ns room base blk rest { o with bytes := o.bytes ++ out, records := o.records + 1 }

/-- Passes the blocks of a scan through the sieve, in offset order; an unreadable block ends it with FAULT. -/
def sieveBlocks (cols : List Column) (ns : List FNode) (room schema : Nat) : List (Nat × Nat × Option Bytes) → SieveOut → SieveOut
  | [], o => o
  | (base, skip, blk) :: rest, o =>
    if o.stop.isSome then o
    else match blk with
      | none => { o with stop := some (St.fault, base, skip) }
      | some b => match blockRecords b schema with
        | none => sieveBlocks cols ns room schema rest { o with bad := o.bad + 1 }
        | some rs =>
          let l := ((List.range rs.length).zip rs).drop skip
          sieveBlocks cols ns room schema rest (sieveBlock cols ns room base b (l.map fun x => (x.1, x.2.1, x.2.2)) o)

/-- A SCAN whose blocks are all read (R396, R397): output and area header are written, and the request completes. -/
def State.scanFinish (id : Nat) (q : MediaReq) (s : State) : State :=
  let e := q.entry
  let cols := schemaCols q.schema
  let ns := readNodes q.program
  let room := (s.region (reqHandle e)).elim 0 fun r => r.size - reqLine e
  let blocks := (List.range (reqLen e)).map fun i =>
    (reqOff e + 4096 * i, if i = 0 then byteAt e 7 else 0, (q.blocks.get i).getD none)
  let o := sieveBlocks cols ns room (byteAt e 6) blocks ⟨[], 0, 0, 0, 0, none⟩
  let st := o.stop.elim St.ok fun x => x.1
  let head := leBytes 4 o.records ++ leBytes 4 o.examined ++ leBytes 4 o.bad ++ List.replicate 52 0
  let t := match s.region (reqHandle e) with
    | some r => s.rgnPut r (reqLine e) (head ++ o.bytes)
    | none => s
  let t := (t.bump64 Reg.MEDIA_SIEVE_RECORDS_LO o.examined).bump64 Reg.MEDIA_SIEVE_PASSED_LO o.records
  let t := (t.bumpBy Reg.MEDIA_SIEVE_DELETED o.deleted).bumpBy Reg.MEDIA_SIEVE_BAD_BLOCK o.bad
  let resume := o.stop.elim 0 fun x => x.2.1 % 2 ^ 56 + 2 ^ 56 * x.2.2
  ((t.med' fun m => { m with reqs := m.reqs.del id }).reqAnswer q.ring q.slot e st o.records resume).detachDone q.ring

/-- Completes a request with nothing left to do. -/
def State.reqFinish (id : Nat) (s : State) : State :=
  match s.med.reqs.get id with
  | none => s
  | some q =>
    if q.outstanding ≠ 0 ∨ q.todo ≠ [] then s
    else if reqOpc q.entry = 4 then s.scanFinish id q
    else
      ((s.med' fun m => { m with reqs := m.reqs.del id }).reqAnswer q.ring q.slot q.entry q.status q.done 0).detachDone q.ring

/-! ## WRITE and TRIM (R386 to R388, R390) -/

/-- Map units of a request, as logical units, in order. -/
def State.reqUnits (s : State) (b : Bytes) : List Nat := (List.range (reqLen b)).map fun i => s.reqAddr b (reqOff b + 65536 * i) / 65536

/-- Issues the program of map unit `i` of a WRITE, where a page is free. -/
def State.issueWrite (id i : Nat) (s : State) : Option State :=
  match s.med.reqs.get id with
  | none => none
  | some q => (s.takePage).map fun r =>
      let x := s.reqAddr q.entry (reqOff q.entry + 65536 * i) / 65536
      let data := match s.region (reqHandle q.entry) with
        | some g => s.rgnRead g (reqLine q.entry + 65536 * i) 65536
        | none => []
      let n := (r.2.usedHandle (reqHandle q.entry) (reqLine q.entry + 65536 * i) 65536).nextSeq
      n.2.startProgram ⟨r.1, pageFor r.1 x n.1 (.data (Mem.writeBytes [] 0 data)), some id, false⟩

/-- Issues the trim record of the units of a TRIM that share home `h`, and unmaps them (R386, R388). -/
def State.issueTrim (id h : Nat) (s : State) : Option State :=
  match s.med.reqs.get id with
  | none => none
  | some q => (s.takePage).map fun r =>
      let xs := (s.reqUnits q.entry).filter fun x => x % 4 == h
      let z := xs.foldl (fun (a : List (Nat × Nat) × State) x =>
        let n := a.2.nextSeq
        (a.1 ++ [(x, n.1)], n.2.mapSet x none n.1)) ([], r.2)
      z.2.startProgram ⟨r.1, pageFor r.1 noLmu z.2.med.seq (.trims z.1), some id, true⟩

/-- Issues what a waiting request still has to do, in order, while pages are free. -/
def State.issueTodo (id : Nat) : List Nat → State → State
  | [], s => s
  | i :: rest, s =>
    match s.med.reqs.get id with
    | none => s
    | some q =>
      match (if reqOpc q.entry = 2 then s.issueWrite id i else s.issueTrim id i) with
      | some t => State.issueTodo id rest (t.setReq id { q with todo := rest, outstanding := q.outstanding + 1, waitSince := none })
      | none => s.setReq id { q with todo := i :: rest, waitSince := some (q.waitSince.getD s.now) }

/-- Lets every waiting request and superblock move on (R387, R389, R390). -/
def State.mediaPump (s : State) : State :=
  let t := s.pumpEmpty.collect.pumpEmpty
  (t.med.reqs.foldl (fun t e => t.issueTodo e.1 e.2.todo) t).mediaCounts

/-- WRITE (R387). -/
def mediaWrite (quadrant ring : Nat) (s : State) : State :=
  s.serveRing 2 (64 * quadrant + ring) fun id q t =>
    ((t.setReq id { q with todo := List.range (reqLen q.entry) }).issueTodo id (List.range (reqLen q.entry))).mediaPump

/-- TRIM (R388). -/
def mediaTrim (quadrant ring : Nat) (s : State) : State :=
  s.serveRing 3 (64 * quadrant + ring) fun id q t =>
    let homes := (List.range 4).filter fun h => (t.reqUnits q.entry).any fun x => x % 4 == h
    ((t.setReq id { q with todo := homes }).issueTodo id homes).mediaPump

/-! ## READ and SCAN (R385, R396) -/

/-- The 4,096 bytes of codeword `cw` of a page. -/
def FlashPage.block (pg : FlashPage) (cw : Nat) : Bytes :=
  match pg.body with
  | .data m => Mem.readBytes m (4096 * cw) 4096
  | _ => List.replicate 4096 0

/-- Delivers block `i` of a request, by way of the region of class W4: into the region for a READ, into the request for a SCAN; an unreadable one leaves undefined data. -/
def State.deliver (id i : Nat) (b : Option Bytes) (s : State) : State :=
  match s.med.reqs.get id with
  | none => s
  | some q =>
    if reqOpc q.entry = 4 then s.setReq id { q with blocks := q.blocks.put i b }
    else
      let u := s.drawBytes 4096
      let d := match b with | some x => x | none => u.1
      let t := if b.isSome then s else u.2
      let t := t.mediaBuffer 4 (q.ring / 64) d
      let t := match t.region (reqHandle q.entry) with
        | some r => t.rgnPut r (reqLine q.entry + 4096 * i) d
        | none => t
      t.setReq id { q with done := q.done + b1 b.isSome, status := if b.isSome then q.status else St.fault }

/-- Translates and starts the reads of a READ or SCAN; a block of an unmapped unit reads as zeros (R385). -/
def State.startReads (id : Nat) (q : MediaReq) (s : State) : State :=
  (List.range (reqLen q.entry)).foldl (fun t i =>
    let a := s.reqAddr q.entry (reqOff q.entry + 4096 * i)
    match s.med.fwd.get (a / 65536) with
    | none => (t.bump Reg.MEDIA_UNMAPPED_READS).deliver id i (some (List.replicate 4096 0))
    | some p =>
      let t := t.med' fun m => { m with reads := m.reads.put m.nextId ⟨id, i, a / 65536, p, a / 4096 % 16⟩, nextId := m.nextId + 1 }
      match t.med.reqs.get id with
      | some r => t.setReq id { r with outstanding := r.outstanding + 1 }
      | none => t) (s.bump64 Reg.MEDIA_READS_LO (reqLen q.entry))

/-- READ (R385). A request with an undefined OP is taken here and refused (R384). -/
def mediaRead (quadrant ring : Nat) (s : State) : State :=
  s.serveRing 1 (64 * quadrant + ring) fun id q t => (t.startReads id q).reqFinish id

/-- SCAN (R396): the schema is captured at the start (R393), and so is the program. -/
def mediaScan (quadrant ring : Nat) (s : State) : State :=
  s.serveRing 4 (64 * quadrant + ring) fun id q t =>
    let q := { q with schema := (t.med.schemas.get (byteAt q.entry 6)).getD [],
                      program := (t.handleRead (fieldAt q.entry 26 2) (64 * fieldAt q.entry 32 4) (fieldAt q.entry 36 2)).getD [] }
    let t := t.usedHandle (fieldAt q.entry 26 2) (64 * fieldAt q.entry 32 4) (fieldAt q.entry 36 2)
    ((t.setReq id q).startReads id q).reqFinish id

/-- Plane reads of a page's block, on its channel (Tables 11.4, 11.7). -/
def State.planeReads (ppa n : Nat) (s : State) : State :=
  (s.chan (ppaCh ppa) fun c => { c with reads := satAdd64 c.reads n }).med' fun m => { m with planeReads := m.planeReads.modifyD (ppa / 1024) 0 (· + n) }

/-- The other members of a page's stripe. -/
def State.peers (s : State) (ppa : Nat) : List Nat :=
  let k := s.sbOf ppa
  ((List.range 16).map fun m => s.sbPage k m (ppaPage ppa)).filter (· != ppa)

/-- A stripe's other pages can give a page's codewords (R378, R379): each is read, or stands in the accumulator while the stripe is open. -/
def State.peersGood (s : State) (ppa : Nat) : Bool :=
  let par := s.stripeParity (s.sbOf ppa) (ppaPage ppa)
  !s.nand.lost.contains ppa && (s.peers ppa).all fun a => match s.nand.pages.get a with
    | some pg => pg.good a && !s.isRetired 15 (nandInst a)
    | none => a != par || !s.nand.bad.contains (a / 1024)

/-- Counts a codeword's correction on its channel and reports one that failed (R375, R379): true where its data was read. A page whose tag fails its check or
names another LMU goes straight to the stripe. -/
def State.correct (ppa lmu : Nat) (outcome : CwOutcome) (peers : Bool) (s : State) : Bool × State :=
  let ch := ppaCh ppa
  let gone := s.isRetired 15 (nandInst ppa)
  let t := if gone then s else s.planeReads ppa 1
  let parity (t : State) : Bool × State :=
    let t := ((t.peers ppa).filter fun a => t.nand.pages.has a && !t.isRetired 15 (nandInst a)).foldl (fun t a => t.planeReads a 1) t
    if peers && s.peersGood ppa then (true, t.bump Reg.MEDIA_PARITY_RECON)
    else (false, (t.bump Reg.MEDIA_PARITY_FAIL).fault 0x0065 (nandInst ppa) 0)
  let tagged := (s.nand.pages.get ppa).any fun pg => pg.good ppa && pg.lmu == lmu
  let read (t : State) : Bool × State := if tagged then (true, t) else parity t
  if gone then parity t
  else match outcome with
    | .hard => read t
    | .retry => read (t.chan ch fun c => { c with retries := satAdd32 c.retries 1 })
    | .soft => read (t.chan ch fun c => { c with soft := satAdd32 c.soft 1 })
    | .fail => parity ((t.chan ch fun c => { c with uncorr := satAdd32 c.uncorr 1 }).fault 0x0060 (nandInst ppa) 0)

/-- NAND_READ_DONE (R375, R379, R385). -/
def nandReadDone (id : Nat) (outcome : CwOutcome) (peers : Bool) (s : State) : State :=
  match s.med.reads.get id with
  | none => s
  | some r =>
    let t := s.med' fun m => { m with reads := m.reads.del id }
    let x := t.correct r.ppa r.lmu outcome peers
    let data := if x.1 then (s.nand.pages.get r.ppa).map fun pg => pg.block r.cw else none
    let t := x.2.deliver r.req r.idx data
    let t := match t.med.reqs.get r.req with
      | some q => t.setReq r.req { q with outstanding := q.outstanding - 1 }
      | none => t
    (t.reqFinish r.req).mediaPump

/-- A byte of one of the node's own writes that waits for a page. -/
def State.storedByte (s : State) (a : Nat) : Option Byte := s.med.stored.findSome? fun w => if w.1 ≤ a then w.2[a - w.1]? else none

/-- Bytes of logical flash as its map stands, with the node's own writes that wait: what the internal path of queries and gathers reads (R383, R385). -/
def State.flashBytes (s : State) (a n : Nat) : Bytes :=
  (List.range n).map fun i => (s.storedByte (a + i)).getD (
    match s.med.fwd.get ((a + i) / 65536) with
    | some p => match s.nand.pages.get p with
      | some ⟨_, _, .data m, _, _⟩ => Mem.read m ((a + i) % 65536)
      | _ => 0
    | none => 0)

/-- A block of flash read over the internal path (R383, R385): counted as a block read, and as a plane read or an unmapped block. -/
def State.internalRead (a : Nat) (s : State) : State :=
  let t := s.bump64 Reg.MEDIA_READS_LO 1
  match s.med.fwd.get (a / 65536) with
  | some p => t.planeReads p 1
  | none => t.bump Reg.MEDIA_UNMAPPED_READS

/-- Bytes of an object, in stacked memory or flash (R323). -/
def State.anyRead (s : State) (d : PlaceDesc) (off n : Nat) : Bytes :=
  if d.tier = 2 then (List.range n).map fun i => ((d.addr (off + i)).elim 0 fun a => (s.flashBytes a 1).headD 0)
  else s.objRead d off n

/-! ## Programs, erases and relocations that end -/

/-- A block is BAD (R392): its superblock is emptied and will be rebuilt with a spare block; a die with none left is retired. -/
def State.markBad (ppa : Nat) (s : State) : State :=
  let blk := ppa / 1024
  if blk ∈ s.nand.bad then s
  else
    let k := s.sbOf ppa
    let t := s.nand' fun n => { n with bad := blk :: n.bad }
    let t := t.med' fun m => { m with sbs := if m.sbs.get k = some .retired then m.sbs else m.sbs.put k (.emptying false) }
    let t := t.fault 0x0061 (nandInst ppa) ppa
    let used := (t.nand.bad.filter fun b => b / 8192 == ppa / 2 ^ 23).length
    if 64 < used then t.fault 0x0062 (nandInst ppa) 0 else t

/-- One unit of a request is done. -/
def State.unitDone (id : Nat) (trim : Bool) (s : State) : State :=
  match s.med.reqs.get id with
  | none => s
  | some q =>
    let q' := { q with outstanding := q.outstanding - 1, done := if trim then reqLen q.entry else q.done + 1 }
    (s.setReq id q').reqFinish id

/-- NAND_PROGRAM_DONE (R377, R387, R388, R392, R401): a program that failed leaves a page that reads as never written, and a data page is programmed again in
another stripe. -/
def nandProgramDone (id : Nat) (ok : Bool) (s : State) : State :=
  match s.med.programs.get id with
  | none => s
  | some p =>
    let t := s.med' fun m => { m with programs := m.programs.del id }
    if ok then
      let t := (t.nand' fun n => { n with pages := n.pages.put p.ppa p.page }).chan (ppaCh p.ppa) fun c => { c with programs := satAdd32 c.programs 1 }
      let t := match p.page.body with
        | .data _ =>
          let t := if t.lmuSeq p.page.lmu < p.page.seq then t.mapSet p.page.lmu (some p.ppa) p.page.seq else t
          (t.bump64 Reg.MEDIA_WRITES_LO 1).unitProgrammed
        | _ => t
      let t := match p.req with
        | some q => t.unitDone q p.trim
        | none => t
      (t.stripeStep p.ppa).mediaPump
    else
      let t := (t.nand' fun n => { n with pages := n.pages.put p.ppa { p.page with torn := true } }).markBad p.ppa
      let t := match p.page.body with
        | .parity _ => t.nand' fun n => { n with pages := n.pages.del p.ppa }
        | b => match t.takePage with
          | some (q, u) => u.startProgram { p with ppa := q, page := pageFor q p.page.lmu p.page.seq b }
          | none => t.startProgram p
      (t.stripeStep p.ppa).mediaPump

/-- RELOCATION_DONE (R389): the map entry changes only where it still names the old page. The copy keeps its tag; the journal entry of the change takes the next
sequence number, so that a segment captured before it does not hide it (R398, R402; log 23). -/
def relocationDone (id : Nat) (s : State) : State :=
  match s.med.relocs.get id with
  | none => s
  | some r =>
    let t := s.med' fun m => { m with relocs := m.relocs.del id }
    let pg := pageFor r.dst r.page.lmu r.page.seq r.page.body
    let t := (t.nand' fun n => { n with pages := n.pages.put r.dst pg }).chan (ppaCh r.dst) fun c => { c with programs := satAdd32 c.programs 1 }
    let t := if r.rebuild then t else t.planeReads r.src 4
    let t := t.mediaBuffer (if r.counted then 4 else 7) (ppaQuadrant r.dst) (Mem.readBytes r.page.mem 0 65536)
    let t := match r.page.body with
      | .data _ =>
        let n := t.nextSeq
        (if t.med.fwd.get r.page.lmu = some r.src then n.2.mapSet r.page.lmu (some r.dst) n.1 else t).unitProgrammed
      | _ => t.nand' fun n => { n with pages := n.pages.modify r.src fun pg => { pg with body := .pad } }
    ((t.bumpIf (!r.rebuild && r.counted) Reg.MEDIA_GC_MOVES).stripeStep r.dst).mediaPump

/-- The lowest spare block of a NAND die that is neither bad nor in use for another (R392). -/
def State.spareBlock (s : State) (ch t : Nat) : Nat :=
  let n := s.nandBlocks ch t
  let taken (b : Nat) : Bool := s.nand.bad.contains (mkPpa ch t b 0 / 1024)
    || s.nand.subst.any fun x => sbGroup x.1 == ch % 8 && sbTarget x.1 == t && x.2.1 == ch / 8 && x.2.2 == b
  (((List.range 4096).map (n + ·)).find? fun b => !taken b).getD n

/-- NAND_ERASE_DONE (R391, R392): a failed member is BAD, and a spare block of its die takes its place. -/
def nandEraseDone (k : Nat) (failed : List Nat) (s : State) : State :=
  match s.med.sbs.get k with
  | some (.erasing wear) =>
    let blocks := (List.range 16).map fun m => s.sbPage k m 0 / 1024
    let t := s.nand' fun n => { n with pages := n.pages.filter fun e => !blocks.contains (e.1 / 1024),
                                       erases := n.erases.modifyD k 0 (· + 1),
                                       lost := n.lost.filter fun p => !blocks.contains (p / 1024) }
    let t := (List.range 16).foldl (fun t m => t.chan (8 * m + sbGroup k) fun c => { c with erases := satAdd32 c.erases 1 }) t
    let t := t.med' fun m => { m with planeReads := m.planeReads.filter (fun e => !blocks.contains e.1), eraseLtc := m.eraseLtc.put k s.now }
    let t := failed.foldl (fun t m => if m < 16 then t.markBad (s.sbPage k m 0) else t) t
    let t := (List.range 16).foldl (fun t m =>
      let blk := t.sbPage k m 0 / 1024
      if blk ∈ t.nand.bad then
        let spare := t.spareBlock (8 * m + sbGroup k) (sbTarget k)
        t.nand' fun n => { n with subst := (k, m, spare) :: n.subst.filter fun x => !(x.1 == k && x.2.1 == m) }
      else t) t
    let t := t.med' fun m => { m with sbs := m.sbs.del k, prefer := if wear then m.prefer.put (sbGroup k) k else m.prefer }
    (t.wearCheck (sbGroup k)).mediaPump
  | _ => s

/-- MEDIA_WAIT_TIMEOUT (R390): a WRITE or TRIM that has waited IDX_UPD_WAIT for a superblock completes with BUSY. -/
def mediaWaitTimeout (id : Nat) (s : State) : State :=
  match s.med.reqs.get id with
  | some q => match q.waitSince with
    | some w =>
      if s.past (w + (s.reg Reg.IDX_UPD_WAIT).toNat) then
        ((s.setReq id { q with todo := [], waitSince := none, status := St.busy }).reqFinish id).mediaPump
      else s
    | none => s
  | none => s

/-- JOURNAL_FLUSH_TIMER (R401): a change on the LTC value at which the interval ends belongs to the flush. -/
def journalFlushTimer (s : State) : State :=
  let ends := s.med.lastFlush + (s.reg Reg.MEDIA_JOURNAL_INTERVAL).toNat
  if s.isRunning && s.mediaState == 3 && s.mapMode == 0 && s.past ends then s.journalFlush.med' fun m => { m with lastFlush := ends } else s

/-- REBUILD_PAGE (R380): a live page of a retired die is reconstructed, its 16 codewords each, and written as a relocation. -/
def rebuildPage (ppa : Nat) (s : State) : State :=
  match s.nand.pages.get ppa with
  | some pg =>
    if s.isRunning && s.isRetired 15 (nandInst ppa) && s.pageLive ppa pg && !(s.med.relocs.vals.any fun r => r.src == ppa) then
      if !s.peersGood ppa then s
      else (((s.peers ppa).filter s.nand.pages.has).foldl (fun t a => t.planeReads a 4) (s.bumpBy Reg.MEDIA_PARITY_RECON 16)).relocate ppa pg true false
    else s
  | none => s

/-- A NAND die is retired (R380, R523): its live pages await rebuilding, and the superblocks that contain it are allocated no more. -/
def nandRetire (inst : Nat) (s : State) : State :=
  let holds (e : Nat × SbState) : Bool := sbGroup e.1 == inst / 16 % 8 && sbTarget e.1 == inst % 16 && e.2 != .system
  let t := s.med' fun m => { m with sbs := m.sbs.map fun e => if holds e then (e.1, .retired) else e }
  (t.outcome 0x0063 sevAction 15 inst 0).mediaCounts

/-! ## Enumeration, recovery and FORMAT (R372, R381, R399 to R406) -/

/-- The size and place of the flash map's descriptor (R382): the lowest free system descriptor number. -/
def State.placeMap (s : State) : State :=
  let n := (s.reg Reg.MEDIA_MAP_PD).toNat
  let pages := s.sbTotal * 16 * 1024
  let bytes := (pages * 15 / 16 * 5 + pages / 8 + s.sbTotal * 16 * 128 + s.sbTotal * 1024 + 65535) / 65536 * 65536
  let num := if n ≠ 0 then n else (s.pds.lowestFree 1 65535).getD 0
  let live := (List.range 20).filter fun k => !s.isRetired 3 k
  let p := Config.mapPlacement s.free
  let at_ := live.getD (p % max 1 live.length) 0 * 2 ^ 36 + p / 32 % 2 ^ 20 * 65536
  let d : PlaceDesc := ⟨0, 1, false, false, 0, false, .system, bytes, [⟨at_, bytes⟩], false⟩
  ({ s with pds := s.pds.put num d, free := s.free + 1 }).showPds.setNat Reg.MEDIA_MAP_PD num

/-- MEDIA_ENUMERATION_DONE (R7, R372, R405): the capacity found is published and map recovery starts. -/
def enumerationDone (found : List (Nat × TargetFound)) (s : State) : State :=
  if s.mediaState ≠ 1 ∨ s.med.enumerated then s
  else
    let kinds := found.foldl (fun (t : Tbl Nat) f => match f.2 with
      | .absent => t | .unsupported => t.put f.1 1 | .die1Tb => t.put f.1 2 | .die2Tb => t.put f.1 2) []
    let blocks := found.foldl (fun (t : Tbl Nat) f => match f.2 with
      | .die1Tb => t.put f.1 2048 | .die2Tb => t.put f.1 4096 | _ => t) []
    let gib := (blocks.vals.map fun b => b / 16).foldl (· + ·) 0
    let t := s.nand' fun n => { n with blocks := blocks, kinds := kinds }
    let t := (t.med' fun m => { m with enumerated := true, recovering := s.now }).setNat Reg.NODE_CAP_FLASH gib
    if blocks.isEmpty then t.setMediaState 0
    else (t.placeMap.setMediaState 2).mediaCounts

/-- The result of map recovery: each LMU with its page (none: unmapped), the changes that tags gave beyond the journal, and how many entries were applied
and tags read (R402, R403). -/
structure Recovered where
  map : Tbl (Option Nat)
  fresh : List JournalEntry
  applied : Nat
  tags : Nat
deriving DecidableEq, Repr

def Recovered.set (r : Recovered) (lmu : Nat) (p : Option Nat) (seq : Nat) (fresh : Bool) : Recovered :=
  { r with map := r.map.put lmu p, fresh := if fresh then r.fresh ++ [⟨lmu, p, seq⟩] else r.fresh, applied := r.applied + 1 }

/-- SEQ in the tag of a page. -/
def State.seqAt (s : State) (p : Nat) : Nat := (s.nand.pages.get p).elim 0 FlashPage.seq

/-- A tag met by journal recovery (R402): data replaces an entry with no page or a page of at most its SEQ, a trim unmaps an older page. -/
def State.journalTag (s : State) (r : Recovered) (e : Nat × FlashPage) : Recovered :=
  let r := { r with tags := r.tags + 1 }
  if !e.2.good e.1 then r
  else match e.2.body with
    | .data _ =>
      if (r.map.getD e.2.lmu none).all fun c => decide (s.seqAt c ≤ e.2.seq) then r.set e.2.lmu (some e.1) e.2.seq true else r
    | .trims es => es.foldl (fun r t => if (r.map.getD t.1 none).any fun c => decide (s.seqAt c < t.2) then r.set t.1 none t.2 true else r) r
    | _ => r

/-- Page `i` of a superblock in program order: the data pages of each stripe, then its parity page (R377). -/
def State.orderPage (s : State) (k i : Nat) : Nat := if i % 16 < 15 then s.dataPage k (15 * (i / 16) + i % 16) else s.stripeParity k (i / 16)

/-- The pages of a superblock from one in program order up to the first that is erased. -/
def State.pagesFrom (s : State) (k : Nat) : Nat → Nat → List (Nat × FlashPage)
  | 0, _ => []
  | fuel + 1, i => match s.nand.pages.get (s.orderPage k i) with
    | some pg => (s.orderPage k i, pg) :: State.pagesFrom s k fuel (i + 1)
    | none => []

/-- The segment that a page holds: its capture sequence number and map. -/
def State.segmentAt (s : State) (p : Nat) : Option (Nat × Tbl Nat) :=
  match s.nand.pages.get p with
  | some ⟨_, _, .segment _ c m, _, _⟩ => some (c, m)
  | _ => none

/-- The journal pages in NAND, in journal order: place, entries, flush record. -/
def State.journalPages (s : State) : List (Nat × List JournalEntry × Option FlushRec) :=
  sortBy (fun a b => decide (a.1 < b.1)) (s.nand.pages.vals.filterMap fun pg => match pg.body with
    | .journal n es => some (n, es, none)
    | .flush n f => some (n, [], some f)
    | _ => none)

/-- Journal recovery (R402): the segments of the directory, the journal up to the last flush record, then the pages programmed since it. -/
def State.recoverJournal (s : State) (a : Anchor) : Recovered :=
  let m0 : Tbl (Option Nat) := a.segments.vals.foldl (fun m p => (s.segmentAt p).elim m fun x => x.2.foldl (fun m e => m.put e.1 (some e.2)) m) []
  let capture (lmu : Nat) : Nat := ((a.segments.get (lmu / 12800)).bind s.segmentAt).elim 0 Prod.fst
  let pages := s.journalPages
  let last := (pages.filter fun x => x.2.2.isSome).getLast?
  let entries := (pages.filter fun x => decide (x.1 ≤ last.elim 0 Prod.fst)).flatMap fun x => x.2.1
  let r := entries.foldl (fun (r : Recovered) e => if capture e.lmu < e.seq ∨ (a.segments.get (e.lmu / 12800)).isNone then r.set e.lmu e.ppa e.seq false else r) ⟨m0, [], 0, 0⟩
  match last.bind fun x => x.2.2 with
  | none => r
  | some fr =>
    let starts := (List.range 8).flatMap fun g => (fr.opens.filter fun o => sbGroup o.1 == g) ++ (fr.next.filter fun k => sbGroup k == g).map fun k => (k, 0)
    (starts.flatMap fun o => s.pagesFrom o.1 16384 (o.2 / 15 * 16 + o.2 % 15)).foldl s.journalTag r

/-- A tag met by full-scan recovery (R403): data at least as new as the best so far replaces it, a newer trim unmaps. -/
def scanTag (x : Recovered × Tbl Nat) (e : Nat × FlashPage) : Recovered × Tbl Nat :=
  let r := { x.1 with tags := x.1.tags + 1 }
  if !e.2.good e.1 then (r, x.2)
  else match e.2.body with
    | .data _ => if x.2.getD e.2.lmu 0 ≤ e.2.seq then (r.set e.2.lmu (some e.1) e.2.seq true, x.2.put e.2.lmu e.2.seq) else (r, x.2)
    | .trims es => es.foldl (fun x t => if x.2.getD t.1 0 < t.2 then (x.1.set t.1 none t.2 true, x.2.put t.1 t.2) else x) (r, x.2)
    | _ => (r, x.2)

/-- The map that recovery finds under an anchor (R399, R402, R403). -/
def State.recoverMap (s : State) (a : Anchor) : Recovered :=
  if a.mode = 1 || s.med.fullScan then (s.nand.pages.foldl scanTag (⟨[], [], 0, 0⟩, [])).1 else s.recoverJournal a

/-- Trims that hold after recovery: of each LMU left unmapped, the newest recorded (R388). -/
def State.recoverTrims (s : State) (map : Tbl (Option Nat)) : Tbl Nat :=
  (s.nand.pages.vals.flatMap fun pg => match pg.body with | .trims es => if pg.torn then [] else es | _ => []).foldl
    (fun t e => if (map.getD e.1 none).isSome ∨ e.2 < t.getD e.1 0 then t else t.put e.1 e.2) []

/-- The stripes with data pages and no parity page, closed by recovery with pads and parity (R404): superblock and stripe. -/
def State.openStripes (s : State) : List (Nat × Nat) :=
  dedupList ((s.nand.pages.filter fun e => match e.2.body with
    | .parity _ => false
    | _ => !s.nand.pages.has (s.stripeParity (s.sbOf e.1) (ppaPage e.1))).map fun e => (s.sbOf e.1, ppaPage e.1))

/-- Programs pad pages and the parity page of a stripe, from the pages that can be read (R404). -/
def State.closeStripe (k p : Nat) (s : State) : State :=
  let t := (s.stripeData k p).foldl (fun s a => if s.nand.pages.has a then s else s.programNow a .pad) s
  t.programNow (t.stripeParity k p) (.parity (t.stripeXor k p))

/-- MAP_RECOVERY_DONE (R399 to R405). `unreadable` lists pages of open stripes that recovery could not read: a map unit that one of them holds is lost (R404). -/
def mapRecoveryDone (complete : Bool) (unreadable : List Nat) (s : State) : State :=
  if s.mediaState ≠ 2 then s
  else
    let dur := min (2 ^ 32 - 1) ((s.now - s.med.recovering) / 1024)
    let s := s.setNat Reg.MEDIA_REC_LTC dur
    if !complete then (s.setMediaState 5).fault 0x0066 0 0
    else match s.nand.anchors.head? with
      | none => (s.med' fun m => { m with logical := 0 }).setMediaState 4
      | some a =>
        let r := s.recoverMap a
        let torn := (s.nand.pages.filter fun e => !e.2.good e.1).length
        let stripes := s.openStripes
        let lost := s.nand.pages.filterMap fun e =>
          if (unreadable.contains e.1 || s.isRetired 15 (nandInst e.1)) && stripes.contains (s.sbOf e.1, ppaPage e.1) && r.map.getD e.2.lmu none == some e.1
          then some e.1 else none
        let t := stripes.foldl (fun t x => t.closeStripe x.1 x.2) s
        let t := t.nand' fun n => { n with lost := lost ++ n.lost }
        let top := t.nand.pages.vals.foldl (fun n pg => match pg.body with
          | .trims es => es.foldl (fun n e => max n e.2) (max n pg.seq)
          | .journal _ es => es.foldl (fun n e => max n e.seq) (max n pg.seq)
          | _ => max n pg.seq) a.seq
        let sbs := (dedupList (t.nand.pages.map fun e => t.sbOf e.1)).foldl (fun (b : Tbl SbState) k =>
          b.put k (if t.sbRetired (sbGroup k) (sbTarget k) then .retired else .closed)) []
        let t := t.med' fun m => { m with
          fwd := r.map.filterMap fun e => e.2.map fun p => (e.1, p)
          trims := s.recoverTrims r.map
          sbs := a.system.foldl (fun b k => b.put k .system) sbs, seq := top, logical := a.logical, lastFlush := s.now, sinceFlush := 0,
          pendingJ := r.fresh, fullScan := false, segments := a.segments,
          journalAt := (s.journalPages.getLast?).elim 0 fun x => x.1 + 1,
          sysAt := ((List.range (15360 * a.system.length)).find? fun i =>
            !s.nand.pages.has (s.dataPage (a.system.getD (i / 15360) 0) (i % 15360))).getD 0 }
        let mode := (t.reg Reg.MEDIA_MAP_MODE).toNat % 2
        let t := if mode = a.mode then t else t.writeAnchor mode a.logical a.system
        let t := if mode = 0 ∧ a.mode ≠ 0 then
            let u := (dedupList (t.med.fwd.map fun e => e.1 / 12800)).foldl (fun u n => u.writeSegment n) t
            u.writeAnchor mode a.logical a.system
          else t
        let t := (t.setNat Reg.MEDIA_REC_PAGES (r.tags / 1024)).setNat Reg.MEDIA_REC_APPLIED r.applied
        let t := ((t.setNat Reg.MEDIA_REC_TORN torn).setNat Reg.MEDIA_REC_STRIPES stripes.length).setNat Reg.MEDIA_REC_LOST lost.length
        let t := t.setPair Reg.MEDIA_LOGICAL_MU_LO a.logical
        ((if t.mapMode = 0 then t.journalFlush else t.med' fun m => { m with pendingJ := [] }).setMediaState 3).mediaCounts

/-- The superblocks that FORMAT gives the journal and the map segments: at least 2, the first free ones of each group in turn (log 7). -/
def State.systemChoice (s : State) : List Nat :=
  let usable := (List.range 16).flatMap fun t => (List.range 8).map fun g => (g, t, s.sbUsable g t)
  ((List.range 4096).flatMap fun b => usable.filterMap fun x =>
    if decide (b < x.2.2) && !(x.2.1 == 0 && b == 0) then some (sbKey x.1 x.2.1 b) else none).take (2 + Config.systemSuperblocks s.sbTotal)

/-- FORMAT (R381, R399, R406). -/
def formatRun (slot : Nat) (s : State) : State :=
  let st := r21 [(s.mediaState == 0, St.range), (!s.med.rings.isEmpty || s.mediaState == 1 || s.mediaState == 2, St.busy)]
  if st ≠ St.ok then s.slotDone .media slot st
  else
    let system := s.systemChoice
    let data := (s.sbTotal - 8 - system.length) * 15360
    let logical := data * (100 - (s.reg Reg.MEDIA_RESERVE_PCT).toNat) / 100 / 16 * 16
    let mode := (s.reg Reg.MEDIA_MAP_MODE).toNat % 2
    let per (ch : Nat) : Nat := ((List.range 16).map fun t => s.sbUsable (ch % 8) t).foldl (· + ·) 0
    let t := s.nand' fun n => { n with pages := [], eraseAll := n.eraseAll + 1, anchors := [], lost := [] }
    let t := (List.range 128).foldl (fun t ch => if per ch = 0 then t else t.chan ch fun c => { c with erases := satAdd32 c.erases (per ch) }) t
    let t := t.med' fun m => { m with fwd := [], trims := [], sbs := system.foldl (fun b k => b.put k .system) [], prefer := [], planeReads := [],
                                      programs := [], relocs := [], reads := [], logical := logical, pendingJ := [], sinceFlush := 0, lastFlush := s.now,
                                      sysAt := 0, journalAt := 0, segments := [] }
    let t := t.writeAnchor mode logical system
    let t := t.placeMap.setPair Reg.MEDIA_LOGICAL_MU_LO logical
    ((if mode = 0 then t.journalFlush else t).setMediaState 3).mediaCounts.slotDone .media slot St.ok

/-- SCHEMA_SET (R393); a schema that cannot be read gets no further check (R21). -/
def schemaSetRun (slot : Nat) (s : State) : State :=
  let a := s.slotArg .media slot 0
  let h := bitsOf a 31 16
  let off := 64 * s.slotArg .media slot 1
  match s.handleRead h off 16 with
  | none => s.slotDone .media slot (r21 (s.rgnChecks .system h off 16 false))
  | some head =>
    let n := byteAt head 0
    let body := s.handleRead h off (16 + 16 * n)
    let cols := body.elim [] schemaCols
    let st := r21 (s.rgnChecks .system h off (16 + 16 * n) false ++ [
      (n == 0 || decide (64 < n) || cols.any (fun c => decide (11 < c.typ)) || (body.isSome && (cols.map Column.width).foldl (· + ·) 0 != fieldAt head 2 2), St.range)])
    if st ≠ St.ok then s.slotDone .media slot st
    else ((s.usedHandle h off (16 + 16 * n)).med' fun m => { m with schemas := m.schemas.put (a % 256) (body.getD []) }).slotDone .media slot St.ok

/-- RING_ATTACH (R383): the lowest free ring number of the quadrant. -/
def ringAttachRun (slot : Nat) (s : State) : State :=
  let a := s.slotArg .media slot 0
  let h := bitsOf a 31 16
  let q := bitsOf a 9 8
  let line := s.slotArg .media slot 1
  let num := s.med.rings.lowestFree (64 * q) 64
  match s.region h with
  | none => s.slotDone .media slot St.notOwner
  | some r =>
    if r.size < 64 * (line + 66) then s.slotDone .media slot St.length
    else match num with
      | none => s.slotDone .media slot St.busy
      | some k =>
        let cons := fieldAt (s.rgnRead r (64 * (line + 1)) 4) 0 4
        (s.med' fun m => { m with rings := m.rings.put k ⟨h, line, r.owner, cons, [], none⟩ }).slotDone .media slot (256 * (k % 64))

/-- RING_DETACH (R383): completes once the ring's accepted requests have. -/
def ringDetachRun (slot : Nat) (s : State) : State :=
  let a := s.slotArg .media slot 0
  let k := 64 * bitsOf a 9 8 + a % 256
  if 64 ≤ a % 256 then s.slotDone .media slot St.range
  else match s.med.rings.get k with
    | none => s.slotDone .media slot St.notOwner
    | some r =>
      ((s.med' fun m => { m with rings := m.rings.put k { r with detach := some slot } }).slotWaits .media slot (.other 0 k 0)).detachDone k

/-- Runs a MEDIA command at its turn; an undefined opcode completes with RANGE (Table 11.7). -/
def mediaRun (slot op : Nat) (s : State) : State :=
  match op with
  | 1 => formatRun slot s
  | 2 => schemaSetRun slot s
  | 3 => ringAttachRun slot s
  | 4 => ringDetachRun slot s
  | _ => s.slotDone .media slot St.range

/-- MEDIA_CH_SEL (R408): a snapshot of a channel and target. -/
def mediaChSel (v : W32) (s : State) : State :=
  if !s.isRunning then s
  else
    let n := (v &&& 0xF7F).toNat
    let t := s.setNat Reg.MEDIA_CH_SEL n
    let ch := n % 128
    let tg := bitsOf n 11 8
    let c := s.med.chans.getD ch chanZero
    let inst := 16 * ch + tg
    let st := if s.isRetired 15 inst then 3 else s.nand.kinds.getD inst 0
    let bad := (s.nand.bad.filter fun b => b / 8192 == inst).length
    let t := ((t.setNat Reg.MEDIA_CH_TSTATE st).setPair Reg.MEDIA_CH_READS_LO c.reads.toNat).setNat Reg.MEDIA_CH_PROGRAMS c.programs.toNat
    let t := ((t.setNat Reg.MEDIA_CH_ERASES c.erases.toNat).setNat Reg.MEDIA_CH_RETRIES c.retries.toNat).setNat Reg.MEDIA_CH_SOFT c.soft.toNat
    (t.setNat Reg.MEDIA_CH_UNCORR c.uncorr.toNat).setNat Reg.MEDIA_CH_BAD_BLOCKS bad

/-- What NAND keeps when power or a start cuts the programs under way short (R398): their pages read as torn. -/
def State.nandCut (s : State) : NandSt :=
  let cut := s.med.programs.vals.map (fun p => (p.ppa, p.page)) ++ s.med.relocs.vals.map (fun r => (r.dst, r.page))
  { s.nand with pages := cut.foldl (fun t e => t.put e.1 { e.2 with torn := true }) s.nand.pages }

end Sys2Proof.Machine
end

