-- ==== Sys2Proof/Machine/Start.lean ====
section
/-! DEFINITION. Start, the Bymalum image, staging, identity and attestation (R538 to R573). -/

namespace Sys2Proof.Machine

/-! ## The image (R546 to R553) -/

/-- A section entry (Table 16.3). -/
structure SectionEntry where
  typ : Nat
  flags : Nat
  version : Nat
  offset : Nat
  length : Nat
  digest : Bytes
deriving DecidableEq, Repr

/-- ASCII BYMALUM and 0x01; ASCII BYMCOMIT. -/
def imageMagic : Bytes := [0x42, 0x59, 0x4D, 0x41, 0x4C, 0x55, 0x4D, 0x01]
def trailerMagic : Bytes := [0x42, 0x59, 0x4D, 0x43, 0x4F, 0x4D, 0x49, 0x54]

/-- The 256-byte header and the section table of a copy. -/
def imgHeader (m : Mem) : Bytes := Mem.readBytes m 0 256
def imgCount (m : Mem) : Nat := fieldAt (imgHeader m) 10 2
def imgTable (m : Mem) : Bytes := Mem.readBytes m 256 (96 * min (imgCount m) 16)
def imgSeq (m : Mem) : Nat := fieldAt (imgHeader m) 24 8
def imgTotal (m : Mem) : Nat := fieldAt (imgHeader m) 16 8
def imgManifest (m : Mem) : Nat := 256 + 96 * imgCount m + 9254
def imgTrailerAt (m : Mem) : Nat := (imgTotal m + 4095) / 4096 * 4096

/-- The section entries. -/
def imgSections (m : Mem) : List SectionEntry :=
  (List.range (min (imgCount m) 16)).map fun i =>
    let e := sliceAt (imgTable m) (96 * i) 96
    ⟨byteAt e 0, byteAt e 1, fieldAt e 4 4, fieldAt e 8 8, fieldAt e 16 8, sliceAt e 32 64⟩

/-- A section's bytes. -/
def sectionBytes (m : Mem) (e : SectionEntry) : Bytes := Mem.readBytes m e.offset e.length
/-- The section of a type. -/
def imgSection (m : Mem) (typ : Nat) : Option SectionEntry := (imgSections m).find? fun e => e.typ == typ

/-- IMAGE_DIGEST and RELEASE_DIGEST (R546). -/
def imageDigest (m : Mem) : Bytes := sha3_512 (imgHeader m ++ imgTable m)
def releaseDigest (m : Mem) : Bytes :=
  sha3_512 (sliceAt (imgHeader m) 32 12 ++ ((List.range (min (imgCount m) 16)).flatMap fun i =>
    let e := sliceAt (imgTable m) (96 * i) 96
    if bitOf (byteAt e 1) 0 then e else []))

/-- The two signatures of the manifest. -/
def releaseSig (m : Mem) : Bytes := Mem.readBytes m (256 + 96 * imgCount m) 4627
def imageSig (m : Mem) : Bytes := Mem.readBytes m (256 + 96 * imgCount m + 4627) 4627

/-- The owner's public key of an OWNER_KEY section (R548), and the key that signs the image (R546). -/
def ownerKeyOf (m : Mem) : Option Bytes := (imgSection m 4).map fun e => sliceAt (sectionBytes m e) 4 2592
def imageKey (m : Mem) : Bytes := (ownerKeyOf m).getD Config.rootKey

/-- FLAGS and length limit of a section type (Table 16.4). -/
def sectionRule : Nat → Option (Nat × Nat)
  | 1 => some (1, 1536 * 1024)
  | 2 => some (1, 16 * 1024 * 1024)
  | 3 => some (0, 1024 * 1024)
  | 4 => some (0, 7223)
  | 5 => some (2, 4 * 7360)
  | _ => none

/-- Checks 1 to 3 of Table 16.5: reason and status of the first that fails. -/
def checkLayout (m : Mem) (capacity : Nat) : Option (Nat × Nat) :=
  let h := imgHeader m
  let es := imgSections m
  let n := imgCount m
  if sliceAt h 0 8 != imageMagic then some (2, St.range)
  else if byteAt h 9 ≠ 1 ∨ byteAt h 8 ≠ 0 ∨ fieldAt h 32 2 ≠ 960 ∨ byteAt h 34 ≠ 1 then some (4, St.version)
  else
    let count (t : Nat) := (es.filter fun e => e.typ == t).length
    let bad (e : SectionEntry) : Bool := match sectionRule e.typ with
      | none => true
      | some (fl, lim) => e.flags != fl || decide (lim < e.length) || e.length == 0 || e.offset % 4096 != 0
          || decide (e.offset < imgManifest m) || decide (imgTotal m < e.offset + e.length)
    let overlap := (List.range n).any fun i => (List.range i).any fun j =>
      match es[i]?, es[j]? with
      | some a, some b => decide (a.offset < b.offset + b.length ∧ b.offset < a.offset + a.length)
      | _, _ => false
    if n < 3 ∨ 16 < n ∨ capacity < imgTotal m + 4096 ∨ es.any bad ∨ overlap
        ∨ count 1 ≠ 1 ∨ count 2 ≠ 1 ∨ count 3 ≠ 1 ∨ 1 < count 4 ∨ 1 < count 5 then some (5, St.range)
    else none

/-- Check 4: the trailer agrees with the manifest (R549). -/
def checkTrailer (m : Mem) : Option (Nat × Nat) :=
  let t := Mem.readBytes m (imgTrailerAt m) 128
  if sliceAt t 0 8 != trailerMagic || fieldAt t 8 8 != imgSeq m || sliceAt t 16 64 != imageDigest m
      || (crc32c (t.take 124)).toNat != fieldAt t 124 4 then some (6, St.aborted)
  else none

/-- Checks 5 to 7: the signatures (R546). -/
def checkSignatures (m : Mem) : Option (Nat × Nat) :=
  if !Config.mldsaVerify Config.rootKey (releaseDigest m) (releaseSig m) then some (7, St.denied)
  else if (imgSection m 4).any fun e =>
      let b := sectionBytes m e
      !Config.mldsaVerify Config.rootKey (sha3_512 (b.take 2596)) (sliceAt b 2596 4627) then some (8, St.denied)
  else if !Config.mldsaVerify (imageKey m) (imageDigest m) (imageSig m) then some (9, St.denied)
  else none

/-- Check 8: section digests; UNSIGNED sections carry zeros. -/
def checkDigests (m : Mem) : Option (Nat × Nat) :=
  if (imgSections m).any fun e =>
      if bitOf e.flags 1 then e.digest != List.replicate 64 0 else sha3_512 (sectionBytes m e) != e.digest then some (10, St.denied)
  else none

/-- The configuration flash of a copy: `false` A, `true` B. -/
def StartSt.flash (x : StartSt) (b : Bool) : Mem := if b then x.flashB else x.flashA
def StartSt.copy (x : StartSt) (b : Bool) : CopyRec := if b then x.copyB else x.copyA
def StartSt.setCopy (b : Bool) (c : CopyRec) (x : StartSt) : StartSt := if b then { x with copyB := c } else { x with copyA := c }

/-! ## Phases (R538 to R545) -/

/-- Enters a phase: its LTC, and the bits of NODE_IRQ_STATUS (Table 17.6). -/
def State.enterPhase (p : Phase) (s : State) : State :=
  ({ s with start := { s.start with phase := p, phaseLtc := s.now } }).raise .nodeStatus
    (1 + (if p = Phase.running then 2 else 0) + (if p = Phase.standStill then 4 else 0))

/-- Every unit but the VAUX domain as after reset (R542, R543, R545, R618); what the flash holds stays. -/
def State.unitsReset (s : State) : State :=
  { State.reset with
    clk := { State.reset.clk with
      ltc := s.clk.ltc, sub := s.clk.sub, ticking := s.clk.ticking, pwrok := s.clk.pwrok, porN := s.clk.porN, refclk := s.clk.refclk,
      pllLocked := s.clk.pllLocked, throttleN := s.clk.throttleN, flowOk := s.clk.flowOk, thermtripN := s.clk.thermtripN,
      workStopped := s.clk.workStopped }
    start := s.start, ident := s.ident, cfg := s.cfg, host := s.host, nand := s.nandCut
    regs := { State.reset.regs with node := s.regs.node, mbx := s.regs.mbx, cfg := s.regs.cfg }
    eng := { State.reset.eng with born := s.free }
    out := s.out, free := s.free + 1, pending := s.pending }

/-- The units as a start or stand-still has them: the flash is not enumerated (R7). -/
def State.freshUnits (s : State) : State := s.unitsReset.setNat Reg.NODE_CAP_FLASH 0

/-- The steward die that serves for die `q`: itself, its partner, or the lowest-numbered live one (R521). -/
def stewardFor (live : List Nat) (q : Nat) : Nat :=
  let p := 2 * (q / 2) + (1 - q % 2)
  if q ∈ live then q else if p ∈ live then p else live.head?.getD q
/-- Makes the cores live that the ROM or firmware runs (R598), names the host service and places the command slots (R600). -/
def State.liveCores (cs : List Nat) (service : Nat) (s : State) : State :=
  let t := cs.foldl (fun s c => s.setCore c { s.core c with live := true }) s
  { t with host := { t.host with service := service, serviceLive := !cs.isEmpty, slotCores := (List.range 4).map fun q => 8 * stewardFor (cs.map (· / 8)) q + 1 } }

/-- Phase ROM begins: at power-on (R614) or by a restart (R543, R601). -/
def State.beginRom (s : State) : State :=
  let t := s.freshUnits
  let t := { t with
    cfg := cfgReset
    start := { startReset with flashA := s.start.flashA, flashB := s.start.flashB, capacity := s.start.capacity, stewards := [0, 1, 2, 3] }
    host := { t.host with xfer := [], xferEpoch := t.host.xferEpoch + 1 }
    regs := { t.regs with cfg := [] } }
  ((resetReceivers t).liveCores [1] 1).enterPhase .rom

/-- Stand-still (R545): the report holds the header alone, the milepost reads 0. -/
def State.standStill (s : State) : State :=
  let t := s.freshUnits
  let n := (t.start.stewards.head?).getD 0
  let t := { t with cfg := { cfgReset with rptLtc := s.now }, start := { t.start with accepted := none, trying := none } }
  let t := { t with host := { t.host with cores := [], serviceLive := false } }
  (t.liveCores (if t.start.stewards.isEmpty then [] else [8 * n + 1]) (8 * n + 1)).enterPhase .standStill

/-- A start attempt fails (R542): the copy's outcome is kept; the other copy is tried where it is a candidate not yet tried. -/
def State.attemptFails (reason status : Nat) (s : State) : State :=
  match s.start.trying with
  | none => s.standStill
  | some b =>
    let x := s.start.setCopy b { s.start.copy b with reason := reason, status := status }
    let other := x.copy (!b)
    let m := x.flash (!b)
    let cand := !other.tried && (checkLayout m x.capacity).isNone && (checkTrailer m).isNone
    let t := { s with start := { x with trying := none } }
    if cand then
      let t := t.freshUnits
      let n := t.start.lead
      let t := { t with host := { t.host with cores := [], serviceLive := false }, cfg := cfgReset }
      (t.liveCores [8 * n + 1] (8 * n + 1)).enterPhase .image
    else t.standStill

/-- PWROK rises (R614). -/
def pwrokAssert (s : State) : State := { s with clk := { s.clk with pwrok := true } }

/-- POR_N is released with PWROK in range; with REFCLK stable the LTC starts at 0 and ROM begins, otherwise RESET holds (R614, R629). -/
def porRelease (refclkOk : Bool) (s : State) : State :=
  if !s.clk.pwrok || s.clk.porN then s
  else
    let t := { s with clk := { s.clk with porN := true, refclk := refclkOk, workStopped := false } }
    if refclkOk then ({ t with clk := { t.clk with ltc := 0, sub := 0, ticking := true, pllLocked := true } }).beginRom else t

/-- REFCLK has been stable for 100 µs after the release (R629). -/
def refclkStable (s : State) : State :=
  if s.clk.porN && !s.clk.ticking && s.start.phase == .reset then
    ({ s with clk := { s.clk with refclk := true, ltc := 0, sub := 0, ticking := true, pllLocked := true } }).beginRom
  else { s with clk := { s.clk with refclk := true } }

/-- The steward die's identity seed (R570). -/
def State.identitySeed (s : State) (n : Nat) : Bytes :=
  sha3_256 (sliceAt (s.ident.puf.getD n []) 0 32 ++ sliceAt (s.ident.dieRecords.getD (60 + n) []) 0 32
    ++ sliceAt s.ident.packageInUse 0 8 ++ leBytes 1 n)

/-- ROM ends (R539, R569, R613): records read, the package record of the lowest steward with a correct CRC in use, VDD_AX set. -/
def romDone (passed : List Nat) (millivolts : Nat) (s : State) : State :=
  let s := if s.start.restarting then ({ s with start := { s.start with restarting := false } }).beginRom else s
  if s.start.phase != .rom then s
  else
    let good := ([0, 1, 2, 3] : List Nat).filter fun n => n ∈ passed
    let pkg := (([0, 1, 2, 3] : List Nat).find? fun n =>
      let p := s.ident.packages.getD n []
      !p.isEmpty && (crc32c (sliceAt p 0 60)).toNat == fieldAt p 60 4).map fun n => s.ident.packages.getD n []
    let t := { s with
      ident := { s.ident with packageInUse := pkg.getD [], recordsRead := true }
      start := { s.start with stewards := good, lead := good.head?.getD 0 } }
    let t := { t with ident := { t.ident with mismatch := (List.range 64).any fun i => bitOf (t.dieCheck i) 0 } }
    let t := t.setPair Reg.NODE_SERIAL_LO (fieldAt t.ident.packageInUse 0 8)
    let t := t.setNat Reg.CLK_AX_VID (max 680 (min 800 (millivolts / 5 * 5)))
    if good.isEmpty then ({ t with host := { t.host with cores := [], serviceLive := false } }).standStill
    else
      let n := good.head?.getD 0
      let t := { t with host := { t.host with cores := [] } }
      (t.liveCores [8 * n + 1] (8 * n + 1)).enterPhase .image

/-- The outcome of a copy's checks 1 to 4 (R551). -/
def examine (m : Mem) (capacity : Nat) (readError : Bool) : Option (Nat × Nat) :=
  if readError then some (3, St.fault)
  else match checkLayout m capacity with
    | some r => some r
    | none => checkTrailer m

/-- Records a copy's header and its outcome so far. -/
def State.noteCopy (b : Bool) (r : Option (Nat × Nat)) (s : State) : State :=
  let m := s.start.flash b
  let hdr := sliceAt (imgHeader m) 0 8 == imageMagic
  let c := s.start.copy b
  let c := { c with seq := if hdr then imgSeq m else 0, headerOk := hdr }
  let c := if c.tried then c else match r with
    | some (reason, status) => { c with reason := reason, status := status }
    | none => { c with reason := 1, status := 0 }
  { s with start := s.start.setCopy b c }

/-- Tries candidates in order (R551): the first whose signatures verify goes to LOAD. -/
def State.tryCopies : List Bool → State → State
  | [], s => s.standStill
  | b :: rest, s =>
    let m := s.start.flash b
    let c := s.start.copy b
    match checkSignatures m with
    | some (reason, status) =>
      State.tryCopies rest { s with start := s.start.setCopy b { c with reason := reason, status := status, tried := true } }
    | none =>
      let t := { s with start := { s.start.setCopy b { c with tried := true } with
        trying := some b, attempts := s.start.attempts + 1, loadLtc := s.now } }
      t.enterPhase .load

/-- The lead examines both copies and tries the candidates by descending IMAGE_SEQ, A first on equal values (R551). -/
def imageCheck (readErrorA readErrorB : Bool) (s : State) : State :=
  if s.start.phase != .image then s
  else
    let ra := examine s.start.flashA s.start.capacity readErrorA
    let rb := examine s.start.flashB s.start.capacity readErrorB
    let t := (s.noteCopy false ra).noteCopy true rb
    let okA := ra.isNone && !t.start.copyA.tried
    let okB := rb.isNone && !t.start.copyB.tried
    let order := if t.start.copyA.seq < t.start.copyB.seq then [true, false] else [false, true]
    t.tryCopies (order.filter fun b => if b then okB else okA)

/-- A steward's certificate is absent, does not verify, or holds another key than the derived one (R571). -/
def State.certBad (s : State) (certs : Bytes) (n : Nat) : Bool :=
  let c := sliceAt certs (7360 * n) 7360
  decide (certs.length < 7360 * (n + 1)) || fieldAt c 0 2 != 1 || byteAt c 2 != n
    || !Config.mldsaVerify Config.rootKey (sha3_512 (c.take 2733)) (sliceAt c 2733 4627)
    || sliceAt c 112 2592 != Config.mldsaPublic (s.identitySeed n)

/-- Sections are loaded and checked, the firmware into each steward die's SRAM (R599); firmware starts the cores of the steward dies whose own checks pass, and the others are retired (R539, R540, R598). -/
def sectionsLoaded (passed : List Nat) (readError : Bool) (s : State) : State :=
  match s.start.phase, s.start.trying with
  | .load, some b =>
    let m := s.start.flash b
    if readError then s.attemptFails 3 St.fault
    else match checkDigests m with
      | some (reason, status) => s.attemptFails reason status
      | none =>
        if !(s.start.lead ∈ passed) then s.attemptFails 10 St.denied
        else
          let good := s.start.stewards.filter fun n => n ∈ passed
          let certs := ((imgSection m 5).map (sectionBytes m)).getD []
          let fw := ((imgSection m 1).map (sectionBytes m)).getD []
          let t := { s with
            start := { s.start with
              stewards := good
              fwVersion := fieldAt (imgHeader m) 36 8
              seqVersion := ((imgSection m 2).map SectionEntry.version).getD 0
              imageSeq := imgSeq m
              imageDigest := imageDigest m
              releaseDigest := releaseDigest m
              ownerKey := (ownerKeyOf m).getD []
              certs := certs
              sram := good.foldl (fun x n => x.put n (fw ++ (x.getD n []).drop fw.length)) s.start.sram }
            flt := { s.flt with retired := (([0, 1, 2, 3] : List Nat).filter fun n => n ∉ good).map (fun n => (13, n)) ++ s.flt.retired }
            ident := { s.ident with certMismatch := good.filter (s.certBad certs) } }
          (t.liveCores (good.flatMap fun n => (List.range 8).map (8 * n + ·)) (8 * s.start.lead + 1)).enterPhase .config
  | _, _ => s

/-- Every module that exists. -/
def allModules : List Nat := (List.range 64).flatMap fun d => (modulesOf d).map (64 * d + ·)

/-- CONFIG ends (R541, R560 to R567): the section applied, the report complete, milepost 1 and the waymark published; in BRING_UP modules train and compute dies
start. -/
def configDone (s : State) : State :=
  match s.start.phase, s.start.trying with
  | .config, some b =>
    let m := s.start.flash b
    let t := applyConfig (((imgSection m 3).map (sectionBytes m)).getD []) s
    let t := { t with cfg := { t.cfg with milepost := 1, accepted := 0, rptLtc := t.now, waymark := t.computeWaymark } }
    let t := { t with xp := { t.xp with modules := allModules.map fun k => (k, { moduleReset with state := .training }) } }
    ((List.range 8).foldl (fun t n => t.setNat (Reg.CD_STATE + 0x80000 * n) 1) (t.setNat Reg.MEDIA_STATE 1)).enterPhase .bringUp
  | _, _ => s

/-- BRING_UP ends (R544): modules active, denied instances retired with a record each (R514), gate lists and the drill schedule of the
image in force (R559), services placed (R600); the node is RUNNING. -/
def bringUpDone (retire : Nat → Nat → State → State) (s : State) : State :=
  match s.start.phase, s.start.trying with
  | .bringUp, some b =>
    let t := { s with xp := { s.xp with modules := allModules.map fun k => (k, { moduleReset with state := .active }) } }
    let t := (List.range 8).foldl (fun t n => t.setNat (Reg.CD_STATE + 0x80000 * n) 2) t
    let t := t.cfg.deny.foldl (fun t d => retire d.1 d.2 t) t
    let t := { t with
      sched := t.sched.mapVals fun p => match p.nextGates with
        | some (_, l) => { p with gates := l, entry := 0, entryStart := t.now, nextGates := none }
        | none => p
      flt := { t.flt with acceptLtc := t.now, schedule := t.flt.schedule.map fun (d : DrillEntry) => { d with nextPoint := d.first, fired := 0 } }
      start := { t.start.setCopy b { t.start.copy b with reason := 0, status := 0 } with accepted := some b } }
    t.enterPhase .running
  | _, _ => s

/-- The phases of a start attempt after LOAD was entered. -/
def Phase.attempting : Phase → Bool
  | .load | .config | .bringUp => true
  | _ => false

/-- RUNNING not reached within 6,000,000,000 LTC units of LOAD (R542). -/
def startTimeout (s : State) : State :=
  if s.start.phase.attempting && s.past (s.start.loadLtc + 6000000000) then s.attemptFails 12 St.timeout else s

/-- Firmware reports a start failure (R542). -/
def startFailed (s : State) : State := if s.start.phase.attempting then s.attemptFails 11 St.fault else s

/-- NODE_RESTART (R601): the key requests a restart; ROM begins at the next tick. Closes staging (R556). -/
def nodeRestart (v : W32) (s : State) : State :=
  if v != 0x54455352#32 || s.start.restarting || s.start.phase == .refLost || s.start.phase == .reset then s
  else { s with start := { s.start with restarting := true, stageOwner := none, stageStatus := if s.start.stageOwner.isSome then St.aborted else s.start.stageStatus } }

/-- POR_N is asserted (R618): everything but the pins, the flash and one-time storage resets; THERMTRIP_N is released. -/
def porAssert (s : State) : State :=
  { State.reset with
    clk := { State.reset.clk with pwrok := s.clk.pwrok, refclk := s.clk.refclk, throttleN := s.clk.throttleN, flowOk := s.clk.flowOk }
    start := { startReset with flashA := s.start.flashA, flashB := s.start.flashB, capacity := s.start.capacity }
    ident := { identReset with dieRecords := s.ident.dieRecords, packages := s.ident.packages, puf := s.ident.puf, romVersion := s.ident.romVersion }
    host := { hostReset with xferEpoch := s.host.xferEpoch + 1, pcie := s.host.pcie }
    nand := s.nandCut
    out := s.out, free := s.free, pending := s.pending }

/-! ## Staging (R554 to R556, R595) -/

/-- The target copy (R554): the copy not started from; in stand-still the lower IMAGE_SEQ of the headers that pass check 1, A otherwise. -/
def State.stageTarget (s : State) : Bool :=
  match s.start.accepted, s.start.trying with
  | some b, _ => !b
  | none, some b => !b
  | none, none =>
    let hdr (b : Bool) : Bool := sliceAt (imgHeader (s.start.flash b)) 0 8 == imageMagic
    if hdr false && hdr true then decide (imgSeq s.start.flashB < imgSeq s.start.flashA) else hdr false && !hdr true

/-- Sets a copy's flash. -/
def StartSt.setFlash (b : Bool) (m : Mem) (x : StartSt) : StartSt := if b then { x with flashB := m } else { x with flashA := m }

/-- The status of the last staging command, and the reply to the request that asked for it, where one heads the service's mailbox. -/
def State.stageAnswer (sender : Sender) (op st : Nat) (s : State) : State :=
  let t := { s with start := { s.start with stageStatus := st } }
  match sender with
  | .hostMailbox h =>
    match t.takeRequest t.host.service with
    | some (w, u) => if reqBox w = h ∧ reqOp w = op then u.answer t.host.service w st [] else t
    | none => t
  | _ => t

/-- Staging is served from ROM on, while a core is live to serve it (R598). -/
def State.stagingServed (s : State) : Bool :=
  match s.start.phase with
  | .reset | .refLost => false
  | _ => s.host.serviceLive

/-- A staging command that a restart precedes completes with ABORTED (R556). -/
def State.stageServe (x : Sender) (op : Nat) (f : State → State) (s : State) : State :=
  if !s.stagingServed then s else if s.start.restarting then s.stageAnswer x op St.aborted else f s

/-- STAGE_BEGIN (R555). -/
def stageBegin (x : Sender) (s : State) : State :=
  s.stageServe x 0x10 fun s =>
    let st := r21 [(x == .other, St.denied), (s.start.stageOwner.isSome, St.busy)]
    if st ≠ St.ok then s.stageAnswer x 0x10 st
    else
      let b := s.stageTarget
      ({ s with start := { s.start.setFlash b [] with stageOwner := some x, stageTarget := b, stageBlocks := [] } }).stageAnswer x 0x10 St.ok

/-- STAGE_WRITE (R555, R595): 4,096 bytes from a transfer slot. -/
def stageWrite (x : Sender) (offset : W64) (k : Nat) (s : State) : State :=
  s.stageServe x 0x11 fun s =>
    let o := offset.toNat
    let st := r21 [(decide (s.start.capacity ≤ o), St.length),
      (o % 4096 != 0 || decide (o / 4096 ∈ s.start.stageBlocks) || decide (7 < k), St.range),
      (s.start.stageOwner != some x, St.notOwner)]
    if st ≠ St.ok then s.stageAnswer x 0x11 st
    else
      let data := (List.range 4096).map fun i => s.xferByte (4096 * k + i)
      let m := Mem.writeBytes (s.start.flash s.start.stageTarget) o data
      ({ s with start := { (s.start.setFlash s.start.stageTarget m) with
        stageBlocks := (o / 4096) :: s.start.stageBlocks } }).stageAnswer x 0x11 St.ok

/-- STAGE_COMMIT (R555). -/
def stageCommit (x : Sender) (s : State) : State :=
  s.stageServe x 0x12 fun s =>
  if s.start.stageOwner ≠ some x then s.stageAnswer x 0x12 St.notOwner
  else
    let b := s.start.stageTarget
    let m := s.start.flash b
    let other := s.start.flash (!b)
    let otherOk := sliceAt (imgHeader other) 0 8 == imageMagic
    let st := match checkLayout m s.start.capacity with
      | some r => r.2
      | none => match checkSignatures m with
        | some r => r.2
        | none => match checkDigests m with
          | some r => r.2
          | none => if otherOk && decide (imgSeq m ≤ imgSeq other) then St.range else St.ok
    if st ≠ St.ok then s.stageAnswer x 0x12 st
    else
      let t := trailerMagic ++ leBytes 8 (imgSeq m) ++ imageDigest m ++ List.replicate 44 0
      let m := Mem.writeBytes m (imgTrailerAt m) (t ++ leBytes 4 (crc32c t).toNat)
      ({ s with start := { s.start.setFlash b m with stageOwner := none } }).stageAnswer x 0x12 St.ok

/-- STAGE_ABORT (R555). -/
def stageAbort (x : Sender) (s : State) : State :=
  s.stageServe x 0x13 fun s =>
  if s.start.stageOwner ≠ some x then s.stageAnswer x 0x13 St.notOwner
  else ({ s with start := { s.start with stageOwner := none } }).stageAnswer x 0x13 St.ok

/-! ## Attestation (R572, R573) -/

/-- The report body (Table 16.13) followed by its signature. -/
def State.attestReport (s : State) (nonce : Bytes) : Bytes :=
  let n := s.liveStewards.head?.getD 0
  let have_ := s.start.accepted.isSome
  let owner := if have_ then s.start.ownerKey else []
  let copyCode := match s.start.accepted with | some false => 0 | some true => 1 | none => 0xFF
  let published := decide (s.cfg.milepost ≠ 0)
  let z (b : Bytes) : Bytes := if have_ then sliceAt b 0 64 else List.replicate 64 0
  let body := [1, BitVec.ofNat 8 s.start.phase.code,
      BitVec.ofNat 8 (b1 s.ident.mismatch + 2 * b1 (decide (n ∈ s.ident.certMismatch)) + 4 * b1 (!owner.isEmpty)),
      BitVec.ofNat 8 n, BitVec.ofNat 8 copyCode, 0, 0, 0]
    ++ sliceAt s.ident.packageInUse 0 8 ++ leBytes 8 (s.ofAccepted s.start.imageSeq)
    ++ leBytes 8 s.cfg.milepost ++ leBytes 8 s.now ++ leBytes 8 (s.ofAccepted s.start.fwVersion) ++ leBytes 4 (s.ofAccepted s.start.seqVersion)
    ++ leBytes 4 s.ident.romVersion ++ List.replicate 8 0 ++ sliceAt nonce 0 32 ++ z s.start.imageDigest ++ z s.start.releaseDigest
    ++ (if published then sliceAt s.cfg.waymark 0 64 else List.replicate 64 0) ++ sha3_512 s.ident.packageInUse
    ++ (if owner.isEmpty then List.replicate 64 0 else sha3_512 owner) ++ List.replicate 96 0
  body ++ sliceAt (Config.mldsaSign (s.identitySeed n) (sha3_512 body)) 0 4627

/-- ATTEST by the host service (R596): the report into slots k and k + 1, then the reply. -/
def hostAttest (c : Nat) (s : State) : State :=
  s.serveRequest c 0x20 fun w t =>
    let k := (w.getD 10 0).toNat
    match t.start.phase with
    | .reset | .rom | .refLost => t.answer c w St.version []
    | _ =>
      if 6 < k then t.answer c w St.range []
      else
        let nonce := (List.range 8).flatMap fun i => leBytes 4 (w.getD (2 + i) 0).toNat
        let r := t.attestReport nonce
        let x := (List.range r.length).foldl (fun x i => Tbl.put x (4096 * k + i) (r.getD i 0)) t.host.xfer
        ({ t with host := { t.host with xfer := x } }).answer c w St.ok [5139]

/-- NODE_DIE_SEL (R607): a snapshot of a die's record, zeros before it is read. -/
def dieSel (v : W32) (s : State) : State :=
  let i := fld v 5 0
  let r := s.dieRecord i
  let t := s.setNat Reg.NODE_DIE_SEL i
  let t := (List.range 8).foldl (fun t k => t.setNat (Reg.NODE_DIE_REC + 4 * k) (fieldAt r (4 * k) 4)) t
  t.setNat Reg.NODE_DIE_CHECK (s.dieCheck i)

/-- A read of NODE_LTC_LO latches the high half (R602). -/
def nodeLtcLo (s : State) : State :=
  ((s.setNat Reg.NODE_LTC_LO s.now).setNat Reg.NODE_LTC_HI (s.now / 2 ^ 32)).emit (.hostRead (w32 s.now))

end Sys2Proof.Machine
end

