-- ==== Sys2Proof/Machine/Phys.lean ====
section
/-! DEFINITION. Power, clocks, temperatures and throttling, SMBus and the CLK registers (R609 to R629), and the passing of time. -/

namespace Sys2Proof.Machine

/-- PWROK falls: all work stops (R615). -/
def pwrokDeassert (s : State) : State := { s with clk := { s.clk with pwrok := false, workStopped := s.clk.porN } }

/-- A rail fault of a die while PWROK is asserted (R616): CD_FAULT on a compute die, otherwise bit 4; ST_FAIL on a steward die's supply. -/
def railFault (die : Nat) (s : State) : State :=
  if !s.clk.pwrok || decide (64 ≤ die) then s
  else
    let t := s.bump Reg.CLK_RAIL_FAULTS
    if die < 8 then t.fault 0x0037 die 0
    else
      let t := ({ t with clk := { t.clk with railFault := true } }).raise .clkStatus 16
      if 60 ≤ die then t.fault 0x0043 (die - 60) 0 else t

/-- REFCLK is lost (R618): with the PLL locked the LTC stops, no core is live and the phase is REF_LOST; before, RESET goes on waiting. -/
def refclkLoss (s : State) : State :=
  if !s.clk.pllLocked then { s with clk := { s.clk with refclk := false } }
  else
    let t := s.unitsReset
    let t := { t with
      clk := { t.clk with refclk := false, pllLocked := false, ticking := false }
      host := { t.host with cores := [], serviceLive := false, held := [], blockWait := [] }
      start := { t.start with stageOwner := none } }
    t.enterPhase .refLost

/-! ## Sensors (R620 to R623) -/

/-- Sensors of a die index, or of stack s at 64 + s (R620). -/
def sensorCount (die : Nat) : Nat :=
  if die < 8 then 16 else if die < 32 then 2 else if die < 44 then 4 else if die < 64 then 2 else if die < 84 then 1 else 0

def sensorReset : Sensor := ⟨0, -640, true, 0⟩

/-- One reading of one sensor of a die that runs or not; temperatures in 1/16 degree. The flag says that it became invalid. -/
def Sensor.read (running : Bool) (x : Sensor) (v : Int) : Sensor × Bool :=
  let same := if running && v == x.last then x.unchanged + 1 else 0
  let bad := decide (v < -640) || decide (2400 < v) || decide (10000 ≤ same)
  ({ last := v, max := if x.max < v then v else x.max, valid := x.valid && !bad, unchanged := same }, x.valid && bad)

/-- The hottest valid sensor of a die or stack. -/
def State.temp (s : State) (die : Nat) : Option Int :=
  (List.range (sensorCount die)).foldl (fun (a : Option Int) i =>
    match s.clk.sensors.get (16 * die + i) with
    | some x => if x.valid then some (match a with | some b => if b < x.last then x.last else b | none => x.last) else a
    | none => a) none

/-- A register that holds a temperature or power limit, as a number. -/
def State.lim (s : State) (off : Nat) : Int := ((s.reg off).toNat : Int)

/-- Mean of the last 10 power readings (R621). -/
def State.meanPower (s : State) : Nat :=
  if s.clk.power.isEmpty then 0 else (s.clk.power.foldl (· + ·) 0) / s.clk.power.length

/-- Quadrant of a die index. -/
def dieQuadrant (d : Nat) : Nat :=
  if d < 8 then d / 2 else if d < 32 then (d - 8) / 6 else if d < 44 then (d - 32) / 3 else if d < 60 then (d - 44) / 4 else d - 60

/-- The duty D of a compute die after a sample (R621), and whether it ran below the step-up threshold. -/
def State.newDuty (s : State) (c : Nat) (forced : Bool) : Nat × Nat :=
  let d := s.clk.duty.getD c 16
  let t := s.temp c
  let thr := s.lim Reg.CLK_THERM_THROTTLE
  let hyst := s.lim Reg.CLK_THERM_HYST
  let limit := (s.reg Reg.CLK_POWER_LIMIT).toNat
  let hotNeighbour := (List.range 56).any fun i =>
    let e := i + 8
    dieQuadrant e == dieQuadrant c && match s.temp e with | some v => decide (thr ≤ v) | none => false
  let down := (match t with | some v => decide (thr ≤ v) | none => false) || decide (limit < s.meanPower) || hotNeighbour
  let cool := match t with | some v => decide (v < thr - hyst) | none => false
  let run := if cool then s.clk.coolRun.getD c 0 + 1 else 0
  if forced || t.isNone then (4, run)
  else if down then (max 4 (d - 1), run)
  else if 10 ≤ run ∧ s.meanPower + 100 ≤ limit then (min 16 (d + 1), run)
  else (d, run)

/-- A die or stack, by sensor key, is in service. -/
def State.dieRuns (s : State) (d : Nat) : Bool :=
  if d < 8 then !s.isRetired 11 d else if 60 ≤ d ∧ d < 64 then !s.isRetired 13 (d - 60) else !(decide (64 ≤ d) && s.isRetired 3 (d - 64))
/-- The node reads its temperatures and VDD_AX from ROM on, while its clock runs and work goes on (R613, R615, R620, R625). -/
def State.sampling (s : State) : Bool :=
  s.clk.ticking && !s.clk.workStopped && !s.flt.stopped && s.start.phase != .reset && s.start.phase != .refLost
/-- Dies and stacks, by sensor key. -/
def thermalUnits : List Nat := List.range 84

/-- The sample of every 10,000 LTC units (R620 to R623). -/
def thermalSample (readings : List (Nat × Int)) (throttleN flowOk : Bool) (s : State) : State :=
  if s.now % 10000 ≠ 0 ∨ !(s.sampling || s.isRunning) then s
  else
    -- the inputs of this LTC value are taken in this sample (R17)
    let lost := s.clk.flowOk && !flowOk
    let s := { s with clk := { s.clk with throttleN := throttleN, flowOk := flowOk } }
    let s := if lost then (s.bump Reg.CLK_FLOW_LOSS).raise .clkStatus 8 else s
    let s := readings.foldl (fun (s : State) r =>
      if sensorCount (r.1 / 16) ≤ r.1 % 16 then s
      else
        let x := (s.clk.sensors.getD r.1 sensorReset).read (s.dieRuns (r.1 / 16)) r.2
        let t := { s with clk := { s.clk with sensors := s.clk.sensors.put r.1 x.1 } }
        if x.2 then (t.bump Reg.CLK_TS_INVALID).raise .clkStatus 4 else t) s
    -- D is set from the start of RUNNING on (R621)
    let duties := (List.range 8).map fun c => if s.isRunning then s.newDuty c (!throttleN || !flowOk) else (s.clk.duty.getD c 16, 0)
    let entered := (List.range 8).any fun c => s.clk.duty.getD c 16 == 16 && decide ((duties.getD c (16, 0)).1 < 16)
    let excess := decide ((s.reg Reg.CLK_POWER_LIMIT).toNat < s.meanPower)
    let hottest := thermalUnits.foldl (fun (a : Option (Nat × Int)) d => match s.temp d, a with
      | some v, some (_, w) => if w < v then some (d, v) else a
      | some v, none => some (d, v)
      | none, _ => a) none
    let at105 (d : Nat) : Bool := match s.temp d with | some v => decide (1680 ≤ v) | none => false
    let at110 (d : Nat) : Bool := match s.temp d with | some v => decide (1760 ≤ v) | none => false
    let trips := (List.range 8).filter fun c => s.isRunning && at105 c && s.clk.hot105.getD c 0 == 1
    let trip := thermalUnits.any fun d => at110 d && decide (d ∈ s.clk.hot110)
    let half := (List.range 20).filter fun k => match s.temp (64 + k) with
      | some v => decide (1520 ≤ v) || (decide (k ∈ s.clk.halfRate) && decide (1472 ≤ v))
      | none => decide (k ∈ s.clk.halfRate)
    let t := { s with clk := { s.clk with
      duty := duties.map Prod.fst
      coolRun := duties.map Prod.snd
      hot105 := (List.range 8).foldl (fun h c => Tbl.put h c (if at105 c then min 2 (s.clk.hot105.getD c 0 + 1) else 0)) s.clk.hot105
      hot110 := thermalUnits.filter at110
      halfRate := half
      thermtripN := s.clk.thermtripN && !trip
      workStopped := s.clk.workStopped || trip } }
    let t := t.bumpIf (t.clk.duty.any fun d => decide (d < 16)) Reg.CLK_THROTTLE_SAMPLES
    let t := t.bumpIf excess Reg.CLK_POWER_SAMPLES
    let t := match hottest with
      | some (d, v) => t.setNat Reg.CLK_HOTTEST (d * 2 ^ 24 + (BitVec.ofInt 16 v).toNat)
      | none => t
    let bits := b1 entered + 2 * b1 excess + 32 * b1 (thermalUnits.any at105)
    let t := if bits = 0 then t else t.raise .clkStatus bits
    trips.foldl (fun t c => t.fault 0x0037 c 0) t

/-- The node reads VDD_AX telemetry every 10,000 LTC units (R613): current, and power for the mean of the last 10 readings. -/
def avsTelemetry (millivolts amps watts : Nat) (s : State) : State :=
  if s.now % 10000 ≠ 0 ∨ !(s.sampling || s.isRunning) ∨ millivolts = 0 then s
  else
    let t := { s with clk := { s.clk with power := (watts :: s.clk.power).take 10 } }
    (t.setNat Reg.CLK_AX_CURRENT amps).setNat Reg.CLK_POWER t.meanPower

/-- ALERT_N is asserted (Table 18.9): a rail fault, reference loss, or any bit of CLK_IRQ_STATUS. -/
def State.alertN (s : State) : Bool := !(s.clk.railFault || s.start.phase == Phase.refLost || s.reg Reg.CLK_IRQ_STATUS != 0)

/-- SMB_ALERT_N is asserted on the same conditions (Table 18.9). -/
def State.smbAlertN (s : State) : Bool := s.alertN
/-- The SMBus target address, its low 3 bits strapped (Table 18.9). -/
def smbusAddress : Nat := 0x58 + Config.addrStraps % 8

/-- A read over SMBus (R625): NODE_SERIAL, NODE_STATUS and the CLK registers, from phase ROM on; anything else reads 0. -/
def smbusRead (off : Nat) (s : State) : State :=
  if s.start.phase == .reset then s
  else
    let ok := off == Reg.NODE_SERIAL_LO || off == Reg.NODE_SERIAL_HI || off == Reg.NODE_STATUS
      || decide (Reg.CLK_STATUS ≤ off ∧ off ≤ Reg.CLK_RAIL_FAULTS)
    s.emit (.smbus (if ok then s.liveReg off else 0))

/-- A write to CLK_TS_SEL (R627). -/
def tsSel (v : W32) (s : State) : State :=
  if !s.isRunning then s
  else
    let n := (v &&& 0xFF0F).toNat
    let die := bitsOf n 15 8
    let i := bitsOf n 3 0
    let t := s.setNat Reg.CLK_TS_SEL n
    if sensorCount die ≤ i then (t.setNat Reg.CLK_TS_VALUE 0).setNat Reg.CLK_TS_MAX 0
    else
      match s.clk.sensors.get (16 * die + i) with
      | none => (t.setNat Reg.CLK_TS_VALUE 0).setNat Reg.CLK_TS_MAX 0
      | some x => (t.setNat Reg.CLK_TS_VALUE (b1 x.valid * 2 ^ 31 + (BitVec.ofInt 16 x.last).toNat)).setNat Reg.CLK_TS_MAX
          (BitVec.ofInt 16 x.max).toNat

/-! ## Time -/

/-- One SCLK cycle with no command: every 18th the LTC counts (R15, R617). A restart requested enters ROM (R601). -/
def tick (waits : State → State) (s : State) : State :=
  let s := if s.start.restarting then s.beginRom else s
  if !s.clk.ticking then s
  else if s.clk.sub < 17 then { s with clk := { s.clk with sub := s.clk.sub + 1 } }
  else
    let t := { s with clk := { s.clk with sub := 0, ltc := s.clk.ltc + 1 } }
    if t.isRunning then waits t else t

end Sys2Proof.Machine
end

