-- ==== Sys2Proof/Machine/Dist.lean ====
section
/-! DEFINITION. Distances: query preparation, probe, code and exact distances (R104, R105, R162, R171, R179, R314 to R318). -/

namespace Sys2Proof.Machine

/-- VEC_BYTES of a vector of `d` components (Table 4.3). -/
def vecBytes (fmt d : Nat) : Nat := match fmt with | 0 => 4 * d | 1 => 2 * d | 2 => d | _ => d / 8

/-- A vector's components widened to FP32 (R314); none for BIT. -/
def vecVals (fmt d : Nat) (b : Bytes) : List W32 :=
  match fmt with
  | 0 => (List.range d).map fun i => w32 (fieldAt b (4 * i) 4)
  | 1 => (List.range d).map fun i => w32 (fieldAt b (2 * i) 2 * 65536)
  | 2 => (List.range d).map fun i => fofInt (signedOf (byteAt b i) 8)
  | _ => []

/-- VEC_FORMAT is defined and allowed for a metric (Table 4.3). -/
def vecFormatOk (metric fmt : Nat) : Bool := if metric = 3 then fmt == 3 else decide (fmt < 3)

/-- A component is NaN or infinite (R154, R221). -/
def vecNotFinite (fmt d : Nat) (b : Bytes) : Bool := decide (fmt < 2) && (vecVals fmt d b).any notFinite

/-- The query's values as a metric uses them: normalised for COSINE (R105). -/
def prepared (metric : Nat) (v : List W32) : List W32 := if metric = 2 then fnormalise v else v

/-- A full vector in FV_FORMAT as FP32 (R314, R317). -/
def fvVals (fmt d : Nat) (b : Bytes) : List W32 :=
  match fmt with
  | 1 => vecVals 2 d b
  | 2 => (List.range d).map fun i => f32Of (e4m3.decode (byteAt b i))
  | 3 => (List.range d).map fun i => f32Of (e5m2.decode (byteAt b i))
  | 4 => vecVals 1 d b
  | _ => []

/-- Full vector bytes from FP32 components (R226). -/
def fvEncode (fmt : Nat) (v : List W32) : Bytes :=
  match fmt with
  | 1 => v.map fun x => BitVec.ofInt 8 (match f32Val x with
    | .nan => 0
    | .inf neg => if neg then -128 else 127
    | .fin neg m e => let k : Int := roundMag 1 m e 0 0; if neg then max (-128) (-k) else min 127 k)
  | 2 => v.map fun x => BitVec.ofNat 8 (e4m3.convert 1 (f32Val x) 0).1
  | 3 => v.map fun x => BitVec.ofNat 8 (e5m2.convert 1 (f32Val x) 0).1
  | 4 => v.flatMap fun x => leBytes 2 (bf16.convert 1 (f32Val x) 0).1
  | _ => []

/-- A value rounded to BF16 and widened again (R314). -/
def toBf16 (x : W32) : W32 := w32 ((bf16.convert 1 (f32Val x) 0).1 * 65536)

/-- A sum of products in the node's passes (R162): components in ascending order within a pass, each product rounded before it is added (R263), the passes'
sums in the order chosen. -/
def passDot (seed : Nat) (x y : List W32) : W32 :=
  let z := List.zip x y
  let depth := 1 + Config.passDepth seed % max 1 z.length
  let parts := (chunks depth z.length z).map fun c => c.foldl (fun a p => fadd a (fmul p.1 p.2)) 0
  fsum ((sortBy (fun a b : Nat × W32 => decide (Config.passOrder seed a.1 < Config.passOrder seed b.1)) (List.zip (List.range parts.length) parts)).map Prod.snd)

/-- Set bits of a byte string. -/
def popBits (b : Bytes) : Nat := (b.map fun x => ((List.range 8).filter fun i => x.getLsbD i).length).foldl (· + ·) 0
def hamming (x y : Bytes) : W32 := fofInt (popBits ((List.zip x y).map fun p => p.1 ^^^ p.2))

/-- Sign bits of a centroid: component t positive (R162). -/
def signBits (c : List W32) : Bytes :=
  (List.range (c.length / 8)).map fun i =>
    BitVec.ofNat 8 ((List.range 8).foldl (fun a k => a + 2 ^ k * b1 (flt 0 (c.getD (8 * i + k) 0))) 0)

/-- Probe distance of a query to a centroid with stored norm `n` (R162). -/
def probeDist (metric seed : Nat) (q : List W32) (bits : Bytes) (c : List W32) (n : W32) : W32 :=
  match metric with
  | 0 => ffma 0xC0000000 (passDot seed (q.map toBf16) c) n
  | 3 => hamming bits (signBits c)
  | _ => fneg (passDot seed (q.map toBf16) c)

/-- What a code is read with: metric, code type, m, dimension, RESIDUAL, and the codebook or SQ8 parameters (R106 to R109). -/
structure Coding where
  metric : Nat
  codeType : Nat
  m : Nat
  d : Nat
  residual : Bool
  book : Bytes
deriving DecidableEq, Repr

/-- Centroids of a sub-quantiser. -/
def Coding.k (c : Coding) : Nat := if c.codeType = 0 then 256 else 16
/-- Index of sub-quantiser `sub` in a code (Table 3.5). -/
def Coding.index (c : Coding) (code : Bytes) (sub : Nat) : Nat :=
  if c.codeType = 0 then byteAt code sub else byteAt code (sub / 2) / (if sub % 2 = 0 then 1 else 16) % 16
/-- Components of centroid `j` of sub-quantiser `sub` (R107). -/
def Coding.word (c : Coding) (sub j : Nat) : List W32 :=
  let w := c.d / c.m
  (List.range w).map fun t => w32 (fieldAt c.book (2 * ((sub * c.k + j) * w + t)) 2 * 65536)
/-- Component `t` of an SQ8 code (R108, R316). -/
def Coding.sq8 (c : Coding) (code : Bytes) (t : Nat) : W32 :=
  ffma (w32 (fieldAt c.book (4 * c.d + 4 * t) 4)) (fofInt (byteAt code t)) (w32 (fieldAt c.book (4 * t) 4))

/-- A part of a vector that sub-quantiser `sub` covers. -/
def Coding.part (c : Coding) (v : List W32) (sub : Nat) : List W32 := (v.drop (sub * (c.d / c.m))).take (c.d / c.m)

/-- LOOKUP_TABLE_BUILD: entry (sub, j) of a member's lookup table (R171, R315); with RESIDUAL under L2SQ the query is q less the centroid. -/
def Coding.entry (c : Coding) (q centroid : List W32) (sub j : Nat) : W32 :=
  let q' := if c.residual && decide (c.metric = 0) then (List.zip q centroid).map fun p => fsub p.1 p.2 else q
  if c.metric = 0 then fdistSq (c.part q' sub) (c.word sub j) else fdot (c.part q' sub) (c.word sub j)

/-- Distance of a query to a code (R171, R315, R316). -/
def Coding.dist (c : Coding) (q : List W32) (bits : Bytes) (centroid : List W32) (code : Bytes) : W32 :=
  match c.codeType with
  | 3 => hamming bits code
  | 2 =>
    let x := (List.range c.d).map fun t => if c.residual then fadd (c.sq8 code t) (centroid.getD t 0) else c.sq8 code t
    if c.metric = 0 then fdistSq q x else fneg (fdot q x)
  | _ =>
    let sum := fsum ((List.range c.m).map fun sub => c.entry q centroid sub (c.index code sub))
    if c.metric = 0 then sum
    else if c.residual then fadd (fneg sum) (fneg (fdot q centroid)) else fneg sum

/-- Exact distance of a query to a full vector (R179, R317, R318). -/
def exactDist (metric seed : Nat) (q x : List W32) : W32 :=
  let x := prepared metric x
  if Config.exactForm seed then
    let a := passDot seed q x
    if metric = 0 then fmax 0 (ffma 0xC0000000 a (fadd (fdot q q) (fdot x x))) else fneg a
  else if metric = 0 then fdistSq q x else fneg (fdot q x)

/-! ## Sums of a build (R139) -/

/-- A sum as the engines of a build spread it: each engine's items in its own order, then the engines' partial sums. -/
def spreadSum (seed : Nat) (xs : List W32) : W32 :=
  let ordered (k : Nat) (l : List (Nat × W32)) : List W32 :=
    (sortBy (fun a b : Nat × W32 => decide (Config.passOrder k a.1 < Config.passOrder k b.1)) l).map Prod.snd
  let items := List.zip (List.range xs.length) xs
  let parts := (List.range 32).filterMap fun e =>
    let mine := items.filter fun x => Config.buildEngine seed x.1 % 32 == e
    if mine = [] then none else some (e, fsum (ordered seed mine))
  fsum (ordered (seed + 1) parts)

def spreadDot (seed : Nat) (x y : List W32) : W32 := spreadSum seed ((List.zip x y).map fun p => fmul p.1 p.2)
def spreadDistSq (seed : Nat) (x y : List W32) : W32 := spreadSum seed ((List.zip x y).map fun p => fmul (fsub p.1 p.2) (fsub p.1 p.2))

/-! ## Encoding (R226) -/

/-- The first of the smallest distances among indices below `n`; a NaN is never nearest. -/
def nearestOf (f : Nat → W32) (n : Nat) : Option Nat :=
  (List.range n).foldl (fun best i =>
    if isNan (f i) then best
    else match best with
      | none => some i
      | some b => if orderKey (f i) < orderKey (f b) then some i else best) none

/-- The code of a vector, its nearest codebook centroids by a distance; `bits` holds a BIT vector (R226). -/
def Coding.encodeBy (dist : List W32 → List W32 → W32) (c : Coding) (v : List W32) (bits : Bytes) (centroid : List W32) : Bytes :=
  let r := if c.residual then (List.zip v centroid).map fun p => fsub p.1 p.2 else v
  match c.codeType with
  | 3 => bits
  | 2 => (List.range c.d).map fun t =>
    let off := w32 (fieldAt c.book (4 * t) 4)
    let q := fdiv (fsub (r.getD t 0) off) (w32 (fieldAt c.book (4 * c.d + 4 * t) 4))
    BitVec.ofNat 8 (match f32Val q with
      | .nan => 0
      | .inf neg => if neg then 0 else 255
      | .fin neg m e => if neg then 0 else min 255 (roundMag 1 m e 0 0))
  | _ =>
    let idx (sub : Nat) : Nat := (nearestOf (fun j => dist (c.part r sub) (c.word sub j)) c.k).getD 0
    if c.codeType = 0 then (List.range c.m).map fun sub => BitVec.ofNat 8 (idx sub)
    else (List.range (c.m / 2)).map fun i => BitVec.ofNat 8 (idx (2 * i) + 16 * idx (2 * i + 1))

/-- The code of a vector, by squared L2 distance (R226). -/
def Coding.encode (c : Coding) (v : List W32) (bits : Bytes) (centroid : List W32) : Bytes := c.encodeBy fdistSq v bits centroid

end Sys2Proof.Machine
end

