-- ==== Sys2Proof/Machine/Gather.lean ====
section
/-! DEFINITION. Gather engines and embedding tables: GATHER and SCATTER, load counts, row moves, and the STACK_EMB commands and registers
(R348 to R370). -/

namespace Sys2Proof.Machine

def State.emb' (f : EmbSt → EmbSt) (s : State) : State := { s with emb := f s.emb }

/-! ## Rows (R350, R364) -/

/-- Logical byte of row `r` of rows of `n` bytes: packed in stacked memory, by whole 4 KiB blocks in flash (R126, R350). -/
def rowOffset (flash : Bool) (n r : Nat) : Nat :=
  if !flash then r * n
  else if n ≤ 4096 then r / (4096 / n) * 4096 + r % (4096 / n) * n
  else r * ((n + 4095) / 4096) * 4096
/-- Bytes that `rows` rows need. -/
def rowsSpan (flash : Bool) (n rows : Nat) : Nat := if rows = 0 then 0 else rowOffset flash n (rows - 1) + (if flash ∧ 4096 < n then (n + 4095) / 4096 * 4096 else n)

/-- The relocation entry of a row. -/
def State.reloc (s : State) (table row : Nat) : Option Reloc := s.emb.relocs.find? fun r => r.table == table && r.row == row
/-- Where a command pinned at a milepost finds a row (R365, R368). -/
def State.rowKind (s : State) (table row pin : Nat) : Option RelocKind :=
  match s.reloc table row with
  | some r => if r.milepost ≤ pin then (if r.kind = .base then none else some r.kind) else r.prior
  | none => none

/-- The descriptor and logical byte of a row's location. -/
def State.rowPlace (s : State) (t : EmbTable) (row : Nat) (k : Option RelocKind) : Option (PlaceDesc × Nat) :=
  match k with
  | some (.hot i) | some (.guest i) => (s.pds.get t.pdSpare).map fun d => (d, i * t.rowBytes)
  | _ => (s.pds.get t.pdRows).map fun d => (d, rowOffset (d.tier == 2) t.rowBytes row)

/-- Bytes of a row, those of a write that still waits before those in place; `none` where its descriptor is lost (R351, R524). -/
def State.rowRead (s : State) (table : Nat) (t : EmbTable) (row : Nat) (k : Option RelocKind) : Option Bytes :=
  match s.rowPlace t row k with
  | some (d, o) =>
    if d.lost then none
    else match (s.emb.waiting.reverse).find? fun w => w.table == table && w.row == row && w.kind == k with
      | some w => some w.bytes
      | none => some (s.anyRead d o t.rowBytes)
  | none => none

/-- Writes bytes of logical flash: the map unit is programmed again with them. While no page is free they wait (R387, R390). -/
def State.flashStore (a : Nat) (b : Bytes) (s : State) : State :=
  let x := a / 65536
  match s.takePage with
  | none => s.med' fun m => { m with stored := (a, b) :: m.stored }
  | some (ppa, t) =>
    let old := match (s.med.fwd.get x).bind s.nand.pages.get with
      | some ⟨_, _, .data m, _, _⟩ => m
      | _ => []
    let n := t.nextSeq
    let pg := pageFor ppa x n.1 (.data (Mem.writeBytes old (a % 65536) b))
    let t := (n.2.nand' fun k => { k with pages := k.pages.put ppa pg }).chan (ppaCh ppa) fun c => { c with programs := satAdd32 c.programs 1 }
    ((t.mapSet x (some ppa) n.1).bump64 Reg.MEDIA_WRITES_LO 1).unitProgrammed.stripeStep ppa

/-- A row's location cannot be read or written (R354, R524). -/
def State.rowLost (s : State) (t : EmbTable) (row : Nat) (k : Option RelocKind) : Bool := (s.rowPlace t row k).all fun p => p.1.lost

/-- Writes a row's bytes at its location. -/
def State.rowWrite (t : EmbTable) (row : Nat) (k : Option RelocKind) (b : Bytes) (s : State) : State :=
  match s.rowPlace t row k with
  | some (d, o) =>
    if d.lost then s
    else if d.tier = 2 then (d.addr o).elim s fun a => s.flashStore a b
    else { s with smem := d.store o b s.smem }
  | none => s

/-- A command of a table runs that pinned below a milepost, or could still start below it in this SCLK cycle (R365, R368). -/
def State.pinnedBelow (s : State) (table mp : Nat) : Bool :=
  (s.emb.runs.vals.any fun x => x.table == table && decide (x.pin < mp)) ||
    ((s.emb.tables.get table).any fun t => decide (t.pinAt s.cycle < mp))

/-- Spare slots of a table: how many, and those in use by entries or moves (R364). -/
def State.spareSlots (s : State) (t : EmbTable) : Nat := (s.pds.get t.pdSpare).elim 0 fun d => if t.pdSpare = 0 then 0 else d.length / t.rowBytes
def relocSlot : Option RelocKind → List Nat
  | some (.hot i) | some (.guest i) => [i]
  | _ => []
def State.usedSlots (s : State) (table : Nat) : List Nat :=
  (s.emb.relocs.filter fun r => r.table == table).flatMap (fun r => relocSlot (some r.kind) ++ if s.pinnedBelow table r.milepost then relocSlot r.prior else [])
  ++ (s.emb.moves.vals.filter fun m => m.table == table && m.committed.isNone).flatMap RowMove.slots
def State.freeSlots (s : State) (table : Nat) (t : EmbTable) : List Nat :=
  (List.range (s.spareSlots t)).filter fun i => !(s.usedSlots table).contains i

/-- Relocation entries in use; those that only remember an earlier place are not counted (R364, R368). -/
def State.relocUse (s : State) : Nat := (s.emb.relocs.filter fun r => r.kind != .base).length
def State.embShow (s : State) : State :=
  (s.setNat Reg.STACK_EMB_RELOC_USED s.relocUse).setNat Reg.STACK_EMB_TABLES_LIVE (s.emb.tables.vals.filter fun t => t.state == 1).length

/-! ## GATHER and SCATTER (R352 to R361) -/

/-- Engine counters of a gather engine. -/
def geReg (ge off : Nat) : Nat := off + 0x40 * (ge % 16)

/-- Adds `n` to a requester's counter `i`: 0 range, 1 missing, 2 moved, 3 fault (R355). -/
def State.ownerCount (o : Owner) (i n : Nat) (s : State) : State :=
  let l := s.emb.owners.getD (ownerKey o) [0, 0, 0, 0]
  s.emb' fun e => { e with owners := e.owners.put (ownerKey o) (l.set i (min (2 ^ 32 - 1) (l.getD i 0 + n))) }

/-- Ranking of a closed window: descending count, then lower table, then lower row. -/
def hotRank (l : List HotRow) : List HotRow :=
  sortBy (fun a b => decide (b.count < a.count ∨ (a.count = b.count ∧ (a.table < b.table ∨ (a.table = b.table ∧ a.row < b.row))))) l

/-- EMB_SKEW_WINDOW_CLOSE (R362, R363). -/
def embWindowClose (s : State) : State :=
  if s.isRunning ∧ s.emb.windowStart + (s.reg Reg.STACK_EMB_SKEW_WIN).toNat ≤ s.now then
    s.emb' fun e => { e with shardLast := e.shardNow, shardNow := [], hotLast := e.hotNow.mapVals hotRank, hotNow := [], windowStart := s.now }
  else s

/-- Counts a row read or write in its shard's running window; one in the cycle in which the window closes counts in the new one (R362, R363). -/
def State.shardCount (table : Nat) (t : EmbTable) (row : Nat) (write : Bool) (s : State) : State :=
  let k := 65536 * table + row / 2 ^ t.shardBits
  (embWindowClose s).emb' fun e => { e with shardNow := e.shardNow.modifyD k (0, 0) fun c => if write then (c.1, c.2 + 1) else (c.1 + 1, c.2) }

/-- The sample of R363 in a quadrant's hot-row table. -/
def hotSample (l : List HotRow) (table row : Nat) : List HotRow :=
  if l.any fun e => e.table == table && e.row == row then
    l.map fun e => if e.table = table ∧ e.row = row then { e with count := e.count + 1 } else e
  else if l.length < 64 then l ++ [⟨table, row, 1⟩]
  else match minBy HotRow.count l with
    | some m =>
      let i := l.findIdx (· == m)
      l.set i ⟨table, row, m.count + 1⟩
    | none => l

/-- Counts an issued read of an engine, sampling one in STACK_EMB_SAMPLE. -/
def State.sampleRead (ge table row : Nat) (s : State) : State :=
  let n := s.emb.samples.getD ge 0 + 1
  let every := max 1 (s.reg Reg.STACK_EMB_SAMPLE).toNat
  if n < every then s.emb' fun e => { e with samples := e.samples.put ge n }
  else s.emb' fun e => { e with samples := e.samples.put ge 0, hotNow := e.hotNow.modifyD (ge % 16 / 4) [] fun l => hotSample l table row }

/-- Index `i` of a command's index list. -/
def State.gatherIndex (s : State) (r : GatherRun) (i : Nat) : Nat :=
  let w := if r.idx64 then 8 else 4
  match r.remote with
  | some x => fieldAt x.indices (w * i) w
  | none =>
  match s.region (cmdHandle r.cmd.bytes 0) with
  | some g => fieldAt (s.rgnRead g (cmdOffset r.cmd.bytes 0 + w * i) w) 0 w
  | none => 0
/-- The missing value (Table 10.3). -/
def GatherRun.missing (r : GatherRun) : Nat := if r.idx64 then 2 ^ 64 - 1 else 2 ^ 32 - 1

def State.setRun (ge : Nat) (r : GatherRun) (s : State) : State := s.emb' fun e => { e with runs := e.runs.put ge r }

/-- Writes at position `i` of OPB, in the class of its region (GATHER only; R360). -/
def State.gatherWrite (ge : Nat) (r : GatherRun) (i : Nat) (b : Bytes) (s : State) : State :=
  if r.scatter ∨ r.remote.isSome then s
  else match s.region (cmdHandle r.cmd.bytes 1) with
    | some g => s.portWrite (enginePort 3 ge) g (cmdOffset r.cmd.bytes 1 + i * r.stride) b
    | none => s

/-- Gives position `i` its outcome: the code, and what GATHER writes for a position that is not delivered (Table 10.3). -/
def State.giveCode (ge i code : Nat) (notice : Bytes) (s : State) : State :=
  match s.emb.runs.get ge with
  | none => s
  | some r =>
    let rb := (s.emb.tables.get r.table).elim 0 EmbTable.rowBytes
    let t := match code with
      | 0 => s
      | 3 => s.gatherWrite ge r i notice
      | _ => s.gatherWrite ge r i (List.replicate rb 0)
    let remote := r.remote.map fun x => if code = 3 then { x with data := x.data.put i notice } else x
    t.setRun ge { r with codes := r.codes.put i code, remote := remote }

/-- Writes a row for position `i` of a SCATTER, which is then delivered: code 4 where its location is lost; a write to flash waits while no page is free, in
order (R351, R354, R387). -/
def State.embStore (ge i table : Nat) (t : EmbTable) (row : Nat) (k : Option RelocKind) (b : Bytes) (s : State) : State :=
  let flash := (s.rowPlace t row k).any fun p => p.1.tier == 2
  if s.rowLost t row k then s.giveCode ge i 4 []
  else if flash && (s.takePage.isNone || !s.emb.waiting.isEmpty) then s.emb' fun e => { e with waiting := e.waiting ++ [⟨ge, i, table, row, k, b⟩] }
  else (s.rowWrite t row k b).giveCode ge i 0 []

/-- The notice of a moved position (Table 10.3). -/
def movedNotice (idx seat : Nat) : Bytes := leBytes 8 idx ++ leBytes 1 seat ++ List.replicate 7 0

/-- How many positions have a code. -/
def GatherRun.count' (r : GatherRun) (c : Nat) : Nat := (r.codes.filter fun e => e.2 == c).length

/-- Result header of Table 10.4 and the code bytes. -/
def GatherRun.result (r : GatherRun) (st : Nat) : Bytes :=
  leBytes 4 (r.count' 0) ++ leBytes 4 (r.count' 1) ++ leBytes 4 (r.count' 2) ++ leBytes 4 (r.count' 3) ++ leBytes 4 (r.count' 4)
  ++ leBytes 4 r.coalesced ++ leBytes 8 r.pin ++ leBytes 1 st ++ List.replicate 31 0
  ++ (List.range r.count).map fun i => BitVec.ofNat 8 (r.codes.getD i 0)

/-- Status of R357. -/
def GatherRun.status (r : GatherRun) : Nat :=
  if r.count' 4 ≠ 0 then St.fault else if r.count' 3 ≠ 0 then St.moved
  else if r.count' 1 ≠ 0 ∨ r.count' 2 ≠ 0 then St.short else St.ok

/-- Counts codes 1 to 4 in the table's, the requester's and the engine's counters (R355), and delivered positions in the engine's. -/
def State.countCodes (ge : Nat) (r : GatherRun) (s : State) : State :=
  let c (i : Nat) : Nat := r.count' i
  let o := r.cmd.owner
  let t := s.emb' fun e => { e with tables := e.tables.modify r.table fun t => { t with
    dropRange := satAdd32 t.dropRange (c 1), dropMissing := satAdd32 t.dropMissing (c 2), moved := satAdd32 t.moved (c 3),
    faulted := satAdd32 t.faulted (c 4) } }
  let t := (((t.ownerCount o 0 (c 1)).ownerCount o 1 (c 2)).ownerCount o 2 (c 3)).ownerCount o 3 (c 4)
  let t := ((t.bumpBy (geReg ge Reg.STACK_GE_DROP_RANGE) (c 1)).bumpBy (geReg ge Reg.STACK_GE_DROP_MISSING) (c 2)).bumpBy (geReg ge Reg.STACK_GE_MOVED) (c 3)
  let t := (t.bumpBy (geReg ge Reg.STACK_GE_FAULT) (c 4)).bumpBy (geReg ge Reg.STACK_GE_COALESCED) r.coalesced
  if r.scatter then t.bumpBy (geReg ge Reg.STACK_GE_WRITES) (c 0) else t.bump64 (geReg ge Reg.STACK_GE_ROWS_LO) (c 0)

/-- An EMB_DROP completes once nothing of its table runs (R349). -/
def State.embDropEnd (table : Nat) (s : State) : State :=
  match s.emb.tables.get table with
  | some t => match t.dropSlot with
    | some slot =>
      if s.emb.runs.vals.any fun r => r.table == table then s
      else ((s.emb' fun e => { e with tables := e.tables.del table, relocs := e.relocs.filter fun r => r.table != table }).embShow).slotDone .emb slot St.ok
    | none => s
  | none => s

/-- A command with every position coded writes its result area; its status is then that of R357, and it may complete (R356, R360, R361). -/
def State.gatherEnd (ge : Nat) (s : State) : State :=
  match s.emb.runs.get ge with
  | none => s
  | some r =>
    if r.codes.length < r.count then s
    else
      let st := r.status
      match r.remote with
      | some x =>
        let rb := (s.emb.tables.get r.table).elim 0 EmbTable.rowBytes
        let rows := if r.scatter then [] else (List.range r.count).flatMap fun i => sliceAt (x.data.getD i []) 0 rb
        let u := (s.countCodes ge r).emb' fun e => { e with runs := e.runs.del ge }
        (u.hand (.endpoint x.dest) 0x23 0 (.bytes (leBytes 4 x.tag ++ r.result st ++ rows))).embDropEnd r.table
      | none =>
      let t := (((s.opWrite r.cmd.bytes 2 (r.result st)).opUses .ge ge [(cmdHandle r.cmd.bytes 2, cmdOffset r.cmd.bytes 2, 64 + r.count, true)]).countCodes ge r).emb' fun e => { e with runs := e.runs.del ge }
      let e := t.engine .ge ge
      (t.setEngine .ge ge { e with running := e.running.map fun x => if x.refused then x else { x with status := st } }).embDropEnd r.table

/-- Issues reads in position order while fewer than 4,096 are outstanding (R358, R359); other positions get their codes. -/
def State.issueReads (ge : Nat) : Nat → State → State
  | 0, s => s
  | fuel + 1, s =>
    match s.emb.runs.get ge with
    | none => s
    | some r =>
      if r.count ≤ r.next then s
      else match s.emb.tables.get r.table with
        | none => s
        | some t =>
          let i := r.next
          let x := s.gatherIndex r i
          let r' := { r with next := i + 1 }
          let k := s.rowKind r.table x r.pin
          if x = r.missing then State.issueReads ge fuel ((s.setRun ge r').giveCode ge i 2 [])
          else if t.rows ≤ x then State.issueReads ge fuel ((s.setRun ge r').giveCode ge i 1 [])
          else match k with
            | some (.away seat) => State.issueReads ge fuel ((s.setRun ge r').giveCode ge i 3 (movedNotice x seat))
            | _ =>
              if r.reads.any fun d => d.row == x then
                let reads := replaceFirst (fun d : RowRead => d.row == x) (fun d => { d with positions := d.positions ++ [i] }) r.reads
                State.issueReads ge fuel (s.setRun ge { r' with reads := reads, coalesced := r.coalesced + 1 })
              else if 4096 ≤ r.reads.length then s
              else
                let u := (s.setRun ge { r' with reads := r.reads ++ [⟨s.emb.nextRead, x, k, [i], false⟩] }).emb' fun e => { e with nextRead := e.nextRead + 1 }
                let u := match s.rowPlace t x k with
                  | some (d, o) => if d.tier = 2 then (d.addr o).elim u fun a => u.internalRead a else u
                  | none => u
                State.issueReads ge fuel ((u.shardCount r.table t x false).sampleRead ge r.table x)

/-- The move under way that holds a row of a table at this node as its source. -/
def State.rowMoving (s : State) (table row : Nat) : Option (Nat × RowMove) :=
  s.emb.moves.find? fun m => m.2.table == table && !m.2.dest && m.2.committed.isNone && m.2.phase != .closed && m.2.rows.contains row

/-- Sends a move message, to be repeated until acknowledged (R257). -/
def State.sendRowMove (id : Nat) (msg : ShuffleMsg) (s : State) : State :=
  match s.emb.moves.get id with
  | none => s
  | some m => match m.seat with
    | none => s
    | some seat =>
      let t := s.emb' fun e => { e with moves := e.moves.put id { m with nextSeq := m.nextSeq + 1, unacked := m.unacked ++ [⟨m.nextSeq, msg, s.now⟩] } }
      t.hand (.seat seat) 0x1A 0 (.shuffle (.rows m.table m.rows) m.nextSeq msg)

/-- Writes position `i` of a SCATTER (R361, R365 to R367): at the row's place, and forwarded where the row is being copied; held during a hold, from the
cycle after it began; at the row's new place too where a move has committed since the pin; code 3 where the row has left since. -/
def State.scatterRow (ge i row : Nat) (b : Bytes) (s : State) : State :=
  match s.emb.runs.get ge with
  | none => s
  | some r => match s.emb.tables.get r.table with
    | none => s
    | some t =>
      let k := s.rowKind r.table row r.pin
      let counted (s : State) : State := if s.rowLost t row k then s else s.shardCount r.table t row true
      match s.rowMoving r.table row, (s.reloc r.table row).map Reloc.kind with
      | none, some (.away _) => s.giveCode ge i 3 []
      | none, _ =>
        let now := s.rowKind r.table row t.milepost
        (counted (if now = k then s else s.rowWrite t row now b)).embStore ge i r.table t row k b
      | some (id, m), _ =>
        if m.holding ∧ m.holdAt ≠ s.cycle then s.emb' fun e => { e with moves := e.moves.put id { m with held := m.held ++ [⟨ge, i, row, b, s.now⟩] } }
        else if s.rowLost t row k then s.giveCode ge i 4 []
        else
          let u := match m.seat with
            | some _ => s.sendRowMove id (.forward ⟨w64 row, [], [], b, false⟩)
            | none => s.rowWrite t row (some (.hot (m.slots.getD (m.rows.findIdx (· == row)) 0))) b
          (counted u).embStore ge i r.table t row k b

/-- Takes the positions of a SCATTER in ascending order. -/
def State.scatterAll (ge : Nat) : List Nat → State → State
  | [], s => s
  | i :: rest, s =>
    match s.emb.runs.get ge with
    | none => s
    | some r => match s.emb.tables.get r.table with
      | none => s
      | some t =>
        let x := s.gatherIndex r i
        let b := match r.remote, s.region (cmdHandle r.cmd.bytes 1) with
          | some y, _ => sliceAt y.rows (i * t.rowBytes) t.rowBytes
          | none, some g => s.rgnRead g (cmdOffset r.cmd.bytes 1 + i * r.stride) t.rowBytes
          | none, none => []
        State.scatterAll ge rest (
          if x = r.missing then s.giveCode ge i 2 []
          else if t.rows ≤ x then s.giveCode ge i 1 []
          else match s.rowKind r.table x r.pin with
            | some (.away _) => s.giveCode ge i 3 []
            | _ => s.scatterRow ge i x b)

/-- GATHER and SCATTER: the checks of R284 and R353, the pin, then the positions. -/
def gatherStart (scatter : Bool) (ge : Nat) (s : State) : State :=
  match s.startable .ge ge (· == if scatter then 0x41 else 0x40) with
  | none => s
  | some x =>
    let b := x.bytes
    let table := fieldAt b 40 2
    let idx64 := bitOf (byteAt b 42) 0
    let n := fieldAt b 44 4
    let stride := fieldAt b 48 4
    let tb := s.emb.tables.get table
    let live := tb.any fun t => t.state == 1
    let pd := tb.bind fun t => s.pds.get t.pdRows
    let po := (s.seqCore x.sq).owner
    let st := r21 [
      (s.engDenied .ge ge x || (pd.any fun d => d.owner != po && po != .system) || (scatter && pd.any PlaceDesc.readOnly), St.denied),
      ((s.beyond (cmdHandle b 0) (cmdOffset b 0) ((if idx64 then 8 else 4) * n) || s.beyond (cmdHandle b 1) (cmdOffset b 1) (n * stride)
        || s.beyond (cmdHandle b 2) (cmdOffset b 2) ((64 + n + 63) / 64 * 64)), St.length),
      (decide (stride < tb.elim 0 EmbTable.rowBytes) || decide (stride % 16 ≠ 0) || decide (2 ^ 20 < n) || decide (1023 < table), St.range),
      (!live, St.notOwner)]
    let ops := [(cmdHandle b 0, cmdOffset b 0, (if idx64 then 8 else 4) * n, false), (cmdHandle b 1, cmdOffset b 1, n * stride, !scatter),
      (cmdHandle b 2, cmdOffset b 2, (64 + n + 63) / 64 * 64, true)]
    let o := (s.engine .ge ge).owner
    let st := if st ≠ St.ok then st else match ops.find? fun p => s.operandStatus o p.1 p.2.1 p.2.2.1 p.2.2.2 != 0 with
      | some p => s.operandStatus o p.1 p.2.1 p.2.2.1 p.2.2.2
      | none => St.ok
    if st ≠ St.ok then s.startCmd .ge ge x st true .nothing
    else
      let r : GatherRun := ⟨scatter, x, table, n, stride, idx64, tb.elim 0 (·.pinAt s.cycle), 0, [], [], 0, none⟩
      let t := ((s.setRun ge r).startCmd .ge ge x St.ok false .whole).opUses .ge ge (ops.take (if scatter then 2 else 1))
      if scatter then (t.scatterAll ge (List.range n)).gatherEnd ge
      else (t.issueReads ge (n + 1)).gatherEnd ge

/-- A row that a remote GATHER delivers is kept for its ROW_DATA (R422). -/
def State.remoteRow (ge i : Nat) (b : Bytes) (s : State) : State :=
  match s.emb.runs.get ge with
  | some r => match r.remote with
    | some x => s.setRun ge { r with remote := some { x with data := x.data.put i b } }
    | none => s
  | none => s

/-- A gather for a seat's ROW_GET or ROW_PUT (R422): COUNT above 1,024 is LENGTH; a request refused by the checks of R353 is answered with a result header
alone. -/
def rowRequest (put : Bool) (m : Msg) (s : State) : State :=
  let b := m.body
  if !s.isRunning ∨ b.length < 16 then s
  else
    let table := fieldAt b 0 2
    let idx64 := bitOf (byteAt b 2) 0
    let n := fieldAt b 4 4
    let tag := fieldAt b 12 4
    let owner := ownerOf (fieldAt b 8 4)
    let tb := s.emb.tables.get table
    let live := tb.any fun t => t.state == 1
    let pd := tb.bind fun t => s.pds.get t.pdRows
    let o := owner.getD .system
    let st := r21 [(tb.isSome && (owner.isNone || (pd.any fun d => d.owner != o && o != .system) || (put && pd.any PlaceDesc.readOnly)), St.denied),
      (decide (1024 < n), St.length), (decide (1023 < table), St.range), (!live, St.notOwner)]
    let w := if idx64 then 8 else 4
    let rb := tb.elim 0 EmbTable.rowBytes
    let x : RemoteRows := ⟨m.src, tag, sliceAt b 16 (w * n), if put then b.drop (16 + w * n) else [], []⟩
    let r : GatherRun := ⟨put, ⟨[], 0, o⟩, table, if st = St.ok then n else 0, rb, idx64, tb.elim 0 (·.pinAt s.cycle), 0, [], [], 0, some x⟩
    if st ≠ St.ok then s.hand (.endpoint m.src) 0x23 0 (.bytes (leBytes 4 tag ++ r.result st))
    else match s.emb.runs.lowestFree 16 65536 with
      | none => s
      | some k =>
        let t := s.setRun k r
        if put then (t.scatterAll k (List.range n)).gatherEnd k else (t.issueReads k (n + 1)).gatherEnd k

/-- An outstanding read has its outcome: the row is written to every position it serves, or they take code 4; more reads are issued (R358, R359). -/
def State.readOutcome (ge : Nat) (r : GatherRun) (d : RowRead) (data : Option Bytes) (s : State) : State :=
  let u := s.setRun ge { r with reads := r.reads.filter fun x => x.id != d.id }
  let u := d.positions.foldl (fun u i => match data with
    | some b => ((u.gatherWrite ge r i b).remoteRow ge i b).giveCode ge i 0 []
    | none => u.giveCode ge i 4 []) u
  (u.issueReads ge (r.count + 1)).gatherEnd ge

/-- ROW_READ_DONE (R354, R358, R359): `parity` counts the parity errors of its entry in the request table; the first has it issued again, the second gives its
positions code 4 (GE_PARITY, R507). -/
def rowReadDone (ge id : Nat) (readable : Bool) (parity : Nat) (s : State) : State :=
  match s.emb.runs.get ge with
  | none => s
  | some r => match r.reads.find? (fun d => d.id == id), s.emb.tables.get r.table with
    | some d, some t =>
      let errors := min parity (2 - b1 d.reissued)
      let u := (List.range errors).foldl (fun s _ => s.fault 0x0033 (ge % 16) 0) s
      if errors = 0 then u.readOutcome ge r d (if readable then u.rowRead r.table t d.row d.kind else none)
      else if b1 d.reissued + errors = 1 then
        u.setRun ge { r with reads := r.reads.map fun x => if x.id = id then { x with reissued := true } else x }
      else u.readOutcome ge r d none
    | _, _ => s

/-- Writes that waited for a free page of flash are made, in order, while pages are free; their positions are delivered (R351, R361, R387). -/
def State.drainRows : Nat → State → State
  | 0, s => s
  | fuel + 1, s =>
    match s.emb.waiting with
    | [] => s
    | w :: rest =>
      if s.takePage.isNone then s
      else
        let u := s.emb' fun e => { e with waiting := rest }
        let u := match s.emb.tables.get w.table with
          | some t => u.rowWrite t w.row w.kind w.bytes
          | none => u
        State.drainRows fuel ((u.giveCode w.ge w.pos 0 []).gatherEnd w.ge)

/-- The node's own writes to flash are made, the oldest first, while pages are free. -/
def State.drainStored : Nat → State → State
  | 0, s => s
  | fuel + 1, s =>
    match s.med.stored.getLast? with
    | none => s
    | some w =>
      if s.takePage.isNone then s
      else State.drainStored fuel ((s.med' fun m => { m with stored := m.stored.dropLast }).flashStore w.1 w.2)

/-- What flash, gather engines and embedding tables do of their own: waiting writes, and drops whose last command is over (R349). -/
def embTurns (s : State) : State :=
  let t := s.drainStored s.med.stored.length
  let t := t.drainRows t.emb.waiting.length
  t.emb.tables.foldl (fun t e => if e.2.dropSlot.isSome then t.embDropEnd e.1 else t) t

/-- ROW_HOLD_TIMEOUT (R366): held writes of an engine that have waited longer than IDX_UPD_WAIT take code 4; a release on that LTC value comes first. -/
def rowHoldTimeout (ge : Nat) (s : State) : State :=
  let old (h : HeldWrite) : Bool := h.ge == ge && s.past (h.since + (s.reg Reg.IDX_UPD_WAIT).toNat)
  let late := (s.emb.moves.vals.flatMap RowMove.held).filter old
  let t := s.emb' fun e => { e with moves := e.moves.mapVals fun m => { m with held := m.held.filter fun h => !old h } }
  (late.foldl (fun t h => t.giveCode ge h.pos 4 []) t).gatherEnd ge

/-! ## Commands of embedding tables (R348, R349, R370) -/

/-- Another running STACK_EMB command names the table (R370). -/
def State.embNamed (s : State) (slot table : Nat) : Bool :=
  (List.range 4).any fun k => k != slot && match s.slots.runs.get (slotKey .emb k) with
    | some r => r.op != 5 && (r.args.headD 0).toNat % 1024 == table
    | none => false

/-- EMB_CREATE (R349). -/
def embCreateRun (slot : Nat) (s : State) : State :=
  let a0 := s.slotArg .emb slot 0
  let h := bitsOf a0 31 16
  let id := a0 % 1024
  let off := 64 * s.slotArg .emb slot 1
  let s := s.usedHandle h off 64
  match s.handleRead h off 64 with
  | none => s.slotDone .emb slot (r21 (s.rgnChecks .system h off 64 false))
  | some d =>
  let rb := fieldAt d 2 2
  let sb := byteAt d 4
  let rows := fieldAt d 8 8
  let pr := s.pds.get (fieldAt d 16 4)
  let ps := fieldAt d 20 4
  let flash := pr.any fun x => x.tier == 2
  let st := r21 (s.rgnChecks .system h off 64 false ++ [
    (pr.any fun x => decide (rb ≠ 0 ∧ x.length < rowsSpan flash rb rows), St.length),
    (decide (fieldAt d 0 2 ≠ id ∨ rb < 16 ∨ 4096 < rb ∨ rb % 16 ≠ 0 ∨ sb < 10 ∨ 30 < sb ∨ rows = 0 ∨ 2 ^ 36 < rows)
      || decide (65536 < (rows + 2 ^ sb - 1) / 2 ^ sb) || !(pr.any fun x => x.kind == 4)
      || (ps != 0 && !(s.pds.get ps).any fun x => x.kind == 4 && x.tier == 1), St.range),
    (s.emb.tables.has id || s.embNamed slot id, St.busy)])
  if st ≠ St.ok then s.slotDone .emb slot st
  else
    let t : EmbTable := ⟨1, rb, sb, rows, fieldAt d 16 4, ps, 1, 0, 0, 0, 0, none, none⟩
    ((s.emb' fun e => { e with tables := e.tables.put id t }).embShow).slotDone .emb slot St.ok

/-- EMB_DROP (R349). -/
def embDropRun (slot : Nat) (s : State) : State :=
  let id := s.slotArg .emb slot 0 % 1024
  match s.emb.tables.get id with
  | none => s.slotDone .emb slot St.notOwner
  | some t =>
    if t.state ≠ 1 ∨ s.embNamed slot id then s.slotDone .emb slot St.busy
    else
      let u := s.emb' fun e => { e with tables := e.tables.put id { t with state := 2, dropSlot := some slot } }
      (u.slotWaits .emb slot (.other 1 id 0)).embDropEnd id

/-- The row list of a move command (8-byte row numbers). -/
def State.rowList (s : State) (slot : Nat) : Option (List Nat) :=
  let n := s.slotArg .emb slot 2 % 8192
  (s.handleRead (bitsOf (s.slotArg .emb slot 0) 31 16) (64 * s.slotArg .emb slot 1) (8 * n)).map fun b => (List.range n).map fun i => fieldAt b (8 * i) 8

/-- Moves in progress (R364). -/
def State.rowMoves (s : State) : Nat := (s.emb.moves.vals.filter fun m => m.committed.isNone && m.phase != .closed).length

/-- Starts a row move to a stack (no seat) or a seat (R364, R365, R367): the status, or the move. -/
def rowMoveRun (seatOk : Nat → Bool) (toSeat : Bool) (slot : Nat) (s : State) : State :=
  let id := s.slotArg .emb slot 0 % 1024
  let seat := bitsOf (s.slotArg .emb slot 2) 31 24
  let n := s.slotArg .emb slot 2 % 8192
  let tb := s.emb.tables.get id
  let live := tb.any fun t => t.state == 1
  let rows := (s.rowList slot).getD []
  let h := bitsOf (s.slotArg .emb slot 0) 31 16
  let off := 64 * s.slotArg .emb slot 1
  let s := s.usedHandle h off (8 * min n 4096)
  let t := tb.getD ⟨0, 16, 10, 0, 0, 0, 0, 0, 0, 0, 0, none, none⟩
  let free := s.freeSlots id t
  let away (r : Nat) : Bool := match (s.reloc id r).map Reloc.kind with | some (.away _) => true | _ => false
  let st := r21 (s.rgnChecks .system h off (8 * n) false ++ [(!live, St.notOwner), (decide (4096 < n), St.length),
    (tb.isSome && rows.any (fun r => decide (t.rows ≤ r) || away r), St.range), (toSeat && !seatOk seat, St.range),
    (decide ((s.reg Reg.STACK_EMB_RELOC_LIMIT).toNat < s.relocUse + (rows.filter fun r => (s.reloc id r).isNone).length), St.quota),
    (!toSeat && decide (free.length < rows.length), St.quota),
    (s.embNamed slot id || rows.any (fun r => (s.rowMoving id r).isSome) || decide (16 ≤ s.rowMoves), St.busy)])
  if st ≠ St.ok then s.slotDone .emb slot st
  else if n = 0 then s.slotDone .emb slot St.ok
  else
    let k := (s.emb.moves.lowestFree 0 256).getD 0
    let m : RowMove := ⟨id, rows, if toSeat then some seat else none, false, .copy, if toSeat then [] else free.take rows.length, some slot, false, 0, [], 1024 * s.emb.nextRead + 1, [], none, [], []⟩
    let u := (s.emb' fun e => { e with moves := e.moves.put k m, nextRead := e.nextRead + 1 }).setNat (slotResult .emb slot) (65536 * k)
    let u := u.slotWaits .emb slot (.other 2 k 0)
    let cur (r : Nat) : Bytes := (u.rowRead id t r (u.rowKind id r t.milepost)).getD (List.replicate t.rowBytes 0)
    if toSeat then u.sendRowMove k (.copy (rows.map fun r => ⟨w64 r, [], [], cur r, false⟩))
    else (rows.zip m.slots).foldl (fun u x => u.rowWrite t x.1 (some (.hot x.2)) (cur x.1)) u

/-- Ends a row move's command. -/
def State.rowMoveDone (k : Nat) (m : RowMove) (st mp : Nat) (s : State) : State :=
  match m.cmdSlot with
  | some slot => (s.setNat (slotReg .emb slot 5) mp).slotDone .emb slot (65536 * k + st)
  | none => s

/-- Commits relocation entries for rows at the table's next milepost (R365, R367). -/
def State.relocate' (table : Nat) (xs : List (Nat × RelocKind)) (s : State) : Nat × State :=
  match s.emb.tables.get table with
  | none => (0, s)
  | some t =>
    let mp := t.milepost + 1
    let prior (r : Nat) : Option RelocKind := s.rowKind table r (t.pinAt s.cycle)
    let new := xs.map fun x => (⟨table, x.1, x.2, mp, prior x.1⟩ : Reloc)
    let old := s.emb.relocs.filter fun r => !(r.table == table && xs.any fun x => x.1 == r.row)
    (mp, (s.emb' fun e => { e with relocs := old ++ new, tables := e.tables.put table { t with milepost := mp, before := some (s.cycle, t.pinAt s.cycle) } }).embShow)

/-- Forgets the earlier places of rows that no running command is pinned below (R368). -/
def State.forgetPriors (s : State) : State :=
  let needed (r : Reloc) : Bool := s.pinnedBelow r.table r.milepost
  let keep (r : Reloc) : Option Reloc := if needed r then some r else if r.kind = .base then none else some { r with prior := none }
  (s.emb' fun e => { e with relocs := e.relocs.filterMap keep }).embShow

/-- Releases held writes onto the rows' places, or gives them code 3 (R365, R367). -/
def State.releaseHeld' (m : RowMove) (moved : Bool) (s : State) : State :=
  m.held.foldl (fun s h =>
    let t := if moved then s.giveCode h.ge h.pos 3 [] else
      match s.emb.tables.get m.table with
      | some tb =>
        let k := s.rowKind m.table h.row tb.milepost
        (if s.rowLost tb h.row k then s else s.shardCount m.table tb h.row true).embStore h.ge h.pos m.table tb h.row k h.bytes
      | none => s.giveCode h.ge h.pos 4 []
    t.gatherEnd h.ge) s

/-- ROW_MOVE_COMMIT (R365): HOT entries commit and held writes go on to the slots. -/
def rowMoveCommit (k : Nat) (s : State) : State :=
  match s.emb.moves.get k with
  | some m =>
    if m.seat.isSome ∨ m.committed.isSome then s
    else
      let r := s.relocate' m.table ((m.rows.zip m.slots).map fun x => (x.1, .hot x.2))
      let t := (r.2.emb' fun e => { e with moves := e.moves.del k }).releaseHeld' m false
      (t.rowMoveDone k m St.ok r.1).forgetPriors
  | none => s

/-- Aborts a move at its source (R257, R367): the rows stay where they are. Where `tell` holds, the ABORT that ends it goes out, and is repeated until it is
acknowledged. An abort of a move between seats is counted. -/
def State.rowAbort (k : Nat) (m : RowMove) (tell : Bool) (s : State) : State :=
  let t := s.emb' fun e => { e with moves := if tell then e.moves.put k { m with phase := .closed, unacked := [], held := [], holding := false } else e.moves.del k }
  let t := if tell then t.sendRowMove k .abort else t
  ((t.bumpIf m.seat.isSome Reg.IDX_SHUF_ABORTED).releaseHeld' m false).rowMoveDone k m St.aborted 0

/-- ROW_MOVE_CANCEL (R257, R367). In HANDOVER the abort waits for the destination's acknowledgement. -/
def rowCancelRun (slot : Nat) (s : State) : State :=
  let k := bitsOf (s.slotArg .emb slot 2) 23 16
  match s.emb.moves.get k with
  | none => s.slotDone .emb slot St.notOwner
  | some m =>
    if m.dest ∨ m.committed.isSome then s.slotDone .emb slot St.notOwner
    else match m.phase, m.seat with
      | .closed, _ => s.slotDone .emb slot St.notOwner
      | .copy, seat => (s.rowAbort k m seat.isSome).slotDone .emb slot St.ok
      | .handover, _ =>
        let t := s.emb' fun e => { e with moves := e.moves.put k { m with phase := .aborting } }
        (t.sendRowMove k .abort).slotDone .emb slot St.ok
      | .aborting, _ => s.slotDone .emb slot St.ok

/-- A source move whose copy and forwards are acknowledged goes on to HANDOVER (R253). -/
def State.rowHandover (k : Nat) (s : State) : State :=
  match s.emb.moves.get k with
  | some m =>
    if m.phase = .copy ∧ m.unacked = [] then
      (s.emb' fun e => { e with moves := e.moves.put k { m with phase := .handover, holding := true, holdAt := s.cycle } }).sendRowMove k .handover
    else s
  | none => s

/-- Acknowledges a message to a seat. -/
def State.ackRow (from_ table : Nat) (rows : List Nat) (seq : Nat) (s : State) : State :=
  s.hand (.seat from_) 0x1A 0 (.shuffle (.rows table rows) seq (.ack seq))

/-- No run: what a write that serves no position names. -/
abbrev noRun : Nat := 2 ^ 32

/-- A move message about rows (R253, R257, R367). A repeated message only draws its acknowledgement again. -/
def rowShuffle (from_ table : Nat) (rows : List Nat) (seq : Nat) (msg : ShuffleMsg) (s : State) : State :=
  let find (dest : Bool) : Option (Nat × RowMove) := s.emb.moves.find? fun m =>
    m.2.table == table && m.2.rows == rows && m.2.dest == dest && m.2.seat == some from_ && m.2.phase != .closed
  let ended : Option Nat := (s.emb.moves.find? fun m =>
    m.2.table == table && m.2.rows == rows && !m.2.dest && m.2.seat == some from_ && m.2.phase == .closed).map Prod.fst
  let put (k : Nat) (m : RowMove) (s : State) : State := s.emb' fun e => { e with moves := e.moves.put k m }
  match msg with
  | .ack n => match find false with
    | some (k, m) => (put k { m with unacked := m.unacked.filter fun u => u.seq != n } s).rowHandover k
    | none => s
  | .commitAck => match find false with
    | some (k, m) =>
      if m.phase = .handover ∧ m.committed.isNone then
        let r := (s.emb' fun e => { e with moves := e.moves.del k }).relocate' table (rows.map fun x => (x, .away from_))
        ((r.2.releaseHeld' m true).rowMoveDone k m St.ok r.1).forgetPriors
      else s
    | none => s
  | .abortAck => match ended, find false with
    | some k, _ => s.emb' fun e => { e with moves := e.moves.del k }
    | none, some (k, m) => if m.phase = .aborting then s.rowAbort k m false else s
    | none, none => s
  | .refuse => match find false with
    | some (k, m) => if m.phase = .copy then s.rowAbort k m false else s
    | none => s
  | .copy items =>
    let old := (find true).filter fun m => m.2.committed.isNone || m.2.seen.contains seq
    match old with
    | some (_, m) => if seq ∈ m.seen then s.ackRow from_ table rows seq else s
    | none => match s.emb.tables.get table with
      | none => s.hand (.seat from_) 0x1A 0 (.shuffle (.rows table rows) seq .refuse)
      | some t =>
        let home (r : Nat) : Bool := match (s.reloc table r).map Reloc.kind with | some (.away _) => true | _ => false
        let free := s.freeSlots table t
        let k := ((find true).map Prod.fst).orElse fun _ => s.emb.moves.lowestFree 0 256
        if t.state ≠ 1 ∨ free.length < rows.length ∨ 16 ≤ s.rowMoves ∨ k.isNone
            ∨ (s.reg Reg.STACK_EMB_RELOC_LIMIT).toNat < s.relocUse + (rows.filter fun r => !home r).length then
          s.hand (.seat from_) 0x1A 0 (.shuffle (.rows table rows) seq .refuse)
        else
          let m : RowMove := ⟨table, rows, some from_, true, .copy, free.take rows.length, none, false, 0, [], 1, [], none, [seq], []⟩
          let u := put (k.getD 0) m s
          let u := (items.zip m.slots).foldl (fun u x => u.rowWrite t x.1.key.toNat (some (.guest x.2)) x.1.fv) u
          u.ackRow from_ table rows seq
  | .forward item => match find true, s.emb.tables.get table with
    | some (k, m), some t =>
      if seq ∈ m.seen then s.ackRow from_ table rows seq
      else
        let slot := m.slots.getD (rows.findIdx (· == item.key.toNat)) 0
        ((put k { m with seen := seq :: m.seen } s).rowWrite t item.key.toNat (some (.guest slot)) item.fv).ackRow from_ table rows seq
    | _, _ => s
  | .handover => match find true, s.emb.tables.get table with
    | some (k, m), some t =>
      let reply (s : State) : State := (s.ackRow from_ table rows seq).hand (.seat from_) 0x1A 0 (.shuffle (.rows table rows) seq .commitAck)
      if m.committed.isSome then reply s
      else
        -- a row that comes home returns to its base location (R368)
        let came := rows.filterMap fun r => match (s.reloc table r).map Reloc.kind with | some (.away seat) => some (r, seat) | _ => none
        let home (r : Nat) : Bool := came.any fun c => c.1 == r
        let s1 := (rows.zip m.slots).foldl (fun u x =>
          if home x.1 then u.embStore noRun 0 table t x.1 none ((u.rowRead table t x.1 (some (.guest x.2))).getD []) else u) s
        let r := s1.relocate' table ((rows.zip m.slots).map fun x => (x.1, if home x.1 then RelocKind.base else .guest x.2))
        reply (put k { m with committed := some r.1, phase := .handover, came := came } r.2).forgetPriors
    | _, _ => s
  | .abort => match find true with
    | some (k, m) =>
      let t := s.emb' fun e => { e with moves := e.moves.del k }
      let t := if m.committed.isSome then
          (t.relocate' table (rows.map fun x => (x, (m.came.find? fun c => c.1 == x).elim .base fun c => .away c.2))).2.forgetPriors
        else t
      t.hand (.seat from_) 0x1A 0 (.shuffle (.rows table rows) seq .abortAck)
    | none => s.hand (.seat from_) 0x1A 0 (.shuffle (.rows table rows) seq .abortAck)

/-- The source of a row move is declared lost (R528): discarded in COPY; a handed-over move is committed. -/
def State.rowSourceLost (seat : Nat) (s : State) : State :=
  s.emb.moves.foldl (fun s e =>
    if e.2.dest ∧ e.2.seat = some seat ∧ e.2.committed.isNone then
      (s.emb' fun x => { x with moves := x.moves.del e.1 }).outcome 0x0072 sevAction 0xFF seat e.1
    else s) s

/-- The destination of a row move is declared lost: the source aborts it (R257). -/
def State.rowDestLost (seat : Nat) (s : State) : State :=
  s.emb.moves.foldl (fun s e => if !e.2.dest ∧ e.2.seat = some seat ∧ e.2.committed.isNone then
    if e.2.phase = .closed then s.emb' fun x => { x with moves := x.moves.del e.1 } else s.rowAbort e.1 e.2 false else s) s

/-- Repeats the messages of a row move that have not been acknowledged, each IDX_SHUF_RESEND after it was sent last (R257). -/
def rowResend (k : Nat) (s : State) : State :=
  match s.emb.moves.get k with
  | some m => match m.seat with
    | some seat =>
      let due (u : ShufUnacked) : Bool := s.past (u.sent + (s.reg Reg.IDX_SHUF_RESEND).toNat)
      let t := (m.unacked.filter due).foldl (fun t u => t.hand (.seat seat) 0x1A 0 (.shuffle (.rows m.table m.rows) u.seq u.msg)) s
      t.emb' fun e => { e with moves := e.moves.put k { m with unacked := m.unacked.map fun u => if due u then { u with sent := s.now } else u } }
    | none => s
  | none => s

/-- Runs a STACK_EMB command (Table 10.7); an undefined opcode completes with RANGE. -/
def embRun (seatOk : Nat → Bool) (slot op : Nat) (s : State) : State :=
  match op with
  | 1 => embCreateRun slot s
  | 2 => embDropRun slot s
  | 3 => rowMoveRun seatOk false slot s
  | 4 => rowMoveRun seatOk true slot s
  | 5 => rowCancelRun slot s
  | _ => s.slotDone .emb slot St.range

/-! ## Snapshots (R370) -/

def embTblSel (v : W32) (s : State) : State :=
  if !s.isRunning then s
  else
    let n := v.toNat % 1024
    let t := s.emb.tables.get n
    let f (g : EmbTable → Nat) : Nat := t.elim 0 g
    let u := (((s.setNat Reg.STACK_EMB_TBL_SEL n).setNat Reg.STACK_EMB_TBL_INFO (f fun t => 2 ^ 30 * t.state + 2 ^ 24 * t.shardBits + t.rowBytes)).setPair
      Reg.STACK_EMB_TBL_ROWS_LO (f EmbTable.rows)).setPair Reg.STACK_EMB_TBL_MP_LO (f EmbTable.milepost)
    (((u.setNat Reg.STACK_EMB_TBL_DROP_RANGE (f fun t => t.dropRange.toNat)).setNat Reg.STACK_EMB_TBL_DROP_MISSING (f fun t => t.dropMissing.toNat)).setNat
      Reg.STACK_EMB_TBL_MOVED (f fun t => t.moved.toNat)).setNat Reg.STACK_EMB_TBL_RELOC
        (s.emb.relocs.filter fun r => r.table == n && r.kind != .base).length

def embShardSel (v : W32) (s : State) : State :=
  if !s.isRunning then s
  else
    let n := v.toNat % 2 ^ 26
    let c := if s.emb.tables.has (n / 65536) then s.emb.shardLast.getD n (0, 0) else (0, 0)
    ((s.setNat Reg.STACK_EMB_SHARD_SEL n).setNat Reg.STACK_EMB_SHARD_READS (min (2 ^ 32 - 1) c.1)).setNat Reg.STACK_EMB_SHARD_WRITES (min (2 ^ 32 - 1) c.2)

def embHotSel (v : W32) (s : State) : State :=
  if !s.isRunning then s
  else
    let n := (v &&& 0x33F).toNat
    let e := ((s.emb.hotLast.getD (n / 256) [])[n % 64]?).getD ⟨0, 0, 0⟩
    (((s.setNat Reg.STACK_EMB_HOT_SEL n).setNat Reg.STACK_EMB_HOT_TABLE e.table).setPair Reg.STACK_EMB_HOT_ROW_LO e.row).setNat Reg.STACK_EMB_HOT_COUNT e.count

def embOwnSel (v : W32) (s : State) : State :=
  if !s.isRunning then s
  else
    let n := (v &&& 0xC000FFFF).toNat
    let l := s.emb.owners.getD n [0, 0, 0, 0]
    (((s.setNat Reg.STACK_EMB_OWN_SEL n).setNat Reg.STACK_EMB_OWN_DROP_RANGE (l.getD 0 0)).setNat Reg.STACK_EMB_OWN_DROP_MISSING (l.getD 1 0)).setNat
      Reg.STACK_EMB_OWN_MOVED (l.getD 2 0)

end Sys2Proof.Machine
end

