-- ==== Sys2Proof/Machine/RMap.lean ====
section
/-! DEFINITION. Routing maps as bytes: their fields, their checks, routes, shares, and the outcome of a request by its map milepost
(R434 to R441). -/

namespace Sys2Proof.Machine

/-- A share of a table (Table 12.7). -/
structure Share where
  lo : Nat
  hi : Nat
  mask : Nat
deriving DecidableEq, Repr

/-! ## Fields of a map -/

def mapTon (m : Bytes) : Nat := fieldAt m 2 2
def mapSeats (m : Bytes) : Nat := byteAt m 4
def mapDealer (m : Bytes) : Nat := byteAt m 5
def mapStandby (m : Bytes) : Nat := byteAt m 6
def mapRoles (m : Bytes) : Nat := byteAt m 7
def mapMp (m : Bytes) : Nat := fieldAt m 8 8
def mapTableCount (m : Bytes) : Nat := fieldAt m 16 4
def mapLen (m : Bytes) : Nat := fieldAt m 20 4
def seatAt (i : Nat) : Nat := 64 + 32 * i
def mapRole (m : Bytes) (i : Nat) : Nat := byteAt m (seatAt i)
def mapLive (m : Bytes) (i : Nat) : Bool := decide (i < mapSeats m) && bitOf (byteAt m (seatAt i + 1)) 0
def mapNode (m : Bytes) (i : Nat) : Nat := fieldAt m (seatAt i + 2) 2
def routeAt (m : Bytes) (i j : Nat) : Nat := 64 + 32 * mapSeats m + 4 * (i * mapSeats m + j)
/-- Primary and alternate route from seat `i` to seat `j`: the link, and the relay's link or 0xFF. -/
def mapRoute (m : Bytes) (i j : Nat) : List (Nat × Nat) :=
  let a := routeAt m i j
  [(byteAt m a, byteAt m (a + 1)), (byteAt m (a + 2), byteAt m (a + 3))]
def waymarkAt (m : Bytes) (r : Nat) : Nat := 64 + 32 * mapSeats m + 4 * mapSeats m * mapSeats m + 64 * r
/-- Expected waymark of a role (R450). -/
def mapWaymark (m : Bytes) (r : Nat) : Bytes := sliceAt m (waymarkAt m r) 64

/-- The table entries from an offset on: table and shares. -/
def readTables (m : Bytes) : Nat → Nat → List (Nat × List Share)
  | 0, _ => []
  | n + 1, off =>
    let k := byteAt m (off + 2)
    (fieldAt m off 2, (List.range k).map fun i =>
      let a := off + 8 + 16 * i
      ⟨fieldAt m a 2, fieldAt m (a + 2) 2, fieldAt m (a + 8) 8⟩) :: readTables m n (off + 8 + 16 * k)
def mapTables (m : Bytes) : List (Nat × List Share) := readTables m (mapTableCount m) (waymarkAt m (mapRoles m))
/-- Bytes that a map's counts give it. -/
def mapNeeds (m : Bytes) : Nat :=
  ((mapTables m).map fun t => 8 + 16 * t.2.length).foldl (· + ·) (waymarkAt m (mapRoles m))
/-- The shares of a table; none where the map has no entry for it. -/
def mapShares (m : Bytes) (table : Nat) : List Share := ((mapTables m).find? fun t => t.1 == table).elim [] Prod.snd

/-- h(k) of R258 and the share hash of R435. -/
def keyHash (k : Nat) : Nat := k * 0x9E3779B97F4A7C15 % 2 ^ 64
def shareHash (k : Nat) : Nat := keyHash k / 2 ^ 48

def Share.has (x : Share) (seat : Nat) : Bool := bitOf x.mask seat
/-- The lowest seat of a share. -/
def Share.first (x : Share) : Option Nat := (List.range 64).find? x.has

/-- Shares cover 0 to 65,535 once each (R435). -/
def sharesCover : List Share → Nat → Bool
  | [], next => next == 65536
  | x :: rest, next => decide (x.lo = next ∧ x.lo ≤ x.hi) && sharesCover rest (x.hi + 1)
def sharesOk (l : List Share) : Bool := sharesCover (sortBy (fun a b => decide (a.lo < b.lo)) l) 0

/-- The routes of a map between two seats are legal: links below 96, or none (R436, log 34). -/
def routeOk (m : Bytes) (i j : Nat) : Bool :=
  (mapRoute m i j).all fun r => decide ((r.1 < 96 ∧ (r.2 < 96 ∨ r.2 = 255)) ∨ (r.1 = 255 ∧ r.2 = 255))

/-- A map passes CHECK and every field lies in its range (R434 to R436); the milepost is checked apart. -/
def mapFieldsOk (m : Bytes) (ton : Nat) : Bool :=
  let n := mapSeats m
  decide (byteAt m 0 = 0 ∧ byteAt m 1 = 1 ∧ mapTon m = ton ∧ 1 ≤ n ∧ n ≤ 64 ∧ mapDealer m < n ∧ (mapStandby m < n ∨ mapStandby m = 255) ∧ mapRoles m ≤ 16
    ∧ mapTableCount m ≤ 1024 ∧ mapNeeds m ≤ m.length)
  && fieldAt m 60 4 == (crc32c (patch m 60 [0, 0, 0, 0])).toNat
  && (List.range n).all (fun i => decide (mapRole m i < max 1 (mapRoles m) ∧ mapNode m i < 65535))
  && (List.range n).all (fun i => (List.range n).all fun j => routeOk m i j)
  && (mapTables m).all (fun t => decide (t.1 < 1024 ∧ 1 ≤ t.2.length ∧ t.2.length ≤ 64) && sharesOk t.2)
  && decide ((mapTables m).map Prod.fst).Nodup

/-! ## The node's own place -/

/-- The configured seat (LINK_IDENT); `none` where the node is not seated. -/
def State.mySeat (s : State) : Option Nat :=
  let n := (s.reg Reg.LINK_IDENT).toNat % 256
  if n < 64 then some n else none
def State.myNode (s : State) : Nat := (s.reg Reg.LINK_IDENT).toNat / 65536
def State.myTon (s : State) : Nat := (s.reg Reg.LINK_TON).toNat % 65536
/-- SEAT of an answer: 0 outside a table of nodes (Table 5.2). -/
def State.answerSeat (s : State) : Nat := s.mySeat.getD 0
/-- Milepost of the current map, 0 before one is installed. -/
def State.mapNow (s : State) : Nat := s.ton.cur.elim 0 mapMp
/-- The node is the dealer: by its map, or before any map by its configured seat 0 (R437). -/
def State.isDealer (s : State) : Bool :=
  match s.ton.cur with
  | some m => s.mySeat == some (mapDealer m)
  | none => s.mySeat == some 0
def State.isStandby (s : State) : Bool := s.ton.cur.any fun m => s.mySeat == some (mapStandby m)
/-- The dealer's seat. -/
def State.dealerSeat (s : State) : Option Nat := s.ton.cur.map mapDealer
/-- A seat is named for a table by the current map (R252). -/
def State.seatNamed (s : State) (table seat : Nat) : Bool := s.ton.cur.any fun m => (mapShares m table).any fun x => x.has seat
/-- A seat of the current map other than the node's own. -/
def State.seatOther (s : State) (seat : Nat) : Bool := s.ton.cur.any fun m => decide (seat < mapSeats m) && s.mySeat != some seat

/-! ## Outcome by map milepost (R440) -/

/-- What a receiver does with a request. -/
inductive MapOutcome where
  | served
  | fails (status : Nat) (hint : Option Nat) (hintDealer : Bool)
deriving DecidableEq, Repr

/-- The shares of a table that an object covers: all of them for a query, the share of its key for an operation. -/
def objShares (m : Bytes) (table : Nat) (key : Option Nat) : List Share :=
  match key with
  | none => mapShares m table
  | some k => (mapShares m table).filter fun x => decide (x.lo ≤ shareHash k ∧ shareHash k ≤ x.hi)

/-- MOVED with its hint, or NOT_OWNER where no seat serves the object (R440). -/
def movedHint (cur prev : Bytes) (seat table : Nat) (key : Option Nat) : MapOutcome :=
  match minBy Share.lo ((objShares prev table key).filter fun x => x.has seat) with
  | none => .fails St.notOwner none false
  | some x =>
    match ((mapShares cur table).find? fun y => decide (y.lo ≤ x.lo ∧ x.lo ≤ y.hi)).bind Share.first with
    | some h => .fails St.moved (some h) false
    | none => .fails St.notOwner none false

/-- Outcome of a request for a table, or for the share of a key (R440). A map of the request's milepost that is held has been installed before. -/
def State.mapOutcome (s : State) (mp table : Nat) (key : Option Nat) : MapOutcome :=
  let seat := s.mySeat.getD 255
  let here (m : Bytes) : Bool := (objShares m table key).any fun x => x.has seat
  if s.mapNow < mp then .fails St.busy none false
  else match s.ton.cur with
    | none => .served
    | some cur =>
      if mp = s.mapNow then (if here cur then .served else .fails St.notOwner none false)
      else match s.ton.prev with
        | some prev =>
          if mp = mapMp prev then
            if here cur then .served
            else if s.now ≤ s.ton.installed + (s.reg Reg.LINK_GRACE).toNat && here prev then .served
            else movedHint cur prev seat table key
          else .fails St.moved (some (mapDealer cur)) true
        | none => .fails St.moved (some (mapDealer cur)) true

/-- Header flags and hint byte of a reply (R441): HINT_VALID bit 2, HINT_DEALER bit 3. -/
def MapOutcome.flags : MapOutcome → Nat
  | .fails _ (some _) d => 4 + 8 * b1 d
  | _ => 0
def MapOutcome.hint : MapOutcome → Nat
  | .fails _ (some h) _ => h
  | _ => 0

end Sys2Proof.Machine
end

