-- ==== Sys2Proof/Machine/IdxObj.lean ====
section
/-! DEFINITION. Objects of an index table as bytes: table descriptors and their checks, centroids, list directory, list images, tombstones,
wayside lists, rows, and the key map (R99 to R131, R236). -/

namespace Sys2Proof.Machine

/-! ## Table descriptor (R102, R103) -/
namespace TableGen

def metric (g : TableGen) : Nat := byteAt g.desc 3
def dim (g : TableGen) : Nat := fieldAt g.desc 4 2
def codeType (g : TableGen) : Nat := byteAt g.desc 6
def pqM (g : TableGen) : Nat := byteAt g.desc 7
def codeBytes (g : TableGen) : Nat := fieldAt g.desc 8 2
def fvFormat (g : TableGen) : Nat := byteAt g.desc 10
def residual (g : TableGen) : Bool := bitOf (byteAt g.desc 11) 0
def fvFlash (g : TableGen) : Bool := bitOf (byteAt g.desc 11) 1
def mapFlash (g : TableGen) : Bool := bitOf (byteAt g.desc 11) 2
def lists (g : TableGen) : Nat := fieldAt g.desc 12 4
def attrCols (g : TableGen) : Nat := fieldAt g.desc 16 2
def fvBytes (g : TableGen) : Nat := fieldAt g.desc 18 2
def wayCap (g : TableGen) : Nat := fieldAt g.desc 20 2
def tsCap (g : TableGen) : Nat := fieldAt g.desc 22 2
def mapBits (g : TableGen) : Nat := byteAt g.desc 44
def pdCentroids (g : TableGen) : Nat := fieldAt g.desc 48 4
def pdCodebook (g : TableGen) : Nat := fieldAt g.desc 52 4
def pdListdir (g : TableGen) : Nat := fieldAt g.desc 56 4
def pdLists (g : TableGen) : Nat := fieldAt g.desc 60 4
def pdAttr (g : TableGen) : Nat := fieldAt g.desc 64 4
def pdFv (g : TableGen) : Nat := fieldAt g.desc 68 4
def pdKeymap (g : TableGen) : Nat := fieldAt g.desc 72 4
def columns (g : TableGen) : List Column := (List.range g.attrCols).map fun i => readColumn (sliceAt g.cols (16 * i) 16)
/-- Placement descriptors a table names. -/
def pds (g : TableGen) : List Nat := [g.pdCentroids, g.pdCodebook, g.pdListdir, g.pdLists, g.pdAttr, g.pdFv, g.pdKeymap].filter (· != 0)
/-- Those that one object fills alone; the list pool is shared by addresses. -/
def pdsAlone (g : TableGen) : List Nat := [g.pdCentroids, g.pdCodebook, g.pdListdir, g.pdAttr, g.pdFv, g.pdKeymap].filter (· != 0)
def isPq (g : TableGen) : Bool := decide (g.codeType < 2)
/-- Row stride of the centroid matrix (R112). -/
def centroidStride (g : TableGen) : Nat := (2 * g.dim + 63) / 64 * 64
/-- Bytes of each object (Table 3.6). -/
def centroidBytes (g : TableGen) : Nat := g.lists * (g.centroidStride + 4)
def bookBytes (g : TableGen) : Nat :=
  match g.codeType with
  | 0 => 512 * g.dim | 1 => 32 * g.dim | 2 => 8 * g.dim | _ => 0
def mapBytes (g : TableGen) : Nat := 64 * 2 ^ g.mapBits
/-- Strip size S, and record size W (R115, R121). -/
def strip (g : TableGen) : Nat := 64 * g.codeBytes + 768
def wayRec (g : TableGen) : Nat := 64 * ((32 + g.codeBytes + 63) / 64)
/-- Lines before the tombstone records' first line, and before the wayside list, of an image of `strips` strips (R117, R236). -/
def tsLine (g : TableGen) (strips : Nat) : Nat := 1 + strips * (g.strip / 64)
def recLine (g : TableGen) (strips : Nat) : Nat := g.tsLine strips + (strips + 3) / 4
def wayLine (g : TableGen) (strips : Nat) : Nat := g.recLine strips + (g.tsCap + 3) / 4
/-- Bytes of a wayside list, and of an image of `n` slots with its tombstone area and wayside list. -/
def wayBytes (g : TableGen) : Nat := 64 + g.wayCap * g.wayRec
def imageBytes (g : TableGen) (n : Nat) : Nat := 64 * g.wayLine ((n + 63) / 64) + g.wayBytes
/-- Bytes a list takes in the pool: its image, or where it has none its wayside list alone (R136). -/
def listBytes (g : TableGen) (n : Option Nat) : Nat := n.elim g.wayBytes g.imageBytes

end TableGen

/-- A table that a descriptor and columns describe, before anything is committed. -/
def genOf (desc cols : Bytes) : TableGen := ⟨desc, cols, 0, fieldAt desc 40 4, [], 0, []⟩

/-- CODE_BYTES of Table 3.5, and whether the code type suits the dimension and m. -/
def codeOk (g : TableGen) : Bool :=
  let m := g.pqM
  let pm := decide (m = 8 ∨ m = 16 ∨ m = 32 ∨ m = 64 ∨ m = 128) && decide (g.dim % m = 0)
  match g.codeType with
  | 0 => pm && g.codeBytes == m
  | 1 => pm && g.codeBytes == m / 2
  | 2 => g.codeBytes == g.dim && m == 0
  | 3 => decide (g.dim % 64 = 0) && g.codeBytes == g.dim / 8 && m == 0
  | _ => false

/-- The tier of a placement descriptor, 0 where there is none. -/
def State.tierOf (s : State) (n : Nat) : Nat := (s.pds.get n).elim 0 PlaceDesc.tier
def State.pdLen (s : State) (n : Nat) : Nat := (s.pds.get n).elim 0 PlaceDesc.length

/-- A descriptor's fields are out of range, or combined as R105 to R111 refuse. -/
def State.descBad (s : State) (g : TableGen) (id : Nat) : Bool :=
  let fvb := match g.fvFormat with | 0 => 0 | 4 => 2 * g.dim | _ => g.dim
  decide (fieldAt g.desc 0 2 ≠ id ∨ 3 < g.metric ∨ g.dim < 16 ∨ 8192 < g.dim ∨ g.dim % 16 ≠ 0 ∨ 4 < g.fvFormat ∨ g.lists = 0 ∨ 2 ^ 24 < g.lists
    ∨ 32 < g.attrCols ∨ g.fvBytes ≠ fvb ∨ g.wayCap < 64 ∨ 32768 < g.wayCap ∨ g.tsCap < 64 ∨ 32768 < g.tsCap ∨ g.mapBits < 10 ∨ 34 < g.mapBits)
  || !codeOk g || (g.metric == 3) != (g.codeType == 3) || (g.residual && g.codeType == 3) || (g.metric == 3 && g.fvFormat != 0)
  || fieldAt g.desc 124 4 != (crc32c (patch (patch (g.desc.take 124) 2 [0]) 24 (List.replicate 20 0))).toNat
  || g.columns.any (fun c => decide (9 < c.typ ∨ c.width ≠ colWidth c.typ))
  || (g.codeType == 3 && g.pdCodebook != 0) || (g.attrCols == 0 && g.pdAttr != 0) || (g.fvFormat == 0 && g.pdFv != 0)
  || s.tierOf g.pdCentroids != 1 || (g.codeType != 3 && s.tierOf g.pdCodebook != 1) || s.tierOf g.pdListdir != 1 || s.tierOf g.pdLists != 1
  || (g.attrCols != 0 && s.tierOf g.pdAttr != 1) || (g.fvFormat != 0 && s.tierOf g.pdFv != (if g.fvFlash then 2 else 1))
  || s.tierOf g.pdKeymap != (if g.mapFlash then 2 else 1)

/-! ## Centroids, codebook (R112, R107, R108) -/

def State.objOf (s : State) (n off len : Nat) : Bytes := (s.pds.get n).elim [] fun d => s.anyRead d off len
/-- Writes bytes of an object in either tier; in flash page by page (R126). -/
def State.objPut (n off : Nat) (b : Bytes) (s : State) : State :=
  match s.pds.get n with
  | none => s
  | some d =>
    if d.tier = 2 then
      (List.range ((b.length + 4095) / 4096)).foldl (fun s i => match d.addr (off + 4096 * i) with
        | some a => s.flashStore a ((b.drop (4096 * i)).take 4096)
        | none => s) s
    else { s with smem := d.store off b s.smem }

/-- Centroid of a list, widened to FP32, and its stored squared norm (R112). -/
def State.centroid (s : State) (g : TableGen) (l : Nat) : List W32 := vecVals 1 g.dim (s.objOf g.pdCentroids (l * g.centroidStride) (2 * g.dim))
def State.norm (s : State) (g : TableGen) (l : Nat) : W32 := w32 (leNat (s.objOf g.pdCentroids (g.lists * g.centroidStride + 4 * l) 4))
/-- How the codes of a table are read. -/
def State.coding (s : State) (g : TableGen) : Coding :=
  ⟨g.metric, g.codeType, g.pqM, g.dim, g.residual, s.objOf g.pdCodebook 0 g.bookBytes⟩

/-! ## List directory (R113) -/

structure DirEntry where
  image : Nat
  way : Nat
  milepost : Nat
  entries : Nat
  state : Nat
deriving DecidableEq, Repr

def State.dirEntry (s : State) (g : TableGen) (l : Nat) : DirEntry :=
  let b := s.objOf g.pdListdir (32 * l) 32
  ⟨fieldAt b 0 8, fieldAt b 8 8, fieldAt b 16 8, fieldAt b 24 4, byteAt b 28⟩
def State.setDir (g : TableGen) (l : Nat) (e : DirEntry) (s : State) : State :=
  s.objPut g.pdListdir (32 * l) (leBytes 8 e.image ++ leBytes 8 e.way ++ leBytes 8 e.milepost ++ leBytes 4 e.entries ++ leBytes 4 e.state)

/-! ## List images (R114 to R120) -/

/-- An entry of a list: key, row and code. -/
structure Entry where
  key : Nat
  row : Nat
  code : Bytes
deriving DecidableEq, Repr

abbrev emptyKey : Nat := 0xFFFFFFFFFFFFFFFF
abbrev noRow : Nat := 0xFFFFFFFF
def emptySlot (c : Nat) : Entry := ⟨emptyKey, noRow, List.replicate c 0⟩

def State.sAt (s : State) (a off len : Nat) : Nat := leNat (Mem.readBytes s.smem (a + off) len)
def State.sPut (a : Nat) (b : Bytes) (s : State) : State := { s with smem := Mem.writeBytes s.smem a b }

def State.imgMp (s : State) (a : Nat) : Nat := s.sAt a 8 8
def State.imgEntries (s : State) (a : Nat) : Nat := s.sAt a 16 4
def State.imgStrips (s : State) (a : Nat) : Nat := s.sAt a 20 4
def State.tsCount (s : State) (a : Nat) : Nat := s.sAt a 36 4
def State.imgPrev (s : State) (a : Nat) : Nat := s.sAt a 40 8

/-- Slot `i` of the image at an address (R115). -/
def State.slotEntry (s : State) (g : TableGen) (a i : Nat) : Entry :=
  let b := a + 64 + i / 64 * g.strip
  let c := g.codeBytes
  ⟨s.sAt b (64 * c + 8 * (i % 64)) 8, s.sAt b (64 * c + 512 + 4 * (i % 64)) 4, Mem.readBytes s.smem (b + i % 64 * c) c⟩

/-- A strip of 64 slots as bytes (R115). -/
def stripBytes (es : List Entry) : Bytes :=
  es.flatMap Entry.code ++ es.flatMap (fun e => leBytes 8 e.key) ++ es.flatMap (fun e => leBytes 4 e.row)

/-- Address of an image's wayside list (R236). -/
def State.wayOf (s : State) (g : TableGen) (a : Nat) : Nat := a + 64 * g.wayLine (s.imgStrips a)

/-- An empty wayside list (R121). -/
def TableGen.emptyWay (g : TableGen) (table list : Nat) : Bytes :=
  leBytes 4 0 ++ leBytes 2 g.wayCap ++ leBytes 2 g.wayRec ++ leBytes 4 list ++ leBytes 2 table ++ List.replicate (50 + g.wayCap * g.wayRec) 0

/-- Writes an image of entries with an empty tombstone area and wayside list at an address (R114, R115, R117, R121, R236). -/
def State.writeImage (g : TableGen) (table list mp prev a : Nat) (es : List Entry) (s : State) : State :=
  let strips := (es.length + 63) / 64
  let full := es ++ List.replicate (64 * strips - es.length) (emptySlot g.codeBytes)
  let h1 := leBytes 1 0 ++ leBytes 1 1 ++ leBytes 2 table ++ leBytes 4 list ++ leBytes 8 mp ++ leBytes 4 es.length ++ leBytes 4 strips
    ++ leBytes 2 g.codeBytes ++ leBytes 2 0
  let h2 := leBytes 4 (g.tsLine strips) ++ leBytes 4 g.tsCap ++ leBytes 4 0
  let h3 := leBytes 8 prev ++ List.replicate 12 0
  let hdr := h1 ++ h2 ++ h3 ++ leBytes 4 (crc32c (h1 ++ h3)).toNat
  let body := (chunks 64 strips full).flatMap stripBytes
  let ts := List.replicate (64 * (g.wayLine strips - g.tsLine strips)) (0 : Byte)
  s.sPut a (hdr ++ body ++ ts ++ g.emptyWay table list)

/-- Tombstone word of strip `j`: bits and NEWEST (R117). -/
def State.tsWord (s : State) (g : TableGen) (a j : Nat) : Nat × Nat :=
  let o := 64 * g.tsLine (s.imgStrips a) + 16 * j
  (s.sAt a o 8, s.sAt a (o + 8) 8)
/-- Tombstone record `r`: slot and commit milepost. -/
def State.tsRec (s : State) (g : TableGen) (a r : Nat) : Nat × Nat :=
  let o := 64 * g.recLine (s.imgStrips a) + 16 * r
  (s.sAt a o 4, s.sAt a (o + 8) 8)

/-- pending(p) of R120 over the records below `n`, newest first. -/
def State.tsPending (s : State) (g : TableGen) (a p : Nat) : Nat → List Nat
  | 0 => []
  | n + 1 =>
    let r := s.tsRec g a n
    if r.2 ≤ p then [] else r.1 :: State.tsPending s g a p n

/-- hidden(slot, p) of R120. -/
def State.hidden (s : State) (g : TableGen) (a i p : Nat) : Bool :=
  let w := s.tsWord g a (i / 64)
  if !bitOf w.1 (i % 64) then false
  else if w.2 ≤ p then true
  else !(s.tsPending g a p (s.tsCount a)).contains i
/-- A strip whose records a scan pinned at `p` reads (R120). -/
def State.tsConsults (s : State) (g : TableGen) (a j p : Nat) : Bool :=
  let w := s.tsWord g a j
  w.1 != 0 && decide (p < w.2)

/-- A delete of an image entry at a milepost: the record, TS_COUNT, the strip's word (R118). -/
def State.tombstone (g : TableGen) (a i mp : Nat) (s : State) : State :=
  let n := s.tsCount a
  let st := s.imgStrips a
  let w := s.tsWord g a (i / 64)
  let bits := if bitOf w.1 (i % 64) then w.1 else w.1 + 2 ^ (i % 64)
  ((s.sPut (a + 64 * g.recLine st + 16 * n) (leBytes 4 i ++ leBytes 4 0 ++ leBytes 8 mp)).sPut (a + 36) (leBytes 4 (n + 1))).sPut
    (a + 64 * g.tsLine st + 16 * (i / 64)) (leBytes 8 bits ++ leBytes 8 (max w.2 mp))

/-! ## Wayside lists (R121 to R123) -/

/-- A wayside record. -/
structure WayRec where
  entry : Entry
  inserted : Nat
  deleted : Nat
deriving DecidableEq, Repr

abbrev never : Nat := 0xFFFFFFFFFFFFFFFF

def State.wayCount (s : State) (w : Nat) : Nat := s.sAt w 0 4
def State.wayRecord (s : State) (g : TableGen) (w r : Nat) : WayRec :=
  let a := w + 64 + r * g.wayRec
  ⟨⟨s.sAt a 0 8, s.sAt a 8 4, Mem.readBytes s.smem (a + 32) g.codeBytes⟩, s.sAt a 16 8, s.sAt a 24 8⟩
def State.wayRecords (s : State) (g : TableGen) (w : Nat) : List WayRec := (List.range (s.wayCount w)).map (s.wayRecord g w)

/-- An insert's record and COUNT (R122). -/
def State.wayInsert (g : TableGen) (w mp : Nat) (e : Entry) (s : State) : State :=
  let n := s.wayCount w
  let r := leBytes 8 e.key ++ leBytes 4 e.row ++ leBytes 4 0 ++ leBytes 8 mp ++ leBytes 8 never ++ sliceAt e.code 0 g.codeBytes
  (s.sPut (w + 64 + n * g.wayRec) (r ++ List.replicate (g.wayRec - r.length) 0)).sPut w (leBytes 4 (n + 1))
/-- A delete of a wayside record (R122). -/
def State.wayDelete (g : TableGen) (w r mp : Nat) (s : State) : State := s.sPut (w + 64 + r * g.wayRec + 24) (leBytes 8 mp)

/-- A record is visible at `p` beside an image of milepost `m` (R123). -/
def WayRec.visible (r : WayRec) (m p : Nat) : Bool := decide (m < r.inserted ∧ r.inserted ≤ p ∧ p < r.deleted)

/-- The first image along the PREV_ADDR chain with MILEPOST at or below `p` (R123, R164). -/
def State.imageAt (s : State) (p : Nat) : Nat → Nat → Option Nat
  | 0, _ => none
  | fuel + 1, a => if a = 0 then none else if s.imgMp a ≤ p then some a else State.imageAt s p fuel (s.imgPrev a)

/-- Entries of an image visible at `p`: image slots in slot order, then wayside records in record order (R123, R238). -/
def State.visibleAt (s : State) (g : TableGen) (a p : Nat) : List (Entry × Bool) :=
  ((List.range (s.imgEntries a)).filterMap fun i =>
    let e := s.slotEntry g a i
    if e.key = emptyKey ∨ s.hidden g a i p then none else some (e, false))
  ++ ((s.wayRecords g (s.wayOf g a)).filterMap fun r => if r.visible (s.imgMp a) p then some (r.entry, true) else none)

/-! ## Rows (R124 to R126) -/

/-- Rows that the attribute columns' extent holds, each column over as many rows, in descriptor order (log 9). -/
def State.attrRows (s : State) (g : TableGen) : Nat :=
  let w := (g.columns.map Column.width).foldl (· + ·) 0
  if w = 0 then noRow else s.pdLen g.pdAttr / w / 64 * 64
def colBefore (cs : List Column) (k : Nat) : Nat := ((cs.take k).map Column.width).foldl (· + ·) 0
/-- Byte of row `r` of column `k` in the columns' extent (R124, log 9). -/
def State.attrAt (s : State) (g : TableGen) (k r : Nat) : Nat := s.attrRows g * colBefore g.columns k + r * ((g.columns.getD k ⟨0, 1, 0⟩).width)

/-- Rows that the full vectors' extent holds. -/
def State.fvRows (s : State) (g : TableGen) : Nat :=
  if g.fvFormat = 0 then noRow
  else
    let n := s.pdLen g.pdFv
    if !g.fvFlash then n / g.fvBytes
    else if g.fvBytes ≤ 4096 then n / 4096 * (4096 / g.fvBytes)
    else n / ((g.fvBytes + 4095) / 4096 * 4096)
/-- Rows the extents hold, and the last row index a key may take (R222). -/
def State.rowRoom (s : State) (g : TableGen) : Nat := min (s.attrRows g) (s.fvRows g)

/-- Value of column `k` of a row: NULL for no row and beyond ROWS (R124). -/
def State.attrValue (s : State) (g : TableGen) (k r : Nat) : Nat :=
  let c := g.columns.getD k ⟨0, 1, 0⟩
  if g.rows ≤ r then c.null else leNat (s.objOf g.pdAttr (s.attrAt g k r) c.width)

/-- A read at or beyond ROWS that is counted (R124). -/
def rowBeyond (g : TableGen) (r : Nat) : Bool := r != noRow && decide (g.rows ≤ r)

/-- A filter program on a row. -/
def State.rowPasses (s : State) (g : TableGen) (f : List FNode) (r : Nat) : Bool :=
  filterPass (fun n => predicate (g.columns.getD n.arg ⟨0, 1, 0⟩) n (s.attrValue g n.arg r)) f

/-- Full vector bytes of a row. -/
def State.fvRead (s : State) (g : TableGen) (r : Nat) : Bytes := s.objOf g.pdFv (rowOffset g.fvFlash g.fvBytes r) g.fvBytes
/-- A full vector's read from flash goes over the internal path (R178, R385). -/
def State.fvFetch (g : TableGen) (r : Nat) (s : State) : State :=
  if g.fvFlash then ((s.pds.get g.pdFv).bind fun d => d.addr (rowOffset g.fvFlash g.fvBytes r)).elim s fun a => s.internalRead a else s
/-- Writes attribute values and full vector of a row (R225). -/
def State.rowStore (g : TableGen) (r : Nat) (attrs : List Bytes) (fv : Bytes) (s : State) : State :=
  let t := (List.range g.attrCols).foldl (fun t k =>
    t.objPut g.pdAttr (t.attrAt g k r) (sliceAt (attrs.getD k []) 0 ((g.columns.getD k ⟨0, 1, 0⟩).width))) s
  if g.fvFormat = 0 then t else t.objPut g.pdFv (rowOffset g.fvFlash g.fvBytes r) (sliceAt fv 0 g.fvBytes)
/-- Attribute values of a row as bytes, in column order. -/
def State.rowAttrs (s : State) (g : TableGen) (r : Nat) : List Bytes :=
  (List.range g.attrCols).map fun k => leBytes ((g.columns.getD k ⟨0, 1, 0⟩).width) (s.attrValue g k r)

/-! ## Key map (R127, R128) -/

/-- Entry `i` of the map, by 4 x bucket + place: key, list, state. -/
def State.mapEntry (s : State) (g : TableGen) (i : Nat) : Nat × Nat × Nat :=
  let b := s.objOf g.pdKeymap (16 * i) 16
  (fieldAt b 0 8, fieldAt b 8 4 % 2 ^ 24, byteAt b 12)
def State.setMap (g : TableGen) (i key list st : Nat) (s : State) : State :=
  s.objPut g.pdKeymap (16 * i) (leBytes 8 key ++ leBytes 4 (list % 2 ^ 24) ++ leBytes 1 st ++ List.replicate 3 0)
def homeBucket (g : TableGen) (key : Nat) : Nat := keyHash key / 2 ^ (64 - g.mapBits)

/-- The walk of R127 over at most `n` buckets from bucket `k`: the live entry of the key, and the first place free for a new key. -/
def State.mapWalk (s : State) (g : TableGen) (key : Nat) : Nat → Nat → Option Nat → Option Nat × Option Nat
  | 0, _, free => (none, free)
  | n + 1, k, free =>
    let places := (List.range 4).map fun j => 4 * (k % 2 ^ g.mapBits) + j
    match places.find? fun i => let e := s.mapEntry g i; e.2.2 == 1 && e.1 == key with
    | some i => (some i, free)
    | none =>
      let free := free.orElse fun _ => places.find? fun i => (s.mapEntry g i).2.2 != 1
      if places.any fun i => (s.mapEntry g i).2.2 == 0 then (none, free) else State.mapWalk s g key n (k + 1) free

/-- The list that holds a live key. -/
def State.keyList (s : State) (g : TableGen) (key : Nat) : Option Nat :=
  (s.mapWalk g key (2 ^ g.mapBits) (homeBucket g key) none).1.map fun i => (s.mapEntry g i).2.1

/-- Writes a key's entry, new or changed (R127, R128). -/
def State.mapPut (g : TableGen) (key list : Nat) (s : State) : State :=
  match s.mapWalk g key (2 ^ g.mapBits) (homeBucket g key) none with
  | (some i, _) => s.setMap g i key list 1
  | (none, some i) => s.setMap g i key list 1
  | (none, none) => s
/-- Vacates a key's entry. -/
def State.mapDrop (g : TableGen) (key : Nat) (s : State) : State :=
  match (s.mapWalk g key (2 ^ g.mapBits) (homeBucket g key) none).1 with
  | some i => s.setMap g i key (s.mapEntry g i).2.1 2
  | none => s

/-! ## The list pool -/

/-- Bytes `a` to `a + n` overlap an allocation. -/
def poolTaken (pool : Tbl Nat) (a n : Nat) : Option (Nat × Nat) := pool.find? fun e => decide (e.1 < a + n ∧ a < e.1 + e.2)

/-- The lowest place for `n` bytes from `a` up to `hi`, past the allocations met. -/
def poolSeek (pool : Tbl Nat) (n hi : Nat) : Nat → Nat → Option Nat
  | 0, _ => none
  | fuel + 1, a =>
    if hi < a + n then none
    else match poolTaken pool a n with
      | none => some a
      | some e => poolSeek pool n hi fuel ((e.1 + e.2 + 63) / 64 * 64)

/-- A place for `n` bytes in the pool's extents, in order, on one stack where one is named (R238, R251; the choice of place is the model's, log 9). -/
def State.poolPlace (s : State) (g : TableGen) (stack : Option Nat) (n : Nat) : Option Nat :=
  match s.pds.get g.pdLists with
  | none => none
  | some d =>
    (d.extents.filter fun e => stack.all (· == stackOf e.addr)).findSome? fun e =>
      poolSeek s.idx.pool n (e.addr + e.bytes) (s.idx.pool.length + 1) e.addr

def State.idx' (f : IdxSt → IdxSt) (s : State) : State := { s with idx := f s.idx }
def State.poolTake (a n : Nat) (s : State) : State := s.idx' fun x => { x with pool := x.pool.put a n }
def State.poolGive (a : Nat) (s : State) : State := s.idx' fun x => { x with pool := x.pool.del a }

/-- A list gets an image: the wayside list that it had without one is freed (R136, R236). -/
def State.dropLoneWay (e : DirEntry) (s : State) : State := if e.image = 0 ∧ e.way ≠ 0 then s.poolGive e.way else s

/-- What a list keeps in the pool: its image with all that belongs to it, or its wayside list alone. -/
def DirEntry.place (e : DirEntry) : Nat := if e.image = 0 then e.way else e.image

/-- Places for a list of images, each taken before the next is sought. -/
def State.poolPlaces (g : TableGen) : List Nat → State → Option (List Nat × State)
  | [], s => some ([], s)
  | n :: rest, s =>
    match s.poolPlace g none n with
    | none => none
    | some a => match State.poolPlaces g rest (s.poolTake a n) with
      | none => none
      | some r => some (a :: r.1, r.2)

end Sys2Proof.Machine
end

