-- ==== Sys2Proof/Machine/Upd.lean ====
section
/-! DEFINITION. Update descriptors, the commit unit's groups, and publication (R217 to R233), with the triggers of merges (R232, R237). -/

namespace Sys2Proof.Machine

/-! ## Tables, keys and counters -/

def State.tbl (s : State) (t : Nat) : Option IdxTable := s.idx.tables.get t
def State.setTbl (t : Nat) (x : IdxTable) (s : State) : State := s.idx' fun i => { i with tables := i.tables.put t x }
def State.modTbl (t : Nat) (f : IdxTable → IdxTable) (s : State) : State := s.idx' fun i => { i with tables := i.tables.modify t f }
/-- A table about to change: the state and milepost that an admission of this SCLK cycle goes by (R133). -/
def IdxTable.marked (cycle : Nat) (t : IdxTable) : IdxTable :=
  { t with before := match t.before with
      | some b => if b.1 = cycle then some b else some (cycle, t.state, t.milepost)
      | none => some (cycle, t.state, t.milepost) }
/-- The state and milepost of a table for an admission in an SCLK cycle: those before a change of the same cycle (R133). -/
def IdxTable.admits (cycle : Nat) (t : IdxTable) : Nat × Nat :=
  match t.before with
  | some b => if b.1 = cycle then b.2 else (t.state, t.milepost)
  | none => (t.state, t.milepost)

/-- State code of a table; FREE where there is none (Table 3.10). -/
def State.tblState (s : State) (t : Nat) : Nat := (s.tbl t).elim 0 IdxTable.state

/-- Keys that R101 counts: visible keys of LIVE, DROPPING and REPLACING tables, and keys reserved. -/
def State.keyCount (s : State) : Nat :=
  (s.idx.tables.vals.map fun t => (if 3 ≤ t.state then t.keys else 0) + t.loading.elim 0 Loading.keys).foldl (· + ·) 0

/-- The catalogue's own registers (Table 3.13). -/
def State.showIdx (s : State) : State :=
  (s.setNat Reg.IDX_TABLES_LIVE (s.idx.tables.vals.filter fun t => t.state == 3 || t.state == 5).length).setPair Reg.IDX_KEYS_LO s.keyCount

/-- A tenant is permitted on a table (R160, Table 4.7). -/
def State.tenantTable (s : State) (tenant table : Nat) : Bool :=
  (s.cfg.tenantTables.get tenant).any fun b => bitOf (byteAt b (table / 8)) (table % 8)

/-- A configuration field by register, instance and lowest bit (R160). -/
def State.cfgField (s : State) (reg inst lsb d : Nat) : Nat :=
  (s.cfg.fields.find? fun r => r.reg == reg && r.inst == inst && r.lsb == lsb).elim d fun r => leNat r.value

/-! ## Merges in progress (R237, R250) -/

def State.mergeOf (s : State) (table list : Nat) : Option ListMerge := s.idx.merges.find? fun m => m.table == table && m.list == list
def State.moveOf (s : State) (table list : Nat) : Option (Nat × ListMove) :=
  s.idx.moves.find? fun m => m.2.table == table && m.2.list == list && (m.2.committed.isNone || !m.2.dest) && m.2.phase != .closed
/-- A list has a merge or a move in progress (R250). -/
def State.listBusy (s : State) (table list : Nat) : Bool := (s.mergeOf table list).isSome || (s.moveOf table list).isSome

/-- A merge is triggered; a list that already has one keeps it, made urgent where the new trigger is (R237, R250). -/
def State.triggerMerge (table list : Nat) (stack : Option Nat) (urgent : Bool) (slot : Option Nat) (s : State) : State :=
  if (s.moveOf table list).isSome then s
  else match s.mergeOf table list with
    | some m =>
      let now := urgent && !m.urgent && m.running.isNone
      (s.idx' fun i => { i with merges := i.merges.map fun x => if x == m then { x with urgent := x.urgent || now } else x }).bumpIf now Reg.IDX_MERGES_URGENT
    | none =>
      let t := s.idx' fun i => { i with
        merges := i.merges ++ [⟨table, list, stack, urgent, i.nextOrder, slot, none, none⟩], nextOrder := i.nextOrder + 1 }
      t.bumpIf urgent Reg.IDX_MERGES_URGENT

/-- Merges that a list's COUNT and TS_COUNT call for (R237). -/
def State.mergeCheck (table : Nat) (g : TableGen) (list : Nat) (s : State) : State :=
  let e := s.dirEntry g list
  if e.image = 0 then s
  else
    let pct := (s.reg Reg.IDX_MERGE_CFG).toNat
    let way := (g.wayCap * (pct / 256 % 256) + 99) / 100
    let ts := (g.tsCap * (pct % 256) + 99) / 100
    if way ≤ s.wayCount e.way ∨ ts ≤ s.tsCount e.image then s.triggerMerge table list none false none else s

/-! ## Operation records (R219, R220) -/

def opCode (r : Bytes) : Nat := byteAt r 0
def opListGiven (r : Bytes) : Bool := bitOf (byteAt r 1) 0
def opCodeGiven (r : Bytes) : Bool := bitOf (byteAt r 1) 1
def opList (r : Bytes) : Nat := fieldAt r 4 4 % 2 ^ 24
def opKey (r : Bytes) : Nat := fieldAt r 8 8
def pad16 (n : Nat) : Nat := (n + 15) / 16 * 16
def attrSection (g : TableGen) : Nat := (g.columns.map Column.width).foldl (· + ·) 0
/-- The vector section is present (R220). -/
def hasVector (g : TableGen) (r : Bytes) : Bool := !(opCodeGiven r && opListGiven r && g.fvFormat == 0)
/-- Bytes of the vector section; none are needed of a format that is not defined (log 27). -/
def vecSection (g : TableGen) (fmt : Nat) (r : Bytes) : Nat := if hasVector g r ∧ fmt ≤ 3 then vecBytes fmt g.dim else 0
/-- Bytes that a record needs (R220): an INSERT or UPDATE its sections, any other its head alone. -/
def recNeeds (g : TableGen) (fmt : Nat) (r : Bytes) : Nat :=
  if opCode r ≠ 1 ∧ opCode r ≠ 2 then 16
  else 16 + pad16 (attrSection g) + pad16 (vecSection g fmt r) + (if opCodeGiven r then pad16 g.codeBytes else 0)
def recAttrs (g : TableGen) (r : Bytes) : List Bytes :=
  (List.range g.attrCols).map fun k => sliceAt r (16 + colBefore g.columns k) ((g.columns.getD k ⟨0, 1, 0⟩).width)
def recVector (g : TableGen) (fmt : Nat) (r : Bytes) : Bytes := sliceAt r (16 + pad16 (attrSection g)) (vecSection g fmt r)
def recCode (g : TableGen) (fmt : Nat) (r : Bytes) : Bytes :=
  sliceAt r (16 + pad16 (attrSection g) + pad16 (vecSection g fmt r)) g.codeBytes

/-- The walk over the records (R221): the records located, and whether it ended at a record that gives no start for the next. -/
def walkRecords (b : Bytes) : Nat → Nat → List Bytes × Bool
  | 0, _ => ([], false)
  | n + 1, off =>
    if b.length ≤ off then ([], false)
    else
      let k := fieldAt b (off + 2) 2
      let r := sliceAt b off (max 16 k)
      if k = 0 ∨ k % 16 ≠ 0 then ([r], true)
      else
        let x := walkRecords b n (off + k)
        (r :: x.1, x.2)

/-- The checks of R221 on a descriptor of `fmt` = VEC_FORMAT, for a table's objects where it has any. -/
def State.updChecks (s : State) (b : Bytes) : Nat × List Bytes :=
  let table := fieldAt b 2 2
  let desc := fieldAt b 4 4
  let tenant := fieldAt b 8 2
  let ops := fieldAt b 10 2
  let fmt := byteAt b 13
  let w := walkRecords (b.take desc) (min ops 257) 64
  let g := if s.tblState table = 0 then none else (s.tbl table).map IdxTable.gen
  let bad16 (r : Bytes) : Bool := fieldAt r 2 2 == 0 || decide (fieldAt r 2 2 % 16 ≠ 0)
  let needs (r : Bytes) : Nat := match g with | some g => recNeeds g fmt r | none => 16
  let total := (w.1.map fun r => fieldAt r 2 2).foldl (· + ·) 64
  let keys := w.1.map opKey
  (r21 [(!s.tenantConfigured tenant || (decide (table ≤ 1023) && !s.tenantTable tenant table), St.denied),
    (byteAt b 1 != 1 || decide (0 < byteAt b 0), St.version),
    (decide (256 < ops) || decide (desc < total) || (!w.2 && decide (w.1.length < min ops 257))
      || (w.1.any fun r => !bad16 r && decide (fieldAt r 2 2 < needs r)), St.length),
    (decide (1023 < table) || decide (3 < fmt)
      || w.1.any (fun r => decide (opCode r = 0 ∨ 3 < opCode r) || bad16 r || opKey r == emptyKey
        || (opListGiven r && g.any fun g => decide (g.lists ≤ opList r)))
      || (g.any fun g => w.1.any fun r => !bad16 r && (opCode r == 1 || opCode r == 2) && hasVector g r
        && (!vecFormatOk g.metric fmt || vecNotFinite fmt g.dim (recVector g fmt r)))
      || (bitOf (byteAt b 12) 0 && !decide keys.Nodup), St.range)], w.1)

/-! ## Answers (R233, Table 6.5) -/

def OpResult.bytes (r : OpResult) : Bytes :=
  leBytes 1 r.status ++ leBytes 1 r.flags ++ leBytes 1 r.seat ++ leBytes 1 0 ++ leBytes 4 r.list ++ leBytes 8 r.milepost
def failed (st : Nat) : OpResult := ⟨st, 0, 255, 0, 0⟩

/-- The update answer of Table 6.5 with a status of its own where the descriptor was refused. -/
def State.updAnswer (s : State) (u : Update) (refused : Option Nat) : Bytes :=
  let h := u.header
  let rs := if refused.isSome then [] else u.results.map fun r => r.getD (failed St.fault)
  let st := refused.getD ((rs.find? fun r => r.status != St.ok).elim St.ok OpResult.status)
  let done := rs.filter fun r => r.status == St.ok
  let mps := done.map OpResult.milepost
  leBytes 1 0 ++ leBytes 1 1 ++ leBytes 1 st ++ leBytes 1 (byteAt h 12 % 2) ++ leBytes 4 (64 + 16 * rs.length) ++ leBytes 2 (fieldAt h 2 2)
    ++ leBytes 2 (fieldAt h 8 2) ++ leBytes 2 rs.length ++ leBytes 2 done.length ++ sliceAt h 16 8
    ++ leBytes 8 ((minBy id mps).getD 0) ++ leBytes 8 (mps.foldl max 0) ++ leBytes 4 (min (2 ^ 32 - 1) (s.now - u.arrived))
    ++ leBytes 1 s.answerSeat ++ List.replicate 19 0 ++ rs.flatMap OpResult.bytes

/-- Sends an answer to its requester, or writes it over the descriptor and raises the sync counter (R217, R320). -/
def State.sendUpdAnswer (u : Update) (refused : Option Nat) (s : State) : State :=
  let b := s.updAnswer u refused
  match u.intake with
  | some (h, off, die, ctr) =>
    let t := match s.region h with
      | some r => s.rgnPut r off b
      | none => s
    if die < 8 then t.signal die ctr else t
  | none => s.handHint u.dest 0x19 u.rflags u.hint (.bytes b)

/-- An operation completes: its result, its counter (Table 6.10), and the answer once every operation has one. -/
def State.finishOp (op : UpdOp) (r : OpResult) (s : State) : State :=
  match s.idx.upds.get op.upd with
  | none => s
  | some u =>
    let r := { r with flags := r.flags + (if op.waited then 2 else 0) }
    let u := { u with results := u.results.set op.idx (some r) }
    let s := ((s.bumpIf (r.status == St.notOwner) Reg.IDX_UPD_NOT_FOUND).bumpIf (r.status == St.moved) Reg.IDX_UPD_MOVED).bumpIf
      (r.status == St.busy) Reg.IDX_UPD_BUSY
    if u.results.all Option.isSome then (s.idx' fun i => { i with upds := i.upds.del op.upd }).sendUpdAnswer u none
    else s.idx' fun i => { i with upds := i.upds.put op.upd u }

/-! ## Joining a group (R222 to R232) -/

/-- What becomes of an operation that reaches the commit unit. -/
inductive Fate where
  | fails (r : OpResult)
  | waits (full : Option Nat)
  | joins (list : Option Nat) (replaces : Bool)
deriving DecidableEq, Repr

/-- Groups of a table that have not been published, oldest first. -/
def IdxTable.groups (t : IdxTable) : List Group :=
  (t.committing.elim [] fun c => [c.1]) ++ t.closed ++ (t.openGroup.elim [] fun g => [g])
def IdxTable.pendingOps (t : IdxTable) : List GroupOp := t.groups.flatMap Group.ops

/-- The list of a key's newest entry, groups not yet published included: `none` where it is not live. -/
def State.keyNow (s : State) (t : IdxTable) (key : Nat) : Option Nat :=
  match t.pendingOps.reverse.find? fun o => opKey o.op.record == key with
  | some o => o.list
  | none => s.keyList t.gen key

/-- Where a key's live entry lies in its list: a wayside record or an image slot (R227), at a milepost. -/
inductive Place where
  | way (rec : Nat)
  | slot (i : Nat)
deriving DecidableEq, Repr
def State.locate (s : State) (g : TableGen) (list key mp : Nat) : Option Place :=
  let e := s.dirEntry g list
  if e.image = 0 then none
  else match (List.range (s.wayCount e.way)).reverse.find? fun r => let x := s.wayRecord g e.way r; x.entry.key == key && x.deleted == never with
    | some r => some (.way r)
    | none => ((List.range (s.imgEntries e.image)).find? fun i => (s.slotEntry g e.image i).key == key && !s.hidden g e.image i mp).map .slot

/-- A list is MOVED, or a split gives the key to another seat (R222, R258). -/
def IdxTable.movedTo (t : IdxTable) (list key : Nat) : Option Nat :=
  match t.moved.find? fun m => m.1 == list with
  | some m => some m.2
  | none => (t.splits.find? fun r => r.list == list && bitOf (keyHash key) r.bit == r.value).map SplitRule.seat

/-- The vector of a record as FP32, as the table uses it (R105, R226). -/
def recVals (g : TableGen) (fmt : Nat) (r : Bytes) : List W32 := prepared g.metric (vecVals fmt g.dim (recVector g fmt r))

/-- The list an insert goes to (R226). -/
def State.targetList (s : State) (g : TableGen) (fmt : Nat) (r : Bytes) : Option Nat :=
  if opListGiven r then some (opList r)
  else
    let q := recVals g fmt r
    let bits := if g.metric = 3 then recVector g fmt r else []
    nearestOf (fun l => probeDist g.metric (s.free + l) q bits (s.centroid g l) (s.norm g l)) g.lists

/-- Operations on a list are held: a move in HANDOVER or aborting at its source, or under way at its destination (Table 6.7, R257), or a merge about to
commit (R238). -/
def State.listHeld (s : State) (table list : Nat) : Bool :=
  ((s.moveOf table list).any fun m => m.2.dest || m.2.phase != .copy) || (s.mergeOf table list).any fun m => m.held.isSome

/-- Inserts into a list, and image deletes from it, that groups hold. -/
def State.pendingWay (t : IdxTable) (list : Nat) : Nat := (t.pendingOps.filter fun o => o.list == some list).length
def State.pendingTs (s : State) (t : IdxTable) (list : Nat) : Nat :=
  (t.pendingOps.filter fun o => o.replaces && s.keyList t.gen (opKey o.op.record) == some list
    && match s.locate t.gen list (opKey o.op.record) t.milepost with | some (.slot _) => true | _ => false).length

/-- The fate of an operation, apart from what waits before it (R222, R232). -/
def State.opFate (s : State) (table : Nat) (t : IdxTable) (fmt : Nat) (r : Bytes) : Fate :=
  let g := t.gen
  let key := opKey r
  let cur := s.keyNow t key
  let del := opCode r = 3
  let moved (l : Nat) : Option Fate := (t.movedTo l key).map fun seat => .fails ⟨St.moved, 0, seat, 0, 0⟩
  let target := if del then none else s.targetList g fmt r
  let held (l : Nat) : Bool := s.listHeld table l
  let fullTs (l : Nat) : Bool :=
    match s.locate g l key t.milepost, t.pendingOps.any fun o => opKey o.op.record == key with
    | some (.slot _), false => decide (g.tsCap ≤ s.tsCount (s.dirEntry g l).image + s.pendingTs t l)
    | _, _ => false
  let fullWay (l : Nat) : Bool :=
    let e := s.dirEntry g l
    decide (e.image = 0) || decide (g.wayCap ≤ s.wayCount e.way + State.pendingWay t l)
  if t.state = 4 ∨ t.state = 0 then .fails (failed St.notOwner)
  else if t.state = 1 ∨ t.state = 2 then .fails (failed St.busy)
  else if t.state = 5 ∧ opCodeGiven r then .fails (failed St.busy)
  else if t.pending.isSome then .waits none
  else if (g.pds.any fun n => (s.pds.get n).elim true PlaceDesc.lost) then .fails (failed St.fault)
  else if opCode r ≠ 1 ∧ cur.isNone then .fails (failed St.notOwner)
  else if !del ∧ target.isNone then .fails (failed St.range)
  else
    let news := t.pendingOps.filter fun o => o.list.isSome
    match cur.bind moved, target.bind moved with
    | some f, _ => f
    | _, some f => f
    | none, none =>
      if !del ∧ cur.isNone ∧ 2 ^ 36 < s.keyCount + 1 + (((s.idx.tables.put table t).vals.flatMap IdxTable.pendingOps).filter fun o => o.list.isSome && !o.replaces).length then
        .fails (failed St.length)
      else if !del ∧ g.freeRows.length ≤ news.length ∧ noRow ≤ g.rows + (news.length - g.freeRows.length) then .fails (failed St.length)
      else if !del ∧ g.freeRows.length ≤ news.length ∧ s.rowRoom g ≤ g.rows + (news.length - g.freeRows.length) then .fails (failed St.quota)
      else if !del ∧ cur.isNone ∧ 4 * 2 ^ g.mapBits ≤ g.mapLive + (news.filter fun o => !o.replaces).length then .fails (failed St.quota)
      else if cur.any held ∨ target.any held then .waits none
      else if cur.any fullTs then .waits cur
      else if target.any fullWay then .waits target
      else .joins target cur.isSome

/-- Closes the open group (R229). -/
def IdxTable.closeGroup (t : IdxTable) : IdxTable :=
  match t.openGroup with
  | some g => { t with openGroup := none, closed := t.closed ++ [g] }
  | none => t

/-- Changes of an operation: an insert or a delete is one, an insert that deletes the key's entry two (R229). -/
def GroupOp.changes (o : GroupOp) : Nat := b1 o.list.isSome + b1 o.replaces

/-- Operations join the open group; it closes before one whose key it changes or an ATOMIC set that would not fit, and when it is full (R229). -/
def State.joinGroup (table : Nat) (ops : List GroupOp) (s : State) : State :=
  match s.tbl table with
  | none => s
  | some t =>
    let n := (ops.map GroupOp.changes).foldl (· + ·) 0
    let clash (g : Group) : Bool := ops.any fun o => g.ops.any fun p => opKey p.op.record == opKey o.op.record
    let t := match t.openGroup with
      | some g => if clash g ∨ (1 < ops.length ∧ 4096 < g.changes + n) then t.closeGroup else t
      | none => t
    let g := t.openGroup.getD ⟨[], 0, s.now⟩
    let g := { g with ops := g.ops ++ ops, changes := g.changes + n }
    let t := { t with openGroup := some g }
    s.setTbl table (if 4096 ≤ g.changes then t.closeGroup else t)

/-- VEC_FORMAT of an operation's descriptor. -/
def State.opFmt (s : State) (op : UpdOp) : Nat := (s.idx.upds.get op.upd).elim 0 fun u => byteAt u.header 13

/-- Lists an operation acts on, as far as they can be told. -/
def State.opLists (s : State) (t : IdxTable) (op : UpdOp) : List Nat :=
  (s.keyNow t (opKey op.record)).toList ++ (if opCode op.record = 3 then [] else (s.targetList t.gen (s.opFmt op) op.record).toList)

/-- A unit waits behind units before it: same list or same key (R232). -/
def State.behind (s : State) (t : IdxTable) (earlier : List UpdUnit) (u : UpdUnit) : Bool :=
  earlier.any fun e => e.ops.any fun a => u.ops.any fun b =>
    opKey a.record == opKey b.record || (s.opLists t a).any fun l => (s.opLists t b).contains l

/-- A table with one more operation in its open group. -/
def IdxTable.withOp (o : GroupOp) (t : IdxTable) : IdxTable :=
  let g := t.openGroup.getD ⟨[], 0, 0⟩
  { t with openGroup := some { g with ops := g.ops ++ [o] } }

/-- Fates of a unit's operations, each beside those before it in the unit; one that the routing map refuses fails with what it gives (R224, R229, R440). -/
def State.unitFates (s : State) (table : Nat) : IdxTable → List UpdOp → List (UpdOp × Fate)
  | _, [] => []
  | t, o :: rest =>
    let f := match o.refused with
      | some r => .fails r
      | none => s.opFate table t (s.opFmt o) o.record
    (o, f) :: State.unitFates s table (match f with | .joins l r => t.withOp ⟨o, l, r⟩ | _ => t) rest

/-- Tries a unit behind the units that wait before it: `false` where it waits, with urgent merges started for full lists (R224, R232). -/
def State.tryUnit (table : Nat) (earlier : List UpdUnit) (u : UpdUnit) (s : State) : Bool × State :=
  match s.tbl table with
  | none => (true, u.ops.foldl (fun s o => s.finishOp o (o.refused.getD (failed St.notOwner))) s)
  | some t =>
    if (u.ops.all fun o => o.refused.isNone) && s.behind t earlier u then (false, s)
    else
    let fs := s.unitFates table t u.ops
    let fail := fs.find? fun f => match f.2 with | .fails _ => true | _ => false
    let wait := fs.find? fun f => match f.2 with | .waits _ => true | _ => false
    let full := fs.filterMap fun f => match f.2 with | .waits l => l | _ => none
    let join := fs.filterMap fun f => match f.2 with | .joins l r => some (⟨f.1, l, r⟩ : GroupOp) | _ => none
    match fail with
    | some (o, .fails r) =>
      (true, u.ops.foldl (fun s p => s.finishOp p (if p.idx = o.idx then r else failed St.aborted)) s)
    | _ =>
      if wait.isSome then (false, full.foldl (fun s l => s.triggerMerge table l none true none) s)
      else (true, s.joinGroup table join)

/-- Tries the waiting units of a table again, in order (R232, R238). -/
def State.retryUnits (table : Nat) : List UpdUnit → List UpdUnit → State → State
  | [], kept, s => s.modTbl table fun t => { t with waiting := kept }
  | u :: rest, kept, s =>
    let x := s.tryUnit table kept u
    State.retryUnits table rest (if x.1 then kept else kept ++ [u]) x.2
def State.retryWaiting (table : Nat) (s : State) : State :=
  match s.tbl table with
  | some t => s.retryUnits table t.waiting []
  | none => s

/-- A unit arrives at the commit unit: it joins, completes, or waits from now on (R229, R232). -/
def State.arriveUnit (table : Nat) (u : UpdUnit) (s : State) : State :=
  let x := s.tryUnit table ((s.tbl table).elim [] IdxTable.waiting) u
  if x.1 then x.2
  else x.2.modTbl table fun t => { t with waiting := t.waiting ++ [{ u with ops := u.ops.map fun o => { o with waited := true } }] }

/-- An update whose checks passed: its operations in record order, or together where ATOMIC is set (R224, R229, R440). -/
def State.startUpdate (u : Update) (mp : Option Nat) (records : List Bytes) (s : State) : State :=
  let table := fieldAt u.header 2 2
  let n := s.idx.nextUpd
  if records = [] then s.sendUpdAnswer u none
  else
    let outcome (r : Bytes) : MapOutcome := match mp with | some m => s.mapOutcome m table (some (opKey r)) | none => .served
    let bad := (records.map outcome).find? fun o => o != .served
    let u := { u with rflags := (bad.elim 0 MapOutcome.flags), hint := (bad.elim 0 MapOutcome.hint) }
    let t := s.idx' fun i => { i with upds := i.upds.put n u, nextUpd := n + 1 }
    let refuse (i : Nat) : Option OpResult :=
      match outcome (records.getD i []) with
      | .served => none
      | .fails st h _ => some ⟨st, 0, if st = St.moved then h.getD 255 else 255, 0, 0⟩
    let op (i : Nat) : UpdOp := ⟨n, i, records.getD i [], s.now, false, refuse i⟩
    if bitOf (byteAt u.header 12) 0 then t.arriveUnit table ⟨(List.range records.length).map op, true⟩
    else (List.range records.length).foldl (fun s i => s.arriveUnit table ⟨[op i], false⟩) t

/-- A descriptor or intake entry in the intake region of the commit unit of a table (R217, R320). -/
def State.updIntake (table : Nat) (b : Bytes) (s : State) : State := s.throughNow 1 (4 + table % 4) 65536 b

/-- UPDATE (R217, R221): an update descriptor reaches its commit unit. -/
def update (m : Msg) (s : State) : State :=
  if !s.isRunning ∨ m.flags.getLsbD 0 ∨ m.body.length < 64 then s
  else
    let h := sliceAt m.body 0 24 ++ leBytes 4 m.src.toNat ++ sliceAt m.body 28 36
    let s := s.updIntake (fieldAt h 2 2) (h ++ m.body.drop 64)
    let c := s.updChecks m.body
    let u : Update := ⟨.endpoint m.src, h, s.now, List.replicate (fieldAt h 10 2) none, none, 0, 0⟩
    if c.1 ≠ St.ok then s.sendUpdAnswer u (some c.1) else s.startUpdate u (some m.mapMp.toNat) c.2

/-- UPDATE_INTAKE_ENTRY (R320): an update from inside the node. The entry names the region, line, compute die and counter; one that names a counter whose group
its owner does not hold is refused before any effect (R283). -/
def updateIntake (domain : Owner) (table : Nat) (e : Bytes) (s : State) : State :=
  let h := fieldAt e 0 2
  let off := 64 * fieldAt e 4 4
  let die := byteAt e 8
  let ctr := byteAt e 9 % 64
  let signal (s : State) : State := if die < 8 then s.signal die ctr else s
  if !s.isRunning then s
  else
    let s := s.updIntake table (sliceAt e 0 16)
    if die < 8 && !s.holdsCtr domain die ctr then s
    else match s.region h with
    | none => signal s
    | some r =>
      -- the entry completes with DENIED: no answer is written
      if r.owner != domain then signal s
      else
        let len := fieldAt (s.rgnRead r off 64) 4 4
        let b := s.rgnRead r off (max 64 len)
        let s := s.usedNow r off (max 64 len)
        if fieldAt b 2 2 ≠ table then s
        else
          let hd := sliceAt b 0 24 ++ leBytes 4 0xFFFFFFFF ++ sliceAt b 28 36
          let c := s.updChecks b
          let u : Update := ⟨.endpoint 0xFFFFFFFF, hd, s.now, List.replicate (fieldAt hd 10 2) none, some (h, off, die, ctr), 0, 0⟩
          if c.1 ≠ St.ok then s.sendUpdAnswer u (some c.1) else s.startUpdate u none c.2

/-- COMMIT_GROUP_DEADLINE (R229). -/
def commitDeadline (table : Nat) (s : State) : State :=
  match s.tbl table with
  | some t => match t.openGroup with
    | some g => if s.past (g.opened + (s.reg Reg.IDX_COMMIT_DL).toNat) then s.setTbl table t.closeGroup else s
    | none => s
  | none => s

/-! ## Committing (R225 to R230) -/

/-- The row an insert takes: the lowest reclaimed, else row ROWS (R225). -/
def takeRow (g : TableGen) : Nat × TableGen :=
  match minBy id g.freeRows with
  | some r => (r, { g with freeRows := g.freeRows.filter (· != r) })
  | none => (g.rows, { g with rows := g.rows + 1 })

/-- Full vector bytes that an insert stores: converted, or unchanged for INT8 given as INT8 (R226). -/
def recFv (g : TableGen) (fmt : Nat) (r : Bytes) : Bytes :=
  if g.fvFormat = 0 then [] else if g.fvFormat = 1 ∧ fmt = 2 then recVector g fmt r else fvEncode g.fvFormat (recVals g fmt r)

/-- The code an insert stores (R226). -/
def State.recordCode (s : State) (g : TableGen) (fmt : Nat) (list : Nat) (r : Bytes) : Bytes :=
  if opCodeGiven r then recCode g fmt r
  else (s.coding g).encode (recVals g fmt r) (recVector g fmt r) (s.centroid g list)

/-- Lines of key sections read to find an entry (R227): 8 a strip up to the strip that holds it. -/
def searchLines (p : Option Place) (entries : Nat) : Nat :=
  match p with
  | some (.way _) => 0
  | some (.slot i) => 8 * (i / 64 + 1)
  | none => 8 * ((entries + 63) / 64)

/-- Deletes a key's live entry at a milepost: the change, and the row superseded (R118, R122, R227). -/
def State.deleteEntry (t : IdxTable) (list key mp : Nat) (s : State) : Option (State × Nat) :=
  let g := t.gen
  let e := s.dirEntry g list
  let p := s.locate g list key t.milepost
  let s := s.bumpBy Reg.IDX_UPD_SEARCH (searchLines p (s.imgEntries e.image))
  match p with
  | some (.way r) => some (s.wayDelete g e.way r mp, (s.wayRecord g e.way r).entry.row)
  | some (.slot i) => some (s.tombstone g e.image i mp, (s.slotEntry g e.image i).row)
  | none => none

/-- An entry of a list that is served here, visible at a milepost, names a row: two entries of an image may name one (R124). -/
def State.rowNamed (s : State) (g : TableGen) (mp row : Nat) : Bool :=
  (List.range g.lists).any fun l =>
    let e := s.dirEntry g l
    e.image != 0 && e.state != 2 && (((List.range (s.wayCount e.way)).any fun i => let x := s.wayRecord g e.way i; x.entry.row == row && x.deleted == never)
      || (List.range (s.imgEntries e.image)).any fun i =>
        let x := s.slotEntry g e.image i
        x.row == row && x.key != emptyKey && !s.hidden g e.image i mp)

/-- Writes one operation of a group at milepost M: what changed, and the key's place in the key map (`none`: vacated). -/
def State.writeOp (table mp : Nat) (o : GroupOp) (acc : State × List Change × List (Nat × Option Nat)) : State × List Change × List (Nat × Option Nat) :=
  match acc.1.tbl table with
  | none => acc
  | some t =>
    let s := acc.1
    let r := o.op.record
    let key := opKey r
    let fmt := s.opFmt o.op
    let old := acc.2.2.reverse.find? fun k => k.1 == key
    let cur := match old with | some k => k.2 | none => s.keyList t.gen key
    let gone := if o.replaces then cur.bind fun l => (s.deleteEntry t l key mp).map fun d => (l, d) else none
    let s1 := gone.elim s fun d => d.2.1
    let changes := gone.elim [] fun d => [(⟨d.1, ⟨w64 key, [], [], [], true⟩⟩ : Change)]
    let sup := gone.elim [] fun d => if t.gen.rows ≤ d.2.2 ∨ s1.rowNamed t.gen mp d.2.2 then [] else [(⟨.row d.2.2, mp, s.now, none⟩ : Superseded)]
    let s1 := s1.modTbl table fun t => { t with superseded := t.superseded ++ sup }
    match o.list with
    | none => (s1, acc.2.1 ++ changes, acc.2.2 ++ [(key, none)])
    | some l =>
      let x := takeRow t.gen
      let code := s.recordCode t.gen fmt l r
      let attrs := recAttrs t.gen r
      let fv := recFv t.gen fmt r
      let s2 := s1.modTbl table fun t => { t with gen := x.2 }
      let s3 := (s2.rowStore x.2 x.1 attrs fv).wayInsert x.2 (s2.dirEntry x.2 l).way mp ⟨key, x.1, code⟩
      (s3, acc.2.1 ++ changes ++ [⟨l, ⟨w64 key, code, attrs, fv, false⟩⟩], acc.2.2 ++ [(key, some l)])

/-- GROUP_COMMIT (R230, step 1): rows, wayside records and tombstones of the oldest closed group are written, once the group before it is
published. -/
def groupCommit (table : Nat) (s : State) : State :=
  match s.tbl table with
  | some t => match t.committing, t.closed with
    | none, g :: rest =>
      if !s.isRunning ∨ !(t.state = 3 ∨ t.state = 5) then s
      else
        let s0 := s.setTbl table { t with closed := rest }
        let x := g.ops.foldl (fun a o => State.writeOp table (t.milepost + 1) o a) (s0, [], [])
        let km := x.2.2.map fun k => (k.1, k.2.getD (2 ^ 24))
        x.1.modTbl table fun t => { t with committing := some (g, x.2.1, km) }
    | _, _ => s
  | none => s

/-- A key with a live key-map entry counts towards the table's keys unless its list has moved away, or a split has given it to another seat: the entry then
only tells where (R101, R256, log 27). -/
def State.keyCounted (s : State) (t : IdxTable) (key : Nat) : Bool := (s.keyList t.gen key).any fun l => (t.movedTo l key).isNone

/-- The new key-map entries of a group, the count of live ones, and of the keys that R101 counts (R128, R230 step 3). -/
def State.mapApply (table : Nat) (km : List (Nat × Nat)) (s : State) : State :=
  km.foldl (fun s k =>
    match s.tbl table with
    | none => s
    | some t =>
      let had := (s.keyList t.gen k.1).isSome
      let counted := s.keyCounted t k.1
      if k.2 = 2 ^ 24 then
        (s.mapDrop t.gen k.1).modTbl table fun t => { t with gen := { t.gen with mapLive := t.gen.mapLive - b1 had }, keys := t.keys - b1 counted }
      else (s.mapPut t.gen k.1 k.2).modTbl table fun t =>
        { t with gen := { t.gen with mapLive := t.gen.mapLive + b1 (!had) }, keys := t.keys + b1 (!counted) }) s

/-- Sends a message of a move between seats, to be repeated until acknowledged (R257). -/
def State.sendMove (id : Nat) (msg : ShuffleMsg) (s : State) : State :=
  match s.idx.moves.get id with
  | none => s
  | some m =>
    let t := s.idx' fun i => { i with moves := i.moves.put id { m with nextSeq := m.nextSeq + 1, unacked := m.unacked ++ [⟨m.nextSeq, msg, s.now⟩] } }
    t.hand (.seat m.seat) 0x1A 0 (.shuffle (.list m.table m.list) m.nextSeq msg)

/-- A key belongs to what a move carries (R258). -/
def ListMove.carries (m : ListMove) (key : Nat) : Bool := m.split.all fun v => bitOf (keyHash key) v.1 == v.2

/-- Forwards a published change to the destination of a move in COPY (R252, R253). -/
def State.forward (table : Nat) (c : Change) (s : State) : State :=
  match s.idx.moves.find? fun m => m.2.table == table && m.2.list == c.list && !m.2.dest with
  | some (id, m) => if m.phase == .copy && m.carries c.item.key.toNat then s.sendMove id (.forward c.item) else s
  | none => s

/-- Bytes that a record takes in the change log with its milepost. -/
def logBytes (r : Bytes) : Nat := 16 + r.length

/-- Leaves REPLACING: the log and the new objects are freed (R248). -/
def State.abortReplace (table : Nat) (s : State) : State :=
  match s.tbl table with
  | none => s
  | some t =>
    let l := t.loading.elim [] Loading.images
    let u := (l.foldl (fun s a => s.poolGive a) s).poolGive t.logAddr
    let u := (u.modTbl table fun t => { t with state := 3, loading := none, base := 0, logAddr := 0, logCap := 0, logUsed := 0, log := [] }).bump
      Reg.IDX_REPLACE_ABORTED
    match t.loading with
    | some l => (u.slotDone .vcmd l.slot St.aborted).showIdx
    | none => (u.modTbl table fun t => { t with owedAborts := t.owedAborts + 1 }).showIdx

/-- Appends the committed records of a group to the change log, or aborts the replacement when it is full (R244, R248). -/
def State.logGroup (table mp : Nat) (g : Group) (s : State) : State :=
  match s.tbl table with
  | none => s
  | some t =>
    if t.state ≠ 5 then s
    else
      let rs := g.ops.map fun o => (s.opFmt o.op, o.op.record, mp)
      let n := (rs.map fun r => logBytes r.2.1).foldl (· + ·) 0
      if t.logCap < t.logUsed + n then s.abortReplace table
      else s.setTbl table { t with logUsed := t.logUsed + n, log := t.log ++ rs }

/-- GROUP_PUBLISH (R230, steps 2 to 4): the milepost is raised, key-map entries are written, forwards and answers go out, and merges that the new
counts call for are triggered. -/
def State.publish (table : Nat) (s : State) : State :=
  match s.tbl table with
  | some t => match t.committing with
    | none => s
    | some (g, changes, km) =>
      let mp := t.milepost + 1
      let lists := dedupList (changes.map Change.list)
      let s1 := s.setTbl table { (t.marked s.cycle) with milepost := mp, committing := none }
      let s2 := lists.foldl (fun s l => s.setDir t.gen l { (s.dirEntry t.gen l) with milepost := mp }) s1
      let s3 := (s2.mapApply table km).showIdx
      let s4 := changes.foldl (fun s c => s.forward table c) s3
      let n := g.ops.length
      let s5 := ((s4.logGroup table mp g).bump64 Reg.IDX_UPD_OPS_LO n).bump64 Reg.IDX_UPD_GROUPS_LO 1
      let s6 := g.ops.foldl (fun s o =>
        let rep := o.replaces && opCode o.op.record == 1
        let l := o.list.getD (((changes.find? fun c => c.item.key.toNat == opKey o.op.record).map Change.list).getD 0)
        (s.bumpIf rep Reg.IDX_UPD_REPLACED).finishOp o.op ⟨St.ok, b1 rep, 255, l, mp⟩) s5
      (lists.foldl (fun s l => s.mergeCheck table t.gen l) s6)
  | none => s

end Sys2Proof.Machine
end

