-- ==== Sys2Proof/Machine/Merge.lean ====
section
/-! DEFINITION. Merges, moves between stacks and seats, splits, reclaiming and skew windows (R234 to R258). -/

namespace Sys2Proof.Machine

/-- A command of the version slots completes, with the milepost it returns (Table 6.10). -/
def State.vcmdDone (slot : Option Nat) (st mp : Nat) (s : State) : State :=
  match slot with
  | some k => (s.setNat (slotReg .vcmd k 7) mp).slotDone .vcmd k st
  | none => s

/-- A table is named by another running command: for a catalogue command one of the catalogue slots (R141), for a version command one of either (R259). -/
def State.tableNamed (s : State) (f : Family) (slot table : Nat) : Bool :=
  (if f = .idx then [Family.idx] else [Family.idx, .vcmd]).any fun h => (List.range 4).any fun k => !(h == f && k == slot) &&
    match s.slots.runs.get (slotKey h k) with
    | some r => (r.args.headD 0).toNat % 1024 == table
    | none => false

/-! ## State changes between commit groups (R140, R243) -/

/-- A merge or move to another stack stops without committing: its image is freed, its command completes with NOT_OWNER (R140). -/
def State.stopMerge (m : ListMerge) (s : State) : State :=
  let t := s.idx' fun i => { i with merges := i.merges.filter (· != m) }
  let t := match m.running with
    | some (a, _) => t.poolGive a
    | none => t
  t.vcmdDone m.slot St.notOwner 0

/-- A move between seats ends without a commit at its source: the list is LOCAL again and held operations go on. Where `tell` holds, the ABORT that ends it
goes out, and is repeated until it is acknowledged (R257). -/
def State.abortMove (id st : Nat) (tell : Bool) (s : State) : State :=
  match s.idx.moves.get id with
  | none => s
  | some m =>
    let t := s.idx' fun i => { i with moves := if tell then i.moves.put id { m with phase := .closed, unacked := [] } else i.moves.del id }
    let t := if tell then t.sendMove id .abort else t
    let t := if m.addr = 0 then t else t.poolGive m.addr
    let t := match t.tbl m.table with
      | some x => t.setDir x.gen m.list { (t.dirEntry x.gen m.list) with state := 0 }
      | none => t
    ((t.bump Reg.IDX_SHUF_ABORTED).retryWaiting m.table).vcmdDone m.slot st 0

/-- A move that a table's DROP ends at its destination: what it took in the pool is given back, and the source is refused unless the list has been committed
(R140, log 27). -/
def State.refuseMove (id : Nat) (s : State) : State :=
  match s.idx.moves.get id with
  | none => s
  | some m =>
    let t := s.idx' fun i => { i with moves := i.moves.del id }
    if m.committed.isSome then t
    else (t.poolGive m.addr).hand (.seat m.seat) 0x1A 0 (.shuffle (.list m.table m.list) (m.seen.headD 0) .refuse)

/-- Applies a table's pending state change once every group before it has been published. -/
def State.stateTurn (table : Nat) (s : State) : State :=
  match s.tbl table with
  | none => s
  | some t =>
    match t.pending with
    | none => s
    | some p =>
      let t := t.closeGroup
      if t.groups ≠ [] then s.setTbl table t
      else match p with
        | .drop slot =>
          let u := s.setTbl table { (t.marked s.cycle) with state := 4, pending := none, dropSlot := some slot }
          let u := (s.idx.merges.filter fun m => m.table == table).foldl (fun u m => u.stopMerge m) u
          let u := (s.idx.moves.filter fun m => m.2.table == table && !m.2.dest && m.2.phase != .closed).foldl (fun u m => u.abortMove m.1 St.notOwner true) u
          let u := (s.idx.moves.filter fun m => m.2.table == table && m.2.dest).foldl (fun u m => u.refuseMove m.1) u
          (u.retryWaiting table).showIdx
        | .replace slot log =>
          let u := s.setTbl table { t with state := 5, pending := none, base := t.milepost, logCap := log, logUsed := 0, log := [] }
          ((u.retryWaiting table).vcmdDone (some slot) St.ok t.milepost).showIdx

/-! ## Moves between seats, at the source (R252 to R257) -/

/-- Groups hold an operation on a list. -/
def State.groupsTouch (s : State) (t : IdxTable) (list : Nat) : Bool :=
  t.pendingOps.any fun o => o.list == some list || s.keyList t.gen (opKey o.op.record) == some list

/-- HANDOVER is sent once the copy and every forwarded change are acknowledged (R253). -/
def State.moveTurn (id : Nat) (s : State) : State :=
  match s.idx.moves.get id with
  | some m => match s.tbl m.table with
    | some t =>
      if m.dest ∨ m.phase ≠ .copy ∨ m.unacked ≠ [] ∨ s.groupsTouch t m.list then s
      else (s.idx' fun i => { i with moves := i.moves.put id { m with phase := .handover } }).sendMove id .handover
    | none => s
  | none => s

/-- GROUP_PUBLISH (R230), then what waited for it: a state change, and moves that may hand over. -/
def groupPublish (table : Nat) (s : State) : State :=
  if !s.isRunning then s
  else
    let t := (s.publish table).stateTurn table
    t.idx.moves.keys.foldl (fun u id => u.moveTurn id) t

/-- An entry with all that a move carries (R253); one that names no row within ROWS carries no values (log 27). -/
def State.moveItem (s : State) (g : TableGen) (e : Entry) : MoveItem :=
  if g.rows ≤ e.row then ⟨w64 e.key, e.code, [], [], false⟩
  else ⟨w64 e.key, e.code, s.rowAttrs g e.row, if g.fvFormat = 0 then [] else s.fvRead g e.row, false⟩

/-- Reads of attributes and full vectors at or beyond ROWS that a move's entries make (R124). -/
def beyondReads (g : TableGen) (es : List Entry) : Nat := (es.filter fun e => rowBeyond g e.row).length * (g.attrCols + b1 (g.fvFormat != 0))

/-- Moves between seats in progress (R250). -/
def State.shuffles (s : State) : Nat := (s.idx.moves.vals.filter fun m => m.committed.isNone && m.phase != .closed).length

/-- MOVE_SEAT and SPLIT_SEAT (R244, R250, R252, R258). -/
def moveSeatRun (isSplit : Bool) (slot : Nat) (s : State) : State :=
  let table := s.slotArg .vcmd slot 0 % 1024
  let list := s.slotArg .vcmd slot 1 % 2 ^ 24
  let a2 := s.slotArg .vcmd slot 2
  let seat := bitsOf a2 31 24
  let split := if isSplit then some (bitsOf a2 21 16, bitOf a2 8) else none
  let x := s.tbl table
  let st0 := s.tblState table
  let g := x.elim (genOf [] []) IdxTable.gen
  let e := s.dirEntry g list
  let items := if e.image = 0 then [] else (s.visibleAt g e.image (x.elim 0 IdxTable.milepost)).map Prod.fst
  let place := if isSplit then s.poolPlace g (some (stackOf e.image)) (g.imageBytes (items.length + g.wayCap)) else some 0
  let st := r21 [(decide (st0 = 0 ∨ st0 = 4), St.notOwner),
    (decide (63 < seat) || (decide (3 ≤ st0) && (decide (g.lists ≤ list) || !s.seatNamed table seat || s.mySeat == some seat)), St.range),
    (decide (3 ≤ st0) && decide (e.state = 2 ∨ e.image = 0), St.moved),
    (decide (3 ≤ st0) && isSplit && (decide (1024 ≤ x.elim 0 fun t => t.splits.length) || place.isNone), St.quota),
    (decide (st0 = 1 ∨ st0 = 2 ∨ st0 = 5) || s.tableNamed .vcmd slot table || s.listBusy table list || decide (16 ≤ s.shuffles), St.busy)]
  if st ≠ St.ok then s.slotDone .vcmd slot st
  else
    let id := 256 + s.idx.nextMove
    let addr := place.getD 0
    let m : ListMove := ⟨table, list, seat, false, split, .copy, x.elim 0 IdxTable.milepost, some slot, 1024 * s.idx.nextMove + 1, [], [], [], addr, none⟩
    let t := s.idx' fun i => { i with moves := i.moves.put id m, nextMove := i.nextMove + 1 }
    let t := if isSplit then t.poolTake addr (g.imageBytes (items.length + g.wayCap)) else t
    let t := (t.setDir g list { e with state := 1 }).slotWaits .vcmd slot (.moveOf table list)
    let sent := items.filter fun y => m.carries y.key
    (t.bumpBy Reg.IDX_ROW_RANGE (beyondReads g sent)).sendMove id (.copy (sent.map (t.moveItem g)))

/-- CUTOVER (R252, R254, R258): at M_x the list is MOVED, or rebuilt without the moved entries; its image is kept for the overlap; held operations
complete with MOVED. -/
def State.cutover (id : Nat) (s : State) : State :=
  match s.idx.moves.get id with
  | none => s
  | some m =>
    -- a group whose records are written takes its milepost first
    let s := s.publish m.table
    match s.tbl m.table with
    | none => s
    | some t =>
      let g := t.gen
      let mp := t.milepost + 1
      let e := s.dirEntry g m.list
      let all : List Entry := (s.visibleAt g e.image t.milepost).map Prod.fst
      let gone : List Entry := all.filter fun y => m.carries y.key
      let sup : List Superseded := [⟨.image m.list e.image, mp, s.now, some m.list⟩]
      let t1 : IdxTable := { (t.marked s.cycle) with
        milepost := mp, keys := t.keys - gone.length, superseded := t.superseded ++ sup, gen := { g with cuts := g.cuts ++ [⟨m.list, mp, s.now⟩] } }
      let s1 : State := match m.split with
        | none => (s.setTbl m.table { t1 with moved := t1.moved ++ [(m.list, m.seat)] }).setDir g m.list { e with milepost := mp, state := 2 }
        | some v =>
          let es : List Entry := all.filter fun y : Entry => !m.carries y.key
          let u := (s.setTbl m.table { t1 with splits := t1.splits ++ [(⟨m.list, v.1, v.2, m.seat, mp⟩ : SplitRule)] }).writeImage g m.table m.list mp e.image m.addr es
          u.setDir g m.list ⟨m.addr, u.wayOf g m.addr, mp, es.length, 0⟩
      let rows := dedupList ((gone.map Entry.row).filter fun r => decide (r < g.rows) && !s1.rowNamed g mp r)
      let s2 := s1.modTbl m.table fun t => { t with superseded := t.superseded ++ rows.map fun r => ⟨.row r, mp, s.now, some m.list⟩ }
      let s2 := s2.idx' fun i => { i with moves := i.moves.del id }
      (((s2.bump Reg.IDX_SHUF_DONE).retryWaiting m.table).vcmdDone m.slot St.ok mp).showIdx

/-! ## Moves between seats, at the destination -/

/-- Acknowledges a move message. -/
def State.ackMove (from_ table list seq : Nat) (s : State) : State :=
  s.hand (.seat from_) 0x1A 0 (.shuffle (.list table list) seq (.ack seq))

/-- Takes rows for items and stores them (R253); an entry that came without values names no row here either (log 27). -/
def State.takeItems (table : Nat) : List MoveItem → State → List (MoveItem × Nat) × State
  | [], s => ([], s)
  | it :: rest, s =>
    match s.tbl table with
    | none => ([], s)
    | some t =>
      if it.attrs = [] ∧ it.fv = [] ∧ (t.gen.attrCols ≠ 0 ∨ t.gen.fvFormat ≠ 0) then
        let r := State.takeItems table rest s
        ((it, noRow) :: r.1, r.2)
      else
      let x := takeRow t.gen
      let u := (s.setTbl table { t with gen := x.2 }).rowStore x.2 x.1 it.attrs it.fv
      let r := State.takeItems table rest u
      ((it, x.1) :: r.1, r.2)

/-- Gives rows back. -/
def State.giveRows (table : Nat) (rows : List Nat) (s : State) : State :=
  s.modTbl table fun t => { t with gen := { t.gen with freeRows := t.gen.freeRows ++ rows.filter (· != noRow) } }

/-- A destination can take a list: it holds no image of it, and has room for its entries, rows and keys (R250, R252, R253). -/
def State.canTake (s : State) (table list : Nat) (items : List MoveItem) : Option Nat :=
  match s.tbl table with
  | none => none
  | some t =>
    let g := t.gen
    let e := s.dirEntry g list
    if t.state ≠ 3 ∨ g.lists ≤ list ∨ e.image ≠ 0 ∨ s.listBusy table list ∨ 4 * 2 ^ g.mapBits < g.mapLive + items.length ∨ 16 ≤ s.shuffles
      ∨ s.rowRoom g < g.rows + (items.length - g.freeRows.length) ∨ 2 ^ 36 < s.keyCount + items.length then none
    else s.poolPlace g none (g.imageBytes (items.length + g.wayCap))

/-- Commits a list at its destination (R252): M_d, the image, its keys. -/
def State.commitList (id : Nat) (s : State) : State :=
  match s.idx.moves.get id with
  | none => s
  | some m =>
    let s := s.publish m.table
    match s.tbl m.table with
    | none => s
    | some t =>
      let g := t.gen
      let mp := t.milepost + 1
      let e := s.dirEntry g m.list
      let es := m.items.map fun x => (⟨x.1.key.toNat, x.2, sliceAt x.1.code 0 g.codeBytes⟩ : Entry)
      let fits := decide (g.imageBytes es.length ≤ s.idx.pool.getD m.addr 0)
      let a := if fits then m.addr else (s.poolPlace g none (g.imageBytes (es.length + g.wayCap))).getD m.addr
      let s := if fits then s else (s.poolGive m.addr).poolTake a (g.imageBytes (es.length + g.wayCap))
      let u := (s.dropLoneWay e).writeImage g m.table m.list mp e.image a es
      let u := u.setDir g m.list ⟨a, u.wayOf g a, mp, es.length, 0⟩
      let u := u.modTbl m.table fun t => { (t.marked s.cycle) with milepost := mp }
      let u := u.mapApply m.table (es.map fun y => (y.key, m.list))
      let u := u.modTbl m.table fun t => { t with moved := t.moved.filter (·.1 != m.list) }
      let u := u.idx' fun i => { i with moves := i.moves.put id { m with committed := some mp, phase := .handover } }
      (u.retryWaiting m.table).showIdx

/-- A committed list is withdrawn at the destination's next milepost (R257). -/
def State.withdrawList (id : Nat) (s : State) : State :=
  match s.idx.moves.get id with
  | none => s
  | some m =>
    let s := s.publish m.table
    match s.tbl m.table with
    | none => s
    | some t =>
      let e := s.dirEntry t.gen m.list
      let mp := t.milepost + 1
      let n := (s.visibleAt t.gen e.image t.milepost).length
      let sup := t.superseded ++ [⟨.image m.list e.image, mp, s.now, none⟩]
      ((s.setTbl m.table { (t.marked s.cycle) with milepost := mp, keys := t.keys - n, moved := t.moved ++ [(m.list, m.seat)], superseded := sup }).setDir t.gen m.list { e with milepost := mp, state := 2 }).showIdx

/-- SHUFFLE about a list (R253, R257): the message of a seat, taken once; a repeated one only draws its acknowledgement again. -/
def listShuffle (from_ table list seq : Nat) (msg : ShuffleMsg) (s : State) : State :=
  let find (dest : Bool) : Option (Nat × ListMove) := s.idx.moves.find? fun m =>
    m.2.table == table && m.2.list == list && m.2.dest == dest && m.2.seat == from_ && m.2.phase != .closed
  let owner (n : Nat) : Option (Nat × ListMove) := s.idx.moves.find? fun m =>
    m.2.table == table && m.2.list == list && !m.2.dest && m.2.seat == from_ && m.2.unacked.any fun u => u.seq == n
  let put (k : Nat) (m : ListMove) (s : State) : State := s.idx' fun i => { i with moves := i.moves.put k m }
  match msg with
  | .ack n => match owner n with
    | some (k, m) => (put k { m with unacked := m.unacked.filter fun u => u.seq != n } s).moveTurn k
    | none => s
  | .commitAck => match find false with
    | some (k, m) => if m.phase = .handover then s.cutover k else s
    | none => s
  | .abortAck => match owner seq with
    | some (k, m) =>
      if m.phase = .closed then s.idx' fun i => { i with moves := i.moves.del k }
      else if m.phase = .aborting then s.abortMove k St.aborted false else s
    | none => s
  | .refuse => match find false with
    | some (k, m) => if m.phase = .copy then s.abortMove k St.busy false else s
    | none => s
  | .copy items =>
    match (find true).filter fun m => m.2.committed.isNone || m.2.seen.contains seq with
    | some (k, m) =>
      if seq ∈ m.seen then s.ackMove from_ table list seq
      else
        let x := s.takeItems table items
        (put k { m with items := m.items ++ x.1, seen := seq :: m.seen } x.2).ackMove from_ table list seq
    | none =>
      match s.canTake table list items with
      | none => s.hand (.seat from_) 0x1A 0 (.shuffle (.list table list) seq .refuse)
      | some a =>
        let x := s.takeItems table items
        let g := (x.2.tbl table).elim (genOf [] []) IdxTable.gen
        let id := ((find true).map Prod.fst).getD (256 + s.idx.nextMove)
        let m : ListMove := ⟨table, list, from_, true, none, .copy, 0, none, 1, [], [seq], x.1, a, none⟩
        let u := (put id m x.2).idx' fun i => { i with nextMove := i.nextMove + 1 }
        let u := (u.poolTake a (g.imageBytes (items.length + g.wayCap))).setDir g list { (u.dirEntry g list) with state := 1 }
        u.ackMove from_ table list seq
  | .forward item => match find true with
    | some (k, m) =>
      if seq ∈ m.seen ∨ m.committed.isSome then s.ackMove from_ table list seq
      else
        let out := m.items.filter fun x => x.1.key == item.key
        let kept := m.items.filter fun x => x.1.key != item.key
        if item.deleted then
          ((put k { m with items := kept, seen := seq :: m.seen } s).giveRows table (out.map Prod.snd)).ackMove from_ table list seq
        else
          let x := s.takeItems table [item]
          (put k { m with items := m.items ++ x.1, seen := seq :: m.seen } x.2).ackMove from_ table list seq
    | none => s
  | .handover => match find true with
    | some (k, m) =>
      let u := if m.committed.isSome then s else s.commitList k
      u.hand (.seat from_) 0x1A 0 (.shuffle (.list table list) seq .commitAck)
    | none => s
  | .abort =>
    let reply (s : State) : State := s.hand (.seat from_) 0x1A 0 (.shuffle (.list table list) seq .abortAck)
    match find true with
    | some (k, m) =>
      let u := if m.committed.isSome then s.withdrawList k
        else
          let v := (s.giveRows table (m.items.map Prod.snd)).poolGive m.addr
          match v.tbl table with
          | some t => v.setDir t.gen list { (v.dirEntry t.gen list) with state := if t.moved.any (·.1 == list) then 2 else 0 }
          | none => v
      reply ((u.idx' fun i => { i with moves := i.moves.del k }).retryWaiting table)
    | none => reply s

/-- MOVE_CANCEL (R257): in COPY the source aborts; in HANDOVER it sends ABORT and waits for the acknowledgement. -/
def moveCancel (id : Nat) (s : State) : State :=
  match s.idx.moves.get id with
  | some m =>
    if m.dest then s
    else match m.phase with
      | .copy => s.abortMove id St.aborted true
      | .handover => (s.idx' fun i => { i with moves := i.moves.put id { m with phase := .aborting } }).sendMove id .abort
      | .aborting | .closed => s
  | none => s

/-- Repeats the messages of a move of a list that have not been acknowledged, each IDX_SHUF_RESEND after it was sent last (R257). -/
def moveResend (id : Nat) (s : State) : State :=
  match s.idx.moves.get id with
  | some m =>
    let due (u : ShufUnacked) : Bool := s.past (u.sent + (s.reg Reg.IDX_SHUF_RESEND).toNat)
    let t := (m.unacked.filter due).foldl (fun t u => t.hand (.seat m.seat) 0x1A 0 (.shuffle (.list m.table m.list) u.seq u.msg)) s
    t.idx' fun i => { i with moves := i.moves.put id { m with unacked := m.unacked.map fun u => if due u then { u with sent := s.now } else u } }
  | none => s

/-- The destination of a move is declared lost: the source aborts it (R257). -/
def State.moveDestLost (seat : Nat) (s : State) : State :=
  s.idx.moves.foldl (fun s e =>
    if e.2.dest ∨ e.2.seat ≠ seat then s
    else if e.2.phase = .closed then s.idx' fun i => { i with moves := i.moves.del e.1 }
    else s.abortMove e.1 St.aborted false) s

/-- MOVE_SOURCE_LOST (R528): in COPY the destination discards the list; one handed over stays committed. -/
def State.moveSourceLost (seat : Nat) (s : State) : State :=
  s.idx.moves.foldl (fun s e =>
    if e.2.dest ∧ e.2.seat = seat ∧ e.2.committed.isNone then
      let v := (s.giveRows e.2.table (e.2.items.map Prod.snd)).poolGive e.2.addr
      let v := match v.tbl e.2.table with
        | some t => v.setDir t.gen e.2.list { (v.dirEntry t.gen e.2.list) with state := if t.moved.any (·.1 == e.2.list) then 2 else 0 }
        | none => v
      (v.idx' fun i => { i with moves := i.moves.del e.1 }).outcome 0x0072 sevAction 0xFF seat e.1
    else s) s

/-! ## Merges (R237 to R239, R250, R251) -/

/-- The stack a merge builds on (R238, R251): the one named, else that of the current image, else the pool's first. -/
def State.mergeStack (s : State) (g : TableGen) (m : ListMerge) : Nat :=
  let e := s.dirEntry g m.list
  m.stack.getD (if e.image = 0 then ((s.pds.get g.pdLists).bind fun d => d.extents.head?).elim 0 (fun x => stackOf x.addr) else stackOf e.image)

/-- The quadrant whose limit a merge counts against (R237). -/
def State.mergeQuadrant (s : State) (m : ListMerge) : Nat := (s.tbl m.table).elim 0 fun t => s.mergeStack t.gen m / 5

/-- Merges that wait, in the order they start: urgent ones first, then by trigger (R237). -/
def State.mergesWaiting (s : State) (q : Nat) : List ListMerge :=
  sortBy (fun a b => decide ((b1 (!a.urgent), a.order).1 < (b1 (!b.urgent), b.order).1 ∨ (a.urgent = b.urgent ∧ a.order < b.order)))
    (s.idx.merges.filter fun m => m.running.isNone && s.mergeQuadrant m == q)

/-- MERGE_START (R237, R238): the next merge of its quadrant starts where fewer than IDX_MERGE_MAX run; a move to a stack without room completes
with QUOTA (R251). -/
def mergeStart (table list : Nat) (s : State) : State :=
  match s.mergeOf table list, s.tbl table with
  | some m, some t =>
    let q := s.mergeQuadrant m
    let running := (s.idx.merges.filter fun x => x.running.isSome && s.mergeQuadrant x == q).length
    if !s.isRunning ∨ m.running.isSome ∨ !(t.state = 3 ∨ t.state = 5) ∨ (s.reg Reg.IDX_MERGE_MAX).toNat ≤ running ∨ (s.mergesWaiting q).head? ≠ some m then s
    else
      let g := t.gen
      let e := s.dirEntry g list
      let n := if e.image = 0 then 0 else (s.visibleAt g e.image t.milepost).length
      let stack := s.mergeStack g m
      let place := match s.poolPlace g (some stack) (g.imageBytes (n + g.wayCap)) with
        | some a => some a
        | none => if m.stack.isSome then none else s.poolPlace g none (g.imageBytes (n + g.wayCap))
      match place with
      | some a =>
        (s.poolTake a (g.imageBytes (n + g.wayCap))).idx' fun i => { i with
          merges := i.merges.map fun x => if x == m then { x with running := some (a, t.milepost) } else x }
      | none =>
        if m.stack.isSome then
          (s.idx' fun i => { i with merges := i.merges.filter (· != m) }).vcmdDone m.slot St.quota 0
        else s
  | _, _ => s

/-- Changes to a list with a commit milepost in (a, b], in commit order: the entry inserted, or the key deleted (apply_delta, R238). -/
def State.listDelta (s : State) (g : TableGen) (img a b : Nat) : List (Nat × Bool × Entry) :=
  let ws := s.wayRecords g (s.wayOf g img)
  let inside (x : Nat) : Bool := decide (a < x ∧ x ≤ b)
  let ts := (List.range (s.tsCount img)).filterMap fun r => let x := s.tsRec g img r; if inside x.2 then some (x.2, false, s.slotEntry g img x.1) else none
  let dels := ws.filterMap fun r => if inside r.deleted then some (r.deleted, false, r.entry) else none
  let ins := ws.filterMap fun r => if inside r.inserted then some (r.inserted, true, r.entry) else none
  sortBy (fun x y => decide (x.1 < y.1 ∨ (x.1 = y.1 ∧ x.2.1 = false ∧ y.2.1 = true))) (ts ++ dels ++ ins)

/-- Applies changes to the slots of an image under construction. -/
def applyDelta (c : Nat) (es : List Entry) (d : List (Nat × Bool × Entry)) : List Entry :=
  d.foldl (fun es x => if x.2.1 then es ++ [x.2.2] else replaceFirst (fun y => y.key == x.2.2.key) (fun _ => emptySlot c) es) es

/-- MERGE_COMMIT (R238, R239): the catch-up, the hold, the commit at the next milepost, and the release of what waited. While a group is being committed the
merge holds the operations on its list and its own commit waits (log 27). -/
def mergeCommit (table list : Nat) (s : State) : State :=
  match s.mergeOf table list, s.tbl table with
  | some m, some t =>
    match m.running, t.committing with
    | some _, some _ =>
      if !s.isRunning ∨ m.held.isSome then s
      else s.idx' fun i => { i with merges := i.merges.map fun x => if x == m then { x with held := some s.now } else x }
    | some (a, snap), none =>
      if !s.isRunning then s
      else
        let g := t.gen
        let e := s.dirEntry g list
        let mp := t.milepost + 1
        let es := if e.image = 0 then []
          else applyDelta g.codeBytes ((s.visibleAt g e.image snap).map Prod.fst) (s.listDelta g e.image snap t.milepost)
        let u := (s.dropLoneWay e).writeImage g table list mp e.image a es
        let u := u.setDir g list ⟨a, u.wayOf g a, mp, es.length, e.state⟩
        let sup := if e.image = 0 then [] else [(⟨.image list e.image, mp, s.now, none⟩ : Superseded)]
        let u := u.setTbl table { (t.marked s.cycle) with milepost := mp, superseded := t.superseded ++ sup }
        let u := u.idx' fun i => { i with merges := i.merges.filter (· != m) }
        let hold := min (2 ^ 32 - 1) (s.now - m.held.getD s.now)
        let u := u.setNat Reg.IDX_MERGE_HOLD_MAX (max hold (u.reg Reg.IDX_MERGE_HOLD_MAX).toNat)
        ((u.bump Reg.IDX_MERGES).retryWaiting table).vcmdDone m.slot St.ok mp
    | _, _ => s
  | _, _ => s

/-- MERGE and MOVE_STACK (R237, R250, R251). -/
def mergeRun (move : Bool) (slot : Nat) (s : State) : State :=
  let table := s.slotArg .vcmd slot 0 % 1024
  let list := s.slotArg .vcmd slot 1 % 2 ^ 24
  let stack := bitsOf (s.slotArg .vcmd slot 2) 31 24
  let st0 := s.tblState table
  let g := (s.tbl table).elim (genOf [] []) IdxTable.gen
  let m := s.mergeOf table list
  let onStack := (s.pds.get g.pdLists).any fun d => d.extents.any fun e => stackOf e.addr == stack
  let live := decide (st0 = 3 ∨ st0 = 5)
  let st := r21 [(decide (st0 = 0 ∨ st0 = 4), St.notOwner), ((move && decide (19 < stack)) || (live && (decide (g.lists ≤ list) || (move && !onStack))), St.range),
    (live && (s.dirEntry g list).state == 2, St.moved),
    (decide (st0 = 1 ∨ st0 = 2) || s.tableNamed .vcmd slot table || (s.moveOf table list).isSome
      || (if move then m.isSome else m.any fun x => x.running.isSome), St.busy)]
  if st ≠ St.ok then s.slotDone .vcmd slot st
  else
    let t := s.slotWaits .vcmd slot (.mergeOf table list)
    match m with
    | some x => t.idx' fun i => { i with merges := i.merges.map fun y => if y == x then { y with slot := some slot } else y }
    | none => t.triggerMerge table list (if move then some stack else none) false (some slot)

/-! ## Reclaiming (R240, R241) -/

/-- A query reads its table at a pin. -/
def Query.pinned (q : Query) : Bool := q.phase != .queued
def Query.table (q : Query) : Nat := fieldAt q.header 4 2
/-- Pins of a table, and the smallest of them or the table milepost (R241). -/
def State.pins (s : State) (table : Nat) : List Nat := (s.qry.queries.vals.filter fun q => q.pinned && q.table == table).map Query.pin
def State.oldest (s : State) (table : Nat) : Nat := ((minBy id (s.pins table))).getD ((s.tbl table).elim 0 IdxTable.milepost)

/-- A list whose directory entry names a freed image has none (R113). -/
def State.dirFreed (g : TableGen) (l a : Nat) (s : State) : State :=
  let e := s.dirEntry g l
  if l < g.lists ∧ e.image = a then s.setDir g l { e with image := 0, way := 0, entries := 0 } else s

/-- Frees one superseded object. An image that is listed as superseded itself is not freed with its table. -/
def State.reclaimOne (table : Nat) (x : Superseded) (s : State) : State :=
  match x.object with
  | .image l a =>
    let gens := (s.tbl table).elim [] fun t => t.gen :: t.prior
    ((gens.foldl (fun s g => s.dirFreed g l a) s).poolGive a).bump Reg.IDX_RECLAIM_IMAGES
  | .row r => ((s.giveRows table [r]).bump Reg.IDX_RECLAIM_ROWS)
  | .table g =>
    let listed := (s.tbl table).elim [] fun t => t.superseded.filterMap fun x => match x.object with | .image _ a => some a | _ => none
    let places := ((List.range g.lists).map fun l => (s.dirEntry g l).place).filter fun a => a != 0 && !listed.contains a
    (places.foldl (fun s a => s.poolGive a) s).modTbl table fun y => { y with prior := y.prior.filter fun h => h.since != g.since }

/-- MILEPOST_RECLAIM (R240): frees what no held milepost needs, and raises the floor. -/
def milepostReclaim (table : Nat) (s : State) : State :=
  match s.tbl table with
  | none => s
  | some t =>
    let oldest := s.oldest table
    let ready (x : Superseded) : Bool := decide (x.milepost ≤ oldest) && decide (x.ltc + (s.reg Reg.IDX_RETAIN).toNat ≤ s.now) && x.overlap.isNone
    let go := t.superseded.filter ready
    if !s.isRunning ∨ go = [] then s
    else
      let u := s.setTbl table { t with superseded := t.superseded.filter fun x => !ready x, floor := go.foldl (fun f x => max f x.milepost) t.floor }
      go.foldl (fun u x => u.reclaimOne table x) u

/-- The overlap of a cutover has passed, and no query that reads what it kept remains (R254). -/
def State.cutEnded (s : State) (table : Nat) (c : Cut) : Bool :=
  let ends := c.ltc + (s.reg Reg.IDX_SHUF_OVERLAP).toNat
  s.past ends && !s.qry.queries.vals.any fun q => q.table == table && decide (q.accept ≤ ends)

/-- SHUFFLE_OVERLAP_END (R254): the cutovers of a list whose overlap is over, be they the table's in service or a replaced one's, keep nothing any more. -/
def overlapEnd (table list : Nat) (s : State) : State :=
  match s.tbl table with
  | none => s
  | some t =>
    let ended (c : Cut) : Bool := c.list == list && s.cutEnded table c
    let left (g : TableGen) : TableGen := { g with cuts := g.cuts.filter fun c => !ended c }
    let done := ((t.gen :: t.prior).flatMap TableGen.cuts).filter ended
    s.setTbl table { t with
      gen := left t.gen
      prior := t.prior.map left
      superseded := t.superseded.map fun x =>
        if x.overlap = some list ∧ done.any (fun c => c.milepost == x.milepost) then { x with overlap := none } else x }

/-! ## Waiting operations and skew (R232, R249) -/

/-- UPDATE_WAIT_TIMEOUT (R232): operations that have waited IDX_UPD_WAIT complete with BUSY; the rest are tried again. -/
def updateWaitTimeout (table : Nat) (s : State) : State :=
  match s.tbl table with
  | none => s
  | some t =>
    let late (u : UpdUnit) : Bool := u.ops.any fun o => s.past (o.since + (s.reg Reg.IDX_UPD_WAIT).toNat)
    let out := t.waiting.filter late
    if out = [] then s
    else
      let u := s.setTbl table { t with waiting := t.waiting.filter fun u => !late u }
      let first (x : UpdUnit) (o : UpdOp) : Bool := (x.ops.head?.map UpdOp.idx) == some o.idx
      (out.foldl (fun s x => x.ops.foldl (fun s o => s.finishOp o (failed (if first x o then St.busy else St.aborted))) s) u).retryWaiting table

/-- SKEW_WINDOW_CLOSE (R249): the 64 lists of a quadrant with the highest counts. -/
def skewWindowClose (q : Nat) (s : State) : State :=
  if s.isRunning ∧ q < 4 ∧ s.idx.hotStart.getD q 0 + (s.reg Reg.IDX_SKEW_WIN).toNat ≤ s.now then
    let l := sortBy (fun a b : Nat × Nat => decide (b.2 < a.2 ∨ (a.2 = b.2 ∧ a.1 < b.1))) (s.idx.hotNow.getD q [])
    s.idx' fun i => { i with hotNow := i.hotNow.del q, hotLast := i.hotLast.put q (l.take 64), hotStart := i.hotStart.put q s.now }
  else s

/-- IDX_HOT_SEL (Table 6.10): the list at a rank of a quadrant in the last closed window. -/
def idxHotSel (v : W32) (s : State) : State :=
  if !s.isRunning then s
  else
    let n := (v &&& 0x33F).toNat
    let e := ((s.idx.hotLast.getD (n / 256) [])[n % 64]?).getD (0, 0)
    (((s.setNat Reg.IDX_HOT_SEL n).setNat Reg.IDX_HOT_TABLE (e.1 / 2 ^ 24)).setNat Reg.IDX_HOT_LIST (e.1 % 2 ^ 24)).setNat Reg.IDX_HOT_PAIRS (min (2 ^ 32 - 1) e.2)

end Sys2Proof.Machine
end

