-- ==== Sys2Proof/Machine/Cat.lean ====
section
/-! DEFINITION. The catalogue: LOAD, BUILD, DROP, whole-table replacement, and the table and list snapshots (R99, R101, R132 to R143,
R243 to R248). -/

namespace Sys2Proof.Machine

/-! ## Table images (R134, R135) -/

/-- A section of a table image. -/
structure ImgSec where
  typ : Nat
  column : Nat
  offset : Nat
  length : Nat
  check : Nat
deriving DecidableEq, Repr

/-- Where an image lies: in flash or stacked memory, and its address. -/
structure ImgSrc where
  flash : Bool
  addr : Nat
deriving DecidableEq, Repr

def State.srcRead (s : State) (x : ImgSrc) (off n : Nat) : Bytes :=
  if x.flash then s.flashBytes (x.addr + off) n else Mem.readBytes s.smem (x.addr + off) n

def State.srcSections (s : State) (x : ImgSrc) : List ImgSec :=
  let n := leNat (s.srcRead x 2 2)
  (List.range n).map fun i =>
    let b := s.srcRead x (64 + 32 * i) 32
    ⟨byteAt b 0, fieldAt b 2 2, fieldAt b 8 8, fieldAt b 16 8, fieldAt b 24 4⟩
def secOf (l : List ImgSec) (typ col : Nat) : Option ImgSec := l.find? fun e => e.typ == typ && e.column == col
def State.secBytes (s : State) (x : ImgSrc) (e : ImgSec) : Bytes := s.srcRead x e.offset e.length
/-- Bytes of a section at an offset within it; none where the section is absent. -/
def State.secAt (s : State) (x : ImgSrc) (e : Option ImgSec) (off n : Nat) : Bytes :=
  e.elim [] fun e => s.srcRead x (e.offset + off) n

/-- The table an image describes, by its TABLE section. -/
def State.srcTable (s : State) (x : ImgSrc) (l : List ImgSec) : TableGen :=
  let t := secOf l 1 0
  let d := s.secAt x t 0 128
  genOf d (s.secAt x t 128 (16 * fieldAt d 16 2))

/-- IMAGE_ADDR of a list: the offset of its image within section 5 (Table 3.12). -/
def State.srcAddr (s : State) (x : ImgSrc) (l : List ImgSec) (list : Nat) : Nat := leNat (s.secAt x (secOf l 4 0) (32 * list) 8)
/-- The image at an offset of section 5 names a list in its header. -/
def State.srcNames (s : State) (x : ImgSrc) (l : List ImgSec) (o list : Nat) : Bool :=
  decide (o + 64 ≤ (secOf l 5 0).elim 0 ImgSec.length) && leNat (s.secAt x (secOf l 5 0) (o + 4) 4) == list
/-- Offset of a list's image within section 5; `none` for a list with no image: IMAGE_ADDR 0, where another list's image lies or none (R113, log 9). -/
def State.srcImage (s : State) (x : ImgSrc) (l : List ImgSec) (list : Nat) : Option Nat :=
  let o := s.srcAddr x l list
  if o = 0 ∧ s.srcNames x l 0 list = false then none else some o
/-- Slots of a list's image. -/
def State.srcEntries (s : State) (x : ImgSrc) (l : List ImgSec) (o : Nat) : Nat := leNat (s.secAt x (secOf l 5 0) (o + 16) 4)
/-- An IMAGE_ADDR off a 64-byte boundary or outside section 5, an image there of another list, or one whose strips run past the section (R135, R136). -/
def State.srcImageBad (s : State) (x : ImgSrc) (l : List ImgSec) (g : TableGen) (list : Nat) : Bool :=
  (s.srcImage x l list).any fun o =>
    decide (o % 64 ≠ 0) || !s.srcNames x l o list
      || decide ((secOf l 5 0).elim 0 ImgSec.length < o + 64 + (s.srcEntries x l o + 63) / 64 * g.strip)
def State.srcSlot (s : State) (x : ImgSrc) (l : List ImgSec) (g : TableGen) (o i : Nat) : Entry :=
  let e := secOf l 5 0
  let b := o + 64 + i / 64 * g.strip
  let c := g.codeBytes
  ⟨leNat (s.secAt x e (b + 64 * c + 8 * (i % 64)) 8), leNat (s.secAt x e (b + 64 * c + 512 + 4 * (i % 64)) 4), s.secAt x e (b + i % 64 * c) c⟩
/-- The slots of every list that has an image; the others `none`. -/
def State.srcLists (s : State) (x : ImgSrc) (l : List ImgSec) (g : TableGen) : List (Option (List Entry)) :=
  (List.range g.lists).map fun k => (s.srcImage x l k).map fun o => (List.range (s.srcEntries x l o)).map (s.srcSlot x l g o)

/-- Placement descriptors that other objects fill (a table keeps its own while it is replaced, R246). -/
def State.pdsTaken (s : State) : List Nat :=
  s.idx.tables.vals.flatMap fun t => (if 3 ≤ t.state then t.gen.pdsAlone else []) ++ t.prior.flatMap TableGen.pdsAlone ++ t.loading.elim [] fun l => (genOf l.desc l.cols).pdsAlone
/-- Index tables that name a placement descriptor (R324). -/
def idxNames (n : Nat) (s : State) : Bool :=
  s.idx.tables.vals.any fun t => (if 1 ≤ t.state then t.gen.pds else []).contains n || (t.prior.flatMap TableGen.pds).contains n
    || t.loading.any fun l => (genOf l.desc l.cols).pds.contains n

/-- The fixed objects of a table fit their placement descriptors (R136). -/
def State.objectsFit (s : State) (g : TableGen) : Bool :=
  decide (g.centroidBytes ≤ s.pdLen g.pdCentroids ∧ g.bookBytes ≤ (if g.codeType = 3 then 0 else s.pdLen g.pdCodebook) ∧ 32 * g.lists ≤ s.pdLen g.pdListdir
    ∧ g.rows ≤ s.rowRoom g ∧ g.mapBytes ≤ s.pdLen g.pdKeymap)
  && decide g.pdsAlone.Nodup && !g.pdsAlone.any fun n => s.pdsTaken.contains n

/-- The checks of R136 (and R138 where `build`), with the BUSY and NOT_OWNER conditions of the command; the table, its sections, and the places
of its list images. -/
def State.loadChecks (s : State) (x : ImgSrc) (srcOk build : Bool) (id : Nat) (arg3 sample : Nat) (more : List (Bool × Nat)) :
    Nat × TableGen × Nat × Option (List Nat) :=
  let h := s.srcRead x 0 64
  let l := s.srcSections x
  let g := s.srcTable x l
  let total := fieldAt h 8 8
  let has (t : Nat) : Bool := (secOf l t 0).isSome
  let need (t n : Nat) : Bool := match secOf l t 0 with | some e => decide (e.length < n) | none => true
  let attrsOk := (List.range g.attrCols).all fun k => match secOf l 6 k with
    | some e => decide ((g.columns.getD k ⟨0, 1, 0⟩).width * g.rows ≤ e.length)
    | none => false
  let n := (secOf l 9 0).elim 0 fun e => e.length / 8
  let keys := if build then n else fieldAt g.desc 32 8
  let sized := if build then [] else (List.range g.lists).map fun k => (s.srcImage x l k).map (s.srcEntries x l)
  let tooMany := sized.any fun n => n.any fun n => decide (2 ^ 24 < n)
  let tableOk := match secOf l 1 0 with | some e => decide (128 ≤ e.length ∧ 128 + 16 * g.attrCols ≤ e.length) | none => false
  let okDesc := tableOk && !s.descBad g id
  let places := if !okDesc || tooMany then none else (s.poolPlaces g (sized.map g.listBytes)).map Prod.fst
  let checkBad := fieldAt h 60 4 != (crc32c (h.take 60 ++ s.srcRead x 64 (32 * l.length))).toNat
  let forms := if build then need 7 (n * g.fvBytes) || !has 9 || has 2 || has 3 || has 4 || has 5 || has 8
      || decide (arg3 / 2 ^ 24 = 0 ∨ 64 < arg3 / 2 ^ 24 ∨ 7 < arg3 % 256 ∨ sample < g.lists ∨ n < sample) || (g.isPq && decide (sample < 256)) || decide (g.rows < n)
    else need 2 g.centroidBytes || (g.codeType != 3 && need 3 g.bookBytes) || need 4 (32 * g.lists) || !has 5 || has 9
      || (g.fvFormat != 0 && need 7 (g.rows * g.fvBytes)) || (has 8 && need 8 g.mapBytes)
      || (okDesc && (List.range g.lists).any fun k => s.srcImageBad x l g k)
  (r21 (more ++ [(srcOk && (byteAt h 1 != 1 || decide (1 < byteAt h 0) || (byteAt h 0 == 0 && has 8)), St.version),
    (srcOk && (l.any (fun e => decide (total < e.offset + e.length)) || tooMany || (build && decide (2 ^ 32 - 1 < n))
      || decide (2 ^ 36 < s.keyCount + keys)), St.length),
    (!srcOk || checkBad || l.any (fun e => decide (e.typ = 0 ∨ 9 < e.typ ∨ e.offset % 64 ≠ 0 ∨ (e.typ ≠ 6 ∧ e.column ≠ 0)))
      || !decide (l.map fun e => (e.typ, e.column)).Nodup || l.any (fun e => e.typ == 6 && decide (g.attrCols ≤ e.column)) || !okDesc || !attrsOk || forms, St.range),
    (okDesc && (!s.objectsFit g || places.isNone), St.quota)]), g, keys, places)

/-! ## LOAD and BUILD (R136 to R138, R141) -/

/-- LOAD and BUILD start: the checks, then the table is LOADING or BUILDING with its keys reserved and its images' places taken (R101, R136). -/
def loadRun (build : Bool) (slot : Nat) (s : State) : State :=
  let a0 := s.slotArg .idx slot 0
  let id := a0 % 1024
  let src : ImgSrc := ⟨bitsOf a0 31 28 == 1, s.slotArg .idx slot 1 + 2 ^ 32 * s.slotArg .idx slot 2⟩
  let srcOk := decide (bitsOf a0 31 28 < 2) && (src.flash || stackOk src.addr)
  let a3 := s.slotArg .idx slot 3
  let a4 := s.slotArg .idx slot 4
  let c := s.loadChecks src srcOk build id a3 a4 [(s.tblState id != 0 || s.tableNamed .idx slot id, St.busy)]
  if c.1 ≠ St.ok then s.slotDone .idx slot c.1
  else
    let g := c.2.1
    let places := c.2.2.2.getD []
    let l := s.srcSections src
    let sized := if build then [] else (List.range g.lists).map fun k => (s.srcImage src l k).map (s.srcEntries src l)
    let t := (places.zip sized).foldl (fun t p => t.poolTake p.1 (g.listBytes p.2)) s
    let ld : Loading := ⟨slot, src.flash, src.addr, g.desc, g.cols, places, c.2.2.1, build, a3, a4⟩
    let x : IdxTable := ⟨if build then 2 else 1, g, [], 0, 0, 1, [], [], [], none, none, [], none, [], none, some ld, none, 0, 0, 0, 0, [], 0⟩
    ((t.setTbl id x).slotWaits .idx slot (if build then .build id else .load id)).showIdx

/-- A load ends without a table (R136, R137): everything allocated is freed. -/
def State.loadFails (id slot st : Nat) (s : State) : State :=
  let l := (s.tbl id).elim [] fun t => t.loading.elim [] Loading.images
  (((l.foldl (fun s a => s.poolGive a) s).idx' fun i => { i with tables := i.tables.del id }).showIdx).slotDone .idx slot st

/-- Marks the slots of later duplicates: by list, the slot numbers to tombstone (R137). -/
def dupSlots (ls : List (List Entry)) : List (List Nat) :=
  (ls.foldl (fun (acc : List (List Nat) × List Nat) es =>
    let r := (List.range es.length).foldl (fun (a : List Nat × List Nat) i =>
      let k := (es.getD i ⟨emptyKey, noRow, []⟩).key
      if k = emptyKey then a else if a.2.contains k then (a.1 ++ [i], a.2) else (a.1, k :: a.2)) ([], acc.2)
    (acc.1 ++ [r.1], r.2)) ([], [])).1

/-- Copies the sections that lie apart from the lists: centroids, codebook, columns, full vectors (R112, R124, R126). -/
def State.copyObjects (x : ImgSrc) (l : List ImgSec) (g : TableGen) (s : State) : State :=
  let t := s.objPut g.pdCentroids 0 (s.secAt x (secOf l 2 0) 0 g.centroidBytes)
  let t := if g.codeType = 3 then t else t.objPut g.pdCodebook 0 (s.secAt x (secOf l 3 0) 0 g.bookBytes)
  t

/-- Copies columns and full vectors row by row. -/
def State.copyRows (x : ImgSrc) (l : List ImgSec) (g : TableGen) (s : State) : State :=
  (List.range g.rows).foldl (fun t r =>
    let attrs := (List.range g.attrCols).map fun k =>
      let w := (g.columns.getD k ⟨0, 1, 0⟩).width
      s.secAt x (secOf l 6 k) (r * w) w
    t.rowStore g r attrs (s.secAt x (secOf l 7 0) (r * g.fvBytes) g.fvBytes)) s

/-- Writes the lists of a table at a milepost, each at its place, with duplicates tombstoned; a list with no image has an empty wayside list of its own
(R113, R136, R137). -/
def State.writeLists (id : Nat) (g : TableGen) (mp : Nat) (ls : List (Option (List Entry))) (places : List Nat) (dups : List (List Nat)) (s : State) : State :=
  ((List.range ls.length).foldl (fun (a : State × List Nat) k =>
    match ls.getD k none, a.2 with
    | some es, p :: rest =>
      let t := a.1.writeImage g id k mp 0 p es
      let t := (dups.getD k []).foldl (fun t i => t.tombstone g p i mp) t
      (t.setDir g k ⟨p, t.wayOf g p, mp, es.length, 0⟩, rest)
    | none, p :: rest => ((a.1.sPut p (g.emptyWay id k)).setDir g k ⟨0, p, mp, 0, 0⟩, rest)
    | _, [] => a) (s, places)).1

/-- Clears the key map, then enters every visible key of the lists (R127, R136). -/
def State.buildMap (g : TableGen) (ls : List (Option (List Entry))) (dups : List (List Nat)) (s : State) : State :=
  let t := s.objPut g.pdKeymap 0 (List.replicate g.mapBytes 0)
  (List.range ls.length).foldl (fun t k =>
    let es := (ls.getD k none).getD []
    (List.range es.length).foldl (fun t i =>
      let e := es.getD i ⟨emptyKey, noRow, []⟩
      if e.key = emptyKey ∨ (dups.getD k []).contains i then t else t.mapPut g e.key k) t) t

/-- Keys visible in the lists. -/
def visibleKeys (ls : List (Option (List Entry))) (dups : List (List Nat)) : Nat :=
  ((ls.flatMap fun es => (es.getD []).filter fun e => e.key != emptyKey).length) - (dups.map List.length).foldl (· + ·) 0

/-- A section's CRC-32C fails (R136). -/
def State.crcBad (s : State) (x : ImgSrc) (l : List ImgSec) : Bool := l.any fun e => e.check != (crc32c (s.secBytes x e)).toNat

/-- Sections copied without a CRC mismatch, for IDX_CMD_RESULT. -/
def State.sectionsDone (s : State) (x : ImgSrc) (l : List ImgSec) : Nat := (l.takeWhile fun e => e.check == (crc32c (s.secBytes x e)).toNat).length

/-- TABLE_LOAD_DONE (R136, R137). -/
def tableLoadDone (slot : Nat) (s : State) : State :=
  match (s.slots.runs.get (slotKey .idx slot)).bind SlotRun.wait with
  | some (.load id) => match s.tbl id with
    | some t => match t.loading with
      | some ld =>
        let x : ImgSrc := ⟨ld.flash, ld.addr⟩
        let l := s.srcSections x
        let g := genOf ld.desc ld.cols
        let done := s.sectionsDone x l
        if s.crcBad x l then (s.bump Reg.IDX_IMAGE_CRC_ERR).loadFails id slot (256 * done + St.fault)
        else
          let ls := s.srcLists x l g
          let dups := dupSlots (ls.map fun es => es.getD [])
          if dups.any fun d => decide (g.tsCap < d.length) then s.loadFails id slot (256 * done + St.length)
          else
            let n := visibleKeys ls dups
            let u := (((s.copyObjects x l g).copyRows x l g).writeLists id g 1 ls ld.images dups)
            let u := match secOf l 8 0 with
              | some e => u.objPut g.pdKeymap 0 (s.srcRead x e.offset g.mapBytes)
              | none => u.buildMap g ls dups
            let u := u.bumpBy Reg.IDX_DUP_KEYS ((dups.map List.length).foldl (· + ·) 0)
            let g := { g with since := 1, mapLive := n }
            ((u.setTbl id { t with state := 3, gen := g, milepost := 1, keys := n, loading := none }).showIdx).slotDone .idx slot (256 * done + St.ok)
      | none => s
    | none => s
  | _ => s

/-! ### BUILD (R138) -/

/-- Vectors of a build: FP32 components, normalised for COSINE; bits as +1 and −1 for HAMMING (log 9). -/
def buildVec (g : TableGen) (b : Bytes) : List W32 :=
  if g.metric = 3 then (List.range g.dim).map fun t => if bitOf (byteAt b (t / 8)) (t % 8) then 0x3F800000 else 0xBF800000
  else prepared g.metric (fvVals g.fvFormat g.dim b)

/-- Distance of the table's metric in a build, its sum spread over the engines (R139). -/
def buildDist (metric seed : Nat) (v c : List W32) : W32 :=
  match metric with
  | 0 => spreadDistSq seed v c
  | 3 => hamming (signBits v) (signBits c)
  | _ => fneg (spreadDot seed v c)

/-- Mean of vectors, summed as the engines spread it (R139). -/
def meanOf (seed d : Nat) (vs : List (List W32)) : List W32 :=
  (List.range d).map fun t => fdiv (spreadSum seed (vs.map fun v => v.getD t 0)) (fofInt vs.length)

/-- One round: assignment, then the means, then empty centroids replaced by the unused vector farthest from its own centroid (R138). -/
def buildRound (metric seed d : Nat) (norm : Bool) (vs : List (List W32)) (cs : List (List W32)) : List (List W32) × Nat :=
  let near := vs.map fun v => (nearestOf (fun k => buildDist metric (seed + k) v (cs.getD k [])) cs.length).getD 0
  let members (k : Nat) : List (List W32) := (vs.zip near).filterMap fun p => if p.2 = k then some p.1 else none
  let means := (List.range cs.length).map fun k =>
    if members k = [] then cs.getD k [] else (let m := meanOf (seed + k) d (members k); if norm then fnormalise m else m)
  let far := (vs.zip near).map fun p => orderKey (buildDist metric (seed + p.2) p.1 (means.getD p.2 []))
  let r := (List.range cs.length).foldl (fun (a : List (List W32) × List Nat) k =>
    if members k ≠ [] then (a.1 ++ [means.getD k []], a.2)
    else match minBy (fun i => 2 ^ 32 - far.getD i 0) ((List.range vs.length).filter fun i => !a.2.contains i) with
      | some i => (a.1 ++ [vs.getD i []], i :: a.2)
      | none => (a.1 ++ [means.getD k []], a.2)) ([], [])
  (r.1, r.2.length)

/-- The loop of R138. -/
def buildLoop (metric d : Nat) (norm : Bool) (vs : List (List W32)) : Nat → Nat → List (List W32) → Nat → List (List W32) × Nat
  | 0, _, cs, n => (cs, n)
  | k + 1, seed, cs, n =>
    let r := buildRound metric seed d norm vs cs
    buildLoop metric d norm vs k (seed + cs.length) r.1 (n + r.2)

/-- The first `n` vectors with distinct content, in order. -/
def distinctFirst (n : Nat) (vs : List (List W32)) : List (List W32) :=
  (vs.foldl (fun (a : List (List W32)) v => if a.contains v then a else a ++ [v]) []).take n

/-- A BF16 vector as bytes. -/
def bf16Bytes (v : List W32) : Bytes := v.flatMap fun x => leBytes 2 (bf16.convert 1 (f32Val x) 0).1

/-- Fills a codebook's centroids up to `k` where the sample has too few distinct parts: values the manual does not give (log 9). -/
def padBook (k w draw : Nat) (cs : List (List W32)) : List (List W32) :=
  cs ++ (List.range (k - cs.length)).map fun i =>
    (List.range w).map fun t => w32 (leNat ((List.range 4).map fun b => Config.undefinedByte draw (4 * (w * i + t) + b)))

/-- What BUILD computes from the vectors of section 7 (R138): centroids, codebook, the entries of each list, the keys dropped as repeats, and how many
centroids were left empty; `none` where the sample has fewer distinct vectors than the table has lists. -/
def State.buildPlan (s : State) (x : ImgSrc) (l : List ImgSec) (g : TableGen) (ld : Loading) :
    Option (List (List W32) × Bytes × List (Option (List Entry)) × Nat × Nat) :=
  let n := ld.keys
  let len := if g.metric = 3 then g.dim / 8 else g.fvBytes
  let raw (i : Nat) : Bytes := s.secAt x (secOf l 7 0) (i * len) len
  let vec (i : Nat) : List W32 := buildVec g (raw i)
  let iters := ld.arg3 / 2 ^ 24
  let sample := (List.range ld.sample).map fun i => vec (i * (n / ld.sample))
  let first := distinctFirst g.lists sample
  if first.length < g.lists then none
  else
    let c := buildLoop g.metric g.dim (g.metric == 2) sample iters s.free first 0
    let cents := c.1.map fun v => v.map toBf16
    let near (v : List W32) : Nat := (nearestOf (fun k => buildDist g.metric (s.free + k) v (cents.getD k [])) g.lists).getD 0
    let resid (v : List W32) : List W32 := if g.residual then (v.zip (cents.getD (near v) [])).map fun p => fsub p.1 p.2 else v
    let train := sample.map resid
    let w := if g.isPq then g.dim / g.pqM else 1
    let kk := if g.codeType = 0 then 256 else 16
    let subs := if !g.isPq then [] else (List.range g.pqM).map fun sub =>
      let vs := train.map fun v => (v.drop (sub * w)).take w
      buildLoop g.metric w false vs iters (s.free + (1 + sub) * 70000) (padBook kk w (s.free + sub) (distinctFirst kk vs)) 0
    let lo (t : Nat) : W32 := train.foldl (fun m v => if Sys2Proof.Machine.flt (v.getD t 0) m then v.getD t 0 else m) ((train.headD []).getD t 0)
    let hi (t : Nat) : W32 := train.foldl (fun m v => fmax m (v.getD t 0)) ((train.headD []).getD t 0)
    let scale (t : Nat) : W32 := if feq (hi t) (lo t) then 0x3F800000 else fdiv (fsub (hi t) (lo t)) (fofInt 255)
    let book : Bytes := match g.codeType with
      | 3 => []
      | 2 => ((List.range g.dim).flatMap fun t => leBytes 4 (lo t).toNat) ++ ((List.range g.dim).flatMap fun t => leBytes 4 (scale t).toNat)
      | _ => subs.flatMap fun r => r.1.flatMap bf16Bytes
    let coding : Coding := ⟨g.metric, g.codeType, g.pqM, g.dim, g.residual, book⟩
    let keyAt (i : Nat) : Nat := leNat (s.secAt x (secOf l 9 0) (8 * i) 8)
    let seen := (List.range n).foldl (fun (a : List Nat × List Nat × Nat) i =>
      if keyAt i = emptyKey then a else if a.2.1.contains (keyAt i) then (a.1, a.2.1, a.2.2 + 1) else (a.1 ++ [i], keyAt i :: a.2.1, a.2.2)) ([], [], 0)
    let entry (i : Nat) : Nat × Entry :=
      let v := vec i
      let k := near v
      (k, ⟨keyAt i, i, coding.encodeBy (spreadDistSq s.free) v (raw i) (cents.getD k [])⟩)
    let es := seen.1.map entry
    some (cents, book, (List.range g.lists).map fun k => some (es.filterMap fun e => if e.1 = k then some e.2 else none), seen.2.2,
      c.2 + (subs.map Prod.snd).foldl (· + ·) 0)

/-- Places for the lists of a build. -/
def State.buildPlaces (s : State) (g : TableGen) (ls : List (Option (List Entry))) : Option (List Nat × State) :=
  s.poolPlaces g (ls.map fun e => g.imageBytes ((e.getD []).length))

/-- BUILD_DONE (R138): the table is LIVE with centroids, codebook, codes and lists of what was computed. -/
def buildDone (slot : Nat) (s : State) : State :=
  match (s.slots.runs.get (slotKey .idx slot)).bind SlotRun.wait with
  | some (.build id) => match s.tbl id with
    | some t => match t.loading with
      | some ld =>
        let x : ImgSrc := ⟨ld.flash, ld.addr⟩
        let l := s.srcSections x
        let g := genOf ld.desc ld.cols
        let done := s.sectionsDone x l
        if s.crcBad x l then (s.bump Reg.IDX_IMAGE_CRC_ERR).loadFails id slot (256 * done + St.fault)
        else match s.buildPlan x l g ld with
          | none => s.loadFails id slot (256 * done + St.range)
          | some (cents, book, ls, repeats, empties) =>
            let kept := visibleKeys ls []
            if ls.any fun es => decide (2 ^ 24 < (es.getD []).length) then s.loadFails id slot (256 * done + St.length)
            else match s.buildPlaces g ls with
            | none => s.loadFails id slot (256 * done + St.quota)
            | some (places, s1) =>
              let rows := cents.flatMap fun v => sliceAt (bf16Bytes v) 0 g.centroidStride
              let norms := cents.flatMap fun v => leBytes 4 (fdot v v).toNat
              let u := (s1.objPut g.pdCentroids 0 (rows ++ norms))
              let u := if g.codeType = 3 then u else u.objPut g.pdCodebook 0 book
              let u := ((u.copyRows x l g).writeLists id g 1 ls places []).buildMap g ls []
              let u := (u.bumpBy Reg.IDX_DUP_KEYS repeats).bumpBy Reg.IDX_EMPTY_CENTROIDS empties
              let g := { g with since := 1, mapLive := kept }
              ((({ u with free := u.free + 1 }).setTbl id { t with state := 3, gen := g, milepost := 1, keys := kept, loading := none }).showIdx).slotDone
                .idx slot (256 * done + St.ok)
      | none => s
    | none => s
  | _ => s

/-! ## DROP (R140) -/

/-- DROP: a LIVE table is DROPPING between two commit groups. -/
def dropRun (slot : Nat) (s : State) : State :=
  let id := s.slotArg .idx slot 0 % 1024
  match s.tbl id with
  | none => s.slotDone .idx slot (if s.tableNamed .idx slot id then St.busy else St.notOwner)
  | some t =>
    if t.state ≠ 3 ∨ t.pending.isSome ∨ s.tableNamed .idx slot id then s.slotDone .idx slot (if t.state = 0 then St.notOwner else St.busy)
    else ((s.setTbl id { t with pending := some (.drop slot) }).slotWaits .idx slot (.other 4 id 0)).stateTurn id

/-- DROP_FREE: the last query pinned to a DROPPING table has retired, and every object of the table is freed. -/
def dropFree (id : Nat) (s : State) : State :=
  match s.tbl id with
  | none => s
  | some t =>
    if t.state ≠ 4 ∨ s.pins id ≠ [] then s
    else
      let gs := t.gen :: t.prior
      let imgs := gs.flatMap fun g => (List.range g.lists).map fun l => (s.dirEntry g l).place
      let old := t.superseded.filterMap fun x => match x.object with | .image _ a => some a | _ => none
      let u := (imgs ++ old).foldl (fun s a => if a = 0 then s else s.poolGive a) s
      let u := (u.idx' fun i => { i with tables := i.tables.del id }).showIdx
      match t.dropSlot with
      | some slot => u.slotDone .idx slot St.ok
      | none => u

/-- Runs a catalogue command (Table 3.13). -/
def idxRun (slot op : Nat) (s : State) : State :=
  match op with
  | 1 => loadRun false slot s
  | 2 => loadRun true slot s
  | 3 => dropRun slot s
  | _ => s.slotDone .idx slot St.range

/-! ## Replacing a whole table (R243 to R248) -/

/-- REPLACE_BEGIN (R243). -/
def replaceBeginRun (slot : Nat) (s : State) : State :=
  let id := s.slotArg .vcmd slot 0 % 1024
  let size := s.slotArg .vcmd slot 2 % 65536 * 2 ^ 20
  let st0 := s.tblState id
  let g := (s.tbl id).elim (genOf [] []) IdxTable.gen
  let place := s.poolPlace g none size
  let st := r21 [(decide (st0 = 0), St.notOwner), (decide (size = 0), St.range), (decide (st0 = 3) && place.isNone, St.quota),
    (decide (st0 ≠ 0 ∧ st0 ≠ 3) || (s.tbl id).any (fun t => t.pending.isSome) || s.tableNamed .vcmd slot id || s.idx.moves.vals.any fun m => m.table == id && m.committed.isNone, St.busy)]
  match s.tbl id with
  | none => s.slotDone .vcmd slot st
  | some t =>
    if st ≠ St.ok then s.slotDone .vcmd slot st
    else
      let a := place.getD 0
      let u := (s.poolTake a size).setTbl id { t with pending := some (.replace slot size), logAddr := a }
      (u.slotWaits .vcmd slot (.other 5 id 0)).stateTurn id

/-- REPLACE_COMMIT (R246, R248): the checks, then the new image loads beside the table in service. -/
def replaceCommitRun (slot : Nat) (s : State) : State :=
  let a0 := s.slotArg .vcmd slot 0
  let id := a0 % 1024
  let src : ImgSrc := ⟨bitsOf a0 31 28 == 1, s.slotArg .vcmd slot 3 + 2 ^ 32 * s.slotArg .vcmd slot 4⟩
  let srcOk := decide (bitsOf a0 31 28 < 2) && (src.flash || stackOk src.addr)
  match s.tbl id with
  | none => s.slotDone .vcmd slot (s.loadChecks src srcOk false id 0 0 [(true, St.notOwner)]).1
  | some t =>
    if s.tableNamed .vcmd slot id = false ∧ t.owedAborts ≠ 0 then
      (s.setTbl id { t with owedAborts := t.owedAborts - 1 }).slotDone .vcmd slot St.aborted
    else
      let c := s.loadChecks src srcOk false id 0 0 [(t.state != 5 || s.tableNamed .vcmd slot id || t.loading.isSome, St.busy)]
      if c.1 ≠ St.ok then s.slotDone .vcmd slot c.1
      else
        let ld : Loading := ⟨slot, src.flash, src.addr, c.2.1.desc, c.2.1.cols, [], c.2.2.1, false, 0, 0⟩
        ((s.setTbl id { t with loading := some ld }).slotWaits .vcmd slot (.replaceLoad id)).showIdx

/-- The replacement ends without a commit: the new objects are freed and the log runs on (R246). -/
def State.replaceFails (id slot st : Nat) (s : State) : State :=
  ((s.modTbl id fun t => { t with loading := none }).slotDone .vcmd slot st).showIdx

/-- Commits and publishes every group that a table holds (R246, step 3: what is under way is in the log before the tail is replayed). -/
def State.flushGroups (id : Nat) : Nat → State → State
  | 0, s => s
  | n + 1, s => State.flushGroups id n ((groupCommit id (s.modTbl id IdxTable.closeGroup)).publish id)

/-- A replayed insert finds room: a row, and a place in the key map for a new key (R222, R246). -/
def State.replayRoom (s : State) (g : TableGen) (lists : List (Option (List Entry))) (had : Bool) : Bool :=
  (g.freeRows != [] || (decide (g.rows < noRow) && decide (g.rows < s.rowRoom g)))
    && (had || (decide (visibleKeys lists [] < 4 * 2 ^ g.mapBits) && decide (s.keyCount < 2 ^ 36)))

/-- Replays one logged operation onto the lists of the new table, as an UPDATE or DELETE with LIST_GIVEN ignored (R246). An operation that fails there, for
want of a list or of room (R222), leaves the lists as they are (log 27). -/
def State.replayOp (old g : TableGen) (r : Nat × Bytes × Nat) (acc : State × List (Option (List Entry)) × TableGen) : State × List (Option (List Entry)) × TableGen :=
  let key := opKey r.2.1
  let here (es : List Entry) : Bool := es.any fun e => e.key == key
  let had := acc.2.1.any fun es => here (es.getD [])
  let out := acc.2.1.map fun es => es.map fun l => replaceFirst (fun e => e.key == key) (fun _ => emptySlot g.codeBytes) l
  if opCode r.2.1 = 3 then
    if had then (acc.1, out, acc.2.2) else (acc.1.bump Reg.IDX_REPLAY_SKIPPED, acc.2.1, acc.2.2)
  else
    let s := acc.1
    let raw := vecVals r.1 g.dim (recVector old r.1 r.2.1)
    let v := prepared g.metric raw
    let bits := if g.metric = 3 then sliceAt (recVector old r.1 r.2.1) 0 (g.dim / 8) else []
    match nearestOf (fun l => probeDist g.metric (s.free + l) v bits (s.centroid g l) (s.norm g l)) g.lists with
    | none => acc
    | some l =>
      if !s.replayRoom acc.2.2 acc.2.1 had then acc
      else
      let x := takeRow acc.2.2
      let fv := if g.fvFormat = 1 ∧ r.1 = 2 then sliceAt (recVector old r.1 r.2.1) 0 g.dim else fvEncode g.fvFormat v
      let e : Entry := ⟨key, x.1, (s.coding g).encode v bits (s.centroid g l)⟩
      (s.rowStore x.2 x.1 (recAttrs old r.2.1) fv, out.set l (some (((out.getD l none).getD []) ++ [e])), x.2)

/-- REPLACE_LOAD_DONE (R246, R247): the new objects, the log replayed, and the swap at M_c. -/
def replaceLoadDone (slot : Nat) (s : State) : State :=
  match (s.slots.runs.get (slotKey .vcmd slot)).bind SlotRun.wait with
  | some (.replaceLoad id) => match (s.tbl id).bind IdxTable.loading with
    | none => s
    | some ld =>
      let x : ImgSrc := ⟨ld.flash, ld.addr⟩
      let l := s.srcSections x
      let g := genOf ld.desc ld.cols
      if s.crcBad x l then (s.bump Reg.IDX_IMAGE_CRC_ERR).replaceFails id slot St.fault
      else
        let ls := s.srcLists x l g
        let dups := dupSlots (ls.map fun es => es.getD [])
        if dups.any fun d => decide (g.tsCap < d.length) then s.replaceFails id slot St.length
        else
          let s := s.flushGroups id ((s.tbl id).elim 0 fun t => t.groups.length)
          match s.tbl id with
          | none => s
          | some t =>
            if t.state ≠ 5 then s
            else
              let s1 := (s.copyObjects x l g).copyRows x l g
              let lists := (List.range ls.length).map fun k => (ls.getD k none).map fun es => (List.range es.length).map fun i =>
                if (dups.getD k []).contains i then emptySlot g.codeBytes else es.getD i ⟨emptyKey, noRow, []⟩
              let r := t.log.foldl (fun a o => State.replayOp t.gen g o a) (s1, lists, g)
              let final := r.2.1
              match r.1.poolPlaces g (final.map fun es => g.listBytes (es.map List.length)) with
              | none => s.replaceFails id slot St.quota
              | some (places, s2) =>
                let mc := t.milepost + 1
                let n := visibleKeys final []
                let u := (s2.writeLists id g mc final places []).buildMap g final []
                let u := (u.poolGive t.logAddr).bumpBy Reg.IDX_DUP_KEYS ((dups.map List.length).foldl (· + ·) 0)
                let g2 := { r.2.2 with since := mc, mapLive := n }
                let t := t.marked s.cycle
                let keep := t.superseded.filter fun o => match o.object with | .row _ => false | _ => true
                let u := (s.idx.merges.filter fun m => m.table == id).foldl (fun u m => u.stopMerge m) u
                let nt : IdxTable := { t with
                  state := 3
                  gen := g2
                  prior := t.prior ++ [t.gen]
                  milepost := mc
                  keys := n
                  superseded := keep ++ [⟨.table t.gen, mc, s.now, none⟩]
                  splits := []
                  moved := []
                  loading := none
                  base := 0
                  logAddr := 0
                  logCap := 0
                  logUsed := 0
                  log := [] }
                ((((u.setTbl id nt).bump Reg.IDX_REPLACE_DONE).retryWaiting id).vcmdDone (some slot) St.ok mc).showIdx
  | _ => s

/-- REPLACE_CANCEL (R248). -/
def replaceCancelRun (slot : Nat) (s : State) : State :=
  let id := s.slotArg .vcmd slot 0 % 1024
  match s.tbl id with
  | none => s.slotDone .vcmd slot St.notOwner
  | some t =>
    if t.state ≠ 5 ∨ s.tableNamed .vcmd slot id then s.slotDone .vcmd slot St.busy else ((s.abortReplace id).retryWaiting id).slotDone .vcmd slot St.ok

/-- Runs a version command (Table 6.10). -/
def vcmdRun (slot op : Nat) (s : State) : State :=
  match op with
  | 1 => mergeRun false slot s
  | 2 => mergeRun true slot s
  | 3 => moveSeatRun false slot s
  | 4 => moveSeatRun true slot s
  | 5 => replaceBeginRun slot s
  | 6 => replaceCommitRun slot s
  | 7 => replaceCancelRun slot s
  | _ => s.slotDone .vcmd slot St.range

/-! ## Snapshots (R143, R261) -/

/-- IDX_TBL_SEL (Tables 3.13 and 6.10). -/
def idxTblSel (v : W32) (s : State) : State :=
  if !s.isRunning then s
  else
    let n := v.toNat % 1024
    let t := s.tbl n
    let f (g : IdxTable → Nat) : Nat := t.elim 0 g
    let d (g : TableGen → Nat) : Nat := f fun t => g t.gen
    let s1 := (((s.setNat Reg.IDX_TBL_SEL n).setNat Reg.IDX_TBL_INFO0
      (f (fun t => 2 ^ 29 * t.state) + d (fun g => 2 ^ 26 * g.codeType + 2 ^ 24 * g.metric + 2 ^ 16 * g.pqM + g.dim))).setNat Reg.IDX_TBL_INFO1
      (d fun g => 2 ^ 29 * g.fvFormat + 2 ^ 28 * b1 g.fvFlash + 2 ^ 27 * b1 g.residual + 2 ^ 21 * g.attrCols + g.codeBytes)).setNat Reg.IDX_TBL_LISTS (d TableGen.lists)
    let s2 := ((s1.setPair Reg.IDX_TBL_MP_LO (f IdxTable.milepost)).setPair Reg.IDX_TBL_KEYS_LO (f IdxTable.keys)).setNat Reg.IDX_TBL_ROWS (d TableGen.rows)
    let s3 := (s2.setNat Reg.IDX_TBL_PINS (if t.isSome then (s.pins n).length else 0)).setPair Reg.IDX_TBL_OLDEST_LO (if t.isSome then s.oldest n else 0)
    let s4 := (s3.setPair Reg.IDX_TBL_FLOOR_LO (f fun t => if 3 ≤ t.state then t.floor else 0)).setPair Reg.IDX_TBL_BASE_LO (f fun t => if t.state = 5 then t.base else 0)
    (s4.setNat Reg.IDX_TBL_LOG_USED (f fun t => (t.logUsed + 1023) / 1024)).setNat Reg.IDX_TBL_SPLITS (f fun t => t.splits.length)

/-- IDX_LST_SEL_LIST (Table 3.13): the list of the table in IDX_LST_SEL_TABLE. -/
def idxLstSel (v : W32) (s : State) : State :=
  if !s.isRunning then s
  else
    let n := v.toNat % 2 ^ 24
    let t := (s.tbl ((s.reg Reg.IDX_LST_SEL_TABLE).toNat % 1024)).filter fun t => 3 ≤ t.state && decide (n < t.gen.lists)
    let f (k : IdxTable → DirEntry → Nat) : Nat := t.elim 0 fun t => k t (s.dirEntry t.gen n)
    let img (k : Nat → Nat) : Nat := f fun _ e => if e.image = 0 then 0 else k e.image
    let s1 := (((s.setNat Reg.IDX_LST_SEL_LIST n).setNat Reg.IDX_LST_STATE (f fun _ e => e.state)).setNat Reg.IDX_LST_ENTRIES (f fun _ e => e.entries)).setNat
      Reg.IDX_LST_WAYSIDE (f fun t e => if e.way = 0 then 0 else 65536 * t.gen.wayCap + s.wayCount e.way)
    ((s1.setNat Reg.IDX_LST_TOMBS (f fun t e => if e.image = 0 then 0 else 65536 * t.gen.tsCap + s.tsCount e.image)).setPair Reg.IDX_LST_MP_LO
      (f fun _ e => e.milepost)).setPair Reg.IDX_LST_IMAGE_MP_LO (img s.imgMp)

end Sys2Proof.Machine
end

