-- ==== Sys2Proof/Machine/Sel.lean ====
section
/-! DEFINITION. Selection (chapter Selection, Ties and Merging): SELECT, the threshold, duplicates, a hand's flush, the final select, answer records and
the dealer's merge. -/

namespace Sys2Proof.Machine

/-! ## The select primitive (R189 to R192) -/

/-- The key of +∞: the hand threshold before a hand is full (R197). -/
abbrev infKey : Nat := 0xFF800000
/-- Order key of a distance (R189). -/
def dKey (d : W32) : Nat := orderKey d

/-- SELECT (R191): entries below the threshold and the first `budget` at it, in input order, and how many at it were left out. -/
def selectTau {α : Type} (key : α → Nat) (tau : Nat) : Nat → List α → List α × Nat
  | _, [] => ([], 0)
  | budget, x :: rest =>
    if key x < tau then
      let r := selectTau key tau budget rest
      (x :: r.1, r.2)
    else if key x = tau then
      match budget with
      | 0 => let r := selectTau key tau 0 rest; (r.1, r.2 + 1)
      | b + 1 => let r := selectTau key tau b rest; (x :: r.1, r.2)
    else selectTau key tau budget rest

/-- The smallest byte value whose cumulative count reaches `need`, with the need left inside it (R192). -/
def histPlace (count : Nat → Nat) : Nat → Nat → Nat → Nat × Nat
  | 0, v, need => (v, need)
  | n + 1, v, need => if need ≤ count v then (v, need) else histPlace count n (v + 1) (need - count v)

/-- Radix refinement over bytes `b - 1` down to 0 (R192). -/
def kthStep (keys : List Nat) : Nat → Nat → Nat → Nat
  | 0, pre, _ => pre
  | b + 1, pre, need =>
    let same := keys.filter fun k => k / 256 ^ (b + 1) == pre / 256 ^ (b + 1)
    let r := histPlace (fun v => (same.filter fun k => k / 256 ^ b % 256 == v).length) 255 0 need
    kthStep keys b (pre + r.1 * 256 ^ b) r.2

/-- The key at place `p` in ascending order (R192). -/
def kthKey (keys : List Nat) (p : Nat) : Nat := kthStep keys 4 0 p

/-- Of candidates with one key the first by `lt`, then by input order, stays in its place (R207). -/
def dedup {α : Type} (key : α → Nat) (lt : α → α → Bool) (xs : List α) : List α :=
  let ix := List.zip (List.range xs.length) xs
  (ix.filter fun a => !(ix.any fun b => key b.2 == key a.2 && (lt b.2 a.2 || (!lt a.2 b.2 && decide (b.1 < a.1))))).map Prod.snd

/-- Within a node (R207): distance, then die. -/
def candLt (a b : Cand) : Bool := decide (dKey a.dist < dKey b.dist ∨ (dKey a.dist = dKey b.dist ∧ a.die < b.die))
def dedupCands (xs : List Cand) : List Cand := dedup (fun c => c.key.toNat) candLt xs

/-! ## A query's parameters -/

def qTable (h : Bytes) : Nat := fieldAt h 4 2
def qTenant (h : Bytes) : Nat := fieldAt h 6 2
def qK (h : Bytes) : Nat := fieldAt h 8 2
def qNprobe (h : Bytes) : Nat := fieldAt h 10 2
def qRerank (h : Bytes) : Nat := fieldAt h 12 2
def qQueue (h : Bytes) : Nat := byteAt h 14
def qWiden (h : Bytes) : Bool := bitOf (byteAt h 15) 0
def qExact (h : Bytes) : Bool := bitOf (byteAt h 15) 1
def qPinGiven (h : Bytes) : Bool := bitOf (byteAt h 15) 2
def qFormat (h : Bytes) : Nat := byteAt h 16
def qFilterBytes (h : Bytes) : Nat := fieldAt h 18 2
def qDeadline (h : Bytes) : Nat := fieldAt h 20 4
def qMilepost (h : Bytes) : Nat := fieldAt h 24 8
/-- Keep count p of a query (R156, R197). -/
def qKeep (h : Bytes) : Nat := if qExact h then qK h else max (qK h) (qRerank h)
/-- Hands of a query (R156). -/
def qHands (h : Bytes) : Nat := if qExact h then 1 else (max (qK h) (qRerank h) + 4095) / 4096

/-! ## A hand (R194 to R199) -/

/-- Hand order (R199): entries stand in input order, so a stable sort by key. -/
def handOrder (xs : List Cand) : List Cand := sortBy (fun a b => decide (dKey a.dist < dKey b.dist)) xs

/-- The flush of R197. -/
def Query.flushed (q : Query) : Query :=
  let all := q.entries ++ q.staging
  let cand := dedupCands all
  let p := qKeep q.header
  let q := { q with staging := [], dups := q.dups + (all.length - cand.length) }
  if p ≤ cand.length then
    let tn := kthKey (cand.map fun c => dKey c.dist) p
    let drop := if tn < q.t then 0 else q.tieDrop
    let r := selectTau (fun c : Cand => dKey c.dist) tn (p - (cand.filter fun c => decide (dKey c.dist < tn)).length) cand
    { q with entries := r.1, t := tn, tieDrop := drop + r.2 }
  else { q with entries := cand }

/-! ## Answer records (R205, R206) -/

/-- A place of an answer. -/
structure AnsPlace where
  key : Nat
  dist : W32
  seat : Nat
  die : Nat
  flags : Nat
deriving DecidableEq, Repr

def padPlace : AnsPlace := ⟨2 ^ 64 - 1, 0x7F800000, 255, 255, 0⟩
/-- +0 for −0 (R204). -/
def plusZero (d : W32) : W32 := if d = 0x80000000 then 0 else d
def AnsPlace.bytes (p : AnsPlace) : Bytes :=
  leBytes 8 p.key ++ leBytes 4 (plusZero p.dist).toNat ++ leBytes 1 p.seat ++ leBytes 1 p.die ++ leBytes 1 p.flags ++ leBytes 1 0

/-- The figures of an answer header beside those copied from the descriptor. -/
structure AnsHead where
  status : Nat
  flags : Nat
  nValid : Nat
  nExact : Nat
  tie : Nat
  seat : Nat
  asked : Nat
  answered : Nat
  milepost : Nat
  dups : Nat
  nans : Nat
  stages : Nat
  elapsed : Nat
deriving DecidableEq, Repr

/-- An answer record (R205): `desc` is the descriptor's header. Status OK and SHORT carry K places, padded (R202). -/
def answerBytes (desc : Bytes) (h : AnsHead) (places : List AnsPlace) : Bytes :=
  let entries := if h.status ≤ 1 then qK desc else 0
  let ps := places ++ List.replicate (entries - places.length) padPlace
  leBytes 1 0 ++ leBytes 1 1 ++ leBytes 1 h.status ++ leBytes 1 h.flags ++ leBytes 4 (64 + 16 * entries) ++ leBytes 2 (qTable desc)
    ++ leBytes 2 (qTenant desc) ++ leBytes 2 (qK desc) ++ leBytes 2 entries ++ leBytes 2 h.nValid ++ leBytes 2 h.nExact
    ++ leBytes 1 (min 255 h.tie) ++ leBytes 1 h.seat ++ leBytes 1 h.asked ++ leBytes 1 h.answered ++ leBytes 8 h.milepost ++ sliceAt desc 32 8
    ++ leBytes 2 (min 65535 h.dups) ++ leBytes 2 (min 65535 h.nans) ++ leBytes 1 h.stages ++ List.replicate 3 0
    ++ leBytes 4 (min (2 ^ 32 - 1) h.elapsed) ++ List.replicate 12 0 ++ (if h.status ≤ 1 then ps.flatMap AnsPlace.bytes else [])

/-! ## The final select (R201 to R204) -/

def placeOf (seat : Nat) (exact : Bool) (c : Cand) : AnsPlace := ⟨c.key.toNat, c.dist, seat, c.die, b1 exact + 2 * b1 c.way⟩

/-- The places of a query's answer, its N_EXACT and TIE_EXTRA: `ordered` are the reranked entries in final order, `rest` the hand entries that were
not reranked, in hand order (R181, R201, R203). -/
def Query.finalSelect (q : Query) (seat : Nat) : List AnsPlace × Nat × Nat :=
  let k := qK q.header
  let ex := qExact q.header
  let r := q.ordered.length
  let rest := if ex then handOrder q.entries else (handOrder q.entries).filter fun c => !(q.ordered.any fun o => o.1.seq == c.seq)
  let all := (q.ordered.map fun o => (o.1, o.2)) ++ rest.map fun c => (c, ex)
  let ps := all.take k
  let last := (ps.getLast?.map fun p => dKey p.1.dist).getD 0
  let tie :=
    if ps.length < k then 0
    else if k ≤ r ∧ !ex then ((q.ordered.drop k).filter fun o => dKey o.1.dist == last).length
    else if q.t = last then q.tieDrop else 0
  (ps.map fun p => placeOf seat p.2 p.1, if ex then ps.length else min k r, tie)

/-! ## Merging (R208 to R212) -/

/-- A candidate of a merge: key, distance, milepost of its answer, seat, die, local rank, entry flags. -/
structure MCand where
  key : Nat
  dist : W32
  milepost : Nat
  seat : Nat
  die : Nat
  rank : Nat
  flags : Nat
deriving DecidableEq, Repr

def ansStatus (a : Bytes) : Nat := byteAt a 2
def ansFlags (a : Bytes) : Nat := byteAt a 3
def ansValid (a : Bytes) : Nat := fieldAt a 16 2
def ansExact (a : Bytes) : Nat := fieldAt a 18 2
def ansMilepost (a : Bytes) : Nat := fieldAt a 24 8
/-- An answer contributes (R208). -/
def contributes (a : Bytes) : Bool := decide (ansStatus a ≤ 1)
/-- Places 1 to N_VALID of a seat's answer. -/
def ansCands (seat : Nat) (a : Bytes) : List MCand :=
  (List.range (ansValid a)).map fun i =>
    let o := 64 + 16 * i
    ⟨fieldAt a o 8, w32 (fieldAt a (o + 8) 4), ansMilepost a, seat, byteAt a (o + 13), i + 1, byteAt a (o + 14)⟩

/-- Which copy of a key stays (R207), before input order. -/
def mergeLt (a b : MCand) : Bool :=
  let x := [dKey a.dist, 2 ^ 64 - a.milepost, a.seat, a.die]
  let y := [dKey b.dist, 2 ^ 64 - b.milepost, b.seat, b.die]
  decide (x < y)
/-- The merged order (R210). -/
def mergeOrder (a b : MCand) : Bool := decide ([dKey a.dist, a.seat, a.die, a.rank] < [dKey b.dist, b.seat, b.die, b.rank])

/-- What a merge gives: the answer record, duplicates removed, NaN distances dropped, and whether TIE_AT_K is set. -/
structure Merged where
  record : Bytes
  dups : Nat
  nans : Nat
deriving DecidableEq, Repr

/-- Largest n such that each of places 1 to n lies within the first N_EXACT places of its seat's answer (R211). -/
def mergedExact (answers : List (Nat × Bytes)) : List MCand → Nat
  | [] => 0
  | c :: rest => if (answers.any fun a => a.1 == c.seat && decide (c.rank ≤ ansExact a.2)) then 1 + mergedExact answers rest else 0

/-- The merge of the answers that came, by seat, of `asked` seats (R208 to R212); `short`: a share has no seat (R446). -/
def mergeAnswers (desc : Bytes) (short : Bool) (asked : Nat) (dealer elapsed : Nat) (came : List (Nat × Bytes)) : Merged :=
  let k := qK desc
  let came := sortBy (fun a b : Nat × Bytes => decide (a.1 < b.1)) came
  let good := came.filter fun a => contributes a.2
  let raw := good.flatMap fun a => ansCands a.1 a.2
  let fine := raw.filter fun c => !isNan c.dist
  let nans := raw.length - fine.length
  let uniq := dedup MCand.key mergeLt fine
  let dups := fine.length - uniq.length
  let cand := sortBy mergeOrder uniq
  let ps := cand.take k
  let d := (ps.getLast?.map fun c => dKey c.dist).getD 0
  let extra := ((cand.drop k).filter fun c => dKey c.dist == d).length
  let more := ((good.filter fun a => bitOf (ansFlags a.2) 0 && dKey (w32 (fieldAt a.2 (64 + 16 * (k - 1) + 8) 4)) == d).map fun a => byteAt a.2 20).foldl
    (· + ·) 0
  let tie := if ps.length < k then 0 else min 255 (extra + more)
  let mps := good.map fun a => ansMilepost a.2
  let mp := (minBy id mps).getD 0
  let any (i : Nat) : Nat := b1 (good.any fun a => bitOf (ansFlags a.2) i)
  let missing := short || decide (good.length < asked)
  let flags := b1 (decide (0 < tie)) + 2 * any 1 + 4 * any 2 + 8 * any 3 + 16 + 32 * b1 missing + 64 * b1 (mps.any (· != mp))
  let sum (off : Nat) : Nat := (good.map fun a => fieldAt a.2 off 2).foldl (· + ·) 0
  let stages := (good.map fun a => byteAt a.2 44).foldl max 0
  let status := if good = [] then (came.head?.map fun a => ansStatus a.2).getD St.timeout else if ps.length = k then St.ok else St.short
  let h : AnsHead := ⟨status, flags, ps.length, mergedExact good ps, tie, dealer, asked, good.length, mp, dups + sum 40, nans + sum 42, stages, elapsed⟩
  ⟨answerBytes desc h (ps.map fun c => ⟨c.key, c.dist, c.seat, c.die, c.flags⟩), dups, nans⟩

end Sys2Proof.Machine
end

