-- ==== Sys2Proof/Machine/Qry.lean ====
section
/-! DEFINITION. Acceptance, admission, the coarse probe, ranking and the end of a query (R144 to R164, R185, R186). -/

namespace Sys2Proof.Machine

/-! ## Queries -/

def State.qry' (f : QrySt → QrySt) (s : State) : State := { s with qry := f s.qry }
def State.query (s : State) (n : Nat) : Option Query := s.qry.queries.get n
def State.setQuery (n : Nat) (q : Query) (s : State) : State := s.qry' fun x => { x with queries := x.queries.put n q }

/-- Use of hands and query numbers by a tenant (R470). -/
def State.handUse (s : State) (t : Nat) : Nat := ((s.qry.queries.vals.filter fun q => qTenant q.header == t).map Query.hands).foldl (· + ·) 0
def State.numberUse (s : State) (t : Nat) : Nat := (s.qry.queries.vals.filter fun q => qTenant q.header == t).length

/-- The occupancy registers of Table 4.12. -/
def State.showQry (s : State) : State :=
  (s.setNat Reg.QRY_OUTSTANDING s.qry.queries.length).setNat Reg.QRY_HANDS_FREE
    ((s.reg Reg.QRY_HAND_POOL).toNat - (s.qry.queries.vals.map Query.hands).foldl (· + ·) 0)

/-- Tenant parameters of Table 4.7. -/
def State.tntNprobeMax (s : State) (t : Nat) : Nat := s.cfgField Reg.QRY_TNT_CFG t 0 256
def State.tntClass (s : State) (t : Nat) : Nat := s.cfgField Reg.QRY_TNT_CFG t 24 0
def State.tntExactClass (s : State) (t : Nat) : Nat := s.cfgField Reg.QRY_TNT_CFG t 27 7
def State.tntExact (s : State) (t : Nat) : Bool := s.cfgField Reg.QRY_TNT_CFG t 30 0 == 1
def State.tntDeadline (s : State) (t : Nat) : Nat := s.cfgField Reg.QRY_TNT_DEADLINE t 0 1000000

/-- Objects of a table that a pin reads (R247): those of the newest commit at or below it. -/
def IdxTable.genAt (t : IdxTable) (p : Nat) : TableGen :=
  if t.gen.since ≤ p then t.gen
  else ((sortBy (fun a b : TableGen => decide (b.since < a.since)) t.prior).find? fun g => decide (g.since ≤ p)).getD t.gen

/-- A table has an object on a retired stack (R524). -/
def State.genLost (s : State) (g : TableGen) : Bool := g.pds.any fun n => (s.pds.get n).elim true PlaceDesc.lost

/-! ## Answers -/

/-- Sends an answer record to its requester. -/
def State.sendAnswer (q : Query) (b : Bytes) (hint flags : Nat) (s : State) : State := s.handHint q.dest 0x11 flags hint (.bytes b)

/-- An answer with no entries (R155, R185, R186); a query that timed out did so at its deadline. -/
def State.bareAnswer (s : State) (q : Query) (st : Nat) : Bytes :=
  let adm := q.phase != .queued
  answerBytes q.header ⟨st, 4 * b1 q.widened + 8 * b1 (qExact q.header), 0, 0, 0, s.answerSeat, 1, 1, if adm then q.pin else 0, q.dups, q.nans,
    if adm then min 255 q.stages else 0, (if st = St.timeout then min s.now q.deadline else s.now) - q.accept⟩ []

/-- A member leaves its tricks (R185): an open one keeps its deadline and is freed with its last member; in a launched one its place stays, with its query. -/
abbrev noMember : Nat := 16384
def Trick.without (n : Nat) (t : Trick) : Trick := { t with members := t.members.filter fun m => m.1 != n }
def Trick.blank (n : Nat) (q : Query) (t : Trick) : Trick :=
  match t.members.findIdx? fun m => m.1 == n with
  | some i => { t with members := t.members.set i (noMember, 0), gone := t.gone.put i q }
  | none => t
def TrickFormer.leave (n : Nat) (q : Query) (f : TrickFormer) : TrickFormer :=
  let opens : Tbl Trick := (f.opens.mapVals fun t => t.without n).filter fun e => !e.2.members.isEmpty
  { f with opens := opens, queue := f.queue.map (Trick.blank n q), held := f.held.map (Trick.blank n q), input := f.input.filter fun p => p.1 != n,
           due := f.due.filter fun d => opens.has d.1 }

/-- A query's number and hands are freed; it leaves its queue, batch and tricks (R185); a batch ends with its last query. -/
def State.freeQuery (n : Nat) (s : State) : State :=
  match s.query n with
  | none => s
  | some q => (s.qry' fun x => { x with
    queries := x.queries.del n
    queues := x.queues.mapVals fun l => l.filter (· != n)
    headAt := x.queues.foldl (fun h e => if e.2.head? = some n then h.put e.1 s.now else h) x.headAt
    batches := (x.batches.mapVals fun b => { b with members := b.members.filter fun m => m.1 != n }).filter fun b => !b.2.members.isEmpty
    formers := x.formers.mapVals (TrickFormer.leave n q)
    engines := x.engines.mapVals fun e => { e with trick := e.trick.blank n q } }).showQry

/-- A query ends: its counter (Table 4.12) and its answer, and it is freed. -/
def State.endQuery (n st : Nat) (s : State) : State :=
  match s.query n with
  | none => s
  | some q =>
    let t := if q.phase != .queued then s.bump (Reg.QRY_DONE + 4 * st)
      else s.bumpIf (st == St.timeout || st == St.notOwner || st == St.stale || st == St.fault) (Reg.QRY_REJECT + 4 * st)
    (t.sendAnswer q (s.bareAnswer q st) 0 0).freeQuery n

/-- Ends every query that satisfies a test. -/
def State.endQueries (p : Query → Bool) (st : Nat) (s : State) : State :=
  ((s.qry.queries.filter fun e => p e.2).map Prod.fst).foldl (fun s n => s.endQuery n st) s

/-! ## Acceptance (R154 to R157) -/

/-- The vector, and where the filter program lies: F of R147. -/
def qVecBytes (h : Bytes) (g : TableGen) : Nat := vecBytes (qFormat h) g.dim
def qFilterAt (h : Bytes) (g : TableGen) : Nat := 64 + 64 * ((qVecBytes h g + 63) / 64)
def qFilter (b : Bytes) (g : TableGen) : Bytes := sliceAt b (qFilterAt b g) (qFilterBytes b)

/-- The checks of Table 4.6 against a descriptor `g`, where the table has one; `mo` is the outcome by the map milepost (R440). A dealer makes the checks that
read no table state (R444). -/
def State.queryStatus (s : State) (dealer : Bool) (b : Bytes) (mo : MapOutcome) (g : Option TableGen) : Nat :=
  let table := qTable b
  let tenant := qTenant b
  let ex := qExact b
  let st0 := s.tblState table
  let known := decide (table ≤ 1023)
  let fmtOk := decide (qFormat b ≤ 3)
  let fb := qFilterBytes b
  let withG (f : TableGen → Bool) : Bool := g.any f
  let t := s.tbl table
  let serving := !dealer && known && (st0 == 3 || st0 == 5)
  let mapped (st : Nat) : Bool := match mo with | .fails x _ _ => x == st | .served => false
  r21 [(!s.tenantConfigured tenant || (known && !s.tenantTable tenant table) || (ex && !s.tntExact tenant), St.denied),
    (byteAt b 1 != 1 || decide (0 < byteAt b 0), St.version),
    (decide (4096 < qK b) || (!ex && decide (16384 < qRerank b ∨ 4096 < qNprobe b)) || decide (512 < fb)
      || (fmtOk && withG fun g => decide (fieldAt b 2 2 < qFilterAt b g + fb)), St.length),
    (!known || qK b == 0 || (!ex && decide (qNprobe b = 0 ∨ s.tntNprobeMax tenant < qNprobe b)) || decide (7 < qQueue b) || !fmtOk
      || (fmtOk && withG fun g => !vecFormatOk g.metric (qFormat b)
        || vecNotFinite (qFormat b) g.dim (sliceAt b 64 (qVecBytes b g))
        || !filterValid g.columns false (readNodes (qFilter b g)))
      || decide (fb % 16 ≠ 0) || (ex && withG fun g => g.fvFormat == 0 && g.metric != 3), St.range),
    ((!dealer && known && (st0 == 0 || st0 == 4)) || mapped St.notOwner, St.notOwner),
    (mapped St.moved, St.moved),
    (serving && qPinGiven b && t.any fun t => decide (qMilepost b < t.floor), St.stale),
    (decide (s.quotaChecked (.tenant tenant) 4 < s.numberUse tenant + 1 ∨ s.quotaChecked (.tenant tenant) 3 < s.handUse tenant + qHands b), St.quota),
    ((!dealer && known && (st0 == 1 || st0 == 2)) || (serving && qPinGiven b && t.any fun t => decide (t.milepost < qMilepost b))
      || mapped St.busy || decide (16384 ≤ s.qry.queries.length)
      || decide ((s.reg Reg.QRY_HANDS_FREE).toNat < qHands b), St.busy)]

/-- The next select unit in turn that is not retired (R156). -/
def State.turnSu (s : State) : Option Nat := ((List.range 32).map fun i => (s.qry.nextSu + i) % 32).find? fun u => !s.isRetired 6 u

/-- A query that has not been accepted yet. -/
def newQuery (dest : MsgDest) (h : Bytes) (now : Nat) (g : TableGen) : Query where
  dest := dest
  header := h
  vector := []
  filter := []
  accept := now
  deadline := 0
  hands := 0
  handAt := []
  su := 0
  phase := .queued
  pin := 0
  gen := g
  ranks := []
  used := 0
  stages := 0
  probe := []
  pairsTo := []
  pairsOpen := 0
  widened := false
  inbox := []
  entries := []
  t := infKey
  inForce := infKey
  flushAt := 0
  before := (0, infKey)
  tieDrop := 0
  staging := []
  oldest := 0
  nextSeq := 0
  dups := 0
  nans := 0
  partialRerank := false
  rerank := []
  ordered := []
  cursor := 0

/-- A refused descriptor (R155): its counters and its answer, FLAGS and figures 0. -/
def State.refuseQuery (q : Query) (st : Nat) (mo : MapOutcome) (s : State) : State :=
  let t := s.bump (Reg.QRY_REJECT + 4 * st)
  let tenant := qTenant q.header
  let t := if st = St.quota then
      t.quotaRefused (.tenant tenant) (if s.quotaChecked (.tenant tenant) 4 < s.numberUse tenant + 1 then 4 else 3)
    else t
  let mapped := match mo with | .fails x _ _ => x == st | .served => false
  t.sendAnswer q (answerBytes q.header ⟨st, 0, 0, 0, 0, s.answerSeat, 1, 1, 0, 0, 0, 0, 0⟩ []) (if mapped then mo.hint else 0) (if mapped then mo.flags else 0)

/-- The lowest-numbered hands of the pool that no query holds (R156; the manual does not number them, log 41). -/
def State.freeHands (s : State) (n : Nat) : List Nat :=
  ((List.range (s.reg Reg.QRY_HAND_POOL).toNat).filter fun h => !s.qry.queries.vals.any fun q => q.handAt.contains h).take n

/-- A descriptor, its REQUESTER stamped (R148), in the intake region of its tenant's home admission unit (R145). -/
def State.intake (h body : Bytes) (s : State) : State := s.throughNow 1 (4 + qTenant h % 4) 0 (h ++ body.drop 64)

/-- A descriptor is checked, and accepted or answered (R154 to R158). -/
def State.takeQuery (dest : MsgDest) (src : W32) (mp : Option Nat) (body : Bytes) (s : State) : State :=
  let h := sliceAt body 0 40 ++ leBytes 4 src.toNat ++ sliceAt body 44 20
  let s := s.intake h body
  let table := qTable h
  let t := s.tbl table
  let g := if table ≤ 1023 ∧ s.tblState table ≠ 0 then t.map fun t => if qPinGiven h ∧ qMilepost h ≤ t.milepost then t.genAt (qMilepost h) else t.gen
    else none
  let mo := match mp with | some m => s.mapOutcome m table none | none => .served
  let st := s.queryStatus false (h ++ body.drop 64) mo g
  let q := newQuery dest h s.now (g.getD (genOf [] []))
  if st ≠ St.ok then s.refuseQuery q st mo
  else match s.turnSu, g, s.qry.queries.lowestFree 0 16384 with
    | some su, some g, some n =>
      if s.genLost g then s.refuseQuery q St.fault .served
      else
        let tenant := qTenant h
        let dl := if qDeadline h = 0 then s.tntDeadline tenant else qDeadline h
        let q := { q with vector := sliceAt body 64 (qVecBytes h g), filter := sliceAt body (qFilterAt h g) (qFilterBytes h), deadline := s.now + dl,
                          hands := qHands h, handAt := s.freeHands (qHands h), su := su }
        let t := (s.bump64 Reg.QRY_ACCEPTED_LO 1).bumpIf (qExact h) Reg.QRY_EXACT
        (t.qry' fun x => { x with
          queries := x.queries.put n q
          queues := x.queues.modifyD (8 * tenant + qQueue h) [] fun l => l ++ [n]
          headAt := if (x.queues.getD (8 * tenant + qQueue h) []).isEmpty then x.headAt.put (8 * tenant + qQueue h) s.now else x.headAt
          nextSu := (su + 1) % 32 }).showQry
    | _, _, _ => s.refuseQuery q St.fault .served

/-- QUERY (R144, R148, R154): a descriptor received whole; one with TO_DEALER set is the dealer's (R443). -/
def query (m : Msg) (s : State) : State :=
  if !s.isRunning ∨ m.flags.getLsbD 0 ∨ m.body.length < 64 then s
  else s.takeQuery (.endpoint m.src) m.src (some m.mapMp.toNat) m.body

/-! ## Admission (R158, R159) and probe batches (R161) -/

/-- Matrix engines that probe for a table (R162, log 13): those of its serving composition, or the system's where it has none. -/
def State.probers (s : State) (table : Nat) : List Nat :=
  let c := Config.servingComp table
  let lives := (s.lend.comps.get c).any fun x => (x.state == 1 || x.state == 2) && !bitOf (byteAt x.desc 5) 0
  let owner : Owner := if lives then .comp c else .system
  (List.range 32).filter fun i => (s.engine .me i).owner == owner && (s.engine .me i).clearing.isNone && !s.isRetired 4 i

/-- A batch launches; without an engine to probe on, its queries complete with FAULT (R162, R517). -/
def State.launchBatch (b : Nat) (s : State) : State :=
  match s.qry.batches.get b with
  | none => s
  | some x =>
    if (s.probers x.table).isEmpty then
      (x.members.foldl (fun s m => s.endQuery m.1 St.fault) s).qry' fun y => { y with batches := y.batches.del b }
    else
      let t := s.qry' fun y => { y with batches := y.batches.put b { x with launched := true } }
      x.members.foldl (fun s m => match s.query m.1 with
        | some q => s.setQuery m.1 { q with phase := .probing }
        | none => s) t

/-- A released query joins its table's batch, which launches when it is full. -/
def State.joinBatch (n table : Nat) (s : State) : State :=
  let size := bitsOf (s.reg Reg.QRY_PROBE_CFG).toNat 8 0
  let found := s.qry.batches.find? fun b => b.2.table == table && !b.2.launched
  let b := (found.map Prod.fst).getD s.qry.nextBatch
  let x := ((found.map Prod.snd).getD ⟨table, [], s.now, false⟩)
  let x := { x with members := x.members ++ [(n, s.now)], lastJoin := s.now }
  let t := s.qry' fun y => { y with batches := y.batches.put b x, nextBatch := max y.nextBatch (b + 1) }
  if size ≤ x.members.length then t.launchBatch b else t

/-- A query leaves its shaper queue and is admitted at its pin (R158, R159, R247), or ends, as one does whose deadline has passed (R185). -/
def State.letsIn (n : Nat) (s : State) : State :=
  match s.query n with
  | none => s
  | some q =>
    let table := qTable q.header
    if s.past q.deadline then s.endQuery n St.timeout
    else match s.tbl table with
    | none => s.endQuery n St.notOwner
    | some t =>
      let now := t.admits s.cycle
      if now.1 ≠ 3 ∧ now.1 ≠ 5 then s.endQuery n St.notOwner
      else
        -- the first replacement committed since acceptance
        let later := minBy id (((t.gen :: t.prior).map TableGen.since).filter fun x => decide (q.gen.since < x ∧ x ≤ now.2))
        let given := qPinGiven q.header
        let pin := if given then qMilepost q.header else match later with | some m => m - 1 | none => now.2
        if pin < t.floor then s.endQuery n St.stale
        else
          let g := t.genAt pin
          let q := { q with pin := pin, gen := g, stages := 1, phase := if qExact q.header then .exact else .batched }
          let u := (s.setQuery n q).bumpIf (!given && later.isSome) Reg.IDX_REPLACE_PRIOR
          if s.genLost g then u.endQuery n St.fault
          else if qExact q.header then u
          else u.joinBatch n table

/-- What the queues of a tenant's admission hold at their heads. -/
def State.tenantHeads (s : State) (tenant : Nat) : List (Option Nat) :=
  (List.range 8).map fun q => if (s.qry.queues.getD (8 * tenant + q) []).isEmpty then none else some 1
/-- The queue that a tenant's admission would release from now. -/
def State.tenantPick (s : State) (tenant : Nat) : Option Nat × PointSt :=
  let p := s.point (.tenant tenant)
  p.select 1 (s.tenantHeads tenant) (fun _ => true) (p.stillOpen s.now fun q => s.qry.headAt.getD (8 * tenant + q) 0)
/-- The tenant that an admission unit takes next: of those with an eligible queue, the first after the last one taken, in turn (R145, R457). -/
def State.tenantTurn (s : State) (unit : Nat) : Option Nat :=
  let last := s.qry.turns.getD unit 4095
  let waits := (dedupList (s.qry.queues.map fun e => e.1 / 8)).filter fun t =>
    t % 4 == unit && s.tenantConfigured t && (s.tenantPick t).1.isSome
  minBy (fun t => (t + 4095 - last) % 4096) waits

/-- QUERY_RELEASE (R457, R458): the tenant's shaper releases one query, in the tenant's turn at its admission unit. -/
def queryRelease (tenant : Nat) (s : State) : State :=
  if !s.isRunning || s.tenantTurn (tenant % 4) != some tenant then s
  else
    let r := s.tenantPick tenant
    match r.1 with
    | none => s
    | some k =>
      match s.qry.queues.getD (8 * tenant + k) [] with
      | [] => s
      | n :: rest =>
        let t := s.setPoint (.tenant tenant) (r.2.sentItem k 1 rest.isEmpty)
        (t.qry' fun x => { x with queues := x.queues.put (8 * tenant + k) rest, headAt := x.headAt.put (8 * tenant + k) s.now,
                                  turns := x.turns.put (tenant % 4) tenant }).letsIn n

/-- The LTC at which the oldest query left in a batch joined it. -/
def Batch.oldest (x : Batch) : Nat := (minBy id (x.members.map Prod.snd)).getD 0

/-- PROBE_BATCH_DEADLINE (R161, R167): the batch's oldest query has waited QRY_PROBE_DL, and no release joined at this LTC value. -/
def probeBatchDeadline (table : Nat) (s : State) : State :=
  match s.qry.batches.find? fun b => b.2.table == table && !b.2.launched with
  | none => s
  | some (b, x) =>
    if s.isRunning ∧ x.oldest + fld (s.reg Reg.QRY_PROBE_CFG) 31 16 ≤ s.now ∧ x.lastJoin < s.now then s.launchBatch b else s

/-- Query values as the probe and the scan use them (R105, R162). -/
def Query.values (q : Query) : List W32 := prepared q.gen.metric (vecVals (qFormat q.header) q.gen.dim q.vector)
def Query.bits (q : Query) : Bytes := if q.gen.metric = 3 then q.vector else []

/-- Probe distances of a query to every list (R162). -/
def State.probeAll (s : State) (seed : Nat) (q : Query) : List W32 :=
  let v := q.values
  (List.range q.gen.lists).map fun l => probeDist q.gen.metric (seed + l) v q.bits (s.centroid q.gen l) (s.norm q.gen l)

/-- PROBE_DONE (R162): the distances of a batch's queries are complete. -/
def probeDone (b : Nat) (s : State) : State :=
  match s.qry.batches.get b with
  | none => s
  | some x =>
    if !x.launched ∨ !s.isRunning then s
    else
      let t := x.members.foldl (fun s m => match s.query m.1 with
        | some q => { (s.setQuery m.1 { q with phase := .probed, probe := s.probeAll s.free q }) with free := s.free + q.gen.lists }
        | none => s) s
      t.qry' fun y => { y with batches := y.batches.del b }

/-! ## Ranking and dispatch (R163, R164, R254) -/

/-- The pin that a query reads a list with: M_x − 1 where the overlap of a cutover serves it, flagged; `none` where the pair is skipped (R254). -/
def State.listPin (s : State) (q : Query) (l : Nat) : Option Nat × Bool :=
  let table := qTable q.header
  match s.tbl table with
  | none => (some q.pin, false)
  | some t =>
    let cuts := (t.gen :: t.prior).flatMap fun g => if g.since = q.gen.since then g.cuts else []
    let cut := minBy Cut.milepost (cuts.filter fun c =>
      c.list == l && decide (c.milepost ≤ q.pin ∧ q.accept ≤ c.ltc + (s.reg Reg.IDX_SHUF_OVERLAP).toNat))
    let e := s.dirEntry q.gen l
    match cut with
    | some c => (some (c.milepost - 1), true)
    | none => if e.state = 2 ∧ e.milepost ≤ q.pin then (none, false) else (some q.pin, false)

/-- The image a pair reads (R164); `none` where the pair is skipped (R254). -/
def State.pairImage (s : State) (q : Query) (l : Nat) : Option Nat :=
  match (s.listPin q l).1 with
  | none => none
  | some p => s.imageAt p (s.idx.pool.length + 1) (s.dirEntry q.gen l).image

/-- Dispatches pairs of a query, in rank order (R164). -/
def State.dispatch (n : Nat) (lists : List Nat) (s : State) : State :=
  lists.foldl (fun s l =>
    match s.query n with
    | none => s
    | some q =>
      match s.pairImage q l with
      | none => s.bump Reg.IDX_SHUF_SKIPPED
      | some a =>
        (s.setQuery n { q with pairsTo := q.pairsTo ++ [⟨stackOf a / 5, l, a⟩], pairsOpen := q.pairsOpen + 1 }).bumpIf (s.listPin q l).2
          Reg.IDX_SHUF_OVERLAP_READS) s

/-- LISTS_RANKED (R163): ranks are kept and the first stage's pairs are dispatched. -/
def listsRanked (n : Nat) (s : State) : State :=
  match s.query n with
  | none => s
  | some q =>
    if q.phase != .probed ∨ !s.isRunning then s
    else
      let d := List.zip (List.range q.probe.length) q.probe
      let ok := d.filter fun x => !isNan x.2
      let ranked := (sortBy (fun a b : Nat × W32 => decide (dKey a.2 < dKey b.2)) ok).map Prod.fst
      let np := qNprobe q.header
      let keep := if qWiden q.header then min (s.tntNprobeMax (qTenant q.header)) 4096 else np
      let first := ranked.take np
      let t := s.setQuery n { q with phase := .scanning, probe := [], ranks := ranked.take keep, used := first.length }
      (t.bumpBy Reg.QRY_PROBE_NAN (d.length - ok.length)).dispatch n first

/-! ## Deadlines (R185) and registers (R188) -/

/-- QUERY_DEADLINE (R185): the LTC value of the deadline has ended (R17). -/
def queryDeadline (n : Nat) (s : State) : State :=
  match s.query n with
  | some q => if s.isRunning && s.past q.deadline then s.endQuery n St.timeout else s
  | none => s

/-- Queries that wait in a tenant's queue (SCHED_Q_DEPTH). -/
def State.admDepth (s : State) (tenant q : Nat) : Nat := (s.qry.queues.getD (8 * tenant + q) []).length

/-- QRY_TNT_SEL (R188): a snapshot of a tenant; one that is not configured reads 0. -/
def qryTntSel (v : W32) (s : State) : State :=
  if !s.isRunning then s
  else
    let n := (v &&& 0xFFF).toNat
    let z (x : Nat) : Nat := if s.tenantConfigured n then x else 0
    let o : Owner := .tenant n
    let t := (s.setNat Reg.QRY_TNT_SEL n).setNat Reg.QRY_TNT_CFG
      (z (2 ^ 31 + b1 (s.tntExact n) * 2 ^ 30 + s.tntExactClass n * 2 ^ 27 + s.tntClass n * 2 ^ 24 + s.tntNprobeMax n))
    let t := t.setNat Reg.QRY_TNT_DEADLINE (z (s.tntDeadline n))
    let t := t.setNat Reg.QRY_TNT_USE (z (s.numberUse n * 65536 + s.handUse n))
    t.setNat Reg.QRY_TNT_LIMIT (z (s.quotaLimit o 4 * 65536 + s.quotaLimit o 3))

end Sys2Proof.Machine
end

