-- ==== Sys2Proof/Machine/Trick.lean ====
section
/-! DEFINITION. Trick Formers, launch queues and scan engines (R165 to R175, R249, R519), with the QRY_TF registers. -/

namespace Sys2Proof.Machine

def emptyFormer : TrickFormer := ⟨[], [], [], [], [], (0, 0), (0, 0), 0, 0, 0, 0, 0, 0⟩
def State.former (s : State) (q : Nat) : TrickFormer := s.qry.formers.getD q emptyFormer
def State.setFormer (q : Nat) (f : TrickFormer) (s : State) : State := s.qry' fun x => { x with formers := x.formers.put q f }

/-! ## Scan engines of a quadrant and its partner (R519) -/

def partner (q : Nat) : Nat := if q % 2 = 0 then q + 1 else q - 1
/-- Scan engines of a quadrant that are not retired, `avoid` apart. -/
def State.liveSe (s : State) (q : Nat) (avoid : Option Nat) : List Nat :=
  ((List.range 32).map fun i => 32 * q + i).filter fun e => !s.isRetired 5 e && avoid != some e
/-- The quadrant whose launch queue a trick of quadrant `q` enters. -/
def State.launchTo (s : State) (q : Nat) (avoid : Option Nat) : Option Nat :=
  if !(s.liveSe q avoid).isEmpty then some q else if !(s.liveSe (partner q) avoid).isEmpty then some (partner q) else none
/-- Quadrant of a trick's image. -/
def Trick.home (t : Trick) : Nat := stackOf t.addr / 5

/-- Tricks wait for space in the launch queue of quadrant `p` (R169, R175). -/
def State.spaceWaiters (s : State) (p : Nat) : Bool :=
  (List.range 4).any fun q => ((s.former q).held.any fun t => s.launchTo q t.avoid == some p) || (!(s.former q).due.isEmpty && s.launchTo q none == some p)
def State.queueFull (s : State) (p : Nat) : Bool := decide (512 ≤ (s.former p).queue.length)

/-- Launch-queue order (R169): by deadline, then by launch order. -/
def State.enqueue (p : Nat) (t : Trick) (s : State) : State :=
  let f := s.former p
  s.setFormer p { f with queue := insertBy (fun a b : Trick => decide (a.deadline < b.deadline)) t f.queue }

/-- An idle engine of quadrant `p` that a trick may go to, lowest first. -/
def State.engineFor (s : State) (p : Nat) (t : Trick) : Option Nat := (s.liveSe p t.avoid).find? fun e => !s.qry.engines.has e

/-- Gives queued tricks to idle engines (R169). -/
def State.startEngines (p : Nat) : Nat → State → State
  | 0, s => s
  | n + 1, s =>
    let f := s.former p
    match f.queue.find? fun t => (s.engineFor p t).isSome with
    | none => s
    | some t =>
      match s.engineFor p t with
      | none => s
      | some e =>
        State.startEngines p n ((s.setFormer p { f with queue := f.queue.erase t }).qry' fun x => { x with engines := x.engines.put e ⟨t, 0, false⟩ })

/-- The query at place `i` of a trick, `n` its number: a query at work, or one that ended after the launch (R185). -/
def State.memberAt (s : State) (t : Trick) (i n : Nat) : Option Query := (t.gone.get i).orElse fun _ => s.query n
/-- The first query of a trick. -/
def State.trickQuery (s : State) (t : Trick) : Option Query := t.members.zipIdx.findSome? fun m => s.memberAt t m.2 m.1.1

/-- Members' queries complete with FAULT (R175, R519). -/
def State.failTrick (t : Trick) (s : State) : State := t.members.foldl (fun s m => s.endQuery m.1 St.fault) s

/-- An open trick launches: its entry is freed, its members and its cause are counted, and it enters a launch queue (Table 4.8, R169). -/
def State.launch (q entry cause : Nat) (s : State) : State :=
  let f := s.former q
  match f.opens.get entry with
  | none => s
  | some t =>
    let f1 := { f with opens := f.opens.del entry, due := f.due.filter fun d => d.1 != entry, members := satAdd64 f.members t.members.length }
    let f2 := match cause with
      | 0 => { f1 with full := satAdd32 f1.full 1 }
      | 1 => { f1 with byDeadline := satAdd32 f1.byDeadline 1 }
      | 2 => { f1 with idle := satAdd32 f1.idle 1 }
      | _ => { f1 with evict := satAdd32 f1.evict 1 }
    let count := match s.trickQuery t with | some x => s.wayCount (s.wayOf x.gen t.addr) | none => 0
    match s.launchTo q none with
    | none => (s.setFormer q f2).failTrick t
    | some p => ((s.setFormer q f2).enqueue p { t with count := count }).startEngines p 32

/-- A trick meets a launch condition: it launches, or stays open and waits for space (R169). -/
def State.wantLaunch (q entry cause : Nat) (s : State) : State :=
  match s.launchTo q none with
  | none => s.launch q entry cause
  | some p =>
    if s.queueFull p || s.spaceWaiters p then
      let f := s.former q
      if f.due.any fun d => d.1 == entry then s else s.setFormer q { f with due := f.due ++ [(entry, cause)] }
    else s.launch q entry cause

/-- A pair joined a trick of quadrant `q`: the window's count (R249). -/
def State.countHot (q table list : Nat) (s : State) : State :=
  s.idx' fun i => { i with hotNow := i.hotNow.modifyD q [] fun h => Tbl.modifyD h (2 ^ 24 * table + list) 0 (· + 1) }

/-- The earliest deadline among open tricks, ties to the lower entry. -/
def earliest (l : Tbl Trick) : Option Nat := (minBy (fun e : Nat × Trick => e.2.deadline) l).map Prod.fst

/-- A pair joins a trick: among the pairs of one SCLK cycle by query number (R168), lowering its deadline. -/
def Trick.join (n cycle dl : Nat) (t : Trick) : Trick :=
  { t with members := t.members.filter (fun m => !(m.2 == cycle && decide (n < m.1))) ++ (n, cycle) ::
             t.members.filter (fun m => m.2 == cycle && decide (n < m.1)), deadline := min t.deadline dl }

/-- The open trick of an identity with room for a pair (R165). -/
def State.openTrick (s : State) (q table : Nat) (p : PairTo) : Option (Nat × Trick) :=
  (s.former q).opens.find? fun e => e.2.table == table && e.2.list == p.list && e.2.addr == p.addr && decide (e.2.members.length < 32)

/-- A pair comes out of its turn: a pair of a higher query number filled a trick in this SCLK cycle, or opened one where this pair needs one too (R168). -/
def State.outOfTurn (s : State) (q n table : Nat) (p : PairTo) : Bool :=
  let f := s.former q
  f.filler.1 == s.cycle && decide (n < f.filler.2) || f.opener.1 == s.cycle && decide (n < f.opener.2) && (s.openTrick q table p).isNone

/-- A pair joins its trick or opens one, with EVICT where every entry is open (R165, R166, R169); false where it has to wait. -/
def State.takePair (q n : Nat) (p : PairTo) (s : State) : Bool × State :=
  match s.query n with
  | none => (true, s)
  | some x =>
    if (s.launchTo q none).isNone then (true, s.endQuery n St.fault)
    else
      let f := s.former q
      let table := qTable x.header
      let dl := s.now + fld (s.reg (Reg.QRY_TRICK_DL + 4 * s.tntClass (qTenant x.header))) 15 0
      let fresh : Trick := ⟨table, p.list, p.addr, [(n, s.cycle)], dl, 0, false, none, []⟩
      let opened (e : Nat) (s : State) : State :=
        let f := s.former q
        (s.setFormer q { f with opens := f.opens.put e fresh, opener := (s.cycle, n) }).countHot q table p.list
      match s.openTrick q table p with
      | some (e, t) =>
        let t := t.join n s.cycle dl
        let full := t.members.length = 32
        let u := (s.setFormer q { f with opens := f.opens.put e t, filler := if full then (s.cycle, n) else f.filler }).countHot q table p.list
        (true, if full then u.wantLaunch q e 0 else u)
      | none =>
        match f.opens.lowestFree 0 4096 with
        | some e => (true, opened e s)
        | none =>
          match s.launchTo q none, earliest f.opens with
          | some dst_, some e => if s.queueFull dst_ || s.spaceWaiters dst_ then (false, s) else (true, opened e (s.launch q e 3))
          | _, _ => (false, s)

/-- Pairs that wait at a Trick Former's input, in arrival order (R169). -/
def State.refillPairs (q : Nat) : List (Nat × PairTo) → List (Nat × PairTo) → State → State
  | [], kept, s => s.setFormer q { (s.former q) with input := kept }
  | p :: rest, kept, s =>
    let r := s.takePair q p.1 p.2
    State.refillPairs q rest (if r.1 then kept else kept ++ [p]) r.2
/-- Retries the waiting pairs of every quadrant. -/
def State.refillInputs (s : State) : State :=
  (List.range 4).foldl (fun s q =>
    if (s.former q).input.isEmpty then s else s.refillPairs q ((s.former q).input.filter fun p => (s.query p.1).isSome) []) s

/-- PAIR_ARRIVAL (R165): a dispatched pair reaches its Trick Former; one that comes out of its turn within the SCLK cycle is still on its way (R168). -/
def pairArrival (q n l : Nat) (s : State) : State :=
  match s.query n with
  | none => s
  | some x =>
    match x.pairsTo.find? fun p => p.quadrant == q && p.list == l with
    | none => s
    | some p =>
      if !s.isRunning || s.outOfTurn q n (qTable x.header) p then s
      else
        let t := s.setQuery n { x with pairsTo := x.pairsTo.erase p }
        let r := t.takePair q n p
        if r.1 then r.2.refillInputs else r.2.setFormer q { (r.2.former q) with input := (r.2.former q).input ++ [(n, p)] }

/-- TRICK_DEADLINE (R167): the deadline condition holds and no pair joined at this LTC value. -/
def trickDeadline (q entry : Nat) (s : State) : State :=
  match (s.former q).opens.get entry with
  | some t =>
    if s.isRunning ∧ t.deadline ≤ s.now ∧ t.members.all (fun m => decide (m.2 / 18 < s.now)) ∧ t.members.length < 32 then (s.wantLaunch q entry 1).refillInputs else s
  | none => s

/-- TRICK_IDLE_LAUNCH (R166): the eligible trick with the earliest deadline launches. -/
def trickIdleLaunch (q : Nat) (s : State) : State :=
  let f := s.former q
  let age := fld (s.reg Reg.QRY_TRICK_MIN_AGE) 15 0
  let idle := (s.liveSe q none).any fun e => !s.qry.engines.has e
  let old := f.opens.filter fun e => (e.2.members.head?).any fun m => decide (m.2 / 18 + age ≤ s.now)
  if !(s.isRunning && idle && f.queue.isEmpty) then s
  else match earliest old with
    | some e => (s.wantLaunch q e 2).refillInputs
    | none => s

/-- The next trick that waits for space in the queue of quadrant `p`: a held relaunch first, else by deadline. -/
def State.enterNext (p : Nat) : Nat → State → State
  | 0, s => s
  | n + 1, s =>
    if s.queueFull p then s
    else
      let held := (List.range 4).findSome? fun q => ((s.former q).held.find? fun t => s.launchTo q t.avoid == some p).map fun t => (q, t)
      match held with
      | some (q, t) =>
        let f := s.former q
        State.enterNext p n (((s.setFormer q { f with held := f.held.erase t }).enqueue p t).startEngines p 32)
      | none =>
        let due := (List.range 4).flatMap fun q => if s.launchTo q none == some p then (s.former q).due.map fun d => (q, d.1, d.2) else []
        match minBy (fun d : Nat × Nat × Nat => ((s.former d.1).opens.get d.2.1).elim 0 Trick.deadline) due with
        | some (q, e, c) => State.enterNext p n (s.launch q e c)
        | none => s

/-- LAUNCH_QUEUE_SPACE (R169, R175). -/
def launchQueueSpace (p : Nat) (s : State) : State :=
  if s.isRunning ∧ p < 4 ∧ !s.queueFull p then (s.enterNext p 1024).refillInputs else s

/-! ## Scanning (R170 to R174) -/

/-- What a scan of some entries for one member gives: slots hidden, distances, filter failures, attribute reads beyond ROWS, survivors. -/
structure Scanned where
  hidden : Nat
  dists : Nat
  rejects : Nat
  beyond : Nat
  cands : List Cand
deriving DecidableEq, Repr

/-- Columns a program reads. -/
def filterColumns (ns : List FNode) : List Nat := dedupList ((ns.filter fun n => !n.isJoin).map FNode.arg)

/-- Steps 3 to 6 of R172 on one entry. -/
def State.judge (s : State) (q : Query) (c : Coding) (v centroid : List W32) (ns : List FNode) (die : Nat) (way : Bool) (e : Entry) (r : Scanned) : Scanned :=
  let d := c.dist v q.bits centroid e.code
  let r := { r with dists := r.dists + 1 }
  if !isNan d && decide (q.inForce < dKey d) then r
  else
    let r := { r with beyond := r.beyond + (if rowBeyond q.gen e.row then (filterColumns ns).length else 0) }
    if s.rowPasses q.gen ns e.row then { r with cands := r.cands ++ [⟨w64 e.key, d, e.row, die, way, 0⟩] }
    else { r with rejects := r.rejects + 1 }

/-- One strip for one member (R172). -/
def State.scanSlots (s : State) (q : Query) (list addr j die pin : Nat) : Scanned :=
  let c := s.coding q.gen
  let v := q.values
  let ce := s.centroid q.gen list
  let ns := readNodes q.filter
  (List.range 64).foldl (fun r i =>
    let k := 64 * j + i
    let e := s.slotEntry q.gen addr k
    if e.key = emptyKey then r
    else if s.hidden q.gen addr k pin then { r with hidden := r.hidden + 1 }
    else s.judge q c v ce ns die false e r) ⟨0, 0, 0, 0, []⟩

/-- The wayside records below COUNT for one member (R173). -/
def State.scanRecords (s : State) (q : Query) (list addr count die pin : Nat) : Scanned :=
  let c := s.coding q.gen
  let v := q.values
  let ce := s.centroid q.gen list
  let ns := readNodes q.filter
  (List.range count).foldl (fun r i =>
    let w := s.wayRecord q.gen (s.wayOf q.gen addr) i
    if w.visible (s.imgMp addr) pin then s.judge q c v ce ns die true w.entry r else r) ⟨0, 0, 0, 0, []⟩

/-- Survivors are presented to the member's select unit in this SCLK cycle (R174, R195), those of a query that ended are discarded (R185), and the scan
is counted. -/
def State.present (e n : Nat) (r : Scanned) (s : State) : State :=
  let t := match s.query n with
    | some q => s.setQuery n { q with inbox := q.inbox ++ r.cands.map fun c => (s.cycle, e, c) }
    | none => s
  (((t.bumpBy Reg.QRY_TOMB_HIDDEN r.hidden).bump64 Reg.QRY_SCAN_DIST_LO r.dists).bump64 Reg.QRY_FILTER_REJECT_LO r.rejects).bumpBy
    Reg.IDX_ROW_RANGE r.beyond

/-- Bytes of a list image on their way to a scan engine: through its buffer in its quadrant's part of the T1 region (R51). -/
def State.toScan (e a len : Nat) (s : State) : State := s.through (scanPort e) 1 (e / 32) (65536 * (e % 32)) (Mem.readBytes s.smem a len)

/-- Pin a member reads its trick's list with. -/
def State.memberPin (s : State) (q : Query) (list : Nat) : Nat := ((s.listPin q list).1).getD q.pin

/-- SCAN_STRIP (R172): the next strip of the engine's trick, for every member. -/
def scanStrip (e : Nat) (s : State) : State :=
  match s.qry.engines.get e with
  | none => s
  | some x =>
    let t := x.trick
    if !s.isRunning ∨ s.imgStrips t.addr ≤ x.strip then s
    else
      let u := t.members.zipIdx.foldl (fun u m =>
        match s.memberAt t m.2 m.1.1 with
        | none => u
        | some q =>
          let pin := s.memberPin q t.list
          (u.present e m.1.1 (s.scanSlots q t.list t.addr x.strip (e / 16) pin)).bumpIf (s.tsConsults q.gen t.addr x.strip pin) Reg.IDX_TS_CONSULT) s
      let u := match s.trickQuery t with
        | some q => u.toScan e (t.addr + 64 + x.strip * q.gen.strip) q.gen.strip
        | none => u
      u.qry' fun y => { y with engines := y.engines.put e { x with strip := x.strip + 1 } }

/-- SCAN_WAYSIDE (R173): after the last strip. -/
def scanWayside (e : Nat) (s : State) : State :=
  match s.qry.engines.get e with
  | none => s
  | some x =>
    let t := x.trick
    if !s.isRunning ∨ x.strip < s.imgStrips t.addr ∨ x.wayDone then s
    else
      let u := t.members.zipIdx.foldl (fun u m =>
        match s.memberAt t m.2 m.1.1 with
        | none => u
        | some q => u.present e m.1.1 (s.scanRecords q t.list t.addr t.count (e / 16) (s.memberPin q t.list))) s
      let u := match s.trickQuery t with
        | some q => u.toScan e (s.wayOf q.gen t.addr) (min 65536 (64 + t.count * q.gen.wayRec))
        | none => u
      u.qry' fun y => { y with engines := y.engines.put e { x with wayDone := true } }

/-- TRICK_SCAN_DONE (R169): the engine's members have one pair less open, its accesses have been granted, and it takes the next trick; pairs that wait at an
input follow into the space. -/
def trickScanDone (e : Nat) (s : State) : State :=
  match s.qry.engines.get e with
  | none => s
  | some x =>
    if !s.isRunning ∨ !x.wayDone then s
    else
      let u := x.trick.members.foldl (fun u m => match u.query m.1 with
        | some q => u.setQuery m.1 { q with pairsOpen := q.pairsOpen - 1 }
        | none => u) s
      let u := (u.qry' fun y => { y with engines := y.engines.del e }).bump64 Reg.QRY_SCAN_PAIRS_LO x.trick.members.length
      ((u.busDrain (scanPort e)).startEngines (e / 32) 32).refillInputs

/-! ## Failing scan engines (R175, R519) -/

/-- The trick on an engine is relaunched once, on another engine (R175). -/
def State.relaunch (e : Nat) (s : State) : State :=
  match s.qry.engines.get e with
  | none => s
  | some x =>
    let u := s.qry' fun y => { y with engines := y.engines.del e }
    let t := { x.trick with relaunch := true, avoid := some e }
    if x.trick.relaunch then u.failTrick x.trick
    else match u.launchTo t.home (some e) with
      | none => u.failTrick x.trick
      | some p =>
        let u := u.bump Reg.QRY_TRICK_RELAUNCH
        if u.queueFull p then u.setFormer t.home { (u.former t.home) with held := (u.former t.home).held ++ [t] }
        else (u.enqueue p t).startEngines p 32

/-- SCAN_ENGINE_FAIL (R175): logged as SE_FAULT. -/
def scanEngineFail (e : Nat) (s : State) : State :=
  if !s.isRunning ∨ !s.qry.engines.has e then s else ((s.fault 0x0031 e 0).relaunch e).startEngines (e / 32) 32

/-- Queued tricks of a quadrant that none of its engines can take move on (R519). -/
def State.rehome (p : Nat) (s : State) : State :=
  (s.former p).queue.foldl (fun s t =>
    match s.launchTo t.home t.avoid with
    | some dst_ =>
      if dst_ = p then s
      else
        let s := s.setFormer p { (s.former p) with queue := (s.former p).queue.erase t }
        if s.queueFull dst_ then s.setFormer t.home { (s.former t.home) with held := (s.former t.home).held ++ [t] } else (s.enqueue dst_ t).startEngines dst_ 32
    | none => (s.setFormer p { (s.former p) with queue := (s.former p).queue.erase t }).failTrick t) s

/-- A scan engine is retired: its trick is relaunched; a quadrant without one is rehomed, and a pair of quadrants without one fails its queries. -/
def State.seRetired (e : Nat) (s : State) : State :=
  let q := e / 32
  let t := s.relaunch e
  if !(t.liveSe q none).isEmpty then t.rehome q
  else
    let t := t.outcome 0x0039 sevAction 0xFF q (partner q)
    if (t.launchTo q none).isSome then t.rehome q
    else [q, partner q].foldl (fun t p =>
      let f := t.former p
      let out := f.opens.vals ++ f.queue ++ f.held
      let t := f.input.foldl (fun t x => t.endQuery x.1 St.fault) (out.foldl (fun t x => t.failTrick x) t)
      t.setFormer p { (t.former p) with opens := [], queue := [], held := [], input := [], due := [] }) t

/-! ## Registers (R188) and the tick -/

/-- QRY_TF_LQ_FULL: one SCLK cycle passes (R169). -/
def countLqFull (s : State) : State :=
  s.qry' fun x => { x with formers := x.formers.mapVals fun f => if 512 ≤ f.queue.length then { f with lqFull := satAdd32 f.lqFull 1 } else f }

/-- QRY_TF_SEL (R188): a snapshot of a quadrant's Trick Former. -/
def qryTfSel (v : W32) (s : State) : State :=
  if !s.isRunning then s
  else
    let q := (v &&& 3).toNat
    let f := s.former q
    let t := ((s.setNat Reg.QRY_TF_SEL q).setNat Reg.QRY_TF_OPEN f.opens.length).setNat Reg.QRY_TF_LQ f.queue.length
    let t := (t.setReg Reg.QRY_TF_LQ_FULL f.lqFull).setReg Reg.QRY_TF_L_FULL f.full
    let t := ((t.setReg Reg.QRY_TF_L_DEADLINE f.byDeadline).setReg Reg.QRY_TF_L_IDLE f.idle).setReg Reg.QRY_TF_L_EVICT f.evict
    t.setPair Reg.QRY_TF_MEMBERS_LO f.members.toNat

end Sys2Proof.Machine
end

