-- ==== Sys2Proof/Machine/Hand.lean ====
section
/-! DEFINITION. Hands, stages, rerank, the final select, exact queries, and queries ended by recoveries (R176 to R186, R194 to R207, R518). -/

namespace Sys2Proof.Machine

/-! ## Arrivals and flushes (R195 to R198) -/

/-- An entry of a hand, and its tag (R194). -/
def Cand.bytes (c : Cand) : Bytes := leBytes 8 c.key.toNat ++ leBytes 4 c.dist.toNat ++ leBytes 4 c.row
def Cand.tag (c : Cand) : Byte := BitVec.ofNat 8 (32 * (c.die % 8) + 16 * b1 c.way)

/-- A query's entries lie in its hands of the pool: 4,096 to a hand, each hand's entries before its tags (R194, log 41). -/
def State.storeHand (q : Query) (s : State) : State :=
  q.handAt.zipIdx.foldl (fun s h =>
    let es := (q.entries.drop (4096 * h.2)).take 4096
    match s.service 0 with
    | some r => (s.rgnPut r (69632 * h.1) (es.flatMap Cand.bytes)).rgnPut r (69632 * h.1 + 65536) (es.map Cand.tag)
    | none => s) s

/-- A flush (R197), counted. -/
def State.flushHand (n : Nat) (s : State) : State :=
  match s.query n with
  | none => s
  | some q =>
    let f := { q.flushed with flushAt := s.cycle }
    (((s.setQuery n f).storeHand f).bumpBy Reg.QRY_SEL_DUP (f.dups - q.dups)).bump64 Reg.QRY_SEL_FLUSH_LO 1

/-- The threshold that an arrival in this SCLK cycle is tested against: in the cycle of a change the one before it (R198). -/
def Query.tested (q : Query) (cycle : Nat) : Nat := if q.before.1 = cycle then q.before.2 else q.inForce

/-- ENTRY_ARRIVAL (R195, R196): the next entry, by SCLK cycle and engine, gets its number, and is dropped or staged. -/
def entryArrival (n : Nat) (s : State) : State :=
  match s.query n with
  | none => s
  | some q =>
    match minBy (fun x : Nat × Nat × Cand => 1024 * x.1 + x.2.1) q.inbox with
    | none => s
    | some x =>
      let c := { x.2.2 with seq := q.nextSeq }
      let q := { q with inbox := q.inbox.erase x, nextSeq := q.nextSeq + 1 }
      if !s.isRunning then s
      else if isNan c.dist then (s.setQuery n { q with nans := q.nans + 1 }).bump Reg.QRY_SEL_NAN
      else if q.tested s.cycle < dKey c.dist then (s.setQuery n q).bump Reg.QRY_SEL_LATE
      else
        let q := { q with oldest := if q.staging.isEmpty then s.cycle else q.oldest, staging := q.staging ++ [c] }
        let t := s.setQuery n q
        if 256 ≤ q.staging.length then t.flushHand n else t

/-- STAGING_AGE_FLUSH (R197): the oldest staged entry has waited 128 SCLK cycles. -/
def stagingAgeFlush (n : Nat) (s : State) : State :=
  match s.query n with
  | some q => if s.isRunning ∧ !q.staging.isEmpty ∧ q.oldest + 128 ≤ s.cycle then s.flushHand n else s
  | none => s

/-- HAND_THRESHOLD_UPDATE (R198): in a cycle after the last flush its threshold is in force. -/
def handThresholdUpdate (n : Nat) (s : State) : State :=
  match s.query n with
  | some q =>
    if s.isRunning ∧ q.flushAt < s.cycle ∧ q.inForce ≠ q.t then s.setQuery n { q with inForce := q.t, before := (s.cycle, q.tested s.cycle) } else s
  | none => s

/-! ## Exact queries (R182) -/

/-- Entries of a list that an exact query takes, in slot order and then record order. -/
def State.exactList (s : State) (q : Query) (l : Nat) : List Cand :=
  match (s.listPin q l).1, s.pairImage q l with
  | some p, some a => (s.visibleAt q.gen a p).map fun e => ⟨w64 e.1.key, 0, e.1.row, 0, e.2, 0⟩
  | _, _ => []

/-- Code of an entry of a list, for tables whose code distance is exact (R110). -/
def State.exactCode (s : State) (q : Query) (l : Nat) (c : Cand) : Bytes :=
  match (s.listPin q l).1, s.pairImage q l with
  | some p, some a =>
    ((s.visibleAt q.gen a p).find? fun e => e.1.key == c.key.toNat && e.1.row == c.row && e.2 == c.way).elim [] fun e => e.1.code
  | _, _ => []

/-- The next list with entries, from list `l` on. -/
def State.exactSeek (s : State) (q : Query) : Nat → Nat → Option (Nat × List Cand)
  | 0, _ => none
  | n + 1, l =>
    match s.exactList q l with
    | [] => State.exactSeek s q n (l + 1)
    | es => some (l, es)

/-- Entries left of the list an exact query is in, with its list number; `cursor` counts lists begun. -/
def State.exactLeft (s : State) (q : Query) : Option (Nat × List Cand) :=
  match q.rerank with
  | [] => s.exactSeek q (q.gen.lists - q.cursor) q.cursor
  | es => some (q.cursor - 1, es.map Prod.fst)

/-- Bytes that a query's own transfers move pass through the region of a class, in its home quadrant's part (R51, R178, R183). -/
def Query.home (q : Query) : Nat := qTenant q.header % 4
/-- The class of an exact query's transfers: EXACT_CLASS of its tenant (R183). -/
def State.exactClass (s : State) (q : Query) : Nat := s.tntExactClass (qTenant q.header)

/-- The images of lists `l` to `l + k - 1` are read for an exact query in its class, and the strips whose records it reads are counted (R120, R182, R183). -/
def State.exactImages (q : Query) (l k : Nat) (s : State) : State :=
  ((List.range k).map (l + ·)).foldl (fun s l =>
    match (s.listPin q l).1, s.pairImage q l with
    | some p, some a =>
      (List.range (s.imgStrips a)).foldl (fun s j =>
        (s.throughNow (s.exactClass q) q.home 0 (Mem.readBytes s.smem (a + 64 + j * q.gen.strip) q.gen.strip)).bumpIf (s.tsConsults q.gen a j p)
          Reg.IDX_TS_CONSULT) s
    | _, _ => s) s

/-- A row has a full vector to read (R126, R180). -/
def hasFv (g : TableGen) (row : Nat) : Bool := g.fvFormat != 0 && row != noRow && decide (row < g.rows)

/-- EXACT_ENTRY_SCORED (R182): the next entry in list order is fetched, filtered and scored on compute die `die`. -/
def exactEntryScored (n : Nat) (readable : Bool) (die : Nat) (s : State) : State :=
  match s.query n with
  | none => s
  | some q =>
    if q.phase != .exact ∨ !s.isRunning then s
    else match s.exactLeft q with
      | none => s
      | some (l, es) =>
        match es with
        | [] => s
        | c :: rest =>
          let g := q.gen
          let t := if q.rerank.isEmpty then s.exactImages q q.cursor (l + 1 - q.cursor) else s
          let q := { q with cursor := l + 1, rerank := rest.map fun x => (x, Fetch.waiting) }
          let t := t.setQuery n q
          let ns := readNodes q.filter
          let score (d : W32) (t : State) : State :=
            let t := t.bumpBy Reg.IDX_ROW_RANGE (if rowBeyond g c.row then (filterColumns ns).length else 0)
            if t.rowPasses g ns c.row then t.setQuery n { q with inbox := q.inbox ++ [(t.cycle, 16 * (die % 8), { c with dist := d, die := die % 8 })] }
            else t.bump64 Reg.QRY_FILTER_REJECT_LO 1
          if g.metric = 3 then score (hamming q.bits (s.exactCode q l c)) t
          else if !hasFv g c.row then (t.bumpIf (rowBeyond g c.row) Reg.IDX_ROW_RANGE).bump Reg.QRY_RR_NOVEC
          else
            let t := t.bump (if g.fvFlash then Reg.QRY_RR_FLASH else Reg.QRY_RR_STACK)
            if !readable then t.bump Reg.QRY_RR_FAULT
            else
              let v := t.fvRead g c.row
              let d := exactDist g.metric t.free q.values (fvVals g.fvFormat g.dim v)
              score d { (t.throughNow (t.exactClass q) q.home 0 v) with free := t.free + 1 }

/-! ## Stages, rerank and the final select (R176 to R181, R200, R201) -/

/-- Final order of reranked entries (R201): NaN distances are dropped, the rest by key, ties in hand order. -/
def finalOrder (l : List (Cand × Bool)) : List (Cand × Bool) :=
  sortBy (fun a b : Cand × Bool => decide (dKey a.1.dist < dKey b.1.dist)) (l.filter fun x => !isNan x.1.dist)

/-- Rerank starts on a flushed hand (R178, R200): vectors are fetched for the first entries in hand order. -/
def State.startRerank (n : Nat) (s : State) : State :=
  match s.query n with
  | none => s
  | some q =>
    let g := q.gen
    let first := (handOrder q.entries).take (qRerank q.header)
    if qExact q.header ∨ qRerank q.header = 0 then s.setQuery n { q with phase := .scored }
    else if g.metric = 3 then s.setQuery n { q with phase := .scored, ordered := finalOrder (first.map fun c => (c, true)) }
    else
      let l := first.map fun c => (c, if hasFv g c.row then Fetch.waiting else Fetch.none_)
      let miss := (first.filter fun c => !hasFv g c.row).length
      let t := s.setQuery n { q with phase := .rerank, rerank := l, partialRerank := decide (0 < miss) }
      let t := (t.bumpBy Reg.QRY_RR_NOVEC miss).bumpBy Reg.IDX_ROW_RANGE (first.filter fun c => g.fvFormat != 0 && rowBeyond g c.row).length
      t.bumpBy (if g.fvFlash then Reg.QRY_RR_FLASH else Reg.QRY_RR_STACK) (first.length - miss)

/-- STAGE_END (R176, R177, R197): every pair is scanned and in the hand; the query widens or goes to rerank. -/
def stageEnd (n : Nat) (s : State) : State :=
  match s.query n with
  | none => s
  | some q =>
    let scanned := q.phase == .scanning && q.pairsTo.isEmpty && q.pairsOpen == 0
    let exacted := q.phase == .exact && (s.exactLeft q).isNone
    if !(s.isRunning && (scanned || exacted) && q.inbox.isEmpty) then s
    else
      let t := (if exacted then s.exactImages q q.cursor (q.gen.lists - q.cursor) else s).flushHand n
      match t.query n with
      | none => t
      | some q =>
        let cap := q.ranks.length
        if scanned && qWiden q.header && decide (q.entries.length < qK q.header) && decide (q.used < cap) then
          let upto := min (2 * q.used) cap
          let u := (t.setQuery n { q with used := upto, stages := q.stages + 1, widened := true }).bump Reg.QRY_WIDEN_STAGES
          u.dispatch n ((q.ranks.take upto).drop q.used)
        else t.startRerank n

/-- RERANK_FETCH_DONE (R178, R180): a full vector has come into the T1 region, or cannot be read. -/
def rerankFetchDone (n place : Nat) (readable : Bool) (s : State) : State :=
  match s.query n with
  | none => s
  | some q =>
    match q.phase, q.rerank[place]? with
    | .rerank, some (c, .waiting) =>
      if !s.isRunning then s
      else if readable then
        let v := s.fvRead q.gen c.row
        ((s.fvFetch q.gen c.row).throughNow 1 (4 + q.home) (2 ^ 20 + 16384 * (place % 64)) v).setQuery n { q with rerank := q.rerank.set place (c, .vector v) }
      else (s.setQuery n { q with rerank := q.rerank.set place (c, .none_), partialRerank := true }).bump Reg.QRY_RR_FAULT
    | _, _ => s

/-- RERANK_SCORED (R179, R200): exact distances of every vector fetched. -/
def rerankScored (n : Nat) (s : State) : State :=
  match s.query n with
  | none => s
  | some q =>
    if q.phase != .rerank ∨ !s.isRunning ∨ q.rerank.any (fun x => x.2 == .waiting) then s
    else
      let g := q.gen
      let scored := (List.zip (List.range q.rerank.length) q.rerank).map fun x =>
        match x.2.2 with
        | .vector b => ({ x.2.1 with dist := exactDist g.metric (s.free + x.1) q.values (fvVals g.fvFormat g.dim b) }, true)
        | _ => (x.2.1, false)
      let nan := scored.filter fun x => isNan x.1.dist
      let q := { q with phase := .scored, ordered := finalOrder scored, rerank := [], nans := q.nans + nan.length,
                        entries := q.entries.filter fun c => !(nan.any fun x => x.1.seq == c.seq) }
      { ((s.setQuery n q).bumpBy Reg.QRY_SEL_NAN nan.length) with free := s.free + scored.length }

/-- FINAL_SELECT (R181, R201 to R206): the answer record is formed and sent, and the query retires; past its deadline it completes with TIMEOUT (R185). `mismatches`
counts residue mismatches of its select unit: the select is repeated once, and a second one completes the query with FAULT (R507). -/
def finalSelect (n mismatches : Nat) (s : State) : State :=
  match s.query n with
  | none => s
  | some q =>
    if q.phase != .scored ∨ !s.isRunning then s
    else if s.past q.deadline then s.endQuery n St.timeout
    else
      let s := (List.range (min 2 mismatches)).foldl (fun s _ => s.fault 0x0032 q.su 0) s
      if 2 ≤ mismatches then s.endQuery n St.fault
      else
      let r := q.finalSelect s.answerSeat
      let valid := r.1.length
      let st := if valid = qK q.header then St.ok else St.short
      let tie := r.2.2
      let flags := b1 (decide (0 < tie)) + 2 * b1 q.partialRerank + 4 * b1 q.widened + 8 * b1 (qExact q.header)
      let b := answerBytes q.header ⟨st, flags, valid, r.2.1, tie, s.answerSeat, 1, 1, q.pin, q.dups, q.nans, min 255 q.stages, s.now - q.accept⟩ r.1
      let t := (s.bump (Reg.QRY_DONE + 4 * st)).bumpIf (decide (0 < tie)) Reg.QRY_SEL_TIE
      let t := t.bumpIf (st == St.short && q.widened) Reg.QRY_WIDEN_SHORT
      (t.sendAnswer q b 0 0).freeQuery n

/-! ## Recoveries (R186, R517, R518, R524) -/

/-- Queries whose hand a select unit keeps complete with ABORTED. -/
def State.suRetired (u : Nat) (s : State) : State := s.endQueries (fun q => q.su == u) St.aborted
/-- Queries of tables with an object on a retired stack complete with FAULT. -/
def State.lostTables (s : State) : State := s.endQueries (fun q => s.genLost q.gen) St.fault

end Sys2Proof.Machine
end

