-- ==== Sys2Proof/Machine/Link.lean ====
section
/-! DEFINITION. Link ports (R409 to R416, R425 to R433): flits, credits, replay, hello and negotiation, keepalives, and egress. -/

namespace Sys2Proof.Machine

/-! ## Ports and their registers -/

/-- A port in DOWN with nothing sent or received. -/
def portReset : LinkPort where
  state := 0
  trainAt := 0
  helloNo := 0
  helloAt := 0
  own := none
  partner := none
  node := none
  txSeq := 0
  replay := []
  resends := 0
  credGen := []
  credRel := []
  rxLast := none
  asked := false
  inGen := List.replicate 8 0
  inRel := List.replicate 8 0
  owed := []
  partials := []
  arrived := []
  queues := []
  headAt := []
  sending := none
  lastGood := 0
  lastKa := 0

def State.link' (f : LinkSt → LinkSt) (s : State) : State := { s with link := f s.link }
def State.port (s : State) (l : Nat) : LinkPort := s.link.ports.getD l portReset
def linkReg (l off : Nat) : Nat := off + 0x100 * l

/-- The port's registers (Table 12.10). -/
def State.showPort (l : Nat) (s : State) : State :=
  let p := s.port l
  let x := p.own.getD ⟨0, 0, 0⟩
  let r := p.partner
  let t := s.setNat (linkReg l Reg.LINK_L_STATE) (x.major * 2 ^ 24 + x.minor * 2 ^ 16 + r.elim 0 Partner.kind % 8 * 16 + p.state)
  let t := t.setNat (linkReg l Reg.LINK_L_FEAT) x.features
  let t := t.setNat (linkReg l Reg.LINK_L_PARTNER) (r.elim 0 fun r => r.node * 65536 + r.seat * 256 + r.link)
  t.setPair (linkReg l Reg.LINK_L_SERIAL_LO) (r.elim 0 Partner.serial)

def State.setPort (l : Nat) (p : LinkPort) (s : State) : State :=
  let t := s.link' fun x => { x with ports := x.ports.put l p }
  if (s.port l).state = p.state ∧ (s.port l).own = p.own ∧ (s.port l).partner = p.partner then t else t.showPort l

/-- UP or MGMT_ONLY. -/
def LinkPort.live (p : LinkPort) : Bool := p.state == 4 || p.state == 5
def State.linkOk (s : State) (l : Nat) : Bool := s.isRunning && decide (l < 96)
/-- The node's own fabric endpoint (R418). -/
def State.myEndpoint (s : State) : W32 := w32 (s.myNode * 65536)

/-! ## Flits (R411, R412) -/

/-- A flit of a kind. -/
def flitBytes (kind vc seq ack credit : Nat) (payload : Bytes) : Bytes :=
  let b := leBytes 1 kind ++ leBytes 1 vc ++ leBytes 2 seq ++ leBytes 2 ack ++ leBytes 2 credit ++ sliceAt payload 0 240
  b ++ leBytes 8 (crc64 b).toNat
/-- The CHECK of a flit passes (R411). -/
def flitOk (b : Bytes) : Bool := b.length == 256 && (crc64 (b.take 248)).toNat == fieldAt b 248 8

/-- The ACK field: SEQ of the last data flit received in order. -/
def LinkPort.ackField (p : LinkPort) : Nat := match p.rxLast with | some n => 0x8000 + n | none => 0
/-- The CREDIT field of the oldest credits owed, and what is owed after it (R414). -/
def LinkPort.creditField (p : LinkPort) : Nat × LinkPort :=
  match p.owed with
  | [] => (0, p)
  | (vc, rel, n) :: rest =>
    let k := min 255 n
    (vc + 8 * b1 rel + 256 * k, { p with owed := if k < n then (vc, rel, n - k) :: rest else rest })

/-- Sends a flit with the port's ACK and, where `pay` is set, credits owed. -/
def State.sendFlit (l kind vc seq : Nat) (payload : Bytes) (pay : Bool) (s : State) : State :=
  let p := s.port l
  let c := if pay then p.creditField else (0, p)
  (s.setPort l c.2).emit (.flit l (flitBytes kind vc seq p.ackField c.1 payload))

/-- The port holds a credit that a flit of a VC may use (R413). -/
def LinkPort.hasCredit (p : LinkPort) (vc : Nat) (relay : Bool) : Bool :=
  decide (0 < p.credGen.getD vc 0) || (relay && decide (0 < p.credRel.getD vc 0))
def headRelay (b : Bytes) : Bool := byteAt b 12 == 1
def LinkPort.queue (p : LinkPort) (vc : Nat) : List Bytes := p.queues.getD vc []
def LinkPort.dataReady (p : LinkPort) : Bool :=
  match p.sending with
  | some x => p.hasCredit x.vc x.relay
  | none => (List.range 8).any fun v => match p.queue v with | [] => false | b :: _ => p.hasCredit v (headRelay b)


/-- Flits of a packet (R455). -/
def packetCost (b : Bytes) : Nat := (b.length + 239) / 240
/-- What the link's egress point selects now (R457), and the point after it. -/
def State.egressChoice (s : State) (l : Nat) : Option Nat × PointSt :=
  let p := s.port l
  (s.point (.link l)).select 4 ((List.range 8).map fun v => (p.queue v).head?.map packetCost)
    (fun v => p.hasCredit v (((p.queue v).head?).elim false headRelay)) ((s.point (.link l)).stillOpen s.now fun v => p.headAt.getD v 0)
/-- The link has a data flit to send: its replay buffer has room, and the packet under way has credit or the point selects one. -/
def State.flitReady (s : State) (l : Nat) : Bool :=
  decide ((s.port l).replay.length < 512) && match (s.port l).sending with
    | some x => (s.port l).hasCredit x.vc x.relay
    | none => (s.egressChoice l).1.isSome
/-- Idle flits carry the credits owed, one pool of one VC each, while no data flit can (R412, R414). -/
def State.payCredits (l : Nat) : Nat → State → State
  | 0, s => s
  | n + 1, s =>
    if (s.port l).live && !(s.port l).owed.isEmpty && !s.flitReady l then State.payCredits l n (s.sendFlit l 1 0 0 [] true) else s
/-- All credits owed go back in idle flits, where no data flit is there to carry them. -/
def State.creditsBack (l : Nat) (s : State) : State :=
  s.payCredits l (((s.port l).owed.map fun o => o.2.2 / 255 + 1).foldl (· + ·) 0)
/-- An idle flit carries an ACK or credits to return where no data flit does (R412). -/
def State.sendIdle (l : Nat) (s : State) : State :=
  if (s.port l).live && !s.flitReady l then (s.sendFlit l 1 0 0 [] true).creditsBack l else s

/-! ## Going down (R429, R433) -/

/-- A link event goes to the events the node keeps (R432); those beyond 256 are lost, oldest first. -/
def State.reportLink (leave : Bool) (l : Nat) (s : State) : State :=
  let p := s.port l
  let r := p.partner
  let x := p.own.getD ⟨0, 0, 0⟩
  let e : LinkEventRec := ⟨leave, s.mySeat.getD 255, l, w64 (r.elim 0 Partner.serial), r.elim 0 Partner.node, r.elim 255 Partner.seat, r.elim 0 Partner.kind, x.major, x.minor⟩
  let all := s.ton.events ++ [e]
  let excess := all.length - 256
  ({ s with ton := { s.ton with events := all.drop excess } }).bumpBy Reg.LINK_EVENT_LOST excess

/-- The link was UP or MGMT_ONLY and is no longer: LEAVE, and LINK_DOWN in the fault log. -/
def State.leaveLink (l : Nat) (s : State) : State := if (s.port l).live then (s.reportLink true l).fault 0x0051 l 0 else s

/-- What a link loses when it stops: its replay buffer, what it has received and not delivered, its credits. -/
def LinkPort.cleared (p : LinkPort) : LinkPort :=
  { p with own := none, txSeq := 0, replay := [], resends := 0, credGen := [], credRel := [], rxLast := none, asked := false,
           inGen := List.replicate 8 0, inRel := List.replicate 8 0, owed := [], partials := [], arrived := [], sending := none }

/-- Any state but DOWN to DOWN: queued packets not begun are lost and counted (R433). -/
def State.linkDown (l : Nat) (s : State) : State :=
  let p := s.port l
  if p.state = 0 then s
  else
    let waiting := (p.queues.map fun q => q.2.length).foldl (· + ·) 0
    let t := s.leaveLink l
    ((t.setPort l { (t.port l).cleared with state := 0, queues := [], partner := none }).bumpBy (linkReg l Reg.LINK_L_FWD_DOWN) waiting).bump
      (linkReg l Reg.LINK_L_DOWN_EVENTS)

/-! ## Replay (R415, R416) -/

/-- Sends again from the first unacknowledged flit; the eighth time in a row takes the link down. -/
def State.resendFlits (l : Nat) (s : State) : State :=
  let p := s.port l
  if p.replay.isEmpty then s
  else
    let t := (s.setPort l { p with replay := p.replay.map fun f => { f with sent := s.now }, resends := p.resends + 1 }).bump (linkReg l Reg.LINK_L_REPLAYS)
    if 8 ≤ p.resends + 1 then t.linkDown l else p.replay.foldl (fun t f => t.sendFlit l 0 f.vc f.seq f.payload false) t

/-- REPLAY_TIMEOUT. -/
def replayTimeout (l : Nat) (s : State) : State :=
  match (s.port l).replay with
  | f :: _ => if s.linkOk l && s.past (f.sent + (s.reg Reg.LINK_REPLAY_TO).toNat) then s.resendFlits l else s
  | [] => s

/-- A replay request is sent once until a flit in order arrives. -/
def State.askReplay (l : Nat) (s : State) : State :=
  let p := s.port l
  if p.asked then s else (s.setPort l { p with asked := true }).sendFlit l 3 0 0 [] false

/-- Flits covered by an ACK: those up to SEQ `n`, counted back from the newest. -/
def ackCovers (n : Nat) (f : SentFlit) : Bool := decide ((n + 4096 - f.seq) % 4096 < 2048)
/-- Applies the ACK and CREDIT fields of a flit (R411, R414). -/
def LinkPort.applied (p : LinkPort) (b : Bytes) : LinkPort :=
  let ack := fieldAt b 4 2
  let left := if bitOf ack 15 then p.replay.filter fun f => !ackCovers (ack % 4096) f else p.replay
  let cr := fieldAt b 6 2
  let vc := cr % 8
  let n := cr / 256
  let p := { p with replay := left, resends := if left.length < p.replay.length then 0 else p.resends }
  if bitOf cr 3 then { p with credRel := p.credRel.set vc (p.credRel.getD vc 0 + n) } else { p with credGen := p.credGen.set vc (p.credGen.getD vc 0 + n) }

/-- Relay pool of a VC (R413): a quarter of the buffer. -/
def State.relayPool (s : State) (vc : Nat) : Nat :=
  let units := byteAt (leBytes 4 (s.reg Reg.LINK_VC_CREDITS_LO).toNat ++ leBytes 4 (s.reg Reg.LINK_VC_CREDITS_HI).toNat) vc
  4 * units / 4

/-- A data flit in order: it takes its place in the buffer, and at END its packet has arrived (R413, R417). A flit that starts a packet before the last one
ended, or continues none, gives a packet that the length check discards. -/
def State.acceptData (l : Nat) (b : Bytes) (s : State) : State :=
  let p := s.port l
  let vc := byteAt b 1 % 8
  let start := bitOf (byteAt b 1) 3
  let last := bitOf (byteAt b 1) 4
  let body := (b.drop 8).take 240
  let old := p.partials.getD vc []
  let torn := start && !old.isEmpty
  let whole := if start then body else old ++ body
  let rel := headRelay whole && decide (p.inRel.getD vc 0 < s.relayPool vc)
  let p := { p with
    rxLast := some (fieldAt b 2 2 % 4096)
    asked := false
    inGen := if rel then p.inGen else p.inGen.set vc (p.inGen.getD vc 0 + 1)
    inRel := if rel then p.inRel.set vc (p.inRel.getD vc 0 + 1) else p.inRel
    arrived := p.arrived ++ (if torn then [(vc, old ++ List.replicate 240 0)] else []) ++ (if last then [(vc, whole)] else [])
    partials := if last then p.partials.del vc else p.partials.put vc whole }
  ((s.setPort l p).bump64 (linkReg l Reg.LINK_L_RX_FLITS_LO) 1).sendIdle l

/-- FLIT_RECEIVE (R411 to R416). -/
def flitReceive (l : Nat) (b : Bytes) (s : State) : State :=
  let p := s.port l
  if !s.linkOk l ∨ p.state < 2 then s
  else if !flitOk b then
    let t := (s.bump (linkReg l Reg.LINK_L_CRC_ERR)).fault 0x0050 l 0
    if p.live then t.askReplay l else t
  else
    let p := { p with lastGood := s.now }
    if !p.live then s.setPort l p
    else
      let t := s.setPort l (p.applied b)
      match byteAt b 0 with
      | 0 =>
        let next := match p.rxLast with | some n => (n + 1) % 4096 | none => 0
        if fieldAt b 2 2 % 4096 = next then t.acceptData l b else t.askReplay l
      | 3 => t.resendFlits l
      | _ => t

/-- CREDIT_RETURN (R414): flits have left the receive buffer into the Kitty. -/
def creditReturn (l vc : Nat) (relay : Bool) (n : Nat) (s : State) : State :=
  let p := s.port l
  let have' := if relay then p.inRel.getD vc 0 else p.inGen.getD vc 0
  if !s.linkOk l ∨ !p.live ∨ 7 < vc ∨ n = 0 ∨ have' < n then s
  else
    let p := { p with inRel := if relay then p.inRel.set vc (have' - n) else p.inRel, inGen := if relay then p.inGen else p.inGen.set vc (have' - n),
                      owed := p.owed ++ [(vc, relay, n)] }
    (s.setPort l p).sendIdle l

/-! ## Egress (R454, R456, R457) -/

/-- Sends flits of the packet under way while credit and the replay buffer last (R413, R416). -/
def State.pumpFlits (l : Nat) : Nat → State → State
  | 0, s => s
  | n + 1, s =>
    let p := s.port l
    match p.sending with
    | none => s
    | some x =>
      if !p.hasCredit x.vc x.relay ∨ 512 ≤ p.replay.length then s
      else
        let payload := sliceAt x.bytes 0 240
        let rest := x.bytes.drop 240
        let vc := x.vc + 8 * b1 x.first + 16 * b1 rest.isEmpty
        let rel := x.relay && decide (0 < p.credRel.getD x.vc 0)
        let p := { p with
          credRel := if rel then p.credRel.set x.vc (p.credRel.getD x.vc 0 - 1) else p.credRel
          credGen := if rel then p.credGen else p.credGen.set x.vc (p.credGen.getD x.vc 0 - 1)
          sending := if rest.isEmpty then none else some { x with bytes := rest, first := false }
          replay := p.replay ++ [⟨p.txSeq, vc, payload, s.now⟩]
          txSeq := (p.txSeq + 1) % 4096 }
        let seq := (s.port l).txSeq
        State.pumpFlits l n (((s.setPort l p).bump64 (linkReg l Reg.LINK_L_TX_FLITS_LO) 1).sendFlit l 0 vc seq payload true)

/-- EGRESS_SELECT (R457): the packet under way goes on; else the point selects one and sends it. -/
def egressSelect (l : Nat) (s : State) : State :=
  let p := s.port l
  if !s.linkOk l ∨ !p.live then s
  else if p.sending.isSome then (s.pumpFlits l 70).creditsBack l
  else
    let r := s.egressChoice l
    match r.1 with
    | none => s.creditsBack l
    | some v => match p.queue v with
      | [] => s
      | b :: rest =>
        let t := s.setPoint (.link l) (r.2.sentItem v (packetCost b) rest.isEmpty)
        ((t.setPort l { p with queues := p.queues.put v rest, headAt := p.headAt.put v s.now, sending := some ⟨v, b, true, headRelay b⟩ }).pumpFlits l 70).creditsBack l

/-- Packets that wait at a link's queue (SCHED_Q_DEPTH). -/
def State.egressDepth (s : State) (l q : Nat) : Nat := ((s.port l).queue q).length

/-- LINK_L_CREDIT_STALL: the 24 FCLK cycles of an LTC unit, for each link with a flit that waits for credit. -/
def countCreditStall (s : State) : State :=
  s.link.ports.foldl (fun s e =>
    let p := e.2
    let waits := p.live && (match p.sending with
      | some x => !p.hasCredit x.vc x.relay
      | none => !p.dataReady && (List.range 8).any fun v => !(p.queue v).isEmpty)
    if waits then s.bumpBy (linkReg e.1 Reg.LINK_L_CREDIT_STALL) 24 else s) s

/-! ## Hello (R425 to R430) -/

def readPartner (b : Bytes) : Partner where
  kind := byteAt b 0
  seat := byteAt b 1
  link := byteAt b 2
  ranges := (List.range (min 4 (byteAt b 3))).map fun i => (byteAt b (4 + 3 * i), byteAt b (5 + 3 * i), byteAt b (6 + 3 * i))
  features := fieldAt b 16 8
  credits := (List.range 8).map fun v => byteAt b (24 + v)
  serial := fieldAt b 32 8
  node := fieldAt b 40 2
  ton := fieldAt b 42 2
  helloNo := fieldAt b 44 4

/-- Versions and features of the VN-960 (R425, Table 12.4). -/
def ownRanges : List (Nat × Nat × Nat) := [(1, 0, 4), (2, 0, 3), (3, 0, 2)]
def ownFeatures : Nat := 15
/-- Major and minor that a feature bit requires. -/
def featureNeeds : Nat → Nat × Nat
  | 0 => (1, 1) | 1 => (1, 3) | 2 => (2, 1) | _ => (2, 2)

/-- settle of R428, for the node and a partner. -/
def settle (b : Partner) : Settled :=
  let common := ownRanges.flatMap fun x => (b.ranges.filter fun y => y.1 == x.1 && decide (x.2.1 ≤ y.2.2 ∧ y.2.1 ≤ x.2.2)).map fun y => (x.1, min x.2.2 y.2.2)
  match minBy (fun v : Nat × Nat => 255 - v.1) common with
  | none => ⟨0, 0, 0⟩
  | some v =>
    let keep (i : Nat) : Bool := bitOf b.features i && decide ((featureNeeds i).1 < v.1 ∨ ((featureNeeds i).1 = v.1 ∧ (featureNeeds i).2 ≤ v.2))
    ⟨v.1, v.2, ((List.range 4).map fun i => if keep i then 2 ^ i else 0).foldl (· + ·) 0⟩

/-- Sends a hello packet: one data flit (R417, R426), outside the numbered flow that begins at UP (R430). -/
def State.sendHelloFlit (l : Nat) (b : Bytes) (s : State) : State := (s.bump64 (linkReg l Reg.LINK_L_TX_FLITS_LO) 1).emit (.hello l b)

/-- A hello packet on its link (R426). -/
def State.helloPacket (s : State) (l typ : Nat) (body : Bytes) : Bytes :=
  let dst := (s.port l).node.elim 0 fun n => n * 65536
  leBytes 1 typ ++ leBytes 1 0 ++ leBytes 2 body.length ++ leBytes 4 dst ++ leBytes 4 s.myEndpoint.toNat ++ leBytes 1 0 ++ [0xFF, 0xFF] ++ leBytes 1 0
    ++ leBytes 8 s.mapNow ++ leBytes 2 s.myTon ++ List.replicate 6 0 ++ body

/-- Body of the node's HELLO on a link (Table 12.5). -/
def State.helloBody (s : State) (l no : Nat) : Bytes :=
  let vc := leBytes 4 (s.reg Reg.LINK_VC_CREDITS_LO).toNat ++ leBytes 4 (s.reg Reg.LINK_VC_CREDITS_HI).toNat
  leBytes 1 0 ++ leBytes 1 (s.mySeat.getD 255) ++ leBytes 1 l ++ leBytes 1 3 ++ [1, 0, 4, 2, 0, 3, 3, 0, 2, 0, 0, 0] ++ leBytes 8 ownFeatures ++ vc
    ++ leBytes 8 (s.pair Reg.NODE_SERIAL_LO) ++ leBytes 2 s.myNode ++ leBytes 2 s.myTon ++ leBytes 4 no ++ leBytes 8 s.mapNow ++ List.replicate 8 0
    ++ sliceAt s.cfg.waymark 0 64

/-- Sends a HELLO and starts the hello timer: the link is in HELLO. -/
def State.sendHello (l : Nat) (s : State) : State :=
  let p := s.port l
  let no := (p.helloNo + 1) % 2 ^ 32
  (s.setPort l { p with state := 2, helloNo := no, helloAt := s.now, own := none }).sendHelloFlit l (s.helloPacket l 1 (s.helloBody l no))

/-- The hello timer restarts for an arrival on the LTC value at which it expires (R430). -/
def State.helloArrival (l : Nat) (s : State) : State :=
  let p := s.port l
  if p.helloAt + (s.reg Reg.LINK_HELLO_RETRY).toNat = s.now then s.setPort l { p with helloAt := s.now } else s

/-- CARRIER_DETECT: a link that is retired does not train (R522). -/
def carrierDetect (l : Nat) (s : State) : State :=
  let p := s.port l
  if !s.linkOk l ∨ p.state ≠ 0 ∨ s.isRetired 14 l then s else s.setPort l { p with state := 1, trainAt := s.now }

/-- PHY_TRAINED. -/
def phyTrained (l : Nat) (s : State) : State := if s.linkOk l ∧ (s.port l).state = 1 then s.sendHello l else s

/-- LINK_TRAIN_TIMEOUT. -/
def linkTrainTimeout (l : Nat) (s : State) : State :=
  let p := s.port l
  if s.linkOk l && p.state == 1 && s.past (p.trainAt + (s.reg Reg.LINK_TRAIN_TO).toNat) then s.linkDown l else s

/-- HELLO (Table 12.6). -/
def hello (l : Nat) (b : Bytes) (s : State) : State :=
  let p := s.port l
  if !s.linkOk l ∨ p.state < 2 then s
  else if b.length < 128 then (s.bump64 (linkReg l Reg.LINK_L_RX_FLITS_LO) 1).bump (linkReg l Reg.LINK_L_LEN_DISCARD)
  else
    let s := s.bump64 (linkReg l Reg.LINK_L_RX_FLITS_LO) 1
    let r := readPartner b
    let known (p : LinkPort) : LinkPort := { p with node := some r.node }
    match p.state with
    | 2 =>
      let x := settle r
      let t := s.setPort l { (known p) with state := 3, own := some x, partner := some r }
      let body := leBytes 4 r.helloNo ++ leBytes 1 x.major ++ leBytes 1 x.minor ++ [0, 0] ++ leBytes 8 x.features
      (t.sendHelloFlit l (t.helloPacket l 2 body)).helloArrival l
    | 3 => (s.setPort l (known p)).sendHello l
    | _ =>
      let t := s.leaveLink l
      (t.setPort l (known (t.port l).cleared)).sendHello l

/-- UP or MGMT_ONLY: SEQ starts at 0 with the credits advertised (R430); JOIN is reported (R432). -/
def State.enterUp (l : Nat) (s : State) : State :=
  let p := s.port l
  let x := p.own
  let cr := p.partner.elim (List.replicate 8 0) Partner.credits
  let flits := cr.map fun u => 4 * u
  let p := { p.cleared with own := x, state := if x.any fun x => x.major == 0 then 5 else 4, credGen := flits.map fun n => n - n / 4,
                            credRel := flits.map fun n => n / 4, lastGood := s.now, lastKa := s.now }
  (s.setPort l p).reportLink false l

/-- HELLO_ACK (Table 12.6, R430). -/
def helloAck (l : Nat) (b : Bytes) (s : State) : State :=
  let p := s.port l
  if !s.linkOk l ∨ p.state < 2 ∨ 3 < p.state then s
  else if b.length < 16 then (s.bump64 (linkReg l Reg.LINK_L_RX_FLITS_LO) 1).bump (linkReg l Reg.LINK_L_LEN_DISCARD)
  else
    let t := (s.bump64 (linkReg l Reg.LINK_L_RX_FLITS_LO) 1).helloArrival l
    if p.state ≠ 3 ∨ fieldAt b 0 4 ≠ p.helloNo then t
    else if p.own = some ⟨byteAt b 4, byteAt b 5, fieldAt b 8 8⟩ then t.enterUp l
    else t.sendHello l

/-- HELLO_TIMER_EXPIRY. -/
def helloTimerExpiry (l : Nat) (s : State) : State :=
  let p := s.port l
  if s.linkOk l && (p.state == 2 || p.state == 3) && s.past (p.helloAt + (s.reg Reg.LINK_HELLO_RETRY).toNat) then s.sendHello l else s

/-- CARRIER_LOST. -/
def carrierLost (l : Nat) (s : State) : State := if s.linkOk l then s.linkDown l else s

/-- KEEPALIVE_SEND (R431). -/
def keepaliveSend (l : Nat) (s : State) : State :=
  let p := s.port l
  if s.linkOk l ∧ p.live ∧ p.lastKa + (s.reg Reg.LINK_KA_INTERVAL).toNat ≤ s.now then
    (s.setPort l { p with lastKa := s.now }).sendFlit l 2 0 0 [] true
  else s

/-- KEEPALIVE_LOSS (R431). -/
def keepaliveLoss (l : Nat) (s : State) : State :=
  let p := s.port l
  let limit := (s.reg Reg.LINK_KA_INTERVAL).toNat * (s.reg Reg.LINK_KA_MISS).toNat
  if s.linkOk l && p.live && s.past (p.lastGood + limit) then (s.bump (linkReg l Reg.LINK_L_KA_LOSS)).linkDown l else s

/-- A retired link goes DOWN (R522). -/
def State.linkRetired (l : Nat) (s : State) : State := s.linkDown l

end Sys2Proof.Machine
end

