-- ==== Sys2Proof/Machine/Route.lean ====
section
/-! DEFINITION. Packet types (Table 12.3), the routes of R439, and how a message becomes packets at a link's egress (R417, R418, R423). -/

namespace Sys2Proof.Machine

/-! ## Types -/

/-- The virtual channel of a type; management messages larger than one packet take VC 7 (Table 12.3). -/
def typeVc (typ : Nat) (big : Bool) : Nat :=
  match typ with
  | 0x0D => if big then 7 else 0
  | 0x10 => 1 | 0x11 => 2 | 0x18 => 3 | 0x19 => 4 | 0x20 => 5 | 0x1A => 4 | 0x21 => 3 | 0x22 => 3 | 0x23 => 4 | 0x28 => 6 | 0x29 => 6
  | _ => 0
/-- The major version that introduces a type (every minor is 0); 0 for a type of no version. -/
def typeMajor (typ : Nat) : Nat :=
  match typ with
  | 0x01 | 0x02 | 0x08 | 0x09 | 0x0A | 0x0B | 0x0C | 0x0D | 0x0E | 0x10 | 0x11 | 0x18 | 0x19 | 0x20 => 1
  | 0x1A | 0x21 | 0x22 | 0x23 => 2
  | 0x28 | 0x29 => 3
  | _ => 0
/-- Types that require a shared table of nodes. -/
def typeTon (typ : Nat) : Bool := [0x08, 0x09, 0x0A, 0x0B, 0x0C, 0x0E, 0x1A].contains typ
/-- Kinds of partner that may send a type. -/
def typeKind (typ kind : Nat) : Bool :=
  if typeTon typ || [0x21, 0x22, 0x23].contains typ then kind == 0
  else if typ == 0x28 || typ == 0x29 then kind == 0 || kind == 2
  else true
/-- Types that may be segmented (R423). -/
def typeSegs (typ : Nat) : Bool := [0x0D, 0x10, 0x11, 0x18, 0x19, 0x21, 0x22, 0x23].contains typ

/-- The feature bit that a message's type and first bytes use (Table 12.4): rows asked for by 8-byte indices. -/
def usesFeature (typ : Nat) (body : Bytes) : Option Nat := if (typ == 0x21 || typ == 0x22) && bitOf (byteAt body 2) 0 then some 2 else none
/-- A feature was settled for a link (R428). -/
def LinkPort.offers (p : LinkPort) (f : Option Nat) : Bool := f.all fun i => p.own.any fun x => bitOf x.features i
/-- A type was agreed for a link (R428). -/
def LinkPort.agreed (p : LinkPort) (typ : Nat) : Bool :=
  match p.state with
  | 4 => decide (1 ≤ typeMajor typ ∧ typeMajor typ ≤ p.own.elim 0 Settled.major) && typeKind typ (p.partner.elim 0 Partner.kind)
  | 5 => [0x01, 0x02, 0x0A, 0x0D].contains typ
  | _ => false

/-! ## Routes (R439) -/

/-- The map a seat number is looked up in: the current one; before any, the one proposed or held. -/
def State.seatMap (s : State) : Option Bytes := (s.ton.cur.orElse fun _ => s.ton.change.map MapChange.map).orElse fun _ => s.ton.held
/-- The seat of a node. -/
def mapSeatOf (m : Bytes) (node : Nat) : Option Nat := (List.range (mapSeats m)).find? fun i => mapNode m i == node
/-- Node of a destination. -/
def State.destNode (s : State) : MsgDest → Option Nat
  | .endpoint e => if e = 0xFFFFFFFF then none else some (e.toNat / 65536)
  | .seat n => s.seatMap.bind fun m => if n < mapSeats m then some (mapNode m n) else none
/-- Seat of an endpoint in the current map. -/
def State.seatOf (s : State) (e : W32) : Option Nat := s.seatMap.bind fun m => mapSeatOf m (e.toNat / 65536)

/-- The routes to a node whose first link carries the type, best first: PRIMARY, then ALTERNATE; to a node outside the map, the links whose partner it is. -/
def State.routes (s : State) (node typ : Nat) : List (Nat × Nat) :=
  let direct := s.link.ports.filterMap fun e => if e.2.agreed typ && e.2.partner.any fun r => r.node == node then some (e.1, 255) else none
  match s.seatMap with
  | none => direct
  | some m => match s.mySeat, mapSeatOf m node with
    | some i, some j => (mapRoute m i j).filter fun r => decide (r.1 < 96) && (s.port r.1).agreed typ
    | _, _ => direct

/-- A composition's links that are not down (R480, R503). -/
def Comp.links (c : Comp) : List Nat :=
  ((List.range 8).map fun i => byteAt c.desc (56 + i)).filter fun l => decide (l < 96) && !c.linksDown.contains l
def Comp.namesLinks (c : Comp) : Bool := (List.range 8).any fun i => decide (byteAt c.desc (56 + i) < 96)

/-- The route of a message: its first link settled the feature the message uses; for a push, it begins at a link of its composition where that names any. -/
def State.routeFor (s : State) (feature : Option Nat) (node typ : Nat) (body : Bytes) : Option (Nat × Nat) :=
  let all := (s.routes node typ).filter fun r => (s.port r.1).offers feature
  match (if typ = 0x28 then s.lend.comps.get (fieldAt body 2 2) else none) with
  | some c => if c.namesLinks then all.find? fun r => c.links.contains r.1 else all.head?
  | none => all.head?
def State.routeOf (s : State) (node typ : Nat) (body : Bytes) : Option (Nat × Nat) := s.routeFor (usesFeature typ body) node typ body
/-- The feature a message uses; a move that splits a list uses SPLIT_RULES (Table 12.4). -/
def State.featureOf (s : State) (typ : Nat) : OutBody → Option Nat
  | .bytes b => usesFeature typ b
  | .shuffle (.list t l) _ _ => if s.idx.moves.any fun e => e.2.table == t && e.2.list == l && e.2.split.isSome then some 3 else none
  | .shuffle (.rows ..) _ _ => none
/-- A message to a destination has a route UP. -/
def State.reaches (s : State) (d : MsgDest) (typ : Nat) : Bool :=
  match s.destNode d with
  | none => false
  | some n => n == s.myNode || (s.routeOf n typ []).isSome

/-! ## Sending (R417, R423) -/

/-- A packet (Table 12.2). -/
def packetBytes (typ flags : Nat) (dst src : W32) (route : Nat × Nat) (hint : Nat) (mp ton msgId seg segs : Nat) (body : Bytes) : Bytes :=
  leBytes 1 typ ++ leBytes 1 flags ++ leBytes 2 body.length ++ leBytes 4 dst.toNat ++ leBytes 4 src.toNat ++ [0] ++ leBytes 1 route.1 ++ leBytes 1 route.2
    ++ leBytes 1 hint ++ leBytes 8 mp ++ leBytes 2 ton ++ leBytes 2 msgId ++ leBytes 2 seg ++ leBytes 2 segs ++ body

/-- Queues packets at a link's egress. -/
def State.queuePackets (l vc : Nat) (ps : List Bytes) (s : State) : State :=
  let p := s.port l
  s.setPort l { p with queues := p.queues.put vc (p.queue vc ++ ps), headAt := if (p.queue vc).isEmpty then p.headAt.put vc s.now else p.headAt }

/-- Sends one message: to the node itself at once, else as packets on its route; with no route UP it is lost and counted (R439). -/
def State.sendMsg (o : OutMsg) (s : State) : State :=
  let body := match o.body with | .bytes b => b | .shuffle x n m => Config.shuffleBytes x n m
  match s.destNode o.dest with
  | none => s.bump Reg.LINK_NO_ROUTE
  | some node =>
    if node = s.myNode then
      s.link' fun k => { k with inbox := k.inbox ++ [⟨255, o.typ, BitVec.ofNat 8 o.flags, s.myEndpoint, o.hint, w64 s.mapNow, s.myTon, body⟩] }
    else if s.link.mute then s
    else match s.routeFor (s.featureOf o.typ o.body) node o.typ body with
      | none => s.bump Reg.LINK_NO_ROUTE
      | some r =>
        let dst := match o.dest with | .endpoint e => e | .seat _ => w32 (node * 65536)
        let n := (body.length + 16383) / 16384
        let mk := packetBytes o.typ
        if n ≤ 1 ∨ !typeSegs o.typ then
          s.queuePackets r.1 (typeVc o.typ false) [mk o.flags dst s.myEndpoint r o.hint s.mapNow s.myTon 0 0 0 body]
        else
          let id := s.link.msgIds.getD dst.toNat 1
          let ps := (List.range n).map fun i =>
            mk (o.flags + 16) dst s.myEndpoint r o.hint s.mapNow s.myTon id i n ((body.drop (16384 * i)).take 16384)
          (s.link' fun k => { k with msgIds := k.msgIds.put dst.toNat (if id = 65535 then 1 else id + 1) }).queuePackets r.1 (typeVc o.typ true) ps

/-- The link dies send what the units have handed to them in this step, in order. -/
def flushPost (s : State) : State := s.post.foldl (fun t o => t.sendMsg o) { s with post := [] }

end Sys2Proof.Machine
end

