-- ==== Sys2Proof/Machine/Lend.lean ====
section
/-! DEFINITION. Lending (R479 to R506): compositions, their push rings, state push and its ownership, the detour log, keeps, restores, and reclaim. -/

namespace Sys2Proof.Machine

def State.lend' (f : LendSt → LendSt) (s : State) : State := { s with lend := f s.lend }
def State.comp (s : State) (id : Nat) : Option Comp := s.lend.comps.get id
def State.setComp (id : Nat) (c : Comp) (s : State) : State := s.lend' fun l => { l with comps := l.comps.put id c }
def State.modComp (id : Nat) (f : Comp → Comp) (s : State) : State := s.lend' fun l => { l with comps := l.comps.modify id f }

/-! ## Descriptors (R480, R481) -/

def dTraining (d : Bytes) : Bool := bitOf (byteAt d 5) 0
def dSpan (d : Bytes) : Bool := bitOf (byteAt d 5) 1
def dLose (d : Bytes) : Nat := if byteAt d 4 = 0 then 2 else byteAt d 4
def dKeeper (d : Bytes) : W32 := w32 (fieldAt d 72 4)
def dPush (d : Bytes) : Nat := fieldAt d 76 4
def dDetour (d : Bytes) : Nat := fieldAt d 80 4
def dBase (d : Bytes) : Nat := fieldAt d 88 8
def bitsSet (n k : Nat) : List Nat := (List.range k).filter (bitOf n)
/-- The units a descriptor names, sequencers apart. -/
def dUnits (d : Bytes) : List (UnitClass × Nat) :=
  (bitsSet (fieldAt d 8 4) 32).map (fun i => (UnitClass.me, i)) ++ (bitsSet (fieldAt d 12 4) 32).map (fun i => (UnitClass.vu, i))
    ++ (bitsSet (fieldAt d 16 8) 64).map (fun i => (UnitClass.sk, i)) ++ (bitsSet (fieldAt d 32 2) 16).map (fun i => (UnitClass.ge, i))
def dSeqs (d : Bytes) : List Nat := bitsSet (fieldAt d 24 8) 64
def dLinks (d : Bytes) : List Nat := ((List.range 8).map fun i => byteAt d (56 + i)).filter (· != 255)
def dSmall (d : Bytes) : Bool := decide ((bitsSet (fieldAt d 8 4) 32).length ≤ 4 ∧ fieldAt d 48 8 ≤ 2 ^ 38) && !dSpan d

/-- FREE and RECLAIMED compositions are not live (R479, Table 14.7). -/
def Comp.live (c : Comp) : Bool := decide (1 ≤ c.state ∧ c.state ≤ 3)
def State.compLive (s : State) (id : Nat) : Bool := (s.comp id).any Comp.live
def Comp.training (c : Comp) : Bool := dTraining c.desc
/-- The secured step (R489, R497). -/
def Comp.secured (c : Comp) : Nat := if c.detour then max c.secKeeper c.secLocal else c.secKeeper
def State.showLend (s : State) : State := s.setNat Reg.LEND_LIVE (s.lend.comps.vals.filter Comp.live).length

/-- A descriptor that PD_PUSH, PD_DETOUR or a keep may name. -/
def State.pdFits (s : State) (n tier : Nat) (o : Owner) : Bool := (s.pds.get n).any fun d => d.kind == 5 && d.tier == tier && d.owner == o

/-- A unit is held by the system and stays there. -/
def State.systemUnit (s : State) (c : UnitClass) (n : Nat) : Bool := (s.engine c n).owner == .system && (s.engine c n).clearing.isNone && !s.engRetired c n
/-- Queue 5 or 6 of a link is held by a live composition other than `id`. -/
def State.linkHeld (s : State) (id l : Nat) : Bool := s.lend.comps.any fun e => e.1 != id && e.2.live && e.2.links.contains l

/-- The checks of R482 that FORM and CHANGE share; `old` is what the composition holds already. -/
def State.compChecks (s : State) (d : Bytes) (old : List (UnitClass × Nat)) (oldSeqs : List Nat) : List (Bool × Nat) :=
  let id := fieldAt d 2 2
  let o := Owner.comp id
  let notice := byteAt d 84
  [(decide (byteAt d 0 ≠ 0), St.version),
   -- the notice counter's group will be the composition's (R283)
   (decide (notice < 8) && !(dSeqs d).contains (8 * notice + byteAt d 85 % 64 / 8), St.denied),
   (decide (8 < byteAt d 4 ∨ id = 0) || (dLinks d).any (fun l => decide (95 < l)) || !decide (dLinks d).Nodup
      || decide (fieldAt d 64 4 = 0xFFFFFFFF ∨ fieldAt d 68 4 = 0xFFFFFFFF)
      || (dPush d != 0 && !s.pdFits (dPush d) 1 o) || (dDetour d != 0 && !s.pdFits (dDetour d) 2 o)
      || (dTraining d && (dKeeper d == 0xFFFFFFFF || dPush d == 0)), St.range),
   ((dUnits d).any (fun u => !old.contains u && !s.systemUnit u.1 u.2) || (dSeqs d).any (fun q => !oldSeqs.contains q && ((s.seqCore q).owner != .system || s.isRetired 10 q))
      || (dLinks d).any (s.linkHeld id), St.busy)]

/-! ## Moving units, queues and quotas (R483, R484) -/

/-- A sequencer is switched off and passes to an owner, the counters of its group at 0 (R296). -/
def State.passSeq (o : Owner) (q : Nat) (s : State) : State :=
  let s := (List.range 8).foldl (fun t i => t.setNat (syncOff (q / 8) (8 * (q % 8) + i)) 0) s
  ((s.haltSeq q).setSeq q { (s.seqCore q) with state := 0, owner := o, program := [], cpu := rvReset }).setNat (Reg.CD_SQ_OWNER + 0x80000 * (q / 8) + 0x40 * (q % 8)) (ownerKey o)

/-- A link queue's RATE from the next refill (R462); `none` returns it to Table 13.2. -/
def State.shapeQueue (q : Nat) (rate : Option Nat) (l : Nat) (s : State) : State :=
  let x := s.point (.link l)
  let y := x.queue q
  let now := y.change.getD (y.rate, y.burst, y.weight)
  let dst_ := match rate with
    | some r => (r, now.2.1, now.2.2)
    | none => (unshaped, 64, 48)
  s.setPoint (.link l) { x with queues := x.queues.set q { y with change := some dst_ } }
def State.shapeLinks (d : Bytes) (ls : List Nat) (s : State) : State :=
  ls.foldl (fun s l => (s.shapeQueue 5 (some (fieldAt d 68 4)) l).shapeQueue 6 (some (fieldAt d 64 4)) l) s
def State.unshapeLinks (ls : List Nat) (s : State) : State := ls.foldl (fun s l => (s.shapeQueue 5 none l).shapeQueue 6 none l) s

/-- The quotas of codes 0 to 2 of a composition. -/
def State.compQuota (id : Nat) (qs : List Nat) (s : State) : State :=
  (qs.zip [0, 1, 2]).foldl (fun s q => s.setLimit (.comp id) q.2 q.1) s
def dQuotas (d : Bytes) : List Nat := [fieldAt d 36 4, fieldAt d 40 4, fieldAt d 48 8]

/-- A unit of the composition is still being cleared. -/
def State.clearing (s : State) (id : Nat) : Bool := s.eng.units.vals.any fun e => e.clearing == some (.comp id) || (e.owner == .comp id && e.clearing.isSome)

def State.lendFail (slot st : Nat) (s : State) : State := (s.bump Reg.LEND_CMD_ERR).slotDone .lend slot st

/-- The descriptor bytes that ARG0 and ARG1 name, with the checks of their place. -/
def State.lendDesc (s : State) (slot n : Nat) : List (Bool × Nat) × Bytes :=
  let h := bitsOf (s.slotArg .lend slot 0) 31 16
  let off := 64 * s.slotArg .lend slot 1
  (s.rgnChecks .system h off n false, (s.handleRead h off n).getD [])

/-- A composition as FORM makes it. -/
def newComp (d : Bytes) (region : Nat) (slot : Nat) : Comp where
  desc := d
  state := 2
  reason := 0
  region := region
  changes := 0
  keeper := dKeeper d
  lose := dLose d
  pdDetour := dDetour d
  begun := dBase d
  formed := false
  openStep := false
  objects := []
  waiting := none
  items := []
  secKeeper := dBase d
  secLocal := 0
  ownSeq := 1
  detour := false
  resuming := false
  log := []
  logSeq := 1
  logAt := 0
  probed := 0
  slot := some slot
  reclaimFrom := 0
  deadline := 0
  closed := false
  linksDown := []
  pushBytes := 0
  repush := 0
  gateStall := 0
  detours := 0
  ackStale := 0
  reclaimLtc := 0

/-- FORM (R482, R483). -/
def formRun (slot : Nat) (s : State) : State :=
  let x := s.lendDesc slot 128
  let d := x.2
  let id := fieldAt d 2 2
  let given := !d.isEmpty
  let s := s.usedHandle (bitsOf (s.slotArg .lend slot 0) 31 16) (64 * s.slotArg .lend slot 1) d.length
  let num := s.freeNumber
  let us := (s.offer (List.range 24)).take 1
  let body := if given then (decide (byteAt d 1 ≠ 1), St.version) :: s.compChecks d [] []
      ++ [(s.compLive id || decide (64 ≤ (s.lend.comps.vals.filter Comp.live).length) || num.isNone || us.isEmpty || fieldAt d 36 4 == 0, St.busy)] else []
  let st := r21 (x.1 ++ body)
  if st ≠ St.ok then s.lendFail slot st
  else
    let num := num.getD 0
    let gen := s.nextGen num
    let o := Owner.comp id
    let r : Region := ⟨gen, o, 5, false, false, us, 0, []⟩
    let t := (s.setRegion num r).setUnits .allocated us
    let t := { t with kitty := { t.kitty with lastGen := t.kitty.lastGen.put num gen } }
    let t := (dUnits d).foldl (fun t u => t.reclaimUnit u.1 u.2 o) t
    let t := (dSeqs d).foldl (fun t q => t.passSeq o q) t
    let t := ((t.compQuota id (dQuotas d)).shapeLinks d (dLinks d)).setComp id (newComp d (r.handle num) slot)
    (t.showLend).slotWaits .lend slot (.other 1 id 0)

/-- CHANGE (R484): refused for what differs, else applied; new KEEPER, LOSE_STEPS and PD_DETOUR wait for the next STEP_BEGIN. -/
def changeRun (slot : Nat) (s : State) : State :=
  let x := s.lendDesc slot 128
  let d := x.2
  let s := s.usedHandle (bitsOf (s.slotArg .lend slot 0) 31 16) (64 * s.slotArg .lend slot 1) d.length
  let id := fieldAt d 2 2
  let given := !d.isEmpty
  match s.comp id with
  | none => s.lendFail slot (r21 (x.1 ++ (if given then s.compChecks d [] [] ++ [(true, St.notOwner)] else [])))
  | some c =>
    let differs := byteAt d 1 != byteAt c.desc 1 || dTraining d != dTraining c.desc || dSpan d != dSpan c.desc || (dSpan d && fieldAt d 6 2 != fieldAt c.desc 6 2)
      || dPush d != dPush c.desc
    let stopped := (dSeqs c.desc).all fun q => (s.seqCore q).state != 1 && (s.seqCore q).state != 2
    let st := r21 (x.1 ++ (if given then s.compChecks d (dUnits c.desc) (dSeqs c.desc)
      ++ [(differs, St.range), (!c.live, St.notOwner), (c.state != 1 || (!(dSmall d && dSmall c.desc) && !stopped), St.busy)] else []))
    if st ≠ St.ok then s.lendFail slot st
    else
      let o := Owner.comp id
      let old := dUnits c.desc
      let t := (old.filter fun u => !(dUnits d).contains u).foldl (fun t u => t.reclaimUnit u.1 u.2 .system) s
      let t := ((dUnits d).filter fun u => !old.contains u).foldl (fun t u => t.reclaimUnit u.1 u.2 o) t
      let t := ((dSeqs c.desc).filter fun q => !(dSeqs d).contains q).foldl (fun t q => t.passSeq .system q) t
      let t := ((dSeqs d).filter fun q => !(dSeqs c.desc).contains q).foldl (fun t q => t.passSeq o q) t
      let t := t.compQuota id (dQuotas d)
      let t := (t.unshapeLinks ((dLinks c.desc).filter fun l => !(dLinks d).contains l)).shapeLinks d (dLinks d)
      let down := c.linksDown.filter fun l => (dLinks c.desc).contains l && (dLinks d).contains l && !(s.port l).live
      (t.setComp id { c with desc := d, state := 2, slot := some slot, linksDown := down }).slotWaits .lend slot (.other 2 id 0)

/-- The status block (R485). -/
def Comp.status (c : Comp) : Bytes :=
  leBytes 4 c.changes ++ leBytes 1 c.state ++ List.replicate 3 0 ++ sliceAt c.desc 8 4 ++ sliceAt c.desc 12 4 ++ leBytes 8 c.secured ++ leBytes 8 c.begun
    ++ List.replicate 32 0

/-- COMPOSITION_NOTICE: once its units are cleared, a FORM or CHANGE is applied: the status block, then the notice counter (R485). -/
def compositionNotice (id : Nat) (s : State) : State :=
  match s.comp id with
  | none => s
  | some c =>
    let left := c.slot.bind fun k => (s.slots.runs.get (slotKey .lend k)).bind SlotRun.wait
    if c.state ≠ 2 ∨ s.clearing id then s
    else
      let isForm := left == some (.other 1 id 0)
      let c := { c with state := 1, changes := if isForm then c.changes else c.changes + 1, slot := none }
      let t := (s.setComp id c).bumpIf isForm Reg.LEND_FORMED
      let t := match s.region c.region with | some r => t.rgnPut r (64 * 66) c.status | none => t
      let die := byteAt c.desc 84
      let ctr := byteAt c.desc 85 % 64
      let t := if die < 8 && t.holdsCtr (.comp id) die ctr then t.signal die ctr else t
      let result := if isForm then c.region * 65536 + St.ok else St.ok
      match (s.comp id).bind Comp.slot with | some k => t.slotDone .lend k result | none => t

/-! ## Pushing (R489 to R498) -/

/-- Bytes of an item; `none` where its record in the log has been written over. -/
def State.itemData (s : State) (c : Comp) (x : PushItem) : Option Bytes :=
  if x.stepRec then some []
  else if x.logged then (c.log.find? fun r => !r.stepRec && r.object == x.object && r.step == x.step).map fun r => s.objOf r.pd (r.place + 64) x.bytes
  else some (s.objOf (dPush c.desc) x.place x.bytes)

/-- A STATE_PUSH header (Table 14.3). -/
def pushHeader (kind comp object step own offset len total check : Nat) : Bytes :=
  leBytes 1 kind ++ [0] ++ leBytes 2 comp ++ leBytes 4 object ++ leBytes 8 step ++ leBytes 8 own ++ leBytes 8 offset ++ leBytes 4 len ++ leBytes 4 total
    ++ leBytes 4 check ++ List.replicate 20 0

/-- Packets of an item offered under an ownership number: fragments in offset order, or one STEP record (R490). -/
def State.handItem (dest : W32) (comp own : Nat) (x : PushItem) (data : Bytes) (s : State) : State :=
  if x.stepRec then s.hand (.endpoint dest) 0x28 0 (.bytes (pushHeader 1 comp 0 x.step own 0 0 x.bytes 0))
  else (List.range ((x.bytes + 16319) / 16320)).foldl (fun s i =>
    let part := (data.drop (16320 * i)).take 16320
    s.hand (.endpoint dest) 0x28 0 (.bytes (pushHeader 0 comp x.object x.step own (16320 * i) part.length x.bytes x.check ++ part))) s

/-- Offers an item of a composition under the next ownership number (R493). -/
def State.offerItem (id : Nat) (c : Comp) (x : PushItem) (s : State) : Comp × State :=
  match s.itemData c x with
  | none => (c, s)
  | some data =>
    let same (y : PushItem) : Bool := y.stepRec == x.stepRec && y.object == x.object && y.step == x.step
    let c' := { c with ownSeq := c.ownSeq + 1, pushBytes := satAdd64 c.pushBytes (if x.stepRec then 0 else x.bytes),
                       items := replaceFirst same (fun y => { y with offered := c.ownSeq, sent := s.now }) c.items }
    (c', s.handItem c.keeper id c.ownSeq x data)

/-- The lowest step that has items. -/
def Comp.front (c : Comp) : Option Nat := (minBy PushItem.step c.items).map PushItem.step

/-- Steps whose objects and STEP record the keeper has acknowledged are secured, in order (R489). -/
def Comp.secure : Nat → Comp → Comp
  | 0, c => c
  | n + 1, c =>
    match c.front with
    | none => c
    | some k =>
      let mine := c.items.filter fun x => x.step == k
      if mine.any PushItem.stepRec && mine.all PushItem.acked then Comp.secure n { c with secKeeper := k, items := c.items.filter fun x => x.step != k }
      else c

/-- The keeper is unreachable (R496, R497): with a PD_DETOUR the composition enters DETOUR. -/
def Comp.enterDetour (now : Nat) (c : Comp) : Comp :=
  if c.pdDetour = 0 then c
  else if c.detour then { c with resuming := false }
  else { c with detour := true, resuming := false, probed := now, detours := satAdd32 c.detours 1 }

/-- Bytes of a log record, whole map units. -/
def logSize (x : PushItem) : Nat := (64 + (if x.stepRec then 0 else x.bytes) + 65535) / 65536 * 65536
/-- Where the next record lies, and the records it would write over (R497). -/
def Comp.logPlace (c : Comp) (len size : Nat) : Nat × List LogRec :=
  let at_ := if c.logAt + size ≤ len then c.logAt else 0
  (at_, c.log.filter fun r => decide (r.pd = c.pdDetour ∧ r.place < at_ + size ∧ at_ < r.place + r.size))

/-- Writes items to the detour log in order until one has to wait (R497). -/
def State.logItems (id : Nat) : List PushItem → Comp → State → Comp × State
  | [], c, s => (c, s)
  | x :: rest, c, s =>
    let size := logSize x
    let len := s.pdLen c.pdDetour
    let w := c.logPlace len size
    let kept := max c.secKeeper c.secLocal
    if len < size ∨ w.2.any (fun r => decide (kept ≤ r.step)) then (c, s)
    else
      match s.itemData c x with
      | none => (c, s)
      | some data =>
        let head := leBytes 1 (b1 x.stepRec) ++ [0] ++ leBytes 2 id ++ leBytes 4 (if x.stepRec then 0 else x.object) ++ leBytes 8 x.step ++ leBytes 8 x.offered
          ++ leBytes 8 data.length ++ leBytes 4 (crc32c data).toNat ++ List.replicate 4 0 ++ leBytes 8 c.logSeq ++ List.replicate 12 0
        let bytes := head ++ leBytes 4 (crc32c head).toNat ++ data
        let rec_ : LogRec := ⟨c.pdDetour, w.1, size, x.stepRec, x.object, x.step, x.offered, data.length⟩
        let same (y : PushItem) : Bool := y.stepRec == x.stepRec && y.object == x.object && y.step == x.step
        let items := replaceFirst same (fun y => { y with logged := true }) c.items
        let whole := x.stepRec && (items.filter fun y => y.step == x.step).all PushItem.logged
        let c' := { c with log := (c.log.filter fun r => !w.2.contains r) ++ [rec_], logSeq := c.logSeq + 1, logAt := w.1 + size, items := items,
                           secLocal := if whole then max c.secLocal x.step else c.secLocal }
        State.logItems id rest c' ((s.throughPieces 6 (id % 4) bytes).objPut c.pdDetour w.1 bytes)

/-- A composition's items go as far as they may: into the log during a detour, else to the keeper, one step at a time (R490, R497, R498). -/
def State.pump (id : Nat) (s : State) : State :=
  match s.comp id with
  | none => s
  | some c =>
    let c := c.secure (c.items.length + 1)
    let c := if c.detour && c.resuming && decide (c.secLocal ≤ c.secKeeper) then { c with detour := false, resuming := false } else c
    let way := match s.destNode (.endpoint c.keeper) with
      | some n => n == s.myNode || (s.routeOf n 0x28 ([0, 0] ++ leBytes 2 id)).isSome
      | none => false
    let c := if !way && !c.items.isEmpty then c.enterDetour s.now else c
    let x := if c.detour then State.logItems id (c.items.filter fun y => !y.logged && !y.acked) c s else (c, s)
    let c := x.1
    let y := if c.detour && !c.resuming then (c, x.2)
      else match c.front with
        | none => (c, x.2)
        | some k => (c.items.filter fun z => z.step == k && z.offered == 0 && !z.acked).foldl (fun a z => a.2.offerItem id a.1 z) (c, x.2)
    y.2.setComp id y.1

/-! ## Reclaim (R500 to R502) -/

/-- Every ended step is secured. -/
def Comp.allSecured (c : Comp) : Bool := !(c.items.any fun x => x.stepRec && decide (c.secured < x.step))

/-- Steps 3 and 4 begin: CLOSE is sent and the units are cleared for the system. -/
def State.closeComp (id : Nat) (s : State) : State :=
  match s.comp id with
  | none => s
  | some c =>
    if c.closed then s
    else
      let t := s.setComp id { c with closed := true }
      let t := if c.training then t.hand (.endpoint c.keeper) 0x28 0 (.bytes (pushHeader 3 id 0 c.secured 0 0 0 0 0)) else t
      let t := (dUnits c.desc).foldl (fun t u => if (t.engine u.1 u.2).owner == .comp id then t.reclaimUnit u.1 u.2 .system else t) t
      (dSeqs c.desc).foldl (fun t q => if (t.seqCore q).owner == .comp id then t.passSeq .system q else t) t

/-- Step 2 ends where every ended step is secured. -/
def State.reclaimCheck (id : Nat) (s : State) : State :=
  match s.comp id with
  | some c => if c.state == 3 && !c.closed && (!c.training || c.allSecured) then s.closeComp id else s
  | none => s

/-- The entry of the push ring that is served next: its offset in the control region and its bytes. -/
def State.ringEntry (s : State) (c : Comp) : Option (Region × Nat × Bytes) :=
  match s.region c.region with
  | none => none
  | some r =>
    let p := leNat (s.rgnRead r 0 4)
    let k := leNat (s.rgnRead r 64 4)
    let w := (p + 2 ^ 32 - k) % 2 ^ 32
    let at_ := 64 * (2 + k % 64)
    if 0 < w ∧ w ≤ 64 then some (r, at_, s.rgnRead r at_ 64) else none

/-- Completes the entry being served (R486): STATUS and SECURED, the consumer index, then the sync counter. -/
def State.ringDone (id st : Nat) (s : State) : State :=
  match s.comp id with
  | none => s
  | some c => match s.ringEntry c with
    | none => s
    | some (r, at_, b) =>
      let k := leNat (s.rgnRead r 64 4)
      let t := ((s.rgnPut r (at_ + 48) (leBytes 1 st)).rgnPut r (at_ + 56) (leBytes 8 c.secured)).rgnPut r 64 (leBytes 4 (k + 1))
      if byteAt b 4 < 8 && t.holdsCtr (.comp id) (byteAt b 4) (byteAt b 5 % 64) then t.signal (byteAt b 4) (byteAt b 5 % 64) else t

/-- Completes the entry being served with DENIED where it names a counter that the composition's groups do not hold (R283), else serves it. -/
def State.ringGranted (id : Nat) (b : Bytes) (f : State → State) (s : State) : State :=
  if s.ctrRefused (.comp id) (byteAt b 4) (byteAt b 5 % 64) then s.ringDone id St.denied else f s

/-- Completes every entry that is left with ABORTED. -/
def abortRing (id : Nat) : Nat → State → State
  | 0, s => s
  | n + 1, s => match (s.comp id).bind s.ringEntry with
    | none => s
    | some _ => abortRing id n (s.ringDone id St.aborted)

/-! ## The push ring (R486 to R489) -/

/-- Completes entries whose OP is undefined, and every entry of a serving composition, with RANGE until another is next. -/
def ringRange (id : Nat) : Nat → State → State
  | 0, s => s
  | n + 1, s => match s.comp id with
    | none => s
    | some c => match s.ringEntry c with
      | none => s
      | some (r, at_, b) =>
        if c.training ∧ 1 ≤ byteAt b 0 ∧ byteAt b 0 ≤ 3 then s
        else ringRange id n ((s.usedNow r at_ 64).ringGranted id b fun s => s.ringDone id St.range)

/-- Serves the next entry where its OP is the one asked and no STEP_BEGIN waits before it; of a composition being reclaimed, entries complete with
ABORTED (R500). -/
def State.ringServe (id op : Nat) (f : Comp → Bytes → State → State) (s : State) : State :=
  if !s.isRunning then s
  else if (s.comp id).any fun c => decide (c.state = 3) && c.training && !c.closed then abortRing id 64 s
  else if !((s.comp id).any fun c => decide (c.state = 1 ∨ c.state = 2)) then s
  else
    let s := ringRange id 64 s
    match s.comp id with
    | none => s
    | some c => match s.ringEntry c with
      | some (r, at_, b) => if byteAt b 0 = op ∧ c.waiting.isNone then (s.usedNow r at_ 64).ringGranted id b (f c b) else s
      | none => s

/-- The gate of R487 for step `n`. -/
def Comp.gateOk (c : Comp) (n : Nat) : Bool := decide (n ≤ c.secured + c.lose)

/-- Takes STEP_BEGIN n: the waiting is counted and the step begins. -/
def State.beginStep (id n : Nat) (c : Comp) (s : State) : State :=
  let wait := c.waiting.elim 0 fun w => s.now - w
  let c := { c with begun := n, formed := true, openStep := true, objects := [], waiting := none, gateStall := satAdd32 c.gateStall wait }
  (s.setComp id c).ringDone id St.ok

/-- STEP_BEGIN (R484, R487). -/
def stepBegin (id : Nat) (s : State) : State :=
  s.ringServe id 1 fun c b s =>
    let n := fieldAt b 8 8
    if n ≠ c.begun + 1 then s.ringDone id St.range
    else
      let pd := dDetour c.desc
      let c := { c with keeper := dKeeper c.desc, lose := dLose c.desc, pdDetour := pd, logAt := if pd = c.pdDetour then c.logAt else 0 }
      if c.gateOk n then s.beginStep id n c else s.setComp id { c with waiting := some s.now }

/-- STEP_BEGIN_RELEASE (R487). -/
def stepBeginRelease (id : Nat) (s : State) : State :=
  match s.comp id with
  | none => s
  | some c => if s.isRunning ∧ c.waiting.isSome ∧ c.gateOk (c.begun + 1) then s.beginStep id (c.begun + 1) c else s

/-- The lowest place of the push buffer with room for `n` bytes among the copies it holds. -/
def pushPlace (held : List (Nat × Nat)) (len n : Nat) : Option Nat :=
  let starts := 0 :: held.map fun h => h.1 + h.2
  (minBy id (starts.filter fun a => decide (a + n ≤ len) && !(held.any fun h => decide (h.1 < a + n ∧ a < h.1 + h.2))))

/-- PUSH (R488): into the push buffer, or waiting for space there. -/
def push (id : Nat) (s : State) : State :=
  s.ringServe id 2 fun c b s =>
    let n := fieldAt b 8 8
    let obj := fieldAt b 16 2
    let h := fieldAt b 18 2
    let off := 64 * fieldAt b 20 4
    let src := fieldAt b 24 4
    let bytes := fieldAt b 32 8
    let len := s.pdLen (dPush c.desc)
    let o := Owner.comp id
    let place := match byteAt b 1 with
      | 0 => s.rgnChecks o h off bytes false
      | 1 => match s.pds.get src with
        | some d => [(d.owner != o, St.denied), (decide (d.length < off + bytes), St.length)]
        | none => [(true, St.notOwner)]
      | _ => [(true, St.range)]
    let st := r21 (place ++ [
      (!c.openStep || n != c.begun || decide (4095 < obj) || c.objects.contains obj || bytes == 0 || decide (bytes % 64 ≠ 0), St.range),
      (decide (len < 2 * bytes), St.length)])
    if st ≠ St.ok then s.ringDone id st
    else if byteAt b 1 = 1 ∧ (s.pds.get src).any PlaceDesc.lost then s.ringDone id St.fault
    else
      let held := (c.items.filter fun x => !x.stepRec && !x.acked && !x.logged).map fun x => (x.place, x.bytes)
      match pushPlace held len bytes with
      | none => s
      | some a =>
        let data := if byteAt b 1 = 0 then (s.handleRead h off bytes).getD [] else s.objOf src off bytes
        let x : PushItem := ⟨false, obj, n, a, bytes, (crc32c data).toNat, 0, 0, 0, false, false⟩
        let t := if byteAt b 1 = 0 then s.usedHandle h off bytes else s
        let t := ((t.throughPieces 6 (id % 4) data).objPut (dPush c.desc) a data).setComp id { c with items := c.items ++ [x], objects := c.objects ++ [obj] }
        (t.ringDone id St.ok).pump id

/-- STEP_END (R489). -/
def stepEnd (id : Nat) (s : State) : State :=
  s.ringServe id 3 fun c b s =>
    let n := fieldAt b 8 8
    if !c.openStep ∨ n ≠ c.begun then s.ringDone id St.range
    else
      let x : PushItem := ⟨true, 0, n, 0, c.objects.length, 0, 0, 0, 0, false, false⟩
      ((s.setComp id { c with items := c.items ++ [x], openStep := false }).ringDone id St.ok).pump id

/-! ## Taking a composition back (R500 to R502) -/

/-- A unit's commands complete with ABORTED; it stays with its owner until step 4. -/
def State.stopUnit (u : UnitClass × Nat) (s : State) : State :=
  let t := s.reclaimUnit u.1 u.2 .system
  t.setEngine u.1 u.2 { t.engine u.1 u.2 with clearing := none }

/-- STEP_END entries that are next when RECLAIM is accepted are served first (R501). -/
def takeEnds (id : Nat) : Nat → State → State
  | 0, s => s
  | n + 1, s => match s.comp id with
    | none => s
    | some c => if c.waiting.isNone && (s.ringEntry c).any (fun e => byteAt e.2.2 0 == 3) then takeEnds id n (stepEnd id s) else s

/-- Steps 1 and 2 of R500: sequencers halt, commands and waiting ring entries end with ABORTED, the open step's copies are dropped. -/
def State.startReclaim (id reason deadline : Nat) (slot : Option Nat) (s : State) : State :=
  let s := takeEnds id 64 s
  match s.comp id with
  | none => s
  | some c =>
    let t := (dSeqs c.desc).foldl (fun t q => (t.haltSeq q).setSeq q { (t.seqCore q) with state := 3 }) s
    let t := (dUnits c.desc).foldl (fun t u => t.stopUnit u) t
    let t := if c.training then abortRing id 64 t else t
    let wait := c.waiting.elim 0 fun w => s.now - w
    let t := match c.slot with | some k => t.slotDone .lend k St.aborted | none => t
    let t := t.setComp id { c with state := 3, reason := reason, slot := slot, reclaimFrom := s.now, deadline := deadline, waiting := none,
                                   gateStall := satAdd32 c.gateStall wait, openStep := false, closed := false,
                                   items := if c.openStep then c.items.filter fun x => x.step != c.begun else c.items }
    let t := if c.training then t else t.endQueries (fun q => (q.phase == .batched || q.phase == .probing) && Config.servingComp (qTable q.header) == id) St.aborted
    (t.pump id).reclaimCheck id

/-- A composition is taken down (R502, R504): reason 2 LOST, 3 SPAN. -/
def State.takeDown (id reason : Nat) (s : State) : State :=
  match s.comp id with
  | some c =>
    if c.state = 1 ∨ c.state = 2 then
      (s.startReclaim id reason (s.now + 100000 * (s.reg Reg.LEND_RECLAIM_DL).toNat) none).bump Reg.LEND_LOST
    else s
  | none => s

/-- RECLAIM (R500, R501). -/
def reclaimRun (slot : Nat) (s : State) : State :=
  let id := s.slotArg .lend slot 0 % 65536
  let ms := s.slotArg .lend slot 2 % 65536
  let st := r21 [(decide (60000 < ms), St.range), (!s.compLive id, St.notOwner), ((s.comp id).any fun c => c.state == 3, St.busy)]
  if st ≠ St.ok then s.lendFail slot st
  else
    let ms := if ms = 0 then (s.reg Reg.LEND_RECLAIM_DL).toNat else ms
    (s.slotWaits .lend slot (.other 3 id 0)).startReclaim id 1 (s.now + 100000 * ms) (some slot)

/-- RECLAIM_DEADLINE: the LTC reaches D; an acknowledgement on that value is taken first (R501). -/
def reclaimDeadline (id : Nat) (s : State) : State :=
  match s.comp id with
  | some c => if c.state == 3 && !c.closed && s.past c.deadline then s.closeComp id else s
  | none => s

/-- RECLAIM_DONE: every unit cleared, the regions are freed, quotas are 0, the queues return to Table 13.2, and the composition reads RECLAIMED. -/
def reclaimDone (id : Nat) (s : State) : State :=
  match s.comp id with
  | none => s
  | some c =>
    if c.state ≠ 3 ∨ !c.closed ∨ s.clearing id then s
    else
      let mine := s.kitty.regions.filter fun e => e.2.owner == .comp id
      let t := mine.foldl (fun t e =>
        let t := t.pagesDropped e.2
        ({ t with kitty := { t.kitty with regions := t.kitty.regions.del e.1 } }).startScrub e.2.units) s
      let t := (t.compQuota id [0, 0, 0]).unshapeLinks ((dLinks c.desc).filter fun l => !c.linksDown.contains l)
      let t := t.setComp id { c with state := 4, slot := none, items := [], reclaimLtc := min 0xFFFFFFFF ((s.now - c.reclaimFrom) / 1024) }
      let t := ((t.bump Reg.LEND_RECLAIMS).bumpIf (c.training && c.detour) Reg.LEND_BOUND_MISSED).showLend
      match c.slot with | some k => t.slotDone .lend k St.ok | none => t

/-! ## The keeper (R492) -/

def State.keep (s : State) (n : Nat) : Option Keep := s.lend.keeps.get n
def State.setKeep (n : Nat) (k : Keep) (s : State) : State := s.lend' fun l => { l with keeps := l.keeps.put n k }
/-- Byte of the directory entry of slot `j` of object `i`. -/
def Keep.dirAt (k : Keep) (i j : Nat) : Nat := 2 * k.objects * k.slotBytes + 64 * i + 32 * j
/-- Directory entry: STEP, OWN_SEQ, BYTES, CHECK, completion. -/
structure KeepSlot where
  step : Nat
  own : Nat
  bytes : Nat
  check : Nat
  whole : Bool
deriving DecidableEq, Repr
def State.keepSlot (s : State) (k : Keep) (i j : Nat) : KeepSlot :=
  let b := s.objOf k.pd (k.dirAt i j) 32
  ⟨fieldAt b 0 8, fieldAt b 8 8, fieldAt b 16 8, fieldAt b 24 4, bitOf (byteAt b 28) 0⟩
def State.putSlot (k : Keep) (i j : Nat) (x : KeepSlot) (s : State) : State :=
  s.objPut k.pd (k.dirAt i j) (leBytes 8 x.step ++ leBytes 8 x.own ++ leBytes 8 x.bytes ++ leBytes 4 x.check ++ leBytes 1 (b1 x.whole) ++ [0, 0, 0])
/-- The slot of an object that a new item of the next step is written into: not the one that holds the secured step. -/
def State.freeSlotOf (s : State) (k : Keep) (i : Nat) : Nat :=
  let z := s.keepSlot k i 0
  let y := s.keepSlot k i 1
  if z.whole && z.step == k.secured then 1
  else if y.whole && y.step == k.secured then 0
  else if y.whole && y.step == k.secured + 1 then 1 else 0
/-- The complete copy of an object at a step. -/
def State.keptAt (s : State) (k : Keep) (i step : Nat) : Option (Nat × KeepSlot) :=
  ([0, 1].map fun j => (j, s.keepSlot k i j)).find? fun x => x.2.whole && x.2.step == step

/-- A STATE_ACK (Table 14.4). -/
def State.ackPush (dest : W32) (st : Nat) (b : Bytes) (own secured : Nat) (s : State) : State :=
  s.hand (.endpoint dest) 0x29 0 (.bytes (leBytes 1 st ++ sliceAt b 0 1 ++ sliceAt b 2 2 ++ sliceAt b 4 4 ++ sliceAt b 8 8 ++ leBytes 8 own ++ leBytes 8 secured))

/-- A DATA item that has come whole (Table 14.5). -/
def State.keepData (n : Nat) (k : Keep) (b data : Bytes) (src : W32) (s : State) : State :=
  let obj := fieldAt b 4 4
  let step := fieldAt b 8 8
  let own := fieldAt b 16 8
  let j := s.freeSlotOf k obj
  let x := s.keepSlot k obj j
  let mine := if x.step = step then x.own else 0
  let answer (st own : Nat) (s : State) : State := s.ackPush src st b own k.secured
  if k.objects ≤ obj then answer St.range 0 s
  else if k.slotBytes < fieldAt b 36 4 then answer St.length mine s
  else if step ≤ k.secured then answer St.ok own s
  else if k.secured + 1 < step then answer St.busy mine s
  else if (crc32c data).toNat ≠ fieldAt b 40 4 then
    answer St.notOwner mine (if x.whole && x.step == step && decide (own ≤ x.own) then s else s.putSlot k obj j { x with whole := false })
  else if x.step = step ∧ x.whole ∧ own ≤ x.own then answer St.ok x.own s
  else answer St.ok own (((s.objPut k.pd ((2 * obj + j) * k.slotBytes) data).putSlot k obj j ⟨step, own, data.length, fieldAt b 40 4, true⟩).setKeep n k)

/-- A STEP record (Table 14.5). -/
def State.keepStep (n : Nat) (k : Keep) (b : Bytes) (src : W32) (s : State) : State :=
  let step := fieldAt b 8 8
  let own := fieldAt b 16 8
  let have_ := ((List.range k.objects).filter fun i => (s.keptAt k i step).isSome).length
  if step ≤ k.secured then s.ackPush src St.ok b own k.secured
  else if k.secured + 1 < step ∨ have_ < fieldAt b 36 4 then s.ackPush src St.busy b 0 k.secured
  else
    let t := (List.range k.objects).foldl (fun t i => [0, 1].foldl (fun t j =>
      let x := t.keepSlot k i j
      if x.whole && x.step != step then t.putSlot k i j { x with whole := false } else t) t) s
    (t.setKeep n { k with secured := step }).ackPush src St.ok b own step

/-- STATE_PUSH (R492). -/
def statePush (m : Msg) (s : State) : State :=
  let b := m.body
  if !s.isRunning then s
  else match s.lend.keeps.find? fun e => e.2.pusher == m.src && e.2.comp == fieldAt b 2 2 with
    | none => s.bump Reg.LEND_K_DISCARDS
    | some (n, k) =>
      match byteAt b 0 with
      | 0 =>
        let obj := fieldAt b 4 4
        let off := fieldAt b 24 8
        let part := sliceAt b 64 (fieldAt b 32 4)
        let old := k.partials.getD obj []
        let data := if off = 0 then part else old ++ part
        if off ≠ 0 ∧ off ≠ old.length then s.setKeep n { k with partials := k.partials.del obj }
        else if data.length < fieldAt b 36 4 then s.setKeep n { k with partials := k.partials.put obj data }
        else
          let k := { k with partials := k.partials.del obj }
          (s.setKeep n k).keepData n k b data m.src
      | 1 => s.keepStep n k b m.src
      | 2 | 3 => s.ackPush m.src St.ok b (fieldAt b 16 8) k.secured
      | _ => s

/-- KEEP_OPEN (R492, R506). -/
def keepOpenRun (slot : Nat) (s : State) : State :=
  let x := s.lendDesc slot 64
  let b := x.2
  let s := s.usedHandle (bitsOf (s.slotArg .lend slot 0) 31 16) (64 * s.slotArg .lend slot 1) b.length
  let pd := fieldAt b 8 4
  let objs := fieldAt b 12 4
  let sz := fieldAt b 16 8
  let num := s.lend.keeps.lowestFree 0 64
  let st := r21 (x.1 ++ (if b.isEmpty then [] else [
    (decide (objs = 0 ∨ 4096 < objs ∨ sz = 0 ∨ sz % 4096 ≠ 0 ∨ fieldAt b 4 2 = 0) || !((s.pds.get pd).any fun d => d.kind == 5), St.range),
    (decide (s.pdLen pd < 2 * objs * sz + 64 * objs) && (s.pds.get pd).isSome, St.length),
    (num.isNone, St.busy)]))
  if st ≠ St.ok then s.lendFail slot st
  else
    let n := num.getD 0
    (s.setKeep n ⟨w32 (fieldAt b 0 4), fieldAt b 4 2, pd, objs, sz, fieldAt b 24 8, []⟩).slotDone .lend slot (65536 * n + St.ok)

/-- The keep that ARG0 names: its number and the checks of it. -/
def State.keepArg (s : State) (slot : Nat) : Nat × List (Bool × Nat) :=
  let n := s.slotArg .lend slot 0 % 65536
  (n, [(decide (63 < n), St.range), ((s.keep n).isNone, St.notOwner)])

/-- KEEP_CLOSE (R492). -/
def keepCloseRun (slot : Nat) (s : State) : State :=
  let x := s.keepArg slot
  let st := r21 x.2
  if st ≠ St.ok then s.lendFail slot st
  else (s.lend' fun l => { l with keeps := l.keeps.del x.1, restores := l.restores.filter fun r => r.keep != x.1 }).slotDone .lend slot St.ok

/-- Bytes of an item of a restore, from the keep's slot. -/
def State.restoreData (s : State) (r : Restore) (x : PushItem) : Bytes :=
  if x.stepRec then [] else (s.keep r.keep).elim [] fun k => s.objOf k.pd x.place x.bytes
/-- Offers the items of a restore that have not been offered. -/
def State.restoreOffer (r : Restore) (s : State) : Restore × State :=
  r.items.foldl (fun a x =>
    if x.offered ≠ 0 ∨ x.acked then a
    else
      let q := a.1
      let items := q.items.map fun y => if y = x then { y with offered := q.ownSeq, sent := s.now } else y
      ({ q with items := items, ownSeq := q.ownSeq + 1 }, a.2.handItem q.dest q.comp q.ownSeq x (s.restoreData q x))) (r, s)

/-- RESTORE (R492): the keep's secured step is pushed to an endpoint under numbers above those it holds. -/
def restoreRun (slot : Nat) (s : State) : State :=
  let x := s.keepArg slot
  let st := r21 x.2
  match s.keep x.1, st with
  | some k, 0 =>
    let objs := (List.range k.objects).filterMap fun i => (s.keptAt k i k.secured).map fun y => (i, y)
    let items := objs.map (fun e => (⟨false, e.1, k.secured, (2 * e.1 + e.2.1) * k.slotBytes, e.2.2.bytes, e.2.2.check, 0, 0, 0, false, false⟩ : PushItem))
      ++ [⟨true, 0, k.secured, 0, objs.length, 0, 0, 0, 0, false, false⟩]
    let top := ((List.range k.objects).map fun i => max (s.keepSlot k i 0).own (s.keepSlot k i 1).own).foldl max 0
    let r : Restore := ⟨x.1, k.comp, w32 (s.slotArg .lend slot 1), items, top + 1, k.secured⟩
    let y := s.restoreOffer r
    (y.2.lend' fun l => { l with restores := l.restores ++ [y.1] }).slotDone .lend slot St.ok
  | _, _ => s.lendFail slot st

/-! ## Acknowledgements, timeouts and probes (R494 to R498) -/

/-- The item an acknowledgement is for. -/
def ackFor (b : Bytes) (x : PushItem) : Bool :=
  decide (x.offered ≠ 0 ∧ x.step = fieldAt b 8 8) && (if x.stepRec then byteAt b 1 == 1 else byteAt b 1 == 0 && x.object == fieldAt b 4 4)

/-- STATE_ACK (R494, R496, R498), at a composition or, from its endpoint, a restore. -/
def stateAck (m : Msg) (s : State) : State :=
  let b := m.body
  let id := fieldAt b 2 2
  let st := byteAt b 0
  let own := fieldAt b 16 8
  let release (x : PushItem) : PushItem := if st = St.ok ∧ x.offered ≤ own ∧ ackFor b x then { x with acked := true, again := 0 } else x
  let s := if s.isRunning then s.lend' fun l => { l with
      restores := (l.restores.map fun r => if r.comp = id ∧ r.dest = m.src then { r with items := r.items.map release } else r).filter fun r => !r.items.all PushItem.acked }
    else s
  match s.comp id with
  | none => s
  | some c =>
    if !s.isRunning ∨ c.keeper ≠ m.src ∨ !c.live ∨ c.closed then s
    else
      let c := if byteAt b 1 ≤ 1 then
          let stale := decide (st = St.ok) && c.items.any fun x => ackFor b x && decide (own < x.offered)
          let bad := [St.range, St.length, St.denied, St.quota, St.version, St.fault].contains st && c.items.any (ackFor b)
          let c := { c with items := c.items.map release, ackStale := if stale then satAdd32 c.ackStale 1 else c.ackStale }
          if bad then c.enterDetour s.now else c
        else if byteAt b 1 = 2 ∧ st = St.ok ∧ c.detour ∧ !c.resuming then
          { c with resuming := true, items := c.items.map fun x => if x.acked then x else { x with offered := 0, again := 0 } }
        else c
      (((s.setComp id c).pump id).pump id).reclaimCheck id

/-- HANDOFF_TIMEOUT (R495): the oldest shadow that no acknowledgement released is offered again. -/
def handoffTimeout (id : Nat) (s : State) : State :=
  let limit := (s.reg Reg.LEND_HANDOFF_TO).toNat
  let old (x : PushItem) : Bool := x.offered != 0 && s.past (x.sent + limit) && !x.acked
  if !s.isRunning then s
  else
    let s := match s.lend.restores.find? fun r => r.comp == id && r.items.any old with
      | some r =>
        let y := s.restoreOffer { r with items := replaceFirst old (fun x => { x with offered := 0, again := x.again + 1 }) r.items }
        y.2.lend' fun l => { l with restores := l.restores.map fun q => if q = r then y.1 else q }
      | none => s
    match s.comp id with
    | none => s
    | some c =>
      if !c.live ∨ c.closed ∨ (c.detour ∧ !c.resuming) then s
      else match c.items.find? old with
        | none => s
        | some x =>
          let n := x.again + 1
          let c := { c with items := replaceFirst old (fun y => { y with again := n }) c.items, repush := satAdd32 c.repush 1 }
          let y := s.offerItem id c x
          let c := if (s.reg Reg.LEND_REPUSH_MAX).toNat ≤ n then y.1.enterDetour s.now else y.1
          ((y.2.setComp id c).pump id).reclaimCheck id

/-- KEEPER_PROBE (R498). -/
def keeperProbe (id : Nat) (s : State) : State :=
  match s.comp id with
  | some c =>
    if s.isRunning ∧ c.live ∧ !c.closed ∧ c.detour ∧ c.probed + (s.reg Reg.LEND_PROBE).toNat ≤ s.now then
      (s.setComp id { c with probed := s.now }).hand (.endpoint c.keeper) 0x28 0 (.bytes (pushHeader 2 id 0 0 0 0 0 0 0))
    else s
  | none => s

/-! ## Lost members, links and seats (R502 to R504) -/

/-- A link that went down leaves the compositions that name it (R503), and its queues return to Table 13.2; one without a link left has no reachable
keeper. -/
def State.lendLinkDown (l : Nat) (s : State) : State :=
  s.lend.comps.foldl (fun s e => if e.2.live && e.2.links.contains l then
    (((s.unshapeLinks [l]).modComp e.1 fun c => { c with linksDown := l :: c.linksDown }).pump e.1).reclaimCheck e.1 else s) s

/-- A seat of a composition's SPAN_SEATS is not LIVE in the map installed (R504). -/
def State.lendMap (m : Bytes) (s : State) : State :=
  s.lend.comps.foldl (fun s e =>
    if dSpan e.2.desc && (List.range 64).any (fun i => bitOf (fieldAt e.2.desc 96 8) i && !mapLive m i) then s.takeDown e.1 3 else s) s

/-- The mask byte and width of a unit class in a descriptor. -/
def maskAt : UnitClass → Nat × Nat
  | .me => (8, 4) | .vu => (12, 4) | .sk => (16, 8) | .ge => (32, 2)
/-- A descriptor without a unit. -/
def dropBit (at_ len n : Nat) (d : Bytes) : Bytes :=
  let m := fieldAt d at_ len
  if bitOf m n then patch d at_ (leBytes len (m - 2 ^ n)) else d

/-- A serving composition drops units that were retired; a training one that holds any is taken down (R502). -/
def State.lendLost (units : List (UnitClass × Nat)) (seqs : List Nat) (s : State) : State :=
  s.lend.comps.foldl (fun s e =>
    let d := e.2.desc
    let hit := (dUnits d).any units.contains || (dSeqs d).any seqs.contains
    if !hit ∨ !e.2.live then s
    else if dTraining d then s.takeDown e.1 2
    else
      let d := units.foldl (fun d u => dropBit (maskAt u.1).1 (maskAt u.1).2 u.2 d) d
      s.modComp e.1 fun c => { c with desc := seqs.foldl (fun d q => dropBit 24 8 q d) d }) s

/-- A stack was retired: training compositions with a descriptor on it are taken down (R502). -/
def State.lendStackLost (stack : Nat) (s : State) : State :=
  s.lend.comps.foldl (fun s e =>
    let hit := s.pds.vals.any fun d => d.owner == .comp e.1 && d.tier == 1 && d.extents.any fun x => stackOf x.addr == stack
    if hit && dTraining e.2.desc then s.takeDown e.1 2 else s) s

/-! ## Slots and registers (R505, R506) -/

/-- A LEND command that has come to its turn. -/
def lendRun (slot op : Nat) (s : State) : State :=
  match op with
  | 1 => formRun slot s
  | 2 => changeRun slot s
  | 3 => reclaimRun slot s
  | 4 => keepOpenRun slot s
  | 5 => keepCloseRun slot s
  | 6 => restoreRun slot s
  | _ => s.lendFail slot St.range

/-- LEND_C_SEL: a snapshot of a composition. -/
def lendCSel (v : W32) (s : State) : State :=
  if !s.isRunning then s
  else
    let id := v.toNat % 65536
    let t := s.setNat Reg.LEND_C_SEL id
    let c := s.comp id
    let num (f : Comp → Nat) : Nat := c.elim 0 f
    let t := t.setNat Reg.LEND_C_STATE (num fun c => b1 c.training * 2 ^ 31 + b1 (!c.detour) * 2 ^ 30 + b1 c.detour * 2 ^ 29 + b1 (dSmall c.desc) * 2 ^ 28
      + c.lose * 256 + c.state)
    let t := (t.setNat Reg.LEND_C_ME_MASK (num fun c => fieldAt c.desc 8 4)).setNat Reg.LEND_C_REASON (num Comp.reason)
    let t := ((t.setPair Reg.LEND_C_BEGUN_LO (num Comp.begun)).setPair Reg.LEND_C_SEC_KEEPER_LO (num Comp.secKeeper)).setPair Reg.LEND_C_SEC_LOCAL_LO (num Comp.secLocal)
    let t := (t.setPair Reg.LEND_C_OWN_SEQ_LO (num Comp.ownSeq)).setPair Reg.LEND_C_PUSH_BYTES_LO (num fun c => c.pushBytes.toNat)
    let t := (t.setNat Reg.LEND_C_REPUSH (num fun c => c.repush.toNat)).setNat Reg.LEND_C_GATE_STALL
      (num fun c => (satAdd32 c.gateStall (c.waiting.elim 0 fun w => s.now - w)).toNat)
    ((t.setNat Reg.LEND_C_DETOURS (num fun c => c.detours.toNat)).setNat Reg.LEND_C_ACK_STALE (num fun c => c.ackStale.toNat)).setNat Reg.LEND_C_RECLAIM_LTC
      (num Comp.reclaimLtc)

/-- LEND_K_SEL: a snapshot of a keep. -/
def lendKSel (v : W32) (s : State) : State :=
  if !s.isRunning then s
  else
    let n := v.toNat % 64
    let k := s.keep n
    ((s.setNat Reg.LEND_K_SEL n).setNat Reg.LEND_K_STATE (k.elim 0 fun k => 2 ^ 31 + k.comp)).setPair Reg.LEND_K_SECURED_LO (k.elim 0 Keep.secured)

end Sys2Proof.Machine
end

