-- ==== Sys2Proof/Machine/Ton.lean ====
section
/-! DEFINITION. Tables of nodes (R421, R434 to R453, R524, R572): map changes and their quorum, link events, beats, waymarks, fault notices, receive
windows, and the LINK command slots. -/

namespace Sys2Proof.Machine

def State.ton' (f : TonSt → TonSt) (s : State) : State := { s with ton := f s.ton }
def seatReset : SeatRec := ⟨0, [], 0, 0, false, 0, 0, 0, 0, 0, 0, 0, 0, 0⟩
def State.seat (s : State) (n : Nat) : SeatRec := s.ton.seats.getD n seatReset
def State.modSeat (n : Nat) (f : SeatRec → SeatRec) (s : State) : State := s.ton' fun t => { t with seats := t.seats.modifyD n seatReset f }

/-- Closes the windows of IDX_SKEW_WIN that have ended for the seats' figures (Table 12.10). -/
def State.rollTon (s : State) : State :=
  let w := max 1 (s.reg Reg.IDX_SKEW_WIN).toNat
  let k := (s.now - s.ton.window) / w
  if k = 0 then s
  else
    let roll (x : SeatRec) : SeatRec :=
      { x with lastSent := if k = 1 then x.sent else 0, lastMissing := if k = 1 then x.missing else 0,
               lastLat := if k = 1 ∧ x.latNum ≠ 0 then x.latSum / x.latNum else 0, sent := 0, missing := 0, latSum := 0, latNum := 0 }
    s.ton' fun t => { t with window := t.window + k * w, seats := t.seats.mapVals roll }

/-! ## Marks (R450) -/

/-- A seat's waymark differs from the expected one of its role; the dealer's own is its node's. -/
def State.mismatch (s : State) (m : Bytes) (n : Nat) : Bool :=
  let want := mapWaymark m (mapRole m n)
  let got := if s.mySeat = some n then s.cfg.waymark else (s.seat n).waymark
  decide (n < mapSeats m) && want != List.replicate 64 0 && !got.isEmpty && sliceAt got 0 64 != want
/-- The MISMATCH registers, recomputed on the dealer. -/
def State.showMarks (s : State) : State :=
  match s.ton.cur with
  | none => s
  | some m =>
    if s.isDealer then s.setPair Reg.LINK_TON_MISMATCH_LO (((List.range 64).map fun n => if s.mismatch m n then 2 ^ n else 0).foldl (· + ·) 0) else s
/-- Sets or clears a seat's SILENT mark. -/
def State.markSilent (n : Nat) (on : Bool) (s : State) : State :=
  let x := s.pair Reg.LINK_TON_SILENT_LO
  let off := if bitOf x n then x - 2 ^ n else x
  s.setPair Reg.LINK_TON_SILENT_LO (if on then off + 2 ^ n else off)

/-! ## Installing a map (R438, R447, R504) -/

/-- The registers of the map held and pending. -/
def State.showMap (s : State) : State :=
  let pend := match s.ton.change with | some c => mapMp c.map | none => s.ton.held.elim 0 mapMp
  let role := match s.ton.cur with
    | none => 0xFFFF
    | some m => (if s.isDealer then 1 else if s.isStandby then 2 else 0) * 2 ^ 24 + mapStandby m * 256 + mapDealer m
  (((s.setPair Reg.LINK_MAP_MP_LO s.mapNow).setPair Reg.LINK_MAP_PENDING_LO pend).setPair Reg.LINK_MAP_INSTALL_LO s.ton.installed).setNat Reg.LINK_ROLE role

/-- A map becomes current at this LTC value. Seats that are LIVE no longer end the moves with them (R257, R528) and the compositions that span them (R504). -/
def State.installMap (m : Bytes) (s : State) : State :=
  let old := s.ton.cur
  let fresh := (old.map mapDealer) != some (mapDealer m)
  let keepHeld := s.ton.held.filter fun h => decide (mapMp m < mapMp h)
  let t := s.ton' fun x => { x with prev := old, cur := some m, installed := s.now, held := keepHeld, dealerBeat := if fresh then s.now else x.dealerBeat }
  let t := if fresh ∧ t.isDealer then
      (List.range (mapSeats m)).foldl (fun t n => t.modSeat n fun x => { x with beat := t.now, wmLtc := t.now }) t
    else t
  let gone := (List.range 64).filter fun n => (old.any fun o => mapLive o n) && !mapLive m n
  let t := gone.foldl (fun t n => (((t.moveDestLost n).moveSourceLost n).rowDestLost n).rowSourceLost n) t
  let t := (List.range (mapSeats m)).foldl (fun t n => if !mapLive m n ∨ (old.any fun o => mapLive o n) then t
    else t.modSeat n fun x => { x with beat := t.now, wmLtc := t.now }) t
  ((t.lendMap m).showMap).showMarks

/-! ## Changing the map (R436 to R439, R446, R447, R524) -/

/-- The map whose seats count for a change: the current one, or before any the new one (R437). -/
def State.quorumMap (s : State) (c : MapChange) : Bytes := s.ton.cur.getD c.map

/-- A change of the map ends; its slot gets a status. -/
def State.endChange (st : Nat) (s : State) : State :=
  match s.ton.change with
  | none => s
  | some c =>
    let t := (s.ton' fun x => { x with change := none }).showMap
    match c.slot with | some k => t.slotDone .link k st | none => t

/-- Step 2 of R438: with a quorum the dealer sends MAP_COMMIT and installs the map. -/
def State.tryCommit (s : State) : State :=
  match s.ton.change with
  | none => s
  | some c =>
    let b := s.quorumMap c
    let n := c.acks.length
    let all := mapSeats b
    if all < 2 * n ∨ (all = 2 * n ∧ mapStandby b ∈ c.acks) then
      let mates := (List.range all).filter fun i => mapLive b i && s.mySeat != some i
      let t := mates.foldl (fun t i => t.hand (.endpoint (w32 (mapNode b i * 65536))) 0x0E 0 (.bytes (leBytes 8 (mapMp c.map)))) s
      let t := ((t.bump Reg.LINK_TON_MAP_CHANGES).bumpIf c.takeover Reg.LINK_TON_TAKEOVERS).endChange St.ok
      let t := if c.takeover then t.outcome 0x0071 sevAction 0xFF (s.mySeat.getD 0) 0 else t
      t.installMap c.map
    else s

/-- The packets of a map: each holds its milepost, the offset and the map's length before its bytes. -/
def mapParts (m : Bytes) : List Bytes :=
  (List.range ((m.length + 16367) / 16368)).map fun i =>
    leBytes 8 (mapMp m) ++ leBytes 4 (16368 * i) ++ leBytes 4 m.length ++ (m.drop (16368 * i)).take 16368

/-- Step 1 of R438: the map goes as MAP_PART packets to every LIVE seat. -/
def State.propose (m : Bytes) (slot : Option Nat) (takeover : Bool) (s : State) : State :=
  let c : MapChange := ⟨m, s.mySeat.toList, s.now, slot, takeover⟩
  let b := s.quorumMap c
  let mates := (List.range (mapSeats b)).filter fun i => mapLive b i && s.mySeat != some i
  let t := mates.foldl (fun t i => (mapParts m).foldl (fun t p => t.hand (.endpoint (w32 (mapNode b i * 65536))) 0x0B 0 (.bytes p)) t) s
  ((t.ton' fun x => { x with change := some c }).showMap).tryCommit

/-- A map with its CHECK. -/
def sealMap (m : Bytes) : Bytes := patch m 60 (leBytes 4 (crc32c (patch m 60 [0, 0, 0, 0])).toNat)
/-- The next map after `m`, changed by `f`. -/
def nextMap (f : Bytes → Bytes) (m : Bytes) : Bytes := sealMap (f (patch m 8 (leBytes 8 (mapMp m + 1))))

/-- Where a seat's link leads, by the JOIN events the dealer has (R432). -/
def State.wire (s : State) (seat link : Nat) : Option Nat := s.ton.wires.get (128 * seat + link)
/-- Links of seat `i` that lead to seat `j`, the lost one left out. -/
def State.wiresTo (s : State) (lost : Nat × Nat) (i j : Nat) : List Nat :=
  s.ton.wires.filterMap fun e => if e.1 / 128 = i ∧ e.2 = j ∧ (i, e.1 % 128) ≠ lost then some (e.1 % 128) else none
/-- A route from seat `i` uses a link of a seat. -/
def State.usesLink (s : State) (lost : Nat × Nat) (i : Nat) (r : Nat × Nat) : Bool :=
  (i == lost.1 && r.1 == lost.2) || (r.2 == lost.2 && r.2 != 255 && s.wire i r.1 == some lost.1)
/-- Paths of one or two links between two seats, the lost link left out. -/
def State.paths (s : State) (lost : Nat × Nat) (n i j : Nat) : List (Nat × Nat) :=
  (s.wiresTo lost i j).map (fun l => (l, 255)) ++
  (List.range n).flatMap fun k => if k = i ∨ k = j then [] else (s.wiresTo lost i k).flatMap fun a => (s.wiresTo lost k j).map fun b => (a, b)

/-- The routes of a map led around a lost link (R439). -/
def State.reroute (s : State) (seat link : Nat) (m : Bytes) : Bytes :=
  let lost := (seat, link)
  let n := mapSeats m
  (List.range n).foldl (fun m i => (List.range n).foldl (fun m j =>
    match mapRoute m i j with
    | [p, a] =>
      if i = j ∨ !(s.usesLink lost i p || s.usesLink lost i a) then m
      else
        let ok := [p, a].filter fun r => decide (r.1 ≠ 255) && !s.usesLink lost i r
        let all := ok ++ (s.paths lost n i j).filter fun r => !ok.contains r
        let p := all.headD (255, 255)
        let a := (all.drop 1).headD (255, 255)
        patch m (routeAt m i j) (leBytes 1 p.1 ++ leBytes 1 p.2 ++ leBytes 1 a.1 ++ leBytes 1 a.2)
    | _ => m) m) m

/-- Removes a seat from masks of table entries from an offset on, where the rule lets it. -/
def unmask (seat : Nat) (may : Nat → Nat → Bool) : Nat → Nat → Bytes → Bytes
  | 0, _, m => m
  | n + 1, off, m =>
    let k := byteAt m (off + 2)
    let t := fieldAt m off 2
    let m := (List.range k).foldl (fun m i =>
      let a := off + 8 + 16 * i + 8
      let v := fieldAt m a 8
      if bitOf v seat && may t v then patch m a (leBytes 8 (v - 2 ^ seat)) else m) m
    unmask seat may n (off + 8 + 16 * k) m
def unmaskMap (seat : Nat) (may : Nat → Nat → Bool) (m : Bytes) : Bytes := unmask seat may (mapTableCount m) (waymarkAt m (mapRoles m)) m
/-- Clears a seat's LIVE flag. -/
def unlive (seat : Nat) (m : Bytes) : Bytes :=
  let f := byteAt m (seatAt seat + 1)
  patch m (seatAt seat + 1) (leBytes 1 (if bitOf f 0 then f - 1 else f))

/-- What an edit makes of the map. -/
def State.edited (s : State) (e : MapEdit) (m : Bytes) : Bytes :=
  match e with
  | .loseLink seat link => s.reroute seat link m
  | .loseSeat seat => unmaskMap seat (fun _ _ => true) (unlive seat m)
  | .loseTables seat ts => unmaskMap seat (fun t v => ts.contains t && decide (v ≠ 2 ^ seat)) m

/-- The dealer's firmware proposes the maps it owes, one at a time; an edit that changes nothing is dropped. -/
def proposeEdits : Nat → State → State
  | 0, s => s
  | n + 1, s =>
    match s.ton.change, s.ton.edits, s.ton.cur with
    | none, e :: rest, some m =>
      let t := s.ton' fun x => { x with edits := rest }
      let t := match e with | .loseLink seat link => t.ton' fun x => { x with wires := x.wires.del (128 * seat + link) } | _ => t
      let m' := s.edited e m
      proposeEdits n (if t.isDealer && m' != m then t.propose (nextMap (s.edited e) m) none false else t)
    | _, _, _ => s
def State.addEdit (e : MapEdit) (s : State) : State :=
  if e ∈ s.ton.edits then s else proposeEdits 256 (s.ton' fun x => { x with edits := x.edits ++ [e] })

/-- MAP_SET (R436, R437). -/
def mapSetRun (slot : Nat) (s : State) : State :=
  let h := bitsOf (s.slotArg .link slot 0) 31 16
  let off := 64 * s.slotArg .link slot 1
  let head := (s.handleRead h off 64).getD []
  let n := mapLen head
  let m := (s.handleRead h off n).getD []
  let first := decide (mapMp head = 1) && !decide (mapDealer head = 0 ∧ mapStandby head = (if mapSeats head = 1 then 255 else 1))
  let st := r21 ([(!s.isDealer || (s.region h).isNone, St.notOwner), (s.ton.change.isSome, St.busy)] ++ (if (s.region h).isNone then [] else
    s.rgnChecks .system h off 64 false ++ s.rgnChecks .system h off n false ++ [
    (decide (2 ^ 21 < n), St.length),
    (!mapFieldsOk m s.myTon || decide (mapMp head ≠ s.mapNow + 1) || first, St.range)]))
  let s := s.usedHandle h off (max head.length m.length)
  if st ≠ St.ok then s.slotDone .link slot st
  else (s.slotWaits .link slot (.other 4 0 0)).propose m (some slot) false

/-- MAP_PART: a pending map of a lower milepost is discarded; once every part is there the map is checked, held as pending, and acknowledged (R438). -/
def mapPart (m : Msg) (s : State) : State :=
  if !s.isRunning then s
  else
    let mp := fieldAt m.body 0 8
    let off := fieldAt m.body 8 4
    let n := fieldAt m.body 12 4
    let old := match s.ton.parts with | some (k, b) => if k = mp then b else [] | none => []
    let all := if off = 0 then m.body.drop 16 else old ++ m.body.drop 16
    let s := if s.ton.held.any fun h => decide (mapMp h < mp) then (s.ton' fun x => { x with held := none }).showMap else s
    if off ≠ 0 ∧ off ≠ old.length then s
    else if all.length < n then s.ton' fun x => { x with parts := some (mp, all) }
    else
      let t := s.ton' fun x => { x with parts := none }
      let newer := decide (s.mapNow < mp) && t.ton.held.all fun h => decide (mapMp h ≤ mp)
      if newer && mapMp all == mp && mapFieldsOk all s.myTon then
        ((t.ton' fun x => { x with held := some all }).showMap).hand (.endpoint m.src) 0x0C 0 (.bytes (leBytes 8 mp))
      else t

/-- A pending map of a milepost is installed: on MAP_COMMIT, or on the first packet that carries its milepost (R438, R440). -/
def State.installHeld (mp : Nat) (s : State) : State :=
  match s.ton.held with
  | some h => if mapMp h = mp then
      let t := if s.ton.change.any fun c => decide (mapMp c.map ≤ mp) then s.endChange St.busy else s
      proposeEdits 256 (t.installMap h)
    else s
  | none => s

/-- MAP_COMMIT. -/
def mapCommit (m : Msg) (s : State) : State := if s.isRunning then s.installHeld (fieldAt m.body 0 8) else s

/-- MAP_ACK. -/
def mapAck (seat : Nat) (mp : W64) (s : State) : State :=
  match s.ton.change with
  | some c =>
    let b := s.quorumMap c
    if s.isRunning ∧ mapMp c.map = mp.toNat ∧ seat < mapSeats b ∧ seat ∉ c.acks then
      proposeEdits 256 ((s.ton' fun x => { x with change := some { c with acks := seat :: c.acks } }).tryCommit)
    else s
  | none => s

/-- MAP_ACK_TIMEOUT. -/
def mapAckTimeout (s : State) : State :=
  match s.ton.change with
  | some c =>
    if s.isRunning && s.past (c.start + (s.reg Reg.LINK_MAP_ACK_TO).toNat) then
      proposeEdits 256 ((s.bump Reg.LINK_TON_NO_QUORUM).endChange St.busy)
    else s
  | none => s

/-! ## Link events (R432) -/

/-- The dealer records a link event; a LEAVE makes it route around the link (R439). -/
def State.takeEvent (e : LinkEventRec) (s : State) : State :=
  let k := 128 * e.seat + e.link
  if 63 < e.seat ∨ 95 < e.link then s
  else if e.leave then s.addEdit (.loseLink e.seat e.link)
  else if e.kind = 0 ∧ e.partnerSeat < 64 then s.ton' fun x => { x with wires := x.wires.put k e.partnerSeat }
  else s

/-- LINK_EVENT at the dealer. -/
def linkEvent (e : LinkEventRec) (s : State) : State := if s.isRunning ∧ s.isDealer then s.takeEvent e else s

/-- Body of a LINK_EVENT packet. -/
def eventBytes (e : LinkEventRec) : Bytes :=
  leBytes 1 (b1 e.leave) ++ leBytes 1 e.link ++ leBytes 1 e.kind ++ leBytes 1 e.partnerSeat ++ leBytes 2 e.nodeId ++ leBytes 1 e.major ++ leBytes 1 e.minor
    ++ leBytes 8 e.serial.toNat

/-- Events the node keeps go to the dealer once it is reached; the dealer takes its own (R432). -/
def flushEvents (s : State) : State :=
  if s.ton.events.isEmpty then s
  else if s.isDealer then s.ton.events.foldl (fun t e => t.takeEvent e) (s.ton' fun x => { x with events := [] })
  else match s.dealerSeat with
    | some d =>
      if s.reaches (.seat d) 0x0A then
        s.ton.events.foldl (fun t e => t.hand (.seat d) 0x0A 0 (.bytes (eventBytes e))) (s.ton' fun x => { x with events := [] })
      else s
    | none => s

/-! ## Windows and links (R421, R452) -/

/-- WINDOW_OPEN: the lowest number that is not open. -/
def windowOpenRun (slot : Nat) (s : State) : State :=
  let h := bitsOf (s.slotArg .link slot 0) 31 16
  let num := s.link.windows.lowestFree 0 4096
  let st := r21 [((s.region h).isNone, St.notOwner), (num.isNone, St.busy)]
  if st ≠ St.ok then s.slotDone .link slot st
  else
    let n := num.getD 0
    (s.link' fun x => { x with windows := x.windows.put n ⟨h, w32 (s.slotArg .link slot 1)⟩ }).slotDone .link slot (65536 * n + St.ok)

/-- WINDOW_CLOSE. -/
def windowCloseRun (slot : Nat) (s : State) : State :=
  let n := bitsOf (s.slotArg .link slot 0) 31 16
  if 4095 < n then s.slotDone .link slot St.range
  else if !s.link.windows.has n then s.slotDone .link slot St.notOwner
  else (s.link' fun x => { x with windows := x.windows.del n }).slotDone .link slot St.ok

/-- LINK_RESET: the link goes DOWN and may train; a retired one returns to service with its counter at 0 (R522). -/
def linkResetRun (slot : Nat) (s : State) : State :=
  let l := s.slotArg .link slot 0 % 128
  if 95 < l then s.slotDone .link slot St.range
  else
    let t := s.linkDown l
    ({ t with flt := { t.flt with retired := t.flt.retired.filter (· != (14, l)), counters := t.flt.counters.del (fltKey 14 l) } }).slotDone .link slot St.ok

/-- A LINK command that has come to its turn. -/
def linkRun (slot op : Nat) (s : State) : State :=
  match op with
  | 1 => mapSetRun slot s
  | 2 => windowOpenRun slot s
  | 3 => windowCloseRun slot s
  | 4 => linkResetRun slot s
  | _ => s.slotDone .link slot St.range

/-- Counts on a link, where a message came by one. -/
def State.onLink (l off : Nat) (s : State) : State := if l < 96 then s.bump (linkReg l off) else s

/-- TILE (R421): lines into an open window's region. -/
def tile (m : Msg) (s : State) : State :=
  let n := fieldAt m.body 8 4
  let off := 64 * fieldAt m.body 4 4
  if !s.isRunning then s
  else match s.link.windows.get (fieldAt m.body 0 2) with
    | none => s.onLink m.link Reg.LINK_L_TYPE_DISCARD
    | some w => match s.region w.handle with
      | none => s.onLink m.link Reg.LINK_L_TYPE_DISCARD
      | some r =>
        if m.body.length < 16 + 64 * n then s.onLink m.link Reg.LINK_L_LEN_DISCARD
        else if w.endpoint ≠ m.src ∨ r.size < off + 64 * n ∨ (r.readOnly ∧ r.owner ≠ .system) ∨ (r.pageChecks off (64 * n) true).any Prod.fst then
          s.onLink m.link Reg.LINK_L_TYPE_DISCARD
        else s.rgnPut r off ((m.body.drop 16).take (64 * n))

/-! ## Beats (R446 to R448) -/

/-- BEAT_SEND. -/
def beatSend (s : State) : State :=
  match s.ton.cur with
  | none => s
  | some m =>
    if s.isRunning ∧ s.isDealer ∧ s.ton.beatSent + (s.reg Reg.LINK_BEAT).toNat ≤ s.now then
      ((List.range (mapSeats m)).filter fun i => s.mySeat != some i).foldl (fun t i => t.hand (.seat i) 0x09 0 (.bytes []))
        (s.ton' fun x => { x with beatSent := s.now })
    else s

/-- BEAT: the dealer notes the seat alive; a seat notes the dealer and answers. -/
def beat (seat : Nat) (s : State) : State :=
  if !s.isRunning ∨ s.mySeat = some seat then s
  else if s.isDealer then (if seat < 64 then s.modSeat seat fun x => { x with beat := s.now } else s)
  else if s.dealerSeat = some seat then (s.ton' fun x => { x with dealerBeat := s.now }).hand (.seat seat) 0x09 0 (.bytes [])
  else s

/-- SEAT_LOSS. -/
def seatLoss (seat : Nat) (s : State) : State :=
  match s.ton.cur with
  | none => s
  | some m =>
    if s.isRunning && s.isDealer && s.mySeat != some seat && mapLive m seat && s.past ((s.seat seat).beat + (s.reg Reg.LINK_SEAT_LOSS).toNat) then
      let known := decide (MapEdit.loseSeat seat ∈ s.ton.edits) || s.ton.change.any fun c => !mapLive c.map seat
      (if known then s else s.outcome 0x0070 sevAction 0xFF seat seat).addEdit (.loseSeat seat)
    else s

/-- DEALER_LOSS: the standby proposes the next map with itself as DEALER. -/
def dealerLoss (s : State) : State :=
  match s.ton.cur, s.mySeat with
  | some m, some me =>
    if s.isRunning && s.isStandby && s.ton.change.isNone && s.past (s.ton.dealerBeat + (s.reg Reg.LINK_DEALER_LOSS).toNat) then
      let sb := ((List.range (mapSeats m)).find? fun i => mapLive m i && i != me).getD 255
      s.propose (nextMap (fun m => patch m 5 (leBytes 1 me ++ leBytes 1 sb)) m) none true
    else s
  | _, _ => s

/-! ## Waymarks and notices (R449, R450, R524, R572) -/

/-- The dealer notes a seat's waymark and milepost. -/
def State.noteWaymark (seat mp : Nat) (w : Bytes) (s : State) : State :=
  ((s.modSeat seat fun x => { x with waymark := sliceAt w 0 64, milepost := mp, wmLtc := s.now, wmSeen := true }).markSilent seat false).showMarks

/-- WAYMARK_SEND: every LINK_WM_INTERVAL, and after a change of the configuration milepost. -/
def waymarkSend (s : State) : State :=
  let due := decide (s.ton.wmSent + (s.reg Reg.LINK_WM_INTERVAL).toNat ≤ s.now ∨ s.ton.wmMilepost ≠ s.cfg.milepost)
  if !s.isRunning ∨ !due then s
  else match s.dealerSeat with
    | none => s
    | some d =>
      let t := s.ton' fun x => { x with wmSent := s.now, wmMilepost := s.cfg.milepost }
      if s.mySeat = some d then t.noteWaymark d s.cfg.milepost s.cfg.waymark
      else t.hand (.seat d) 0x08 0 (.bytes (sliceAt s.cfg.waymark 0 64 ++ leBytes 8 s.cfg.milepost))

/-- WAYMARK. -/
def waymark (seat : Nat) (mp : W64) (w : Bytes) (s : State) : State :=
  if s.isRunning ∧ s.isDealer ∧ seat < 64 then s.noteWaymark seat mp.toNat w else s

/-- WAYMARK_SILENT. -/
def waymarkSilent (seat : Nat) (s : State) : State :=
  if s.isRunning && s.isDealer && (s.ton.cur.any fun m => decide (seat < mapSeats m)) && s.past ((s.seat seat).wmLtc + 2 ^ 31) then s.markSilent seat true else s

/-- FAULT_NOTICE at the dealer (R524). -/
def faultNotice (seat : Nat) (b : Bytes) (s : State) : State :=
  if s.isRunning ∧ s.isDealer ∧ byteAt b 0 = 0x10 ∧ seat < 64 then
    s.addEdit (.loseTables seat ((List.range (fieldAt b 2 2)).map fun i => fieldAt b (8 + 2 * i) 2))
  else s

/-- The fault notice of a stack's retirement goes to the dealer. -/
def State.sendNotice (cls inst : Nat) (tables : List Nat) (s : State) : State :=
  let b := leBytes 1 0x10 ++ leBytes 1 cls ++ leBytes 2 tables.length ++ leBytes 4 inst ++ tables.flatMap (leBytes 2)
  match s.dealerSeat with
  | some d => if s.mySeat = some d then s.addEdit (.loseTables d tables) else s.hand (.seat d) 0x0D 0 (.bytes b)
  | none => s

/-- MGMT_ATTEST: answered in every phase from IMAGE to STAND_STILL (R572). -/
def mgmtAttest (m : Msg) (s : State) : State :=
  match s.start.phase with
  | .reset | .rom | .refLost => s
  | _ =>
    if byteAt m.body 0 ≠ 0x20 ∨ m.body.length < 36 then s
    else s.hand (.endpoint m.src) 0x0D 0 (.bytes ([0x21, 0, 0, 0] ++ s.attestReport (sliceAt m.body 4 32)))

/-- LINK_TON_SEAT_SEL (R453). -/
def tonSeatSel (v : W32) (s : State) : State :=
  if !s.isRunning then s
  else
    let n := v.toNat % 64
    let t := (s.rollTon).setNat Reg.LINK_TON_SEAT_SEL n
    let m := if t.isDealer then (t.ton.cur.filter fun m => decide (n < mapSeats m)) else none
    let x := t.seat n
    let z (k : Nat) : Nat := m.elim 0 fun _ => k
    let st := m.elim 0 fun m => 2 ^ 31 + b1 (mapLive m n) * 2 ^ 30 + b1 (t.mismatch m n) * 2 ^ 29 + b1 (bitOf (t.pair Reg.LINK_TON_SILENT_LO) n) * 2 ^ 28 + mapRole m n % 16
    let w := if t.mySeat = some n then t.cfg.waymark else x.waymark
    let t := (((t.setNat Reg.LINK_TON_SEAT_STATE st).setNat Reg.LINK_TON_SEAT_QSENT (z x.lastSent)).setNat Reg.LINK_TON_SEAT_QMISSING (z x.lastMissing)).setNat
      Reg.LINK_TON_SEAT_LAT (z x.lastLat)
    (List.range 16).foldl (fun t i => t.setNat (Reg.LINK_TON_SEAT_WM + 4 * i) (z (fieldAt w (4 * i) 4))) (t.setNat Reg.LINK_TON_SEAT_MOVED (z x.moved.toNat))

end Sys2Proof.Machine
end

