-- ==== Sys2Proof/Machine/Packet.lean ====
section
/-! DEFINITION. Packets received (R417 to R420, R423, R424, R438, R628): checks, relay, reassembly, and delivery of whole messages. -/

namespace Sys2Proof.Machine

/-! ## Header fields (Table 12.2) -/

def pType (b : Bytes) : Nat := byteAt b 0
def pBody (b : Bytes) : Nat := fieldAt b 2 2
def pDst (b : Bytes) : Nat := fieldAt b 4 4
def pSrc (b : Bytes) : Nat := fieldAt b 8 4
def pHop (b : Bytes) : Nat := byteAt b 12
def pRelay (b : Bytes) : Nat := byteAt b 14
def pMp (b : Bytes) : Nat := fieldAt b 16 8
def pTon (b : Bytes) : Nat := fieldAt b 24 2
def pMsgId (b : Bytes) : Nat := fieldAt b 26 2
def pSeg (b : Bytes) : Nat := fieldAt b 28 2
def pSegs (b : Bytes) : Nat := fieldAt b 30 2
def pSegmented (b : Bytes) : Bool := bitOf (byteAt b 1) 4
def pData (b : Bytes) : Bytes := (b.drop 32).take (pBody b)

/-- Bytes that a message's own length field asks for (R420, R424): DESC_BYTES, RECORD_BYTES, or the count of its body. A pushed item and a tile count their
data. -/
def State.ownLength (s : State) (typ : Nat) (b : Bytes) : Nat :=
  match typ with
  | 0x10 => fieldAt b 2 2
  | 0x11 | 0x18 | 0x19 => fieldAt b 4 4
  | 0x20 => 16 + 64 * fieldAt b 8 4
  | 0x21 => 16 + (if bitOf (byteAt b 2) 0 then 8 else 4) * fieldAt b 4 4
  | 0x22 => 16 + ((if bitOf (byteAt b 2) 0 then 8 else 4) + (s.emb.tables.get (fieldAt b 0 2)).elim 0 EmbTable.rowBytes) * fieldAt b 4 4
  | 0x23 => 68 + fieldAt b 4 4 + fieldAt b 8 4 + fieldAt b 12 4 + fieldAt b 16 4 + fieldAt b 20 4
  | 0x28 => 64 + (if byteAt b 0 = 0 then fieldAt b 32 4 else 0)
  | 0x29 => 32
  | _ => 0

/-- The table-of-nodes check of R420 against an ID. -/
def tonOk (typ ton mine : Nat) : Bool := !typeTon typ || ton == mine

/-- A link carries a packet: its type was agreed, and so was the feature its first bytes use (R428, log 33). -/
def LinkPort.carries (p : LinkPort) (b : Bytes) : Bool := p.agreed (pType b) && (pSeg b != 0 || p.offers (usesFeature (pType b) (pData b)))

/-! ## Relay (R628) -/

/-- A packet for another node. -/
def State.relayPacket (l vc : Nat) (b : Bytes) (s : State) : State :=
  let e := pRelay b
  if pHop b ≠ 0 ∨ e = 255 then s.bump (linkReg l Reg.LINK_L_TYPE_DISCARD)
  else if 95 < e then s.bump (linkReg l Reg.LINK_L_TYPE_DISCARD)
  else
    let p := s.port e
    if p.state ≠ 4 then s.bump (linkReg e Reg.LINK_L_FWD_DOWN)
    else if !p.carries b ∨ !tonOk (pType b) (pTon b) (p.partner.elim 0 Partner.ton) then s.bump (linkReg e Reg.LINK_L_TYPE_DISCARD)
    else if s.link.mute then s
    else s.queuePackets e vc [patch b 12 [1]]

/-! ## Delivery (R424) -/

/-- A whole message goes to its function. -/
def State.deliverMsg (l : Nat) (b body : Bytes) (s : State) : State :=
  s.link' fun k => { k with inbox := k.inbox ++ [⟨l, pType b, BitVec.ofNat 8 (byteAt b 1 % 16), w32 (pSrc b), byteAt b 15, w64 (pMp b), pTon b, body⟩] }

/-- A message under reassembly by its key. -/
def State.reasm (s : State) (src : W32) (id : Nat) : Option Reasm := s.link.reasm.find? fun r => r.src == src && r.msgId == id
def State.dropReasm (src : W32) (id : Nat) (s : State) : State := s.link' fun k => { k with reasm := k.reasm.filter fun r => !(r.src == src && r.msgId == id) }

/-- A packet of a segmented message. -/
def State.takeSegment (l : Nat) (b : Bytes) (s : State) : State :=
  let src := w32 (pSrc b)
  let id := pMsgId b
  let data := pData b
  let last := pSeg b + 1 == pSegs b
  let wrong := !typeSegs (pType b) || decide (pSegs b < 2 ∨ 4096 < pSegs b) || (!last && decide (data.length < 16384))
  match s.reasm src id with
  | none =>
    if wrong ∨ pSeg b ≠ 0 ∨ 1024 ≤ s.link.reasm.length then s.bump (linkReg l Reg.LINK_L_REASM_DISCARD)
    else s.link' fun k => { k with reasm := k.reasm ++ [⟨src, id, pType b, pSegs b, 1, data, s.now, l⟩] }
  | some r =>
    if wrong ∨ pSeg b ≠ r.next ∨ pSegs b ≠ r.segs ∨ pType b ≠ r.typ then (s.dropReasm src id).bump (linkReg r.link Reg.LINK_L_REASM_DISCARD)
    else
      let all := r.bytes ++ data
      if !last then
        s.link' fun k => { k with reasm := k.reasm.map fun x => if x = r then { r with next := r.next + 1, bytes := all } else x }
      else if all.length < s.ownLength r.typ all then (s.dropReasm src id).bump (linkReg r.link Reg.LINK_L_REASM_DISCARD)
      else (s.dropReasm src id).deliverMsg r.link b all

/-- PACKET_RECEIVE: the first packet that has arrived whole on a virtual channel. -/
def packetReceive (l vc : Nat) (s : State) : State :=
  let p := s.port l
  match p.arrived.find? fun a => a.1 == vc with
  | none => s
  | some a =>
    if !s.linkOk l ∨ !p.live then s
    else
      let s := s.setPort l { p with arrived := removeFirst (fun x => x.1 == vc) p.arrived }
      let b := a.2
      if b.length < 32 ∨ 16384 < pBody b ∨ b.length ≠ 240 * ((32 + pBody b + 239) / 240) then s.bump (linkReg l Reg.LINK_L_LEN_DISCARD)
      else
        let node := p.partner.elim 0 Partner.node
        let b := if pHop b = 0 then patch b 10 (leBytes 2 node) else b
        if !p.carries b then s.bump (linkReg l Reg.LINK_L_TYPE_DISCARD)
        else if pDst b / 65536 ≠ s.myNode then
          if !tonOk (pType b) (pTon b) s.myTon then s.bump (linkReg l Reg.LINK_L_TYPE_DISCARD) else s.relayPacket l vc (b.take (32 + pBody b))
        else if !tonOk (pType b) (pTon b) s.myTon then s.bump (linkReg l Reg.LINK_L_TYPE_DISCARD)
        else
          let s := s.installHeld (pMp b)
          if pSegmented b then s.takeSegment l b
          else if pBody b < s.ownLength (pType b) (pData b) then s.bump (linkReg l Reg.LINK_L_LEN_DISCARD)
          else s.deliverMsg l b (pData b)

/-- REASSEMBLY_TIMEOUT (R424). -/
def reassemblyTimeout (src : W32) (id : Nat) (s : State) : State :=
  match s.reasm src id with
  | some r =>
    if s.isRunning && s.past (r.first + (s.reg Reg.LINK_REASM_TO).toNat) then (s.dropReasm src id).bump (linkReg r.link Reg.LINK_L_REASM_DISCARD) else s
  | none => s

/-- A function takes a message: it leaves the messages delivered. -/
def State.took (m : Msg) (s : State) : State := s.link' fun k => { k with inbox := removeFirst (fun x => x == m) k.inbox }

/-- A function takes the first message of a type that came from a seat. -/
def State.tookFrom (typ seat : Nat) (s : State) : State :=
  s.link' fun k => { k with inbox := removeFirst (fun x => x.typ == typ && s.seatOf x.src == some seat) k.inbox }
/-- A function takes the first message of a type with a body. -/
def State.tookBody (typ : Nat) (b : Bytes) (s : State) : State :=
  s.link' fun k => { k with inbox := removeFirst (fun x => x.typ == typ && x.body == b) k.inbox }

end Sys2Proof.Machine
end

