-- ==== Sys2Proof/Machine/Dealer.lean ====
section
/-! DEFINITION. The dealer (R208 to R212, R442 to R445): queries sent to one seat of each share and merged, updates split by share and composed, and what a
requester of rows does with MOVED (R357, R422). -/

namespace Sys2Proof.Machine

/-! ## Queries -/

/-- The seat of a share with the fewest queries outstanding, the lower winning ties (R444). -/
def State.pickSeat (s : State) (x : Share) : Option Nat := minBy (fun n => (s.seat n).outstanding) ((List.range 64).filter x.has)

/-- The descriptor as a copy for a seat: the dealer's tag and what is left of the deadline. -/
def dealtQuery (desc : Bytes) (tag deadline now margin : Nat) : Bytes :=
  patch (patch desc 20 (leBytes 4 (max 1 (deadline - now - margin)))) 32 (leBytes 8 tag)

/-- Sends a dealer's query to a seat for hash ranges; with no route UP the seat is missing at once (R439). -/
def State.askSeat (tag : Nat) (n : Nat) (ranges : List (Nat × Nat)) (again : Bool) (s : State) : State :=
  match s.ton.queries.get tag with
  | none => s
  | some q =>
    match q.asked.find? fun a => a.seat == n && !a.dropped with
    | some _ =>
      let more (a : Asked) : Asked := if a.seat = n ∧ !a.dropped then { a with ranges := a.ranges ++ ranges } else a
      s.ton' fun t => { t with queries := t.queries.put tag { q with asked := q.asked.map more } }
    | none =>
      let way := s.reaches (.seat n) 0x10
      let a : Asked := ⟨n, ranges, s.now, again, none, !way⟩
      let t := s.ton' fun t => { t with queries := t.queries.put tag { q with asked := q.asked ++ [a] } }
      let t := t.modSeat n fun x => { x with outstanding := x.outstanding + b1 way, sent := x.sent + 1 }
      let body := dealtQuery q.desc tag q.deadline s.now (s.reg Reg.QRY_MRG_MARGIN).toNat
      t.hand (.seat n) 0x10 (if again then 2 else 0) (.bytes body)

/-- Sends to one seat of every share that overlaps the ranges. -/
def State.askShares (tag table : Nat) (ranges : List (Nat × Nat)) (again : Bool) (s : State) : State :=
  let shares := (s.ton.cur.elim [] fun m => mapShares m table).filter fun x => ranges.any fun r => decide (x.lo ≤ r.2 ∧ r.1 ≤ x.hi)
  shares.foldl (fun s x =>
    match s.pickSeat x with
    | some n => s.askSeat tag n [(x.lo, x.hi)] again
    | none => s.ton' fun t => { t with queries := t.queries.modify tag fun q => { q with short := true } }) s

/-- Closes a merge at LTC `at_`: the merged answer goes to the client, and what is still out is missing (R209 to R212). -/
def State.closeMerge (tag at_ : Nat) (s : State) : State :=
  match s.ton.queries.get tag with
  | none => s
  | some q =>
    let came := q.asked.filterMap fun a => a.answer.map fun b => (a.seat, b)
    let r := mergeAnswers q.desc q.short q.asked.length s.answerSeat (at_ - q.accept) came
    let good := came.filter fun a => contributes a.2
    let t := q.asked.foldl (fun t a =>
      let out := a.answer.isNone && !a.dropped
      let miss := !(a.answer.any contributes)
      t.modSeat a.seat fun x => { x with outstanding := x.outstanding - b1 out, missing := x.missing + b1 miss }) s
    let t := (((t.bump Reg.QRY_MRG_DONE).bumpBy Reg.QRY_MRG_DUP r.dups).bumpBy Reg.QRY_MRG_MISSING (q.asked.length - good.length)).bumpBy Reg.QRY_SEL_NAN r.nans
    (t.ton' fun x => { x with queries := x.queries.del tag }).hand (.endpoint q.client) 0x11 0 (.bytes r.record)

/-- The merge closes once every seat asked has answered or will not. -/
def State.mergeCheck' (tag : Nat) (s : State) : State :=
  match s.ton.queries.get tag with
  | some q => if q.asked.all fun a => a.answer.isSome || a.dropped then s.closeMerge tag s.now else s
  | none => s

/-- DEALER_QUERY (R443, R444). -/
def dealerQuery (m : Msg) (s : State) : State :=
  if !s.isRunning ∨ !m.flags.getLsbD 0 ∨ m.body.length < 64 then s
  else
    let s := s.rollTon
    let h := sliceAt m.body 0 40 ++ leBytes 4 m.src.toNat ++ sliceAt m.body 44 20
    let desc := h ++ m.body.drop 64
    let q := newQuery (.endpoint m.src) h s.now (genOf [] [])
    let table := qTable h
    if !s.isDealer then
      s.refuseQuery q (if s.dealerSeat.isSome then St.moved else St.notOwner) (match s.dealerSeat with | some d => .fails St.moved (some d) true | none => .served)
    else
      let shares := s.ton.cur.elim [] fun m => mapShares m table
      let base := s.queryStatus true desc .served none
      let many := decide (1 < shares.length) || shares.any fun x => decide (1 < ((List.range 64).filter x.has).length)
      let st := r21 [(base != St.ok, base), (qPinGiven h && many, St.range), (shares.isEmpty, St.notOwner)]
      if st ≠ St.ok then s.refuseQuery q st .served
      else
        let tag := s.ton.nextTag
        let dl := if qDeadline h = 0 then s.tntDeadline (qTenant h) else qDeadline h
        let t := s.ton' fun t => { t with nextTag := tag + 1, queries := t.queries.put tag ⟨m.src, desc, s.now, s.now + dl, [], false⟩ }
        (t.askShares tag table [(0, 65535)] false).mergeCheck' tag

/-- One answer record at the dealer. -/
def State.takeAnswer (seat : Nat) (b : Bytes) (s : State) : State :=
  let tag := fieldAt b 32 8
  match s.ton.queries.get tag with
  | none => s.bump Reg.QRY_MRG_LATE
  | some q =>
    match q.asked.find? fun a => a.seat == seat && a.answer.isNone && !a.dropped with
    | none => s
    | some a =>
      let st := ansStatus b
      let t := s.modSeat seat fun x => { x with outstanding := x.outstanding - 1, latSum := x.latSum + (s.now - a.sent), latNum := x.latNum + 1,
                                                moved := if st = St.moved then satAdd32 x.moved 1 else x.moved }
      let set (f : Asked → Asked) (t : State) : State :=
        t.ton' fun x => { x with queries := x.queries.put tag { q with asked := q.asked.map fun y => if y = a then f y else y } }
      let shares := (s.ton.cur.elim [] fun m => mapShares m (qTable q.desc)).filter fun x => a.ranges.any fun r => decide (x.lo ≤ r.2 ∧ r.1 ≤ x.hi)
      if st = St.moved ∧ !a.again ∧ shares.any (fun x => (s.pickSeat x).isSome) then
        -- the seat is replaced by those its ranges are routed to now
        let t := t.ton' fun x => { x with queries := x.queries.put tag { q with asked := q.asked.filter fun y => y != a } }
        ((t.bump Reg.LINK_TON_RESENT).askShares tag (qTable q.desc) a.ranges true).mergeCheck' tag
      else if st = St.moved then (set (fun y => { y with answer := some b, dropped := true }) t).mergeCheck' tag
      else if st = St.busy ∧ qPinGiven q.desc ∧ s.now + (s.reg Reg.QRY_MRG_MARGIN).toNat < q.deadline then
        -- the milepost may not be committed there yet: the query is repeated unchanged (R154)
        let t := set (fun y => { y with sent := s.now }) (t.modSeat seat fun x => { x with outstanding := x.outstanding + 1 })
        t.hand (.seat seat) 0x10 (if a.again then 2 else 0) (.bytes (dealtQuery q.desc tag q.deadline s.now (s.reg Reg.QRY_MRG_MARGIN).toNat))
      else (set (fun y => { y with answer := some b }) t).mergeCheck' tag

/-- The records of an ANSWER packet: one, or with ANSWER_BATCH several (Table 12.4). -/
def answerRecords : Nat → Bytes → List Bytes
  | 0, _ => []
  | n + 1, b =>
    let len := fieldAt b 4 4
    if b.length < 64 ∨ len < 64 ∨ b.length < len then []
    else b.take len :: answerRecords n (b.drop len)

/-- How many records an ANSWER packet may carry: several only where its link settled ANSWER_BATCH. -/
def State.answersIn (s : State) (l : Nat) : Nat := if l < 96 ∧ !(s.port l).offers (some 1) then 1 else 257

/-- ANSWER (R208, R209, R442). -/
def answer (seat : Nat) (m : Msg) (s : State) : State :=
  if !s.isRunning then s else (answerRecords (s.answersIn m.link) m.body).foldl (fun s b => s.takeAnswer seat b) s.rollTon

/-- The LTC at which a merge closes: the deadline less QRY_MRG_MARGIN, and at least one LTC unit after acceptance (R209, R216). -/
def State.closeAt (s : State) (q : DealQuery) : Nat := max (q.deadline - (s.reg Reg.QRY_MRG_MARGIN).toNat) (q.accept + 1)

/-- MERGE_CLOSE_DEADLINE (R209): the LTC value of the close has ended, so an answer on it has been taken (R17). -/
def mergeCloseDeadline (tag : Nat) (s : State) : State :=
  match s.ton.queries.get tag with
  | some q => if s.isRunning && s.past (s.closeAt q) then s.rollTon.closeMerge tag (s.closeAt q) else s
  | none => s

/-! ## Updates -/

/-- A descriptor that holds some of an update's operations, under the dealer's tag. -/
def partBytes (header : Bytes) (records : List Bytes) (ops : List Nat) (tag : Nat) : Bytes :=
  let rs := ops.flatMap fun i => let r := records.getD i []; r.take (max 16 (fieldAt r 2 2))
  patch (patch (patch header 4 (leBytes 4 (64 + rs.length))) 10 (leBytes 2 ops.length)) 16 (leBytes 8 tag) ++ rs

/-- Sends operations to a seat; with no route UP they have FAULT (R439). -/
def State.sendPart (n seat : Nat) (ops : List Nat) (resent : Bool) (s : State) : State :=
  match s.ton.updates.get n with
  | none => s
  | some u =>
    let tag := s.ton.nextTag
    let p : DealPart := ⟨tag, seat, ops, s.now, resent, none, if s.reaches (.seat seat) 0x18 then none else some St.fault, []⟩
    let t := s.ton' fun t => { t with nextTag := tag + 1, updates := t.updates.put n { u with parts := u.parts ++ [p] } }
    t.hand (.seat seat) 0x18 (if resent then 2 else 0) (.bytes (partBytes u.header u.records ops tag))

/-- The share of a table that holds an operation's key. -/
def opShare (shares : List Share) (r : Bytes) : Option Share := shares.find? fun x => decide (x.lo ≤ shareHash (opKey r) ∧ shareHash (opKey r) ≤ x.hi)

/-- Result entry of an operation in a part that answered. -/
def DealPart.entry (p : DealPart) (i : Nat) : Option Bytes :=
  match p.answer with
  | some b =>
    let k := p.ops.findIdx (· == i)
    if k < fieldAt b 12 2 ∧ k < p.ops.length then some (sliceAt b (64 + 16 * k) 16) else none
  | none => none
/-- Status that a part gives an operation: its entry's, that of a descriptor refused whole, or the one that stands for an answer. -/
def DealPart.opStatus (p : DealPart) (i : Nat) : Option Nat :=
  match p.entry i, p.answer, p.status with
  | some e, _, _ => some (byteAt e 0)
  | none, some b, _ => some (byteAt b 2)
  | none, none, st => st
def DealPart.done (p : DealPart) : Bool := p.answer.isSome || p.status.isSome

/-- The composed result of an operation (R445). -/
def DealUpdate.result (u : DealUpdate) (i : Nat) : OpResult :=
  let ps := sortBy (fun a b : DealPart => decide (a.seat < b.seat)) (u.parts.filter fun p => p.ops.contains i && !p.moved.contains i)
  let bad := ps.find? fun p => p.opStatus i != some St.ok
  let low := ps.findSome? fun p => p.entry i
  let num (off len : Nat) : Nat := low.elim 0 fun e => fieldAt e off len
  match bad with
  | some p =>
    let e := p.entry i
    ⟨(p.opStatus i).getD St.fault, e.elim 0 fun e => byteAt e 1, e.elim 255 fun e => byteAt e 2, num 4 4, num 8 8⟩
  | none => if ps.isEmpty then failed St.notOwner else ⟨St.ok, num 1 1, 255, num 4 4, num 8 8⟩

/-- Sends the composed answer once every part has its outcome. -/
def State.composeCheck (n : Nat) (s : State) : State :=
  match s.ton.updates.get n with
  | none => s
  | some u =>
    if u.parts.all DealPart.done then
      let up : Update := ⟨.endpoint u.client, u.header, u.arrived, (List.range u.records.length).map fun i => some (u.result i), none, 0, 0⟩
      (s.ton' fun t => { t with updates := t.updates.del n }).sendUpdAnswer up none
    else s

/-- DEALER_UPDATE (R443, R445). -/
def dealerUpdate (m : Msg) (s : State) : State :=
  if !s.isRunning ∨ !m.flags.getLsbD 0 ∨ m.body.length < 64 then s
  else
    let h := sliceAt m.body 0 24 ++ leBytes 4 m.src.toNat ++ sliceAt m.body 28 36
    let c := State.updChecks { s with idx := { s.idx with tables := [] } } m.body
    let shares := s.ton.cur.elim [] fun k => mapShares k (fieldAt h 2 2)
    let u : Update := ⟨.endpoint m.src, h, s.now, List.replicate (fieldAt h 10 2) none, none, 0, 0⟩
    let held := c.2.map (opShare shares)
    if !s.isDealer then
      match s.dealerSeat with
      | some d => s.sendUpdAnswer { u with results := c.2.map fun _ => some ⟨St.moved, 0, d, 0, 0⟩, rflags := 12, hint := d } none
      | none => s.sendUpdAnswer u (some St.notOwner)
    else
      let st := r21 [(c.1 != St.ok, c.1), (bitOf (byteAt h 12) 0 && decide (1 < (dedupList held).length), St.range), (shares.isEmpty, St.notOwner)]
      if st ≠ St.ok then s.sendUpdAnswer u (some st)
      else
        let n := s.ton.nextTag
        let t := s.ton' fun t => { t with nextTag := n + 1, updates := t.updates.put n ⟨m.src, h, c.2, s.now, []⟩ }
        let t := shares.foldl (fun t x =>
          let ops := (List.range c.2.length).filter fun i => held.getD i none == some x
          if ops.isEmpty then t else ((List.range 64).filter x.has).foldl (fun t k => t.sendPart n k ops false) t) t
        t.composeCheck n

/-- Operations of a part that were answered MOVED are sent once more (R256, R442): by the map where the reply's header names an owner, else to the seat their
entries name. -/
def State.resendMoved (n : Nat) (p : DealPart) (byMap : Bool) (s : State) : State :=
  match s.ton.updates.get n with
  | none => s
  | some u =>
    let ops := p.ops.filter fun i => p.opStatus i == some St.moved
    if p.resent ∨ ops.isEmpty then s
    else
      let t := s.ton' fun t => { t with updates := t.updates.put n { u with parts := u.parts.map fun q => if q.tag = p.tag then { q with moved := ops } else q } }
      let shares := s.ton.cur.elim [] fun k => mapShares k (fieldAt u.header 2 2)
      let seats (i : Nat) : List Nat :=
        if byMap then (opShare shares (u.records.getD i [])).elim [] fun x => (List.range 64).filter x.has
        else match p.entry i with | some e => if byteAt e 2 < 64 then [byteAt e 2] else [] | none => []
      let all := (List.range 64).filter fun k => ops.any fun i => (seats i).contains k
      (all.foldl (fun t k => t.sendPart n k (ops.filter fun i => (seats i).contains k) true) t).bump Reg.LINK_TON_RESENT

/-- UPDATE_ANSWER (R445). -/
def updateAnswer (seat : Nat) (m : Msg) (s : State) : State :=
  let tag := fieldAt m.body 16 8
  if !s.isRunning ∨ m.body.length < 64 then s
  else match s.ton.updates.find? fun e => e.2.parts.any fun p => p.tag == tag && p.seat == seat && !p.done with
    | none => s
    | some (n, u) =>
      let set (p : DealPart) : DealPart := if p.tag = tag then { p with answer := some m.body } else p
      let t := s.ton' fun t => { t with updates := t.updates.put n { u with parts := u.parts.map set } }
      match (u.parts.map set).find? fun p => p.tag == tag with
      | some p =>
        let moved := p.ops.any fun i => p.opStatus i == some St.moved
        let t := if moved then t.modSeat seat fun x => { x with moved := satAdd32 x.moved 1 } else t
        (t.resendMoved n p (m.flags.getLsbD 2)).composeCheck n
      | none => t

/-- DEALER_UPDATE_TIMEOUT (R445). -/
def dealerUpdateTimeout (n seat : Nat) (s : State) : State :=
  match s.ton.updates.get n with
  | none => s
  | some u =>
    let late (p : DealPart) : Bool := p.seat == seat && !p.done && s.past (p.sent + (s.reg Reg.IDX_UPD_WAIT).toNat)
    if s.isRunning ∧ u.parts.any late then
      (s.ton' fun t => { t with updates := t.updates.put n { u with parts := u.parts.map fun p => if late p then { p with status := some St.timeout } else p } }).composeCheck n
    else s

/-! ## Rows (R357, R422) -/

/-- ROW_DATA: the reply goes to its requester; the MOVED positions of a first reply are asked for once more, at the seat each names (R442). -/
def rowData (m : Msg) (request : Bytes) (resent : Bool) (s : State) : State :=
  let b := m.body
  if !s.isRunning ∨ b.length < 68 then s
  else
    let t := s.emit (.rowData (fieldAt b 0 4) b)
    let n := fieldAt request 4 4
    let wide := bitOf (byteAt request 2) 0
    let w := if wide then 8 else 4
    let stride := if n = 0 then 0 else (b.length - 68 - n) / n
    let named (i : Nat) : Option Nat := if byteAt b (68 + i) = 3 ∧ 16 ≤ stride then some (byteAt b (68 + n + i * stride + 8)) else none
    if resent ∨ n = 0 ∨ 1024 < n then t
    else
      (List.range 64).foldl (fun t k =>
        let pos := (List.range n).filter fun i => named i == some k
        if pos.isEmpty then t
        else
          let idx := pos.flatMap fun i => sliceAt request (16 + w * i) w
          (t.hand (.seat k) 0x21 2 (.bytes (patch (sliceAt request 0 16) 4 (leBytes 4 pos.length) ++ idx))).bump Reg.LINK_TON_RESENT) t

end Sys2Proof.Machine
end

