-- ==== Sys2Proof/Machine/Drill.lean ====
section
/-! DEFINITION. Fault counters, the fault log's registers, spare banks, and drills (R507 to R515, R529 to R537). The class actions of lasting
faults are in `Actions`. -/

namespace Sys2Proof.Machine

/-- A leak of a fault counter (R511): once at each multiple of P, unless an event fell on that LTC value (R512). -/
def faultCounterLeak (cls inst : Nat) (s : State) : State :=
  let k := fltKey cls inst
  let p := s.leakPeriod cls
  let v := s.flt.counters.getD k 0
  if p = 0 ∨ s.now % p ≠ 0 ∨ v = 0 ∨ s.flt.lastEvent.get k = some s.now then s
  else { s with flt := { s.flt with counters := s.flt.counters.put k (v - 1), lastEvent := s.flt.lastEvent.put k s.now } }

/-! ## Spare banks (R515) -/

/-- The global bank served by a physical instance (R509). -/
def State.bankServedBy (s : State) (inst : Nat) : Option Nat :=
  if inst < 2304 then (if s.flt.spareOf.has inst then none else some inst)
  else (s.flt.spareOf.find? fun e => e.2 == inst).map Prod.fst

/-- The lowest unused spare of a store die: instances 2,304 + 2n and the next (R509, R515). -/
def State.freeSpare (s : State) (sd : Nat) : Option Nat :=
  [2304 + 2 * sd, 2305 + 2 * sd].find? fun i => !(decide (i ∈ s.flt.sparesUsed) || s.isRetired 0 i)

/-- A lasting bank fault: the copy into a spare starts, or the bank stays without one and its group's free units leave the pool (R515). -/
def bankSpare (inst : Nat) (s : State) : State :=
  match s.bankServedBy inst with
  | none => s
  | some bank =>
    if s.flt.copying.any fun c => c.bank == bank then s
    else match s.freeSpare (bank / 96) with
      | some sp =>
        { s with flt := { s.flt with copying := ⟨bank, sp, s.now⟩ :: s.flt.copying, sparesUsed := sp :: s.flt.sparesUsed,
                                     recovering := (0, inst) :: s.flt.recovering } }
      | none =>
        if bank ∈ s.flt.noSpare then s
        else
          let t := s.logEvent 0x0004 sevAction 0 inst bank false false
          let group := (List.range 32).map (bank / 32 * 32 + ·)
          let out := group.filter fun u => match t.kitty.units.get u with | none | some .scrub => true | _ => false
          let t := ({ t with flt := { t.flt with noSpare := bank :: t.flt.noSpare } }).setUnits .out out
          t.bus' fun b => b.filter fun u => !(u.port == scrubPort (unitDie u.unit) && out.contains u.unit)

/-- The copy completes and the switch takes place (R515): every line of the bank has been read and written in class T0 (R74; log 42), the spare serves the bank,
its counter starts at 0 (R509). -/
def bankSpareSwitch (bank : Nat) (s : State) : State :=
  match s.flt.copying.find? fun c => c.bank == bank with
  | none => s
  | some c =>
    let old := s.physBank bank
    let t := { s with flt := { s.flt with
      copying := s.flt.copying.filter fun x => x.bank != bank
      spareOf := s.flt.spareOf.put bank c.spare
      retired := (0, old) :: s.flt.retired
      recovering := s.flt.recovering.filter (· != (0, old)) } }
    (t.countGrants (bank / 96) 0 (2 * unitBytes / 64)).logEvent 0x0003 sevAction 0 old c.spare false false

/-! ## Drills (R529 to R534) -/

/-- Class and instances of a drill point's site group (Table 15.6). -/
def drillSites (s : State) (p : Nat) : Nat × List Nat :=
  if p < 48 then (0, (List.range 96).map fun i => s.physBank (96 * (p % 24) + i))
  else if p < 72 then (1, (modulesOf (8 + (p - 48))).map (64 * (8 + (p - 48)) + ·))
  else if p < 92 then (2, (List.range 64).map (64 * (p - 72) + ·))
  else if p < 112 then (2, (List.range 64).map (64 * (p - 92) + ·))
  else if p < 120 then (4, (List.range 4).map (4 * (p - 112) + ·))
  else if p < 128 then (5, (List.range 16).map (16 * (p - 120) + ·))
  else if p < 136 then (6, (List.range 4).map (4 * (p - 128) + ·))
  else if p < 148 then (14, (List.range 8).map (8 * (p - 136) + ·))
  else if p < 160 then (14, (List.range 8).map (8 * (p - 148) + ·))
  else if p < 176 then (15, (List.range 128).map (128 * (p - 160) + ·))
  else if p < 184 then (12, (List.range 8).map (8 * ((p - 176) / 2) + ·))
  else if p < 188 then (12, (List.range 8).map (8 * (p - 184) + ·))
  else if p < 192 then (13, [p - 188])
  else (10, (List.range 8).map (8 * (p - 192) + ·))

/-- Event code a drill point's injection produces (R529, R531). -/
def drillCode (p : Nat) : Nat :=
  if p < 24 then 0x0001 else if p < 48 then 0x0003 else if p < 72 then 0x0010 else if p < 112 then 0x0020 else if p < 120 then 0x0030
  else if p < 128 then 0x0031 else if p < 136 then 0x0032 else if p < 148 then 0x0050 else if p < 160 then 0x0051
  else if p < 176 then 0x0060 else if p < 184 then 0x0040 else if p < 188 then 0x0042 else if p < 192 then 0x0044 else 0x0034

/-- Bound of a drill's recovery in LTC units; `none` where the table gives none but completion (Table 15.6). -/
def drillBound (p : Nat) : Option Nat :=
  if 24 ≤ p ∧ p < 48 then some 1000000
  else if 148 ≤ p ∧ p < 160 then some 5000000
  else if 184 ≤ p ∧ p < 188 then some 20000000
  else if 188 ≤ p ∧ p < 192 then some 100000000
  else none

/-- Outcome codes (Table 15.8): PASS, LATE, FAIL, SKIPPED, PREEMPTED, and their counters. -/
def drillCounter (o : Nat) : Nat :=
  match o with
  | 0 => Reg.FLT_DRILL_PASS | 1 => Reg.FLT_DRILL_LATE | 2 => Reg.FLT_DRILL_FAIL | 3 => Reg.FLT_DRILL_SKIPPED | _ => Reg.FLT_DRILL_PREEMPTED

/-- Ends a drill (R534): one DRILL record, its counter, its point's last outcome and duration; LATE and FAIL set bit 3 (R510). -/
def State.endDrill (point outcome duration : Nat) (s : State) : State :=
  let pt := s.flt.points.getD point ⟨0, 0, 0, 0⟩
  let t := (s.bump (drillCounter outcome)).logEvent 0x0090 sevAction 0xFF point (outcome * 256 + point) false false
  let t := if outcome = 1 ∨ outcome = 2 then t.raise .fltStatus 8 else t
  let pt' : DrillPoint := { pt with outcome := outcome, duration := min 0xFFFFFF (duration / 1024),
                                    runs := satAdd32 pt.runs (if outcome = 3 then 0 else 1) }
  { t with flt := { t.flt with points := t.flt.points.put point pt' } }

/-- Instances that can be drilled: not retired (R529). -/
def State.drillLive (s : State) (p : Nat) : List Nat :=
  let g := drillSites s p
  g.2.filter fun i => !s.isRetired g.1 i

/-- Starts the drill at the front of the queue, unless one runs (R532, R533); `linkAlt` says that every route over a link has an
ALTERNATE that is UP. A drill that starts as it falls due (`atDue`) gives way to a real event on the LTC value at which it was due (R17). -/
def startDrill (linkAlt : Nat → Bool) (atDue : Bool) : Nat → State → State
  | 0, s => s
  | fuel + 1, s =>
    match s.flt.running, s.flt.queue with
    | some _, _ => s
    | none, [] => s
    | none, d :: rest =>
      let s := { s with flt := { s.flt with queue := rest } }
      let g := drillSites s d.point
      let live := s.drillLive d.point
      let pt := s.flt.points.getD d.point ⟨0, 0, 0, 0⟩
      let inst := live.getD (pt.rotation % max 1 live.length) 0
      let skip := live.isEmpty
        || (s.flt.recovering.any fun r => r.1 == g.1)
        || (s.fltThreshold g.1 != 0 && decide (s.fltThreshold g.1 ≤ 2 * s.flt.counters.getD (fltKey g.1 inst) 0))
        || (decide (24 ≤ d.point ∧ d.point < 48) && (s.freeSpare (d.point - 24)).isNone)
        || (decide (148 ≤ d.point ∧ d.point < 160) && !linkAlt inst)
        || (s.flt.log.any fun r => (r.ltc == s.now || (atDue && r.ltc == d.due)) && r.cls == g.1 && !r.injected)
        || (d.interval != 0 && decide (d.due + d.interval ≤ s.now))
      if skip then startDrill linkAlt atDue fuel (s.endDrill d.point 3 0)
      else
        let t := s.logEvent (drillCode d.point) sevCounted g.1 inst 0 false true
        { t with flt := { t.flt with running := some { d with inst := inst, start := s.now },
                                     points := t.flt.points.put d.point { pt with rotation := pt.rotation + 1 } } }

/-- Drills that have waited one full INTERVAL of their entry end SKIPPED (R532). -/
def State.skipWaited (s : State) : State :=
  let stale (d : Drill) : Bool := d.interval != 0 && decide (d.due + d.interval ≤ s.now)
  (s.flt.queue.filter stale).foldl (fun t d => t.endDrill d.point 3 0) { s with flt := { s.flt with queue := s.flt.queue.filter fun d => !stale d } }

/-- A schedule entry falls due (R532); a real event on that LTC value is taken first (R17, R533; log 1). -/
def drillDue (linkAlt : Nat → Bool) (i : Nat) (s : State) : State :=
  match s.flt.schedule[i]? with
  | none => s
  | some e =>
    let due := s.flt.acceptLtc + (e.fired + 1) * e.interval
    if !e.enabled || !s.past due || !s.isRunning then s
    else
      let s := s.skipWaited
      let next := if e.nextPoint ≥ e.last then e.first else e.nextPoint + 1
      let d : Drill := ⟨e.nextPoint, due, e.interval, 0, 0, true⟩
      let t := { s with flt := { s.flt with
        schedule := s.flt.schedule.set i { e with nextPoint := next, fired := e.fired + 1 }
        queue := insertBy (fun a b => decide (a.due < b.due)) d s.flt.queue } }
      startDrill linkAlt (s.flt.queue.isEmpty) (t.flt.queue.length) t

/-- A drill's recoveries end (R534), and the next one waiting starts. -/
def drillEnd (linkAlt : Nat → Bool) (r : DrillResult) (s : State) : State :=
  match s.flt.running with
  | none => s
  | some d =>
    let dur := s.now - d.start
    let outcome := match r with
      | .completed t => match drillBound d.point with
        | some b => if t ≤ b then 0 else 1
        | none => 0
      | .notCompleted => 2
      | .preempted => 4
    let dur := match r with | .completed t => t | _ => dur
    let t := ({ s with flt := { s.flt with running := none } }).endDrill d.point outcome dur
    startDrill linkAlt false t.flt.queue.length t

/-- SET_DRILLS (R536): a list of 0 entries completes with OK and changes nothing (R25). -/
def setDrillsRun (slot : Nat) (s : State) : State :=
  let a0 := s.slotArg .flt slot 0
  let n := bitsOf a0 6 0
  let h := bitsOf a0 31 16
  let off := 64 * s.slotArg .flt slot 1
  let b := s.handleRead h off (16 * n)
  let es := (List.range n).map fun i => sliceAt (b.getD []) (16 * i) 16
  let bad := es.any fun e => !(decide (fieldAt e 0 2 ≤ fieldAt e 2 2 ∧ fieldAt e 2 2 < 200
    ∧ 100000000 ≤ fieldAt e 8 8 ∧ fieldAt e 8 8 ≤ 2 ^ 48))
  let st := r21 ((decide (64 < n), St.length) :: if n = 0 then [] else (b.isSome && bad, St.range) :: s.rgnChecks .system h off (16 * n) false)
  let s := s.usedHandle h off (b.elim 0 List.length)
  if n = 0 ∨ st ≠ St.ok then s.slotDone .flt slot st
  else
    (({ s with flt := { s.flt with schedule := readDrills (es.flatten), acceptLtc := s.now } }).liveChange).slotDone .flt slot St.ok

/-- DRILL_NOW (R536). -/
def drillNowRun (linkAlt : Nat → Bool) (slot : Nat) (s : State) : State :=
  let p := bitsOf (s.slotArg .flt slot 0) 7 0
  if 200 ≤ p then s.slotDone .flt slot St.range
  else
    let d : Drill := ⟨p, s.now, 0, 0, 0, true⟩
    let t := { s with flt := { s.flt with queue := insertBy (fun a b => decide (a.due < b.due)) d s.flt.queue } }
    (startDrill linkAlt false t.flt.queue.length t).slotDone .flt slot St.ok

/-- RETIRE (R536): the instance's fault is declared lasting and its class action runs; the ACTION record is the action's own, and for a control core,
whose failover is a counted event, one written here. -/
def retireRun (slot : Nat) (s : State) : State :=
  let a := s.slotArg .flt slot 0
  let c := bitsOf a 20 16
  let i := bitsOf a 15 0
  if !instanceOk c i then s.slotDone .flt slot St.range
  else if s.isRetired c i then s.slotDone .flt slot St.busy
  else ((if c = 12 then s.logEvent 0x0036 sevAction c i 0 false false else s).declareLasting c i).slotDone .flt slot St.ok

/-! ## FLT registers (R535, R537) -/

/-- A record's 32 bytes (Table 15.2). -/
def FltRec.bytes (r : FltRec) : Bytes :=
  leBytes 2 r.code ++ leBytes 1 r.severity ++ leBytes 1 (b1 r.injected + 2 * b1 r.crossed) ++ leBytes 1 r.cls ++ [0, 0, 0]
    ++ leBytes 4 r.inst ++ leBytes 4 r.detail ++ leBytes 8 r.ltc ++ leBytes 8 r.seq

def fltLogRead (v : W32) (s : State) : State := if s.isRunning then s.setReg Reg.FLT_LOG_READ v else s

def fltLogSel (v : W32) (s : State) : State :=
  if !s.isRunning then s
  else
    let b := ((s.flt.log.find? fun r => r.seq % 2 ^ 32 == v.toNat).map FltRec.bytes).getD []
    (List.range 8).foldl (fun t i => t.setNat (Reg.FLT_LOG_REC + 4 * i) (fieldAt b (4 * i) 4)) (s.setReg Reg.FLT_LOG_SEL v)

/-- Retired instances of a class; for KITTY_BANK the spared ones (Table 15.8). -/
def State.retiredOf (s : State) (c : Nat) : List Nat := (s.flt.retired.filter fun r => r.1 == c).map Prod.snd

def fltRetSel (v : W32) (s : State) : State :=
  if !s.isRunning then s
  else
    let n := (v &&& 0x1F007F).toNat
    let c := bitsOf n 20 16
    let w := bitsOf n 6 0
    let l := s.retiredOf c
    ((s.setNat Reg.FLT_RET_SEL n).setNat Reg.FLT_RET_MAP
      (bitmap ((l.filter fun i => i / 32 == w).map (· % 32)))).setNat Reg.FLT_RET_COUNT l.length

def fltCntSel (v : W32) (s : State) : State :=
  if !s.isRunning then s
  else
    let n := (v &&& 0x1FFFFF).toNat
    let c := bitsOf n 20 16
    let i := bitsOf n 15 0
    let ok := instanceOk c i && s.fltThreshold c != 0
    (s.setNat Reg.FLT_CNT_SEL n).setNat Reg.FLT_CNT_VALUE
      (if ok then b1 (s.isRetired c i) * 2 ^ 31 + b1 (decide ((c, i) ∈ s.flt.degraded)) * 2 ^ 30 + s.flt.counters.getD (fltKey c i) 0 else 0)

def fltDrillPtSel (v : W32) (s : State) : State :=
  if !s.isRunning then s
  else
    let p := fld v 7 0
    let t := s.setNat Reg.FLT_DRILL_PT_SEL p
    match s.flt.points.get p with
    | some x => (t.setNat Reg.FLT_DRILL_PT_LAST (x.outcome * 2 ^ 29 + x.duration)).setNat Reg.FLT_DRILL_PT_RUNS x.runs.toNat
    | none => (t.setNat Reg.FLT_DRILL_PT_LAST 0).setNat Reg.FLT_DRILL_PT_RUNS 0

end Sys2Proof.Machine
end

