-- ==== Sys2Proof/Machine/Actions.lean ====
section
/-! DEFINITION. The class actions of lasting faults (Table 15.3, R514 to R525), faults that dies, cores and stewards find of themselves, and what
the open parameters of earlier files stand for. -/

namespace Sys2Proof.Machine

/-! ## Retirement (R514) -/

/-- Marks an instance retired. -/
def State.markRetired (cls inst : Nat) (s : State) : State :=
  { s with flt := { s.flt with retired := if (cls, inst) ∈ s.flt.retired then s.flt.retired else (cls, inst) :: s.flt.retired } }

/-- The unit class behind a fault class. -/
def clsUnit : Nat → Option UnitClass
  | 4 => some .me | 7 => some .vu | 8 => some .ge | 9 => some .sk | _ => none

/-- Instances on a compute die, and how many of them retire the die with them (Table 15.3). -/
def unitsPerDie : Nat → Nat
  | 5 => 16 | 8 => 2 | 9 => 8 | 10 => 8 | _ => 4
def halfUnits : Nat → Nat
  | 5 => 8 | 8 => 1 | 9 => 4 | 10 => 4 | _ => 2

/-- A retired unit stops (R517): its running and queued commands complete with ABORTED, and so do the posts that wait for room. -/
def State.unitStops (c : UnitClass) (n : Nat) (s : State) : State :=
  let t := s.stopUnit (c, n)
  let e := t.engine c n
  if e.stalled.isEmpty then t
  else (t.setEngine c n { e with stalled := [], last := St.aborted }).countAborted c n e.stalled.length

/-- A scan engine, select unit, engine, vector unit or sequencer is retired (R517): UNIT_RETIRED is logged, its work ends or moves, and compositions drop
it (R502). -/
def State.unitRetired (cls inst : Nat) (s : State) : State :=
  let t := (s.markRetired cls inst).outcome 0x0036 sevAction cls inst 0
  match clsUnit cls with
  | some c => ((t.unitStops c inst).lendLost [(c, inst)] [])
  | none =>
    if cls = 5 then t.seRetired inst
    else if cls = 6 then t.suRetired inst
    else ((t.haltSeq inst).setSeq inst { (t.seqCore inst) with state := 3 }).lendLost [] [inst]

/-- Half the units of a kind on a die retire the die (Table 15.3). -/
def State.halfRule (cls inst : Nat) (s : State) : State :=
  let die := inst / unitsPerDie cls
  let gone := (s.retiredOf cls).filter fun i => i / unitsPerDie cls == die
  if halfUnits cls ≤ gone.length then s.declareLasting 11 die else s

/-- A compute die is retired (R518). -/
def State.dieRetired (n : Nat) (s : State) : State :=
  let t := (s.markRetired 11 n).setNat (Reg.CD_STATE + 0x80000 * n) 3
  let t := [10, 4, 5, 6, 7, 8, 9].foldl (fun t c => (List.range (unitsPerDie c)).foldl (fun t i =>
    let k := unitsPerDie c * n + i
    if t.isRetired c k then t else t.unitRetired c k) t) t
  (t.setNat (Reg.CD_STATE + 0x80000 * n) 4).outcome 0x0038 sevAction 11 n 0

/-! ## Transport modules and stacks (R50, R516, R524) -/

/-- A module whose counter crossed: degraded, or retired where it is degraded already (R50, Table 15.3). -/
def State.moduleCrossed (key : Nat) (s : State) : State :=
  if (s.module key).state == .degraded then
    setChange (key / 64) (key % 64) true { s with flt := { s.flt with recovering := (1, key) :: s.flt.recovering } }
  else s.degradeModule key

/-- A module retired at start (R514): both ends. -/
def State.moduleRetired (key : Nat) (s : State) : State := s.retireModule key

/-- A pseudo-channel failed (R516); the second in a stack retires the stack. -/
def State.channelFailed (inst : Nat) (s : State) : State :=
  let t := (s.markRetired 2 inst).outcome 0x0022 sevAction 3 (inst / 64) (inst % 64)
  if 2 ≤ ((t.retiredOf 2).filter fun i => i / 64 == inst / 64).length then t.declareLasting 3 (inst / 64) else t

/-- Bytes that the stacks still in service can hold beyond the descriptors on them. -/
def State.stackRoom (s : State) : Nat :=
  let live (k : Nat) : Bool := decide (k < 20) && !s.isRetired 3 k
  let used := s.pds.vals.foldl (fun a d => if d.tier = 1 ∧ !d.lost then
    a + (d.extents.map fun e => if live (stackOf e.addr) then e.bytes else 0).foldl (· + ·) 0 else a) 0
  ((List.range 20).filter live).length * 2 ^ 36 - used

/-- The flash map is rebuilt by full-scan recovery into a new placement, or is lost with the media (R524). -/
def State.mapLost (s : State) : State :=
  let n := (s.reg Reg.MEDIA_MAP_PD).toNat
  match s.pds.get n with
  | none => s
  | some d =>
    if n = 0 ∨ !d.lost then s
    else
      let t := ({ s with pds := s.pds.del n }).showPds
      if t.stackRoom < d.total then (t.setMediaState 5).outcome 0x0066 sevUnrecovered 16 0 0
      else ((t.placeMap).med' fun m => { m with fullScan := true, recovering := s.now, fwd := [], trims := [] }).setMediaState 2

/-- A stack is retired (R524): its descriptors are lost with everything that rests on them, and the dealer is told. -/
def State.stackRetired (n : Nat) (s : State) : State :=
  let t := (s.markRetired 3 n).outcome 0x0023 sevAction 3 n 0
  let t := { t with pds := t.pds.mapVals fun d => if d.tier = 1 ∧ d.extents.any (fun e => stackOf e.addr == n) then { d with lost := true } else d }
  let tables := t.idx.tables.filterMap fun e => if t.genLost e.2.gen then some e.1 else none
  ((t.mapLost.lostTables).lendStackLost n).sendNotice 3 n tables

/-! ## Control cores and steward dies (R520, R521, R597) -/

/-- The first live core of a steward die from local number `j` on, with wrap-around. -/
def State.liveFrom (s : State) (q j : Nat) : Option Nat :=
  ((List.range 8).map fun i => 8 * q + (j + i) % 8).find? fun c => (s.core c).live

/-- Commands of a steward die's slots report ABORTED; what their blocks do goes on (R520). Host requests for them are answered with ABORTED by the
successor (R597). -/
def State.slotsAborted (q : Nat) (s : State) : State :=
  allFamilies.foldl (fun s f =>
    match s.slots.runs.get (slotKey f q) with
    | some r =>
      if r.wait.isNone then s
      else
        let t := s.setNat (slotResult f q) St.aborted
        { t with slots := { t.slots with runs := t.slots.runs.put (slotKey f q) { r with aborted := true } } }
    | none => s) s

/-- The host service moves to a successor core: requests in service are answered with ABORTED, staging is closed (R556, R597). -/
def State.serviceMoves (succ : Option Nat) (s : State) : State :=
  let t := { s with
    start := { s.start with stageOwner := none, stageStatus := if s.start.stageOwner.isSome then St.aborted else s.start.stageStatus }
    host := { s.host with service := succ.getD s.host.service, serviceLive := succ.isSome } }
  match succ with
  | none => t
  | some c =>
    let runs := t.slots.runs.filterMap fun e => e.2.reply
    let waits := t.host.blockWait.filterMap fun e => if e.2.2 then some e.2.1 else none
    let t := { t with slots := { t.slots with runs := t.slots.runs.mapVals fun r => { r with reply := none } }
                      host := { t.host with blockWait := t.host.blockWait.map fun e => (e.1, e.2.1, false) } }
    (runs ++ waits).foldl (fun t w => t.answer c w St.aborted []) t

/-- The command slots of the cores that fail report ABORTED and move with their core's services (R520, R521, R600). -/
def State.slotsMove (fails : Nat → Bool) (succ : Nat → Nat) (s : State) : State :=
  let t := ((List.range 4).filter fun q => fails (s.host.slotCores.getD q 0)).foldl (fun t q => t.slotsAborted q) s
  { t with host := { t.host with slotCores := t.host.slotCores.map fun c => if fails c then succ c else c } }

/-- A failed control core's services move to the next live core of its die (R520); with none left the steward die is taken as failed. -/
def State.coreFailsOver (c : Nat) (s : State) : State :=
  let q := c / 8
  let serves := decide (s.host.service = c) && s.host.serviceLive
  let t := (s.markRetired 12 c).resetCore c true false
  match t.liveFrom q (c % 8 + 1) with
  | none => t.fault 0x0043 q 0
  | some succ =>
    let t := t.slotsMove (· == c) (fun _ => succ)
    let t := if serves then t.serviceMoves (some succ) else t
    t.fault 0x0042 q succ

/-- A failed steward die's services move to its partner, or with the last one the node stops serving (R521). -/
def State.stewardFailsOver (q : Nat) (s : State) : State :=
  let serves := decide (s.host.service / 8 = q) || !s.host.serviceLive
  let t := (List.range 8).foldl (fun t i => t.resetCore (8 * q + i) true false) (s.markRetired 13 q)
  let others := t.liveStewards
  let p := 2 * (q / 2) + (1 - q % 2)
  match (if p ∈ others then some p else others.head?) with
  | some p =>
    let t := t.slotsMove (fun c => c / 8 == q) fun c => (t.liveFrom p (c % 8)).getD c
    let t := if serves then t.serviceMoves (t.liveFrom p (s.host.service % 8))
      else { t with start := { t.start with stageOwner := none, stageStatus := if t.start.stageOwner.isSome then St.aborted else t.start.stageStatus } }
    t.outcome 0x0044 sevAction 13 q p
  | none =>
    let t := ((t.slotsMove (fun c => c / 8 == q) id).serviceMoves none).outcome 0x0044 sevUnrecovered 13 q 0xFF
    { t with flt := { t.flt with stopped := true } }

/-! ## Links, NAND and the choice of the action -/

/-- A link is retired (R522). -/
def State.linkLost (l : Nat) (s : State) : State := ((s.markRetired 14 l).outcome 0x0052 sevAction 14 l 0).linkRetired l

/-- The action of a class (Table 15.3). -/
def State.classAction (cls inst : Nat) (s : State) : State :=
  if cls = 0 then bankSpare inst s
  else if cls = 1 then s.moduleCrossed inst
  else if s.isRetired cls inst then s
  else match cls with
  | 2 => s.channelFailed inst
  | 3 => s.stackRetired inst
  | 11 => s.dieRetired inst
  | 12 => s.coreFailsOver inst
  | 13 => s.stewardFailsOver inst
  | 14 => s.linkLost inst
  | 15 => nandRetire inst (s.markRetired 15 inst)
  | 16 => (List.range 128).foldl (fun t i =>
      if t.isRetired 15 (128 * inst + i) then t else nandRetire (128 * inst + i) (t.markRetired 15 (128 * inst + i))) (s.markRetired 16 inst)
  | _ => if 4 ≤ cls ∧ cls ≤ 10 then (s.unitRetired cls inst).halfRule cls inst else s

/-- The actions that fell due in this step, in the order of their declaration. -/
def runDue : Nat → State → State
  | 0, s => s
  | n + 1, s =>
    match s.flt.due with
    | [] => s
    | (c, i) :: rest => runDue n (({ s with flt := { s.flt with due := rest } }).classAction c i)

/-- Retires an instance that FLT_DENY names before the node enters service (R514). -/
def denyInstance (cls inst : Nat) (s : State) : State :=
  if !instanceOk cls inst then s
  else if cls = 0 then
    let t := bankSpare inst s
    match t.flt.copying.head? with
    | some c => bankSpareSwitch c.bank t
    | none => t
  else if cls = 1 then s.moduleRetired inst
  else (if cls = 12 then s.logEvent 0x0036 sevAction 12 inst 0 false false else s).classAction cls inst

/-! ## Faults that dies, cores and stewards find (Table 15.1) -/

/-- CORE_WATCHDOG (R520). -/
def coreWatchdog (c : Nat) (s : State) : State := if s.isRunning && (s.core c).live then s.fault 0x0041 c 0 else s

/-- STEWARD_HEARTBEAT_LOSS (R521). -/
def stewardHeartbeatLoss (q : Nat) (s : State) : State := if s.isRunning && decide (q ∈ s.liveStewards) then s.fault 0x0043 q 0 else s

/-- DIE_FAULT (R507, R525). -/
def dieFault (k : DieFaultKind) (s : State) : State :=
  if !s.isRunning then s
  else match k with
    | .ldFail ld => if 12 ≤ ld then s else (List.range 8).foldl (fun t i => t.fault 0x0053 (8 * ld + i) 0) s
    | .mdFail md => if 16 ≤ md then s else s.fault 0x0064 md 0
    | .cdFault cd => if 8 ≤ cd then s else s.fault 0x0037 cd 0
    | .sdFail sd =>
      if 24 ≤ sd then s
      else
        let t := s.outcome 0x0080 sevUnrecovered 0xFF sd 0
        t.link' fun x => { x with mute := true }

/-! ## What an open parameter of other files stands for -/

/-- Items that wait at a scheduling point's queue (SCHED_Q_DEPTH). -/
def pointDepth (p : Point) (q : Nat) (s : State) : Nat :=
  match p with
  | .link l => s.egressDepth l q
  | .tenant t => s.admDepth t q

/-- A holder's use of a resource (Table 13.5). -/
def resourceUse (o : Owner) (code : Nat) (s : State) : Nat :=
  match code with
  | 0 => s.unitUse o
  | 1 => s.pageUse o
  | 2 => s.stackUse o
  | 3 => match o with | .tenant t => s.handUse t | _ => 0
  | 4 => match o with | .tenant t => s.numberUse t | _ => 0
  | _ => 0

/-- Every route over a link has an alternate that is UP (R533). -/
def State.linkAlt (s : State) (l : Nat) : Bool :=
  match s.ton.cur, s.mySeat with
  | some m, some me =>
    (List.range (mapSeats m)).all fun j =>
      let r := mapRoute m me j
      !(r.any fun x => x.1 == l) || r.any fun x => x.1 != l && decide (x.1 < 96) && (s.port x.1).state == 4
  | _, _ => true

/-- A move message goes to the move of its object (R252, R367). -/
def shuffleMsg (from_ : Nat) (object : MoveObject) (seq : Nat) (msg : ShuffleMsg) (s : State) : State :=
  match object with
  | .list table list => listShuffle from_ table list seq msg s
  | .rows table rows => rowShuffle from_ table rows seq msg s

/-- What the receiver does with a shuffle request by the milepost of its packet (R440; log 27): the object of a list's move is its index table. A move that is
under way, and rows, which no routing map names, are served. -/
def State.shuffleOutcome (s : State) (from_ : Nat) (object : MoveObject) (msg : ShuffleMsg) : MapOutcome :=
  match object, msg with
  | .list table list, .copy _ =>
    let known := s.idx.moves.any fun m => m.2.table == table && m.2.list == list && m.2.dest && m.2.seat == from_
    let mp := ((s.link.inbox.find? fun m => m.typ == 0x1A && s.seatOf m.src == some from_).map fun m => m.mapMp.toNat).getD s.mapNow
    if known then .served else s.mapOutcome mp table none
  | _, _ => .served

/-- SHUFFLE: the message is taken and served; a table that the receiver does not serve is refused, and a message ahead of its map is left to be repeated
(R257, R440). -/
def shuffleTaken (from_ : Nat) (object : MoveObject) (seq : Nat) (msg : ShuffleMsg) (s : State) : State :=
  let t := s.tookFrom 0x1A from_
  match s.shuffleOutcome from_ object msg with
  | .served => shuffleMsg from_ object seq msg t
  | .fails st _ _ => if st = St.busy then t else t.hand (.seat from_) 0x1A 0 (.shuffle object seq .refuse)

/-- Units of the hand pool: QRY_HAND_POOL hands of 4,096 entries of 16 bytes and 4,096 tag bytes (R156, R194). -/
def State.handPoolUnits (s : State) : Nat := ((s.reg Reg.QRY_HAND_POOL).toNat * 17 + 511) / 512

/-- Classes of the node's own transfers: T1 of the query path, W4 and W7 of the media (R377, R380, R385), W6 of state push (R488, R497), and those of the tenants
that may run exact queries (R183). -/
def State.serviceClasses (s : State) : List Nat :=
  [4, 2, 3, 5, 6, 7].filter fun c => c == 4 || c == 6 || c == 7 || s.cfg.tenantTables.any fun e => s.tntExact e.1 && s.tntExactClass e.1 == c

/-- BRING_UP ends (R544): the hand pool becomes a system region of class T1 (R156) and the node's own transfers have their regions, and the windows of the load counts begin at the first LTC
value of RUNNING. -/
def enterRunning (s : State) : State :=
  match s.start.phase, s.start.trying with
  | .bringUp, some _ =>
    let t := bringUpDone denyInstance s
    let t := t.emb' fun e => { e with windowStart := t.now }
    let t := t.idx' fun i => { i with hotStart := (List.range 4).map fun q => (q, t.now) }
    let t := ((t.ton' fun x => { x with window := t.now }).handPool t.handPoolUnits).serviceRegion 1 2
    (t.serviceClasses.foldl (fun t c => t.serviceRegion c 1) t).showQry
  | _, _ => s

end Sys2Proof.Machine
end

