-- ==== Sys2Proof/Machine/Kv.lean ====
section
/-! DEFINITION. Placement descriptors' commands, prefix trees and the KV service (R321 to R347). -/

namespace Sys2Proof.Machine

/-! ## CREATE and FREE (R321 to R324) -/

/-- The extents of a descriptor's bytes. -/
def pdExtents (b : Bytes) (n : Nat) : List Extent := (List.range n).map fun i => ⟨fieldAt b (64 + 16 * i) 8, fieldAt b (72 + 16 * i) 8⟩

def sumBytes (es : List Extent) : Nat := (es.map Extent.bytes).foldl (· + ·) 0

/-- An extent breaks Table 9.1 or lies outside its stack (R324). -/
def extentBad (tier : Nat) (e : Extent) : Bool :=
  if tier = 2 then decide (e.addr % 4096 ≠ 0 ∨ e.bytes % 4096 ≠ 0 ∨ e.bytes = 0)
  else decide (e.addr % 64 ≠ 0 ∨ e.bytes % 64 ≠ 0 ∨ e.bytes = 0 ∨ 2 ^ 41 ≤ e.addr ∨ 19 < e.addr / 2 ^ 36 ∨ 2 ^ 36 < e.addr % 2 ^ 36 + e.bytes)

def overlap (a b : Extent) : Bool := decide (a.addr < b.addr + b.bytes ∧ b.addr < a.addr + a.bytes)

/-- CREATE's descriptor as read, with the status of R324; one that cannot be read gets no further check (R21). -/
def State.pdCheck (s : State) (h off : Nat) : Nat × PlaceDesc :=
  match s.handleRead h off 64 with
  | none => (r21 (s.rgnChecks .system h off 64 false), ⟨0, 0, false, false, 0, false, .system, 0, [], false⟩)
  | some hdr =>
    let n := byteAt hdr 3
    let tier := byteAt hdr 1
    let es := if n ≤ 20 then (s.handleRead h off (64 + 16 * n)).elim [] fun b => pdExtents b n else []
    let fl := byteAt hdr 2
    let owner := (ownerOf (fieldAt hdr 4 4)).getD .system
    let len := fieldAt hdr 8 8
    let inter := bitOf fl 4
    let d : PlaceDesc := ⟨byteAt hdr 0, tier, bitOf fl 0, bitOf fl 1, bitsOf fl 3 2, inter, owner, len, es, false⟩
    let clash := es.any fun e => s.pds.vals.any fun q => q.tier == tier && q.extents.any (overlap e)
    (r21 ((if n ≤ 20 then s.rgnChecks .system h off (64 + 16 * n) false else []) ++ [
      (decide (20 < n) || decide (sumBytes es < len), St.length),
      (decide (d.kind = 0 ∨ 6 < d.kind ∨ tier = 0 ∨ 2 < tier ∨ n = 0) || es.any (extentBad tier)
        || (inter && (decide (tier = 2) || es.any fun e => decide (e.bytes ≠ (es.headD ⟨0, 0⟩).bytes ∨ e.bytes % pageBytes ≠ 0)))
        || (d.coded && decide (tier = 2)) || clash || (ownerOf (fieldAt hdr 4 4)).isNone, St.range),
      (decide (tier = 1) && !s.quotaAdmits owner 2 (s.stackUse owner) (sumBytes es), St.quota),
      ((s.pds.lowestFree 1 65535).isNone, St.busy)]), d)

/-- CREATE (R321, R324): the lowest free number. -/
def createRun (slot : Nat) (s : State) : State :=
  let h := bitsOf (s.slotArg .pcmd slot 0) 31 16
  let off := 64 * s.slotArg .pcmd slot 1
  let x := s.pdCheck h off
  let s := s.usedHandle h off (64 + 16 * x.2.extents.length)
  if x.1 ≠ St.ok then
    (if x.1 = St.quota then s.quotaRefused x.2.owner 2 else s).slotDone .pcmd slot x.1
  else
    let n := (s.pds.lowestFree 1 65535).getD 0
    (({ s with pds := s.pds.put n x.2 }).showPds).slotDone .pcmd slot (65536 * n + St.ok)

/-- A descriptor is named by an embedding table, a spill region or the detour of a tree's region (R324). -/
def State.pdNamed (s : State) (n : Nat) : Bool :=
  (s.kitty.regions.vals.any fun r => r.spill && r.detour == n)
  || s.emb.tables.vals.any fun t => t.pdRows == n || t.pdSpare == n

/-- FREE of a descriptor (R324). `named` tells the descriptors that index tables name. -/
def pdFreeRun (named : Nat → State → Bool) (slot : Nat) (s : State) : State :=
  let n := s.slotArg .pcmd slot 0 % 65536
  if !s.pds.has n then s.slotDone .pcmd slot St.range
  else if s.pdNamed n || named n s then s.slotDone .pcmd slot St.busy
  else (({ s with pds := s.pds.del n }).showPds).slotDone .pcmd slot St.ok

/-! ## Prefix trees (R334 to R336) -/

def State.setTree (n : Nat) (t : KvTree) (s : State) : State := { s with kv := s.kv.put n t }

/-- Bytes of a node record of `l` layers (R335), and the byte of node `i` (R334: the rings come first). -/
def recBytes (l : Nat) : Nat := 64 * ((320 + 8 * l + 63) / 64)
def KvTree.at (t : KvTree) (i : Nat) : Nat := 64 * 8 * 66 + i * recBytes t.layers
def State.treeRead (s : State) (t : KvTree) (off n : Nat) : Bytes := ((s.region t.handle).elim [] fun r => s.rgnRead r off n)
def State.treeWrite (t : KvTree) (off : Nat) (b : Bytes) (s : State) : State :=
  match s.region t.handle with
  | some r => s.rgnPut r off b
  | none => s
/-- A field of a node record (Table 9.3). -/
def State.nodeField (s : State) (t : KvTree) (i off n : Nat) : Nat := leNat (s.treeRead t (t.at i + off) n)
def State.nodeSet (t : KvTree) (i off n v : Nat) (s : State) : State := s.treeWrite t (t.at i + off) (leBytes n v)
def State.nodeRefs (s : State) (t : KvTree) (i : Nat) : Nat := s.nodeField t i 12 4

/-- TREE_CREATE (R334). -/
def treeCreateRun (slot : Nat) (s : State) : State :=
  let num := s.slotArg .pcmd slot 0 % 4096
  let a2 := s.slotArg .pcmd slot 2
  let a3 := s.slotArg .pcmd slot 3
  let cap := bitsOf a2 31 16
  let l := bitsOf a2 8 0
  let hkv := bitsOf a3 30 24
  let dh := bitsOf a3 16 8
  let f := bitsOf a3 3 0
  let e := if f = 4 then 2 else 1
  let ns := (128 * hkv * dh * e + 65535) / 65536
  let rg := s.kitty.regions.get num
  let owner := rg.elim Owner.system Region.owner
  let units := (64 * 8 * 66 + (cap + 1) * recBytes l + unitBytes - 1) / unitBytes
  let us := (s.offer (List.range 24)).take units
  let tn := s.freeNumber
  let quota := !s.quotaAdmits owner 0 (s.unitUse owner) units
  let st := r21 [(rg.isNone, St.notOwner),
    (rg.any (fun r => !r.spill) || decide (cap = 0 ∨ l = 0 ∨ 256 < l ∨ hkv = 0 ∨ 64 < hkv ∨ dh < 16 ∨ 256 < dh ∨ dh % 16 ≠ 0 ∨ f < 2 ∨ 4 < f ∨ 16 < ns), St.range),
    (quota || decide (us.length < units) || tn.isNone, St.quota), (s.kv.has num, St.busy)]
  if st ≠ St.ok then (if st = St.quota ∧ quota then s.quotaRefused owner 0 else s).slotDone .pcmd slot st
  else
    let tn := tn.getD 0
    let gen := s.nextGen tn
    let r : Region := ⟨gen, owner, 3, false, false, us, 0, []⟩
    let t := (s.setRegion tn r).setUnits .allocated us
    let t := { t with kitty := { t.kitty with lastGen := t.kitty.lastGen.put tn gen } }
    let tree : KvTree := ⟨(rg.elim 0 fun r => r.handle num), r.handle tn, cap, l, ns, [], 0, List.replicate 8 0, none⟩
    (((t.setTree num tree).setNat Reg.STACK_KV_TREES (s.kv.length + 1))).slotDone .pcmd slot (65536 * r.handle tn + St.ok)

/-- Releases the pages of a node, every part of every layer (R341, R342). -/
def State.releaseNode (t : KvTree) (i : Nat) (s : State) : State :=
  let refs := s.treeRead t (t.at i + 320) (8 * t.layers)
  (List.range t.layers).foldl (fun s l =>
    (List.range t.parts).foldl (fun s j =>
      pageRelease .system (BitVec.ofNat 16 (fieldAt refs (8 * l) 2)) (fieldAt refs (8 * l + 2) 2 + j) s) s) s

/-- A TREE_FREE that waits ends once every node has REFS 0 (R342). -/
def State.treeFreeEnd (n : Nat) (s : State) : State :=
  match s.kv.get n with
  | none => s
  | some t => match t.freeSlot with
    | none => s
    | some slot =>
      if t.live.any fun i => s.nodeRefs t i != 0 then s
      else
        let u := t.live.foldl (fun s i => s.releaseNode t i) s
        let us := (u.region t.handle).elim [] Region.units
        let u := ({ u with kitty := { u.kitty with regions := u.kitty.regions.del (t.handle % 4096) }, kv := u.kv.del n }).startScrub us
        (u.setNat Reg.STACK_KV_TREES u.kv.length).slotDone .pcmd slot St.ok

/-- TREE_FREE (R342). -/
def treeFreeRun (slot : Nat) (s : State) : State :=
  let n := s.slotArg .pcmd slot 0 % 4096
  match s.kv.get n with
  | none => s.slotDone .pcmd slot St.notOwner
  | some t => ((s.setTree n { t with freeSlot := some slot }).slotWaits .pcmd slot (.other 3 n 0)).treeFreeEnd n

/-- Runs a STACK command that has come to its turn (R347, Table 9.6). -/
def pcmdRun (named : Nat → State → Bool) (slot op : Nat) (s : State) : State :=
  match op with
  | 1 => createRun slot s
  | 2 => pdFreeRun named slot s
  | 3 => treeCreateRun slot s
  | 4 => treeFreeRun slot s
  | _ => s.slotDone .pcmd slot St.range

/-! ## The KV service (R337 to R342) -/

/-- A word of ring `c`: 0 the producer index, 64 the consumer index. -/
def State.kvIndex (s : State) (t : KvTree) (c off : Nat) : Nat := leNat (s.treeRead t (64 * 66 * c + off) 4)

/-- The ring whose entry is served next, in turn, among those examined (R337). -/
def State.kvNext (s : State) (t : KvTree) : Option Nat :=
  ((List.range 8).map fun i => (t.next + i) % 8).find? fun c =>
    let waiting := (t.seen.getD c 0 + 2 ^ 32 - s.kvIndex t c 64) % 2 ^ 32
    decide (0 < waiting ∧ waiting ≤ 64)

/-- Byte of the entry of ring `c` at its consumer index. -/
def State.kvEntryAt (s : State) (t : KvTree) (c : Nat) : Nat := 64 * (66 * c + 2 + s.kvIndex t c 64 % 64)

/-- The owner of a tree. -/
def State.treeOwner (s : State) (t : KvTree) : Owner := (s.region t.handle).elim Owner.system Region.owner

/-- The counter that a request names must be in a group of the tree's owner (R283); no die above 7 has one. -/
def State.kvCounter (s : State) (t : KvTree) (b : Bytes) : Bool × Nat :=
  (decide (7 < byteAt b 4) || !s.holdsCtr (s.treeOwner t) (byteAt b 4) (byteAt b 5 % 64), St.denied)

/-- Completes a request (R338): STATUS, RFLAGS and RESULT, the consumer index, the sync counter where the request may raise it, then the next ring. -/
def State.kvComplete (n c : Nat) (b : Bytes) (st flags result : Nat) (s : State) : State :=
  match s.kv.get n with
  | none => s
  | some t =>
    let a := s.kvEntryAt t c
    let u := ((s.treeWrite t (a + 48) (leBytes 1 st ++ leBytes 1 flags)).treeWrite t (a + 52) (leBytes 4 result)).treeWrite t
      (64 * (66 * c + 1)) (leBytes 4 (s.kvIndex t c 64 + 1))
    let u := if (s.kvCounter t b).1 then u else u.signal (byteAt b 4) (byteAt b 5 % 64)
    u.setTree n { t with next := (c + 1) % 8 }

/-- Serves the next entry of a tree where its OP is the one asked. -/
def State.kvServe (n op : Nat) (f : KvTree → Nat → Bytes → State → State) (s : State) : State :=
  match s.kv.get n with
  | none => s
  | some t => match s.kvNext t with
    | none => s
    | some c =>
      let b := s.treeRead t (s.kvEntryAt t c) 64
      if byteAt b 0 = op ∧ s.isRunning then f t c b (s.usedHandle t.handle (s.kvEntryAt t c) 64) else s

/-- Checks of a region a request names (R338): owned by the tree's owner, long enough, its pages open to the access (R89, R93). -/
def State.kvRegion (s : State) (t : KvTree) (h off len : Nat) (write : Bool) : List (Bool × Nat) :=
  match s.region h with
  | none => [(true, St.notOwner)]
  | some r => [(r.owner != s.treeOwner t || (write && r.readOnly), St.denied), (decide (r.size < off + len), St.length)] ++ r.pageChecks off len write

/-- The source that a request names, and its destination: handle and byte offset (Table 9.4). -/
def kvSrc (b : Bytes) : Nat × Nat := (fieldAt b 16 2, 64 * fieldAt b 20 4)
def kvDst (b : Bytes) : Nat × Nat := (fieldAt b 24 2, 64 * fieldAt b 28 4)

/-- The checks that every request gets first (R283, R338), with the bytes it takes from its source and those of its destination. -/
def State.kvChecks (s : State) (t : KvTree) (b : Bytes) (src : Nat) (dst : Option (Nat × Bool)) : List (Bool × Nat) :=
  [s.kvCounter t b, (decide (1024 < fieldAt b 12 4), St.length)] ++ s.kvRegion t (kvSrc b).1 (kvSrc b).2 src false
    ++ match dst with
      | some d => s.kvRegion t (kvDst b).1 (kvDst b).2 d.1 d.2
      | none => []

/-- Completes entries whose OP is undefined with RANGE, where no earlier check fails (R21, R338), until one with a defined OP is next. Such an OP takes no bytes. -/
def kvUndefined (n : Nat) : Nat → State → State
  | 0, s => s
  | fuel + 1, s =>
    match s.kv.get n with
    | none => s
    | some t => match s.kvNext t with
      | none => s
      | some c =>
        let b := s.treeRead t (s.kvEntryAt t c) 64
        if 1 ≤ byteAt b 0 ∧ byteAt b 0 ≤ 3 then s else kvUndefined n fuel (s.kvComplete n c b (r21 (s.kvChecks t b 0 (some (0, false)) ++ [(true, St.range)])) 0 0)

/-- KV_RING_POLL (R337): the service examines every ring of a tree. -/
def kvRingPoll (n : Nat) (s : State) : State :=
  match s.kv.get n with
  | none => s
  | some t =>
    if s.isRunning then kvUndefined n 512 (s.setTree n { t with seen := (List.range 8).map fun c => s.kvIndex t c 0 })
    else s

/-- The nodes under a parent with a hash (R336). -/
def State.nodesWith (s : State) (t : KvTree) (p hash : Nat) : List Nat :=
  (List.range (t.cap + 1)).filter fun i => t.live.contains i && s.nodeField t i 8 4 == p && s.nodeField t i 0 8 == hash
/-- The lowest node of a parent that stands for a block (R336). -/
def State.findNode (s : State) (t : KvTree) (p : Nat) (tokens : Bytes) : Option Nat :=
  (s.nodesWith t p (fieldAt (sha3_256 tokens) 0 8)).find? fun i => s.treeRead t (t.at i + 64) 256 == tokens

/-- The walk of LOOKUP over the blocks left, from a parent: the nodes matched (R339). -/
def kvWalk (t : KvTree) : List Bytes → Nat → State → List Nat × State
  | [], _, s => ([], s)
  | tokens :: rest, p, s =>
    let same := s.nodesWith t p (fieldAt (sha3_256 tokens) 0 8)
    let differ := (same.filter fun i => s.treeRead t (t.at i + 64) 256 != tokens).length
    let s := s.bumpBy Reg.STACK_KV_HASH_MISMATCH differ
    match s.findNode t p tokens with
    | none => ([], s)
    | some i =>
      let x := kvWalk t rest i ((s.nodeSet t i 12 4 (s.nodeRefs t i + 1)).nodeSet t i 16 8 s.now)
      (i :: x.1, x.2)

/-- LOOKUP (R338, R339). -/
def kvLookup (n : Nat) (s : State) : State :=
  s.kvServe n 1 fun t c b s =>
    let count := fieldAt b 12 4
    let st := r21 (s.kvChecks t b (256 * count) (some (4 * count, true)))
    let s := s.bump Reg.STACK_KV_LOOKUPS
    if st ≠ St.ok then s.kvComplete n c b st 0 0
    else
      let s := s.usedHandle (kvSrc b).1 (kvSrc b).2 (256 * count)
      let src := (s.handleRead (kvSrc b).1 (kvSrc b).2 (256 * count)).getD []
      let x := kvWalk t ((List.range count).map fun i => sliceAt src (256 * i) 256) 0 s
      let u := match x.2.region (kvDst b).1 with
        | some r => x.2.rgnPut r (kvDst b).2 (x.1.flatMap (leBytes 4))
        | none => x.2
      (u.bumpBy Reg.STACK_KV_HIT_BLOCKS x.1.length).kvComplete n c b St.ok 0 x.1.length

/-- The node that an INSERT evicts (R341): REFS and CHILDREN 0, the smallest LAST_USE, then the lowest index; never the PARENT of the insert. -/
def State.victim (s : State) (t : KvTree) (parent : Nat) : Option Nat :=
  minBy (fun i => s.nodeField t i 16 8 * 65536 + i)
    (t.live.filter fun i => i != parent && s.nodeRefs t i == 0 && s.nodeField t i 24 4 == 0)

/-- A page reference that INSERT takes (R340, Table 9.2): sealed, of the tree's region, FILL 64. -/
def refOk (t : KvTree) (r : Bytes) : Bool := bitOf (byteAt r 5) 0 && fieldAt r 0 2 == t.spill && byteAt r 4 == 64

/-- TREE_EVICT (R341): a node leaves the tree and its pages are released. -/
def State.treeEvict (n : Nat) (t : KvTree) (i : Nat) (s : State) : State :=
  let p := s.nodeField t i 8 4
  let u := (s.releaseNode t i).nodeSet t p 24 4 (s.nodeField t p 24 4 - 1)
  (u.setTree n { t with live := t.live.filter (· != i) }).bump Reg.STACK_KV_EVICT_NODES

/-- INSERT (R338, R340, R341). -/
def kvInsert (n : Nat) (s : State) : State :=
  s.kvServe n 2 fun t c b s =>
    let parent := fieldAt b 8 4
    let len := 8 * t.layers
    let given := s.handleRead (kvDst b).1 (kvDst b).2 len
    let tokens := (s.handleRead (kvSrc b).1 (kvSrc b).2 256).getD []
    let st := r21 (s.kvChecks t b 256 (some (len, false)) ++ [
      (decide (fieldAt b 12 4 ≠ 1) || (parent != 0 && !t.live.contains parent)
        || given.any (fun refs => (List.range t.layers).any fun l => !refOk t (sliceAt refs (8 * l) 8)), St.range)])
    let refs := given.getD []
    let s := (s.usedHandle (kvSrc b).1 (kvSrc b).2 256).usedHandle (kvDst b).1 (kvDst b).2 len
    if st ≠ St.ok then s.kvComplete n c b st 0 0
    else match s.findNode t parent tokens with
      | some i => (s.bump Reg.STACK_KV_DUP_INSERTS).kvComplete n c b St.ok 1 i
      | none =>
        let s1 := if t.live.length < t.cap then some s else (s.victim t parent).map fun i => s.treeEvict n t i
        match s1 with
        | none => (s.bump Reg.STACK_KV_TREE_FULL).kvComplete n c b St.quota 0 0
        | some s =>
          let t := s.kv.getD n t
          let i := ((List.range t.cap).map (· + 1)).find? (fun i => !t.live.contains i) |>.getD 1
          let shared (l : Nat) : Bytes := patch (sliceAt refs (8 * l) 8) 5 [BitVec.ofNat 8 3]
          let rec_ := sliceAt (sha3_256 tokens) 0 8 ++ leBytes 4 parent ++ leBytes 4 1 ++ leBytes 8 s.now ++ leBytes 4 0
            ++ List.replicate 36 0 ++ tokens ++ (List.range t.layers).flatMap shared
          let u := (s.treeWrite t (t.at i) rec_).nodeSet t parent 24 4 (s.nodeField t parent 24 4 + 1)
          ((u.setTree n { t with live := i :: t.live }).bump Reg.STACK_KV_INSERTS).kvComplete n c b St.ok 0 i

/-- UNREF (R338, R342). -/
def kvUnref (named : Nat → State → Bool) (n : Nat) (s : State) : State :=
  s.kvServe n 3 fun t c b s =>
    let count := fieldAt b 12 4
    let st := r21 (s.kvChecks t b (4 * count) none)
    if st ≠ St.ok then s.kvComplete n c b st 0 0
    else
      let s := s.usedHandle (kvSrc b).1 (kvSrc b).2 (4 * count)
      let src := (s.handleRead (kvSrc b).1 (kvSrc b).2 (4 * count)).getD []
      let u := (List.range count).foldl (fun s k =>
        let i := fieldAt src (4 * k) 4
        if t.live.contains i ∧ s.nodeRefs t i ≠ 0 then s.nodeSet t i 12 4 (s.nodeRefs t i - 1)
        else s.bump Reg.STACK_KV_UNREF_BAD) s
      serialTurn .pcmd (pcmdRun named) 4 ((u.kvComplete n c b St.ok 0 0).treeFreeEnd n)

/-! ## Snapshots (R347) -/

def stackPdSel (v : W32) (s : State) : State :=
  if !s.isRunning then s
  else
    let n := v.toNat % 65536
    let d := s.pds.get n
    let f (g : PlaceDesc → Nat) : Nat := d.elim 0 g
    (((s.setNat Reg.STACK_PD_SEL n).setNat Reg.STACK_PD_INFO (f fun d => 2 ^ 31 + 2 ^ 28 * d.kind + 2 ^ 26 * d.tier + 2 ^ 25 * b1 d.readOnly
      + 2 ^ 24 * b1 d.coded + 2 ^ 22 * d.width + 2 ^ 21 * b1 d.interleave + d.extents.length)).setNat Reg.STACK_PD_OWNER
        (f fun d => ownerKey d.owner)).setPair Reg.STACK_PD_LEN_LO (f PlaceDesc.length)

def stackTreeSel (v : W32) (s : State) : State :=
  if !s.isRunning then s
  else
    let n := v.toNat % 4096
    let t := s.kv.get n
    ((s.setNat Reg.STACK_TREE_SEL n).setNat Reg.STACK_TREE_INFO (t.elim 0 fun t => 65536 * t.cap + t.layers)).setNat Reg.STACK_TREE_USE
      (t.elim 0 fun t => 65536 * t.live.length + (t.live.filter fun i => s.nodeRefs t i != 0).length)

/-- A read that completes with BUSY because its page is SPILLED (R93, R344). -/
def countSpilledRead (a : Access) (s : State) : State :=
  match s.region a.handle.toNat with
  | some r => match r.pages.get (a.offset / pageBytes) with
    | some (.spilled _) | some (.recalling _ _) => s.bumpIf (decide (s.accessStatus a = St.busy)) Reg.STACK_KV_SPILLED_READS
    | _ => s
  | none => s

end Sys2Proof.Machine
end

