-- ==== Sys2Proof/Machine/Slots.lean ====
section
/-! DEFINITION. The ten families of command slots together (R69, R594): what a command of each runs, the host's BLOCK_CMD, and what the node does of its
own at the end of a command. -/

namespace Sys2Proof.Machine

/-- A SCHED command that has come to its turn (R476). -/
def schedRun (slot op : Nat) (s : State) : State :=
  match op with
  | 1 => setShaperRun slot s
  | 2 => setGatesRun slot s
  | 3 => cancelGatesRun slot s
  | 4 => setQuotaRun slot s
  | _ => s.schedFail slot St.range

/-- An FLT command that has come to its turn (R536). -/
def fltRun (slot op : Nat) (s : State) : State :=
  match op with
  | 1 => setDrillsRun slot s
  | 2 => drillNowRun s.linkAlt slot s
  | 3 => retireRun slot s
  | _ => s.slotDone .flt slot St.range

/-- What a command of a family runs. -/
def Family.run (f : Family) (slot op : Nat) (s : State) : State :=
  match f with
  | .kitty => kittyRun slot op s
  | .idx => idxRun slot op s
  | .vcmd => vcmdRun slot op s
  | .pcmd => pcmdRun idxNames slot op s
  | .emb => embRun s.seatOther slot op s
  | .media => mediaRun slot op s
  | .link => linkRun slot op s
  | .sched => schedRun slot op s
  | .lend => lendRun slot op s
  | .flt => fltRun slot op s

/-- The families whose slots run side by side (R99, R370). -/
def Family.parallel : Family → Bool
  | .idx | .vcmd | .emb => true
  | _ => false

/-- A slot that has just taken a command: its arguments, GO, and the host request to answer (R69). -/
def State.begun (f : Family) (slot op : Nat) (args : List (Nat × W32)) (reply : Option (List W32)) (s : State) : State :=
  let t := (s.setArgs f slot args).slotGo f slot op
  { t with slots := { t.slots with runs := t.slots.runs.modify (slotKey f slot) fun r => { r with reply := reply } } }

/-- GO on a slot that is not busy: the command begins and has its turn (R69). -/
def State.slotStart (f : Family) (slot op : Nat) (args : List (Nat × W32)) (reply : Option (List W32)) (s : State) : State :=
  let t := s.begun f slot op args reply
  if f.parallel then f.run slot op t else serialTurn f f.run 4 t

/-- A command in a slot, as firmware gives it (R69): the blocks serve in RUNNING; a busy slot rejects it and reads BUSY. -/
def slotCmd (f : Family) (slot op : Nat) (args : List (Nat × W32)) (s : State) : State :=
  if s.isRunning && decide (slot < 4) then
    if s.slotBusy f slot then s.slotGo f slot op else s.slotStart f slot op args none
  else s

/-! ## BLOCK_CMD (R594) -/

/-- A request's command: its family, opcode and arguments. -/
def blockFamily (w : List W32) : Option Family := familyAt (w.getD 2 0).toNat
def blockArgs (f : Family) (w : List W32) : List (Nat × W32) := (List.range f.args).map fun i => (i, w.getD (4 + i) 0)

/-- Starts the requests that waited for a slot which is free now; one whose answer the successor of a failed core has given starts without a reply. -/
def startBlocks : List (Nat × List W32 × Bool) → State → State
  | [], s => s
  | (k, w, live) :: rest, s =>
    match allFamilies.find? fun f => f.num == k / 4 with
    | none => startBlocks rest s
    | some f =>
      if s.slotBusy f (k % 4) then
        startBlocks rest { s with host := { s.host with blockWait := s.host.blockWait ++ [(k, w, live)] } }
      else startBlocks rest (s.slotStart f (k % 4) (fld (w.getD 3 0) 7 0) (blockArgs f w) (if live then some w else none))

/-- BLOCK_CMD: the command waits for the slot of the serving core's steward die, and runs in it as the system. -/
def blockCmd (c : Nat) (s : State) : State :=
  s.serveRequest c 2 fun w t =>
    match blockFamily w with
    | none => t.answer c w St.range []
    | some f => startBlocks (t.host.blockWait ++ [(slotKey f (c / 8), w, true)]) { t with host := { t.host with blockWait := [] } }

/-! ## The end of a command -/

/-- The serial families give their waiting commands their turn. -/
def slotTurns (s : State) : State :=
  [Family.kitty, .pcmd, .media, .link, .sched, .lend, .flt].foldl (fun s f => serialTurn f f.run 4 s) s

/-- Requests that waited for a slot start once it is free. -/
def blockTurns (s : State) : State :=
  if s.host.blockWait.isEmpty then s else startBlocks s.host.blockWait { s with host := { s.host with blockWait := [] } }

/-! ## The end of a command -/

/-- Links that left UP or MGMT_ONLY in this step leave the compositions that name them (R503). -/
def linksLost (old : State) (s : State) : State :=
  old.link.ports.foldl (fun t e => if e.2.live && !(s.port e.1).live then t.lendLinkDown e.1 else t) s

/-- What the node does of its own before the next command: the actions that fell due, row writes that waited for flash, drops whose last gather is over, pairs that a Trick Former now has room for, links that were lost,
link events to the dealer, messages handed to the link dies, commands that waited for a slot, and replies of commands that completed. -/
def closeStep (old : State) (s : State) : State :=
  let t := runDue 512 s
  let t := linksLost old t.refillInputs
  let t := blockTurns (slotTurns (embTurns t))
  flushReplies (flushPost (flushEvents (runDue 512 t)))

/-- After a command the node has at most messages and replies to send: nothing fell due, no command or request waits for its turn, no pair waits at a
Trick Former's input, no row write and no EMB_DROP waits, and no link was lost. -/
def State.sendsOnly (old s : State) : Bool :=
  s.flt.due.isEmpty && s.ton.events.isEmpty && s.host.blockWait.isEmpty
    && s.emb.waiting.isEmpty && s.med.stored.isEmpty && (s.emb.tables.all fun t => t.2.dropSlot.isNone)
    && (s.slots.runs.all fun r => r.2.wait.isSome) && (s.qry.formers.all fun f => f.2.input.isEmpty)
    && old.link.ports.all fun e => !e.2.live || (s.port e.1).live

/-- Messages handed to the link dies leave, and commands that completed are answered. -/
def sendAll (s : State) : State := flushReplies (flushPost s)

/-- What sending may change. -/
def sendParts : List Part := [.host, .slots, .link, .post, .out, .reg .mbx, .reg .link]

/-- Every part of the state. -/
def allParts : List Part :=
  [.clk, .start, .ident, .cfg, .host, .slots, .xp, .kitty, .bus, .kmem, .smem, .tiles, .pds, .quota, .sched, .idx, .qry, .link, .ton, .eng, .kv, .emb, .nand,
   .lend, .med, .post, .flt, .out, .free, .reg .node, .reg .mbx, .reg .cfg, .reg .clk, .reg .flt, .reg .kitty, .reg .qry, .reg .idx, .reg .cd,
   .reg .media, .reg .link, .reg .sched, .reg .lend, .reg .stack]

/-- The parts that the node's own work after a command may change: all but clocks, power and cooling, and identity. -/
def servedParts : List Part := allParts.filter fun p => p != .clk && p != .ident

/-- The end of a command whose own effect lies in the parts listed: with nothing left to do that effect is all, messages and replies alone change
only what sending changes, and otherwise the node does all that is left to do. -/
def State.finish (ps : List Part) (s t : State) : State :=
  let u := s.adopt ps t
  if s.sendsOnly u then
    if u.post.isEmpty && u.slots.replies.isEmpty then u else u.adopt sendParts (sendAll u)
  else u.adopt servedParts (closeStep s u)

/-- What passes with an LTC unit in RUNNING: waits at scheduling points and links (Table 13.6), and held completion records (R285), are counted. -/
def countUnit (s : State) : State := countHolds (countCreditStall (countWaits pointDepth s))

end Sys2Proof.Machine
end

