-- ==== Sys2Proof/Machine/RegWrite.lean ====
section
/-! DEFINITION. A write to BAR0 by the host or by firmware (R9 to R12, R578, R579): which requests are accepted, and what a word written to a register
does by its access code. -/

namespace Sys2Proof.Machine

/-- A range of BAR0 that accepts requests of 4 to 64 bytes: receive and send windows of the host mailboxes, and the report window (R578). -/
def wideWindow (off : Nat) : Bool :=
  (decide (0x10000 ≤ off ∧ off < 0x11000) &&
    match regDef off with
    | some d => d.base == Reg.MBX_H_RX || d.base == Reg.MBX_H_TX
    | none => false)
  || decide (0x28000 ≤ off ∧ off < 0x30000)
/-- The transfer slots (R603). -/
def inXfer (off : Nat) : Bool := decide (0x18000 ≤ off ∧ off < 0x20000)

/-- A request of an accepted size and alignment (R578). -/
def requestAccepted (off n : Nat) : Bool :=
  if inXfer off then decide (1 ≤ n ∧ off % 256 + n ≤ 256)
  else decide (n ∈ (if wideWindow off then [4, 8, 16, 32, 64] else [4, 8]) ∧ off % n = 0)

/-- The family, slot and word of a command register. -/
def slotOf (off : Nat) : Option (Family × Nat × Nat) :=
  (allFamilies.find? fun f => decide (f.base ≤ off ∧ off < f.base + 0x80)).map fun f => (f, (off - f.base) / 0x20, (off - f.base) % 0x20 / 4)

/-- A word that firmware writes to a register of its own: a slot's OP (GO starts the command), an argument, or a sync counter. -/
def firmwareWrite (off : Nat) (mask : Nat) (v : W32) (s : State) : State :=
  match slotOf off with
  | some (f, k, 0) =>
    if v.getLsbD 31 then
      if s.slotBusy f k then s.slotGo f k (fld v 7 0) else s.slotStart f k (fld v 7 0) [] none
    else if s.slotBusy f k then s
    else s.setReg off (v &&& w32 mask)
  | _ => s.setReg off (v &&& w32 mask)

/-- The host mailbox of an MBX offset. -/
def mboxOf (off : Nat) : Nat := (off - 0x10000) / 0x100

/-- A word written to a WO register. -/
def writeOnly (base off : Nat) (v : W32) (s : State) : State :=
  if base = Reg.NODE_RESTART then nodeRestart v s
  else if base = Reg.MBX_H_POP then mbxPop (mboxOf off) v s
  else if base = Reg.MBX_H_RING then mbxRing (mboxOf off) v s
  else if base = Reg.MBX_H_CTL then mbxCtl (mboxOf off) v s
  else if base = Reg.MBX_H_TX then mailboxPost (mboxOf off) ((off - base) % 0x100 / 4) [v] s
  else
    let t := if v.getLsbD 2 then xpClearAll s else if v.getLsbD 1 then xpClear s else s
    if v.getLsbD 0 then xpSnap t else t

/-- A word written to a W1C register. -/
def writeOnes (base off mask : Nat) (v : W32) (s : State) : State :=
  if base = Reg.NODE_IRQ_STATUS then irqStatusWrite .nodeStatus v s
  else if base = Reg.FLT_IRQ_STATUS then irqStatusWrite .fltStatus v s
  else if base = Reg.CLK_IRQ_STATUS then irqStatusWrite .clkStatus v s
  else if base = Reg.MBX_H_IRQ_STATUS then irqStatusWrite (.mbxStatus (mboxOf off)) v s
  else s.clearOnes off (v &&& w32 mask)

/-- A word written to an RW register: one with a row of its own does what that row says; any other holds the bits written. -/
def writeSel (base off mask : Nat) (v : W32) (s : State) : State :=
  if base = Reg.NODE_IRQ_MASK then irqStatusWrite .nodeMask v s
  else if base = Reg.FLT_IRQ_MASK then irqStatusWrite .fltMask v s
  else if base = Reg.CLK_IRQ_MASK then irqStatusWrite .clkMask v s
  else if base = Reg.MBX_H_IRQ_MASK then irqStatusWrite (.mbxMask (mboxOf off)) v s
  else if base = Reg.MSIX_CTRL then
    if v.getLsbD 0 then s.setReg off 1 else msixUnmask ((off - base) / 0x10) s
  else if base = Reg.NODE_DIE_SEL then dieSel v s
  else if base = Reg.CLK_TS_SEL then tsSel v s
  else if base = Reg.FLT_LOG_READ then fltLogRead v s
  else if base = Reg.FLT_LOG_SEL then fltLogSel v s
  else if base = Reg.FLT_RET_SEL then fltRetSel v s
  else if base = Reg.FLT_CNT_SEL then fltCntSel v s
  else if base = Reg.FLT_DRILL_PT_SEL then fltDrillPtSel v s
  else if base = Reg.KITTY_XP_SEL then xpSel v s
  else if base = Reg.KITTY_RGN_SEL then rgnSel v s
  else if base = Reg.KITTY_QUOTA_SEL then kquotaSel v s
  else if base = Reg.KITTY_CLS_SEL then clsSel v s
  else if base = Reg.QRY_TF_SEL then qryTfSel v s
  else if base = Reg.QRY_TNT_SEL then qryTntSel v s
  else if base = Reg.IDX_TBL_SEL then idxTblSel v s
  else if base = Reg.IDX_LST_SEL_LIST then idxLstSel v s
  else if base = Reg.IDX_HOT_SEL then idxHotSel v s
  else if base = Reg.MEDIA_CH_SEL then mediaChSel v s
  else if base = Reg.LINK_TON_SEAT_SEL then tonSeatSel v s
  else if base = Reg.SCHED_PT_SEL then schedPtSel pointDepth v s
  else if base = Reg.SCHED_QUOTA_SEL then schedQuotaSel resourceUse v s
  else if base = Reg.LEND_C_SEL then lendCSel v s
  else if base = Reg.LEND_K_SEL then lendKSel v s
  else if base = Reg.STACK_PD_SEL then stackPdSel v s
  else if base = Reg.STACK_TREE_SEL then stackTreeSel v s
  else if base = Reg.STACK_EMB_TBL_SEL then embTblSel v s
  else if base = Reg.STACK_EMB_SHARD_SEL then embShardSel v s
  else if base = Reg.STACK_EMB_HOT_SEL then embHotSel v s
  else if base = Reg.STACK_EMB_OWN_SEL then embOwnSel v s
  else s.setReg off (v &&& w32 mask)

/-- A word written at an offset: reserved space, and blocks that are not served, discard it (R11, R579); a register takes it by its access code (R9, R10). -/
def writeWord (firmware : Bool) (off : Nat) (v : W32) (s : State) : State :=
  match blockOf off with
  | none => s
  | some b =>
    if !s.served b then s
    else match regDef off with
      | none => s
      | some d => match d.acc with
        | .ro | .rc => s
        | .fw => if firmware then firmwareWrite off d.mask v s else s
        | .wo => writeOnly d.base off v s
        | .w1c => writeOnes d.base off d.mask v s
        | .rw => writeSel d.base off d.mask v s

/-- The words of a request, lowest offset first. -/
def wordsOf : Nat → Nat → Bytes → List (Nat × W32)
  | 0, _, _ => []
  | n + 1, off, b => (off, w32 (fieldAt b 0 4)) :: wordsOf n (off + 4) (b.drop 4)

/-- REGISTER_WRITE. A request that is not accepted completes with Completer Abort and has no effect (R578); a wide write to a send window is one write. -/
def registerWrite (firmware : Bool) (off : Nat) (b : Bytes) (s : State) : State :=
  if !requestAccepted off b.length then (if firmware then s else s.emit (.completerAbort off))
  else if inXfer off then
    { s with host := { s.host with
      xfer := (List.range b.length).foldl (fun t i => t.put (off - 0x18000 + i) (b.getD i 0)) s.host.xfer } }
  else
    let ws := wordsOf (b.length / 4) off b
    if wideWindow off && (regDef off).any (fun d => d.base == Reg.MBX_H_TX) then
      mailboxPost (mboxOf off) ((off - Reg.MBX_H_TX) % 0x100 / 4) (ws.map Prod.snd) s
    else ws.foldl (fun t w => writeWord firmware w.1 w.2 t) s

/-- One SCLK cycle with no command (log 1): the clock counts, and the node does what is left for it to do. -/
def idleCycle (s : State) : State :=
  let t := tick countUnit (pcieCycle (mailboxCycle s))
  t.finish [.qry, .xp] (if t.isRunning && t.clk.ticking then (countLqFull t).countStalls else t)

end Sys2Proof.Machine
end

