-- ==== Sys2Proof/Machine/Vector.lean ====
section
/-! DEFINITION. What vector units compute (R288, R309 to R313, R318). -/

namespace Sys2Proof.Machine

/-- The parameters of a vector command (R288). -/
structure VuCmd where
  op : Nat
  fn : Nat
  inF : Nat
  outF : Nat
  count : Nat
  row : Nat
  param : W32
deriving DecidableEq, Repr

def vuCmd (b : Bytes) : VuCmd :=
  ⟨cmdOp b, byteAt b 40, byteAt b 41, byteAt b 42, fieldAt b 44 4, fieldAt b 48 4, w32 (fieldAt b 52 4)⟩

/-- Row operations (R288). -/
def VuCmd.rowOp (c : VuCmd) : Bool := [0x25, 0x26, 0x27, 0x28].contains c.op

/-- Rows and row length of the arrays: those of ROW_LEN where it divides COUNT, else one row (R288, R301). -/
def VuCmd.shape (c : VuCmd) : Nat × Nat := if c.row ≠ 0 ∧ c.count % c.row = 0 then (c.count / c.row, c.row) else (1, c.count)

/-- The widths read as FP32 (R309): exact for floating-point formats, rounded for integers. -/
def widen (fmt rows n : Nat) (b : Bytes) : List W32 := (arrayVals fmt rows n b).map f32Of

/-- Rows of a list. -/
def rowsOf (c : VuCmd) (l : List W32) : List (List W32) := chunks c.shape.2 c.shape.1 l

/-- Softmax of one row (Table 8.3). -/
def softmaxOf (r : List W32) : List W32 :=
  let m := r.foldl fmax 0xFF800000
  let infs := (r.filter (· == 0x7F800000)).length
  if r.any isNan then r.map fun _ => 0x7FC00000
  else if m = 0xFF800000 then r.map fun _ => 0
  else if 0 < infs then r.map fun x => if x = 0x7F800000 then fdiv 0x3F800000 (fofInt infs) else 0
  else
    let es := r.map fun x => fexp (fsub x m)
    let k := frecip (fsum es)
    es.map fun e => fmul e k

/-- Normalisation of one row (Table 8.3), with its γ and β. -/
def normOf (fn : Nat) (eps : W32) (g b r : List W32) : List W32 :=
  let n := fofInt r.length
  let ss := r.foldl (fun a x => fadd a (fmul x x)) 0
  match fn with
  | 0 =>
    let mu := fdiv (fsum r) n
    let dv := r.map fun x => fsub x mu
    let var := fdiv (dv.foldl (fun a x => fadd a (fmul x x)) 0) n
    let k := frsqrt (fadd var eps)
    (dv.zip (g.zip b)).map fun p => fadd (fmul (fmul p.1 k) p.2.1) p.2.2
  | 1 =>
    let k := frsqrt (fadd (fdiv ss n) eps)
    (r.zip g).map fun p => fmul (fmul p.1 k) p.2
  | _ => if feq ss 0 then r.map fun _ => 0 else r.map fun x => fmul x (frsqrt ss)

/-- DIST_FINISH of one value (R318). -/
def distOf (fn m n rows : Nat) (b : List W32) (a : W32) : W32 :=
  match fn with
  | 0 => fmax 0 (ffma 0xC0000000 a (fadd (b.getD m 0) (b.getD (rows + n) 0)))
  | 1 => fneg a
  | _ => a

/-- An activation function (R288). -/
def actOf (fn : Nat) : W32 → W32 :=
  match fn with
  | 0 => frelu | 1 => fgelu | 2 => fsilu | 3 => fexp | 4 => frecip | _ => frsqrt

/-- The results of an operation on its operands. -/
def vuResult (c : VuCmd) (a b cc : List W32) (affine : Bool) : List W32 :=
  match c.op with
  | 0x20 => (a.zip b).map fun p => fadd p.1 p.2
  | 0x21 => (a.zip b).map fun p => fmul p.1 p.2
  | 0x22 => (a.zip (b.zip cc)).map fun p => ffma p.1 p.2.1 p.2.2
  | 0x23 => (a.zip b).map fun p => fmax p.1 p.2
  | 0x24 => a.map (actOf c.fn)
  | 0x25 => (rowsOf c a).flatMap softmaxOf
  | 0x26 =>
    let g := if affine then b.take c.row else List.replicate c.row 0x3F800000
    let be := if affine then b.drop c.row else List.replicate c.row 0
    (rowsOf c a).flatMap (normOf c.fn c.param g be)
  | 0x27 => (rowsOf c a).map fun r => if c.fn = 0 then fsum r else r.foldl fmax 0xFF800000
  | 0x28 => (a.zip (List.range a.length)).map fun p => distOf c.fn (p.2 / c.row) (p.2 % c.row) c.shape.1 b p.1
  | _ => a

/-- Formats an operation accepts (R309): INT32 for CONVERT and DIST_FINISH, INT8 for CONVERT. -/
def vuInOk (c : VuCmd) : Bool :=
  decide (2 ≤ c.inF ∧ c.inF ≤ 11) || (c.inF == 12 && (c.op == 0x2A || c.op == 0x28)) || (c.inF == 0 && c.op == 0x2A)

/-- A FUNCTION the operation defines. -/
def vuFnOk (c : VuCmd) : Bool :=
  match c.op with
  | 0x24 => decide (c.fn ≤ 5)
  | 0x26 => decide (c.fn ≤ 2)
  | 0x27 => decide (c.fn ≤ 1)
  | 0x28 => c.fn == 0 || c.fn == 1 || c.fn == 3
  | _ => true

/-- Writes an array of results in the command's output format: the bytes and the NaN results (R304, R309). -/
def vuOut (c : VuCmd) (vs : List W32) : Bytes × Nat :=
  let n := if c.op = 0x27 then vs.length else c.shape.2
  let rows := if c.op = 0x27 then 1 else c.shape.1
  ((encodeArray c.outF 1 rows n (vs.map f32Val) []).1, (vs.filter isNan).length)

/-- A vector unit's command other than OPT_STEP: checks, arithmetic, result and counters. -/
def vuRun (n op : Nat) (s : State) : State :=
  match s.startable .vu n (· == op) with
  | none => s
  | some x =>
    let c := vuCmd x.bytes
    let b := x.bytes
    let sizeIn := if c.inF ≤ 12 then arrayBytes c.inF c.shape.1 c.shape.2 else 0
    let sizeOut := if c.op = 0x27 then arrayBytes c.outF 1 c.shape.1 else arrayBytes c.outF c.shape.1 c.shape.2
    let twoIn := [0x20, 0x21, 0x22, 0x23].contains op
    let affine := op == 0x26 && c.fn != 2 && cmdHandle b 1 != 0
    let sizeB := if twoIn then sizeIn else if affine then 8 * c.row
      else if op = 0x28 ∧ c.fn = 0 then 4 * (c.shape.1 + c.row) else 0
    let ops := (cmdHandle b 0, cmdOffset b 0, sizeIn, false) ::
      ((if sizeB = 0 then [] else [(cmdHandle b 1, cmdOffset b 1, sizeB, false)]) ++ [(cmdHandle b 2, cmdOffset b 2, sizeOut, true)])
    let st := s.engChecks .vu n x false
      (!vuInOk c || !decide (2 ≤ c.outF ∧ c.outF ≤ 11) || !vuFnOk c || (c.rowOp && (c.row == 0 || c.count % c.row != 0) && c.count != 0)
        || (op == 0x28 && c.fn == 3 && c.inF != 12)) ops
    if st ≠ St.ok then s.startCmd .vu n x st true .nothing
    else if c.count = 0 then s.startCmd .vu n x St.ok false .nothing
    else
      let va := widen c.inF c.shape.1 c.shape.2 (s.opRead b 0 sizeIn)
      let rb := s.opRead b 1 sizeB
      let vb := if twoIn then widen c.inF c.shape.1 c.shape.2 rb else widen 5 1 (sizeB / 4) rb
      let vc := if op = 0x22 then widen c.outF c.shape.1 c.shape.2 (s.opRead b 2 sizeOut) else []
      let out := vuOut c (vuResult c va vb vc affine)
      let t := ((s.opUses .vu n ops).opWrite b 2 out.1).bumpBy (engReg .vu n 0 Reg.CD_VU_NAN 0 0) out.2
      (t.bump64 (engReg .vu n 0 Reg.CD_VU_OPS_LO 0 0) (if twoIn then c.count else Config.laneOps op c.count)).startCmd .vu n x St.ok false .whole

/-! ## OPT_STEP (R311 to R313) -/

/-- The header of an optimiser block (Table 8.4). -/
structure OptHead where
  lr : W32
  b1 : W32
  b2 : W32
  eps : W32
  wd : W32
  c1 : W32
  c2 : W32
deriving DecidableEq, Repr

def optHead (b : Bytes) : OptHead :=
  let f (i : Nat) : W32 := w32 (fieldAt b (4 * i) 4)
  ⟨f 0, f 1, f 2, f 3, f 4, f 5, f 6⟩

/-- 0 ≤ x < 1. -/
def unitRange (x : W32) : Bool := (flt 0 x || feq x 0) && flt x 0x3F800000

/-- A header field lies in its range (Table 8.4). -/
def OptHead.ok (h : OptHead) (fn : Nat) : Bool := unitRange h.b1 && (fn == 1 || (unitRange h.b2 && flt 0 h.eps))

/-- One parameter's step: the new first moment, root second moment and weight in FP32 (R313). -/
def optElem (fn : Nat) (h : OptHead) (g m r w : W32) : W32 × W32 × W32 :=
  let one : W32 := 0x3F800000
  let x : W32 × W32 × W32 :=
    if fn = 0 then
      let m' := fadd (fmul h.b1 m) (fmul (fsub one h.b1) g)
      let v := fadd (fmul (fmul h.b2 r) r) (fmul (fmul (fsub one h.b2) g) g)
      (m', fsqrt v, fmul (fmul m' h.c1) (frecip (fadd (fsqrt (fmul v h.c2)) h.eps)))
    else
      let m' := fadd (fmul h.b1 m) g
      (m', r, m')
  (x.1, x.2.1, fsub w (fmul h.lr (fadd x.2.2 (fmul h.wd w))))

/-- A block of an optimiser's arrays: its results as weights (BF16 codes), blocks of m and r (scale, elements), and the
NaNs it counts: 1 where it was skipped, else those of its moments (R305, R313). -/
structure OptBlock where
  w : List Nat
  m : Nat × List Nat
  r : Nat × List Nat
  nans : Nat
deriving DecidableEq, Repr

/-- OPT_STEP over blocks in ascending order, drawing for each weight written. -/
def optBlocks (fn inF : Nat) (h : OptHead) (g w : Bytes) (m r : Bytes) (count : Nat) : Nat → Nat → W64 → List OptBlock × W64
  | 0, _, rng => ([], rng)
  | k + 1, b, rng =>
    let sc := mxScaleAt inF 1 count
    let sm := mxScaleAt 11 1 count
    let is_ := (List.range 32).map (32 * b + ·)
    let gs := is_.map fun i => f32Of (scaleVal (byteAt g (sc + b)) (elemVal inF (byteAt g i)))
    let ms := is_.map fun i => f32Of (scaleVal (byteAt m (sm + b)) (elemVal 11 (byteAt m i)))
    let rs := is_.map fun i => f32Of (scaleVal (byteAt r (sm + b)) (elemVal 11 (byteAt r i)))
    let ws := is_.map fun i => fieldAt w (2 * i) 2
    if byteAt g (sc + b) = 255 || gs.any notFinite || byteAt m (sm + b) = 255 || byteAt r (sm + b) = 255 then
      let keep : OptBlock := ⟨ws, (byteAt m (sm + b), is_.map fun i => byteAt m i), (byteAt r (sm + b), is_.map fun i => byteAt r i), 1⟩
      let rest := optBlocks fn inF h g w m r count k (b + 1) rng
      (keep :: rest.1, rest.2)
    else
      let d := rngDraws 32 rng
      let xs := (gs.zip (ms.zip (rs.zip ws))).map fun p => optElem fn h p.1 p.2.1 p.2.2.1 (w32 (p.2.2.2 * 65536))
      let wn := (xs.zip d.1).map fun p => (bf16.convert 2 (f32Val p.1.2.2) p.2).1
      let em := encodeBlock 11 1 (xs.map fun p => f32Val p.1) []
      let er := encodeBlock 11 1 (xs.map fun p => f32Val p.2.1) []
      let rest := optBlocks fn inF h g w m r count k (b + 1) d.2
      (⟨wn, (em.1, em.2.1), (er.1, er.2.1), em.2.2 + er.2.2⟩ :: rest.1, rest.2)

/-- An MXINT8 array of one row from its blocks (R301). -/
def mxRow (count : Nat) (bs : List (Nat × List Nat)) : Bytes :=
  let body : Bytes := bs.flatMap fun b => b.2.map (BitVec.ofNat 8)
  body ++ List.replicate (mxScaleAt 11 1 count - body.length) 0 ++ bs.map fun b => BitVec.ofNat 8 b.1

/-- OPT_STEP (R311 to R313). A block whose gradients or moments read as NaN or infinite stays as it was and is counted. -/
def optStep (n : Nat) (s : State) : State :=
  match s.startable .vu n (· == 0x29) with
  | none => s
  | some x =>
    let c := vuCmd x.bytes
    let b := x.bytes
    let arr := mxBytes 11 1 c.count
    let mAt := 64
    let rAt := 64 + 64 * ((arr + 63) / 64)
    let sizeG := if c.inF = 6 ∨ c.inF = 7 then mxBytes c.inF 1 c.count else 0
    let h := optHead (s.opRead b 1 64)
    let bad := !(c.inF == 6 || c.inF == 7) || c.outF != 4 || c.count % 32 != 0 || c.row != c.count || decide (1 < c.fn)
    let ops := [(cmdHandle b 0, cmdOffset b 0, sizeG, false), (cmdHandle b 1, cmdOffset b 1, rAt + arr, true),
       (cmdHandle b 2, cmdOffset b 2, 2 * c.count, true)]
    let st := s.engChecks .vu n x false bad ops
    let st := if st = St.ok && !h.ok c.fn then St.range else st
    if st ≠ St.ok then s.startCmd .vu n x st true .nothing
    else if c.count = 0 then s.startCmd .vu n x St.ok false .nothing
    else
      let blk := s.opRead b 1 (rAt + arr)
      let e := s.engine .vu n
      let res := optBlocks c.fn c.inF h (s.opRead b 0 sizeG) (s.opRead b 2 (2 * c.count)) (sliceAt blk mAt arr) (sliceAt blk rAt arr)
        c.count (c.count / 32) 0 e.rng
      let nb := patch (patch blk mAt (mxRow c.count (res.1.map OptBlock.m))) rAt (mxRow c.count (res.1.map OptBlock.r))
      let t := (s.opUses .vu n ops).setEngine .vu n { e with rng := res.2 }
      let t := (t.opWrite b 2 (res.1.flatMap fun k => k.w.flatMap (leBytes 2))).opWrite b 1 nb
      let t := t.bumpBy (engReg .vu n 0 Reg.CD_VU_NAN 0 0) ((res.1.map OptBlock.nans).foldl (· + ·) 0)
      (t.bump64 (engReg .vu n 0 Reg.CD_VU_OPS_LO 0 0) (Config.laneOps 0x29 c.count)).startCmd .vu n x St.ok false .whole

end Sys2Proof.Machine
end

