-- ==== Sys2Proof/Machine/ExecCatalog.lean ====
section
/-! DEFINITION. The commands of the index catalogue (R99 to R143): one meaning a command, each an operation of its unit on the parts it may change. -/

namespace Sys2Proof.Machine

/-- LOAD (R136): Catalogue command LOAD checks a table image, reserves its keys and makes the table LOADING. -/
def execLoad (slot : Nat) (arg0 arg1 arg2 : W32) (s : State) : Host.Outcome State Fault Refusal :=
  .next (s.finish [.slots, .kitty, .kmem, .smem, .idx, .nand, .med, .post, .reg .idx, .reg .cd, .reg .media] (slotCmd .idx slot 1 [(0, arg0), (1, arg1), (2, arg2)] s))

/-- TABLE_LOAD_DONE (R136): Section copying ends; the table is committed at milepost 1 and made LIVE, or freed with FAULT or LENGTH. -/
def execTableLoadDone (slot : Nat) (s : State) : Host.Outcome State Fault Refusal :=
  .next (s.finish [.slots, .kitty, .kmem, .smem, .idx, .nand, .med, .reg .idx, .reg .media] (tableLoadDone slot s))

/-- BUILD (R138): Catalogue command BUILD checks its arguments, makes the table BUILDING and starts clustering and encoding on the named engines. -/
def execBuild (slot : Nat) (arg0 arg1 arg2 arg3 arg4 : W32) (s : State) : Host.Outcome State Fault Refusal :=
  .next (s.finish [.slots, .kitty, .kmem, .smem, .idx, .nand, .med, .post, .reg .idx, .reg .cd, .reg .media] (slotCmd .idx slot 2 [(0, arg0), (1, arg1), (2, arg2), (3, arg3), (4, arg4)] s))

/-- BUILD_DONE (R138): A build ends: the table is committed at milepost 1 and made LIVE, or freed with RANGE. -/
def execBuildDone (slot : Nat) (s : State) : Host.Outcome State Fault Refusal :=
  .next (s.finish [.slots, .kitty, .kmem, .smem, .idx, .nand, .med, .free, .reg .idx, .reg .media] (buildDone slot s))

/-- DROP (R140): Catalogue command DROP makes a LIVE table DROPPING between commit groups and stops its merges and moves. -/
def execDrop (slot : Nat) (arg0 : W32) (s : State) : Host.Outcome State Fault Refusal :=
  .next (s.finish [.slots, .kitty, .kmem, .smem, .idx, .nand, .med, .post, .reg .idx, .reg .cd, .reg .media] (slotCmd .idx slot 3 [(0, arg0)] s))

/-- DROP_FREE (R140): When the last query pinned to a DROPPING table retires, its objects are freed, its keys uncounted and it becomes FREE. -/
def execDropFree (table : Nat) (s : State) : Host.Outcome State Fault Refusal :=
  .next (s.finish [.slots, .idx, .reg .idx] (dropFree table s))

/-- IDX_TBL_SEL (R143): A write selects a table and takes a snapshot of one committed milepost of it. -/
def execIdxTblSel (value : W32) (s : State) : Host.Outcome State Fault Refusal :=
  .next (s.adopt [.reg .idx] (idxTblSel value s))

/-- IDX_LST_SEL_LIST (R143): A write selects a list of the selected table and takes a snapshot of its directory entry. -/
def execIdxLstSelList (value : W32) (s : State) : Host.Outcome State Fault Refusal :=
  .next (s.adopt [.reg .idx] (idxLstSel value s))

end Sys2Proof.Machine
end

