-- ==== Sys2Proof/Machine/ExecEngine.lean ====
section
/-! DEFINITION. The commands of engines, vector units and sequencers (R262 to R318): one meaning a command, each an operation of its unit on the parts it may change. -/

namespace Sys2Proof.Machine

/-- COMMAND_POST (R281): A sequencer's store to bytes 56-63 of a command window posts the command, stalling while the unit's queue is full. -/
def execCommandPost (die sq : Nat) (cls : UnitClass) (unit : Nat) (command : CommandWritten) (s : State) : Host.Outcome State Fault Refusal :=
  .next (s.finish [.host, .eng, .flt, .out, .reg .flt, .reg .cd, .reg .stack] (commandPost die sq cls unit command.bytes command.corrected s))

/-- LOAD_WEIGHTS (R269): A matrix engine fills its shadow weights from a weight tile in the named shape mode. -/
def execLoadWeights (me : Nat) (s : State) : Host.Outcome State Fault Refusal :=
  .next (s.adopt [.bus, .eng, .reg .cd, .reg .stack] (loadWeights me s))

/-- STREAM (R270): A matrix engine streams an activation tile through the array, swapping in the shadow tile when SWAP is set. -/
def execStream (me : Nat) (mismatches : Nat) (s : State) : Host.Outcome State Fault Refusal :=
  .next (s.finish [.host, .bus, .eng, .flt, .out, .reg .flt, .reg .cd, .reg .stack] (stream me mismatches s))

/-- DRAIN (R286): A matrix engine converts a bank to the output format, with rescale where set, and writes it row-major. -/
def execDrain (me : Nat) (s : State) : Host.Outcome State Fault Refusal :=
  .next (s.adopt [.bus, .kmem, .eng, .reg .cd, .reg .stack] (drain me s))

/-- ADD (R288): A vector unit computes C = A + B. -/
def execAdd (vu : Nat) (s : State) : Host.Outcome State Fault Refusal :=
  .next (s.adopt [.bus, .kmem, .eng, .reg .cd, .reg .stack] (vuRun vu 0x20 s))

/-- MUL (R288): A vector unit computes C = A x B. -/
def execMul (vu : Nat) (s : State) : Host.Outcome State Fault Refusal :=
  .next (s.adopt [.bus, .kmem, .eng, .reg .cd, .reg .stack] (vuRun vu 0x21 s))

/-- MAC (R288): A vector unit computes C = C + A x B, fused. -/
def execMac (vu : Nat) (s : State) : Host.Outcome State Fault Refusal :=
  .next (s.adopt [.bus, .kmem, .eng, .reg .cd, .reg .stack] (vuRun vu 0x22 s))

/-- MAX (R310): A vector unit computes C = max(A, B). -/
def execMax (vu : Nat) (s : State) : Host.Outcome State Fault Refusal :=
  .next (s.adopt [.bus, .kmem, .eng, .reg .cd, .reg .stack] (vuRun vu 0x23 s))

/-- ACT (R310): A vector unit applies the activation function selected by FUNCTION. -/
def execAct (vu : Nat) (s : State) : Host.Outcome State Fault Refusal :=
  .next (s.adopt [.bus, .kmem, .eng, .reg .cd, .reg .stack] (vuRun vu 0x24 s))

/-- SOFTMAX_ROW (R310): A vector unit computes the softmax of each row. -/
def execSoftmaxRow (vu : Nat) (s : State) : Host.Outcome State Fault Refusal :=
  .next (s.adopt [.bus, .kmem, .eng, .reg .cd, .reg .stack] (vuRun vu 0x25 s))

/-- NORM_ROW (R310): A vector unit applies layer, RMS or L2 normalisation to each row. -/
def execNormRow (vu : Nat) (s : State) : Host.Outcome State Fault Refusal :=
  .next (s.adopt [.bus, .kmem, .eng, .reg .cd, .reg .stack] (vuRun vu 0x26 s))

/-- REDUCE_ROW (R309): A vector unit sums or takes the maximum of each row. -/
def execReduceRow (vu : Nat) (s : State) : Host.Outcome State Fault Refusal :=
  .next (s.adopt [.bus, .kmem, .eng, .reg .cd, .reg .stack] (vuRun vu 0x27 s))

/-- DIST_FINISH (R318): A vector unit finishes distances from partial products per metric. -/
def execDistFinish (vu : Nat) (s : State) : Host.Outcome State Fault Refusal :=
  .next (s.adopt [.bus, .kmem, .eng, .reg .cd, .reg .stack] (vuRun vu 0x28 s))

/-- OPT_STEP (R313): A vector unit applies one AdamW or SGD update block by block. -/
def execOptStep (vu : Nat) (s : State) : Host.Outcome State Fault Refusal :=
  .next (s.adopt [.bus, .kmem, .eng, .reg .cd, .reg .stack] (optStep vu s))

/-- CONVERT (R309): A vector unit converts A into OUT_FORMAT. -/
def execConvert (vu : Nat) (s : State) : Host.Outcome State Fault Refusal :=
  .next (s.adopt [.bus, .kmem, .eng, .reg .cd, .reg .stack] (vuRun vu 0x2A s))

/-- SKEW (R278): A skew DMA engine writes a pre-skewed activation or weight tile, with sums or scales, from a row-major source. -/
def execSkew (sk : Nat) (s : State) : Host.Outcome State Fault Refusal :=
  .next (s.adopt [.bus, .kmem, .eng, .free, .reg .cd, .reg .stack] (skewTile sk s))

/-- UNIT_COMMAND_COMPLETE (R285): A unit's command completes; it raises its sync counter and writes a completion record, holding while the completion queue is full. -/
def execUnitCommandComplete (cls : UnitClass) (unit : UnitEnd) (s : State) : Host.Outcome State Fault Refusal :=
  .next (s.finish [.kitty, .bus, .host, .eng, .flt, .out, .reg .flt, .reg .cd, .reg .stack] (unitCommandComplete cls unit.unit unit.place unit.mismatches s))

/-- COMPLETION_QUEUE_SPACE (R285): A full completion queue gains room and the held record is written, letting the unit start commands again. -/
def execCompletionQueueSpace (die sq : Nat) (s : State) : Host.Outcome State Fault Refusal :=
  .next (s.adopt [.eng, .reg .cd, .reg .stack] (completionQueueSpace die sq s))

/-- CD_WAIT_TIMEOUT (R283): A ready command still waiting on its sync counter after CD_WAIT_LIMIT completes with TIMEOUT. -/
def execCdWaitTimeout (cls : UnitClass) (unit : Nat) (s : State) : Host.Outcome State Fault Refusal :=
  .next (s.adopt [.kitty, .bus, .eng, .reg .cd, .reg .stack] (cdWaitTimeout cls unit s))

/-- SYNC_COUNTER_ACCESS (R283): A sequencer reads or writes a CD_SYNC counter, taking effect only for groups its owner holds. -/
def execSyncCounterAccess (die sq ctr : Nat) (write : Option W32) (s : State) : Host.Outcome State Fault Refusal :=
  .next (s.adopt [.out, .reg .cd] (syncAccess die sq ctr write s))

/-- SEQUENCER_HALT (R291): A sequencer takes an uncorrectable ECC error or unhandled trap and halts, its unstarted commands completing with ABORTED. -/
def execSequencerHalt (die sq : Nat) (ecc : Bool) (s : State) : Host.Outcome State Fault Refusal :=
  .next (s.finish [.host, .eng, .flt, .out, .reg .flt, .reg .cd, .reg .stack] (sequencerHalt die sq ecc s))

/-- SEQUENCER_ASSIGN (R290): Control-core firmware loads a sequencer's program, assigns its owner, zeroes its sync counter group and starts it. -/
def execSequencerAssign (die sq : Nat) (owner : Owner) (program : Bytes) (s : State) : Host.Outcome State Fault Refusal :=
  .next (s.adopt [.eng, .reg .cd] (sequencerAssign die sq owner program s))

/-- UNIT_CLEAR_DONE (R292): A unit's weights and banks are cleared and it is given to its new owner. -/
def execUnitClearDone (cls : UnitClass) (unit : Nat) (s : State) : Host.Outcome State Fault Refusal :=
  .next (s.adopt [.eng, .free, .reg .cd, .reg .stack] (unitClearDone cls unit s))

end Sys2Proof.Machine
end

