-- ==== Sys2Proof/Machine/ExecFault.lean ====
section
/-! DEFINITION. The commands of faults and drills (R507 to R537): one meaning a command, each an operation of its unit on the parts it may change. -/

namespace Sys2Proof.Machine

/-- FAULT_COUNTER_LEAK (R511): At each multiple of the leak period a fault counter above 0 falls by 1. -/
def execFaultCounterLeak (cls inst : Nat) (s : State) : Host.Outcome State Fault Refusal :=
  .next (s.adopt [.flt] (faultCounterLeak cls inst s))

/-- BANK_SPARE_SWITCH (R515): The copy into the spare completes and the switch takes one SCLK cycle. -/
def execBankSpareSwitch (bank : Nat) (s : State) : Host.Outcome State Fault Refusal :=
  .next (s.adopt [.host, .kitty, .flt, .out, .reg .flt] (bankSpareSwitch bank s))

/-- CORE_WATCHDOG (R520): A control core fails by watchdog or uncorrectable ECC and its services move to the next live core. -/
def execCoreWatchdog (core : Nat) (s : State) : Host.Outcome State Fault Refusal :=
  .next (s.finish [.host, .flt, .out, .reg .flt] (coreWatchdog core s))

/-- STEWARD_HEARTBEAT_LOSS (R521): A steward die's heartbeat is lost and its services move to its partner die, or the node stops serving. -/
def execStewardHeartbeatLoss (steward : Nat) (s : State) : Host.Outcome State Fault Refusal :=
  .next (s.finish [.host, .flt, .out, .reg .flt] (stewardHeartbeatLoss steward s))

/-- DRILL_DUE (R532): A drill schedule entry falls due and injects at the next point, or ends SKIPPED. -/
def execDrillDue (entry : Nat) (s : State) : Host.Outcome State Fault Refusal :=
  .next (s.adopt [.host, .flt, .out, .reg .flt] (drillDue s.linkAlt entry s))

/-- DRILL_END (R534): A drill's recoveries end and it is logged PASS, LATE, FAIL or PREEMPTED. -/
def execDrillEnd (result : DrillResult) (s : State) : Host.Outcome State Fault Refusal :=
  .next (s.adopt [.host, .flt, .out, .reg .flt] (drillEnd s.linkAlt result s))

/-- SET_DRILLS (R536): FLT command SET_DRILLS replaces the whole drill schedule. -/
def execSetDrills (slot : Nat) (arg0 arg1 : W32) (s : State) : Host.Outcome State Fault Refusal :=
  .next (s.finish [.cfg, .host, .slots, .kitty, .flt, .out, .reg .flt] (slotCmd .flt slot 1 [(0, arg0), (1, arg1)] s))

/-- DRILL_NOW (R536): FLT command DRILL_NOW queues one drill of the named point, due at once. -/
def execDrillNow (slot : Nat) (arg0 : W32) (s : State) : Host.Outcome State Fault Refusal :=
  .next (s.finish [.cfg, .host, .slots, .kitty, .flt, .out, .reg .flt] (slotCmd .flt slot 2 [(0, arg0)] s))

/-- RETIRE (R536): FLT command RETIRE declares an instance's fault lasting and runs its class action. -/
def execRetire (slot : Nat) (arg0 : W32) (s : State) : Host.Outcome State Fault Refusal :=
  .next (s.finish [.cfg, .host, .slots, .kitty, .flt, .out, .reg .flt] (slotCmd .flt slot 3 [(0, arg0)] s))

/-- FLT_LOG_READ (R510): A write records the last processed fault log record, from which unread records are counted. -/
def execFltLogRead (value : W32) (s : State) : Host.Outcome State Fault Refusal :=
  .next (s.adopt [.reg .flt] (fltLogRead value s))

/-- FLT_LOG_SEL (R537): A write selects a fault log record by SEQ and takes a snapshot of it. -/
def execFltLogSel (value : W32) (s : State) : Host.Outcome State Fault Refusal :=
  .next (s.adopt [.reg .flt] (fltLogSel value s))

/-- FLT_RET_SEL (R537): A write selects a class and word and takes a snapshot of its retirement map. -/
def execFltRetSel (value : W32) (s : State) : Host.Outcome State Fault Refusal :=
  .next (s.adopt [.reg .flt] (fltRetSel value s))

/-- FLT_CNT_SEL (R537): A write selects a class and instance and takes a snapshot of its fault counter. -/
def execFltCntSel (value : W32) (s : State) : Host.Outcome State Fault Refusal :=
  .next (s.adopt [.reg .flt] (fltCntSel value s))

/-- FLT_DRILL_PT_SEL (R537): A write selects a drill point and takes a snapshot of its last outcome. -/
def execFltDrillPtSel (value : W32) (s : State) : Host.Outcome State Fault Refusal :=
  .next (s.adopt [.reg .flt] (fltDrillPtSel value s))

/-- DIE_FAULT (R507): A die detects a fault of its own: a link-die fault (LD_FAIL), a media-die PHY or LDPC fault (MD_FAIL), a compute-die watchdog (CD_FAULT) or a store-die fault (SD_FAIL), declared lasting at once. -/
def execDieFault (kind : DieFaultKind) (s : State) : Host.Outcome State Fault Refusal :=
  .next (s.finish [.host, .link, .flt, .out, .reg .flt] (dieFault kind s))

end Sys2Proof.Machine
end

