-- ==== Sys2Proof/Machine/ExecGather.lean ====
section
/-! DEFINITION. The commands of gather engines and embedding tables (R348 to R370): one meaning a command, each an operation of its unit on the parts it may change. -/

namespace Sys2Proof.Machine

/-- GATHER (R354): A gather engine checks the command, pins the table milepost and issues row reads in position order, coding dropped positions. -/
def execGather (ge : Nat) (s : State) : Host.Outcome State Fault Refusal :=
  .next (s.finish [.slots, .kitty, .bus, .kmem, .smem, .eng, .emb, .nand, .med, .post, .reg .cd, .reg .media, .reg .stack] (gatherStart false ge s))

/-- SCATTER (R361): A gather engine writes source rows to their table rows in ascending position order. -/
def execScatter (ge : Nat) (s : State) : Host.Outcome State Fault Refusal :=
  .next (s.finish [.slots, .kitty, .bus, .kmem, .smem, .eng, .emb, .nand, .med, .post, .reg .cd, .reg .media, .reg .stack] (gatherStart true ge s))

/-- ROW_READ_DONE (R358): An outstanding row read completes and the row is written to every coalesced position. -/
def execRowReadDone (ge read : Nat) (readable : RowAnswer) (s : State) : Host.Outcome State Fault Refusal :=
  .next (s.finish [.host, .slots, .bus, .kmem, .eng, .emb, .med, .post, .flt, .out, .reg .flt, .reg .cd, .reg .media, .reg .stack] (rowReadDone ge read readable.readable readable.parity s))

/-- EMB_SKEW_WINDOW_CLOSE (R362): A STACK_EMB_SKEW_WIN window closes; shard counts and hot-row rankings are published and reset. -/
def execEmbSkewWindowClose (s : State) : Host.Outcome State Fault Refusal :=
  .next (s.adopt [.emb] (embWindowClose s))

/-- EMB_CREATE (R349): EMB command EMB_CREATE checks a descriptor and makes an embedding table LIVE at milepost 1. -/
def execEmbCreate (slot : Nat) (arg0 arg1 : W32) (s : State) : Host.Outcome State Fault Refusal :=
  .next (s.finish [.slots, .kitty, .bus, .kmem, .smem, .eng, .emb, .nand, .med, .post, .reg .idx, .reg .cd, .reg .media, .reg .stack] (slotCmd .emb slot 1 [(0, arg0), (1, arg1)] s))

/-- EMB_DROP (R349): EMB command EMB_DROP makes a table DROPPING and waits for its gathers and scatters to end before freeing it. -/
def execEmbDrop (slot : Nat) (arg0 : W32) (s : State) : Host.Outcome State Fault Refusal :=
  .next (s.finish [.slots, .kitty, .bus, .kmem, .smem, .eng, .emb, .nand, .med, .post, .reg .idx, .reg .cd, .reg .media, .reg .stack] (slotCmd .emb slot 2 [(0, arg0)] s))

/-- ROW_MOVE_STACK (R365): EMB command ROW_MOVE_STACK copies rows into spare slots, forwarding scatters during the copy. -/
def execRowMoveStack (slot : Nat) (arg0 arg1 arg2 : W32) (s : State) : Host.Outcome State Fault Refusal :=
  .next (s.finish [.slots, .kitty, .bus, .kmem, .smem, .eng, .emb, .nand, .med, .post, .reg .idx, .reg .cd, .reg .media, .reg .stack] (slotCmd .emb slot 3 [(0, arg0), (1, arg1), (2, arg2)] s))

/-- ROW_MOVE_COMMIT (R365): With forwarded writes acknowledged, HOT entries commit at the next milepost and held scatters are released onto the slots. -/
def execRowMoveCommit (move : Nat) (s : State) : Host.Outcome State Fault Refusal :=
  .next (s.finish [.slots, .kitty, .bus, .kmem, .smem, .eng, .emb, .nand, .med, .post, .reg .cd, .reg .media, .reg .stack] (rowMoveCommit move s))

/-- ROW_MOVE_SEAT (R367): EMB command ROW_MOVE_SEAT starts moving rows to another seat by the phases of a list move. -/
def execRowMoveSeat (slot : Nat) (arg0 arg1 arg2 : W32) (s : State) : Host.Outcome State Fault Refusal :=
  .next (s.finish [.slots, .kitty, .bus, .kmem, .smem, .eng, .emb, .nand, .med, .post, .reg .idx, .reg .cd, .reg .media, .reg .stack] (slotCmd .emb slot 4 [(0, arg0), (1, arg1), (2, arg2)] s))

/-- ROW_MOVE_CANCEL (R367): EMB command ROW_MOVE_CANCEL aborts a row move, leaving rows at the source. -/
def execRowMoveCancel (slot : Nat) (arg2 : W32) (s : State) : Host.Outcome State Fault Refusal :=
  .next (s.finish [.slots, .kitty, .bus, .kmem, .smem, .eng, .emb, .nand, .med, .post, .reg .idx, .reg .cd, .reg .media, .reg .stack] (slotCmd .emb slot 5 [(2, arg2)] s))

/-- ROW_HOLD_TIMEOUT (R366): A scatter held longer than IDX_UPD_WAIT is given code 4 and status FAULT. -/
def execRowHoldTimeout (ge : Nat) (s : State) : Host.Outcome State Fault Refusal :=
  .next (s.finish [.slots, .bus, .kmem, .eng, .emb, .post, .reg .cd, .reg .stack] (rowHoldTimeout ge s))

/-- STACK_EMB_TBL_SEL (R370): A write selects an embedding table and takes a snapshot of it. -/
def execStackEmbTblSel (value : W32) (s : State) : Host.Outcome State Fault Refusal :=
  .next (s.adopt [.reg .stack] (embTblSel value s))

/-- STACK_EMB_SHARD_SEL (R370): A write selects a shard and takes a snapshot of its window counts. -/
def execStackEmbShardSel (value : W32) (s : State) : Host.Outcome State Fault Refusal :=
  .next (s.adopt [.reg .stack] (embShardSel value s))

/-- STACK_EMB_HOT_SEL (R370): A write selects a quadrant and rank and takes a snapshot of the hot-row entry. -/
def execStackEmbHotSel (value : W32) (s : State) : Host.Outcome State Fault Refusal :=
  .next (s.adopt [.reg .stack] (embHotSel value s))

/-- STACK_EMB_OWN_SEL (R370): A write selects an owner and takes a snapshot of its drop counters. -/
def execStackEmbOwnSel (value : W32) (s : State) : Host.Outcome State Fault Refusal :=
  .next (s.adopt [.reg .stack] (embOwnSel value s))

end Sys2Proof.Machine
end

