-- ==== Sys2Proof/Machine/ExecHost.lean ====
section
/-! DEFINITION. The commands of the host interface (R574 to R608): one meaning a command, each an operation of its unit on the parts it may change. -/

namespace Sys2Proof.Machine

/-- ECHO (R593): The host service returns words 2-15 unchanged. -/
def execEcho (core : Nat) (s : State) : Host.Outcome State Fault Refusal :=
  .next (s.adopt [.host, .out, .reg .mbx] (hostEcho core s))

/-- BLOCK_CMD (R594): The host service runs a command in the named family's slot as the system and replies with its result. -/
def execBlockCmd (core : Nat) (s : State) : Host.Outcome State Fault Refusal :=
  .next (s.finish servedParts (blockCmd core s))

/-- ATTEST (R596): The host service writes a signed attestation report into transfer slots and replies. -/
def execAttest (core : Nat) (s : State) : Host.Outcome State Fault Refusal :=
  .next (s.adopt [.host, .out, .reg .mbx] (hostAttest core s))

/-- MAILBOX_POST (R584): A write covering word 15 of MBX_H_TX posts the assembled message to the target core, or is rejected. -/
def execMailboxPost (h : Nat) (firstWord : Nat) (words : List W32) (s : State) : Host.Outcome State Fault Refusal :=
  .next (s.adopt [.host, .out, .reg .mbx] (mailboxPost h firstWord words s))

/-- CORE_MAILBOX_POST (R582): A control core posts a message or doorbell to a host mailbox or another core's mailbox. -/
def execCoreMailboxPost (core : Nat) (post : CorePost) (s : State) : Host.Outcome State Fault Refusal :=
  .next (s.adopt [.host, .out, .reg .mbx] (corePost core post s))

/-- CORE_MAILBOX_POP (R588): A control core removes the head of its mailbox; an emptied FIFO raises its senders' empty interrupts. -/
def execCoreMailboxPop (core : Nat) (fromHost : MailPop) (s : State) : Host.Outcome State Fault Refusal :=
  .next (s.finish [.host, .flt, .out, .reg .mbx, .reg .flt] (coreTakes core fromHost.fromHost fromHost.corrected s))

/-- MBX_H_POP (R586): Writing 1 removes the head message of a host mailbox. -/
def execMbxHPop (h : Nat) (value : W32) (s : State) : Host.Outcome State Fault Refusal :=
  .next (s.adopt [.host, .out, .reg .mbx] (mbxPop h value s))

/-- MBX_H_RING (R587): Writing 1s sets doorbells of the target control core. -/
def execMbxHRing (h : Nat) (value : W32) (s : State) : Host.Outcome State Fault Refusal :=
  .next (s.adopt [.host, .out, .reg .mbx] (mbxRing h value s))

/-- MBX_H_CTL_RESET (R589): Writing 1 resets a host mailbox as receiver, notifying senders with ABORTED. -/
def execMbxHCtlReset (h : Nat) (value : W32) (s : State) : Host.Outcome State Fault Refusal :=
  .next (s.adopt [.host, .out, .reg .mbx] (mbxCtl h value s))

/-- MBX_H_REJECTS (R585): A read returns the rejected post count and clears it. -/
def execMbxHRejects (h : Nat) (s : State) : Host.Outcome State Fault Refusal :=
  .next (s.adopt [.out, .reg .mbx] (mbxRejects h s))

/-- MBX_H_ABORT_INFO (R589): A read returns the abort information and clears it. -/
def execMbxHAbortInfo (h : Nat) (s : State) : Host.Outcome State Fault Refusal :=
  .next (s.adopt [.out, .reg .mbx] (mbxAbortInfo h s))

/-- IRQ_STATUS_WRITE (R581): A write to an interrupt status or mask register sends a new MSI-X message when the source stays asserted. -/
def execIrqStatusWrite (r : IrqReg) (value : W32) (s : State) : Host.Outcome State Fault Refusal :=
  .next (s.adopt [.host, .out, .reg .node, .reg .mbx, .reg .clk, .reg .flt] (irqStatusWrite r value s))

/-- MSIX_UNMASK (R581): Unmasking a vector with its Pending Bit set sends the message while the source is asserted. -/
def execMsixUnmask (vector : Nat) (s : State) : Host.Outcome State Fault Refusal :=
  .next (s.adopt [.host, .out, .reg .node] (msixUnmask vector s))

/-- NODE_LTC_LO (R602): A read of NODE_LTC_LO returns LTC bits 31:0 and latches bits 63:32. -/
def execNodeLtcLo (s : State) : Host.Outcome State Fault Refusal :=
  .next (s.adopt [.out, .reg .node] (nodeLtcLo s))

/-- NODE_DIE_SEL (R607): A write selects a die index and takes a snapshot of its identity record. -/
def execNodeDieSel (value : W32) (s : State) : Host.Outcome State Fault Refusal :=
  .next (s.adopt [.reg .node] (dieSel value s))

/-- PCIE_RESET (R577): A Function Level Reset, hot reset or link loss resets PCIe state and all host mailboxes without restarting the node. -/
def execPcieReset (kind : PcieReset) (s : State) : Host.Outcome State Fault Refusal :=
  .next (s.adopt [.host, .out, .reg .node, .reg .mbx] (pcieReset kind s))

end Sys2Proof.Machine
end

