-- ==== Sys2Proof/Machine/ExecKitty.lean ====
section
/-! DEFINITION. The commands of the Kitty (R53 to R98): one meaning a command, each an operation of its unit on the parts it may change. -/

namespace Sys2Proof.Machine

/-- REGION_ACCESS (R61): A unit's access by region handle and offset is checked and translated by its source port through the region map, or completed unissued with DENIED, RANGE or NOT_OWNER. -/
def execRegionAccess (a : Access) (s : State) : Host.Outcome State Fault Refusal :=
  .next (s.finish [.host, .xp, .flt, .out, .reg .flt, .reg .kitty, .reg .stack] (countSpilledRead a (accessRegion a s)))

/-- BANK_ARBITRATION (R76): In each SCLK cycle a bank serves one access, trump classes first within their caps, then the weighted group by credits. -/
def execBankArbitration (bank : Nat) (s : State) : Host.Outcome State Fault Refusal :=
  .next (s.finish [.host, .xp, .kitty, .bus, .kmem, .flt, .out, .reg .flt, .reg .kitty] (arbitrate bank s))

/-- ALLOC (R64): Region command ALLOC checks and allocates a region of units under its placement and returns its handle. -/
def execAlloc (slot : Nat) (arg0 arg1 arg2 : W32) (s : State) : Host.Outcome State Fault Refusal :=
  .next (s.finish [.slots, .kitty, .bus, .kmem, .quota, .out, .reg .kitty, .reg .sched] (slotCmd .kitty slot 1 [(0, arg0), (1, arg1), (2, arg2)] s))

/-- FREE (R68): Region command FREE invalidates the handle at once, drains issued accesses and hands the units to scrub. -/
def execFree (slot : Nat) (arg2 : W32) (s : State) : Host.Outcome State Fault Refusal :=
  .next (s.finish [.slots, .kitty, .bus, .kmem, .quota, .out, .reg .kitty, .reg .sched] (slotCmd .kitty slot 2 [(2, arg2)] s))

/-- TRANSFER (R66): Region command TRANSFER moves ownership and the quota charge to a new owner. -/
def execTransfer (slot : Nat) (arg1 arg2 : W32) (s : State) : Host.Outcome State Fault Refusal :=
  .next (s.finish [.slots, .kitty, .bus, .kmem, .quota, .out, .reg .kitty, .reg .sched] (slotCmd .kitty slot 3 [(1, arg1), (2, arg2)] s))

/-- RESIZE (R95): Region command RESIZE adds units at the tail or removes them from the tail, with the page rules of spill regions. -/
def execResize (slot : Nat) (arg0 arg2 : W32) (s : State) : Host.Outcome State Fault Refusal :=
  .next (s.finish [.slots, .kitty, .bus, .kmem, .quota, .out, .reg .kitty, .reg .sched] (slotCmd .kitty slot 4 [(0, arg0), (2, arg2)] s))

/-- RCMD_COMPLETE (R67): A region command completes once every source port on every die has dropped its stale copy of the region map. -/
def execRcmdComplete (slot : Nat) (s : State) : Host.Outcome State Fault Refusal :=
  .next (s.finish [.slots, .kitty, .bus, .kmem, .quota, .out, .reg .kitty, .reg .sched] (rcmdComplete slot s))

/-- UNIT_SCRUB_DONE (R62): A freed unit finishes its scrub to zero in class W7 and returns to the free pool. -/
def execUnitScrubDone (unit : Nat) (s : State) : Host.Outcome State Fault Refusal :=
  .next (s.adopt [.kitty, .bus, .kmem] (unitScrubDone unit s))

/-- QUOTA_EVICT (R72): While a holder exceeds its Kitty or KV quota, the node spills its oldest sealed pages at KITTY_EVICT_RATE per 10,000 LTC units and returns emptied units. -/
def execQuotaEvict (holder : Owner) (s : State) : Host.Outcome State Fault Refusal :=
  .next (s.adopt [.kitty, .bus, .reg .kitty] (quotaEvict holder s))

/-- EXPAND (R87): A tile transfer expands a coded stack tile into a region after its checks, completing with FAULT on a codec error. -/
def execExpand (queue : Nat) (domain : Owner) (d : TileDesc) (ecc : EccOutcome) (s : State) : Host.Outcome State Fault Refusal :=
  .next (s.finish [.host, .bus, .kmem, .tiles, .flt, .out, .free, .reg .flt, .reg .kitty, .reg .stack] (tileExpand queue domain d ecc s))

/-- COMPRESS (R86): A tile transfer compresses region blocks into a stack tile, writing blocks raw where coding would not fit. -/
def execCompress (queue : Nat) (domain : Owner) (d : TileDesc) (s : State) : Host.Outcome State Fault Refusal :=
  .next (s.adopt [.bus, .smem, .tiles, .reg .kitty, .reg .stack] (tileCompress queue domain d s))

/-- COPY (R81): A tile transfer copies lines from one region to another after its checks. -/
def execCopy (queue : Nat) (domain : Owner) (d : TileDesc) (s : State) : Host.Outcome State Fault Refusal :=
  .next (s.adopt [.bus, .kmem, .tiles, .reg .kitty, .reg .stack] (tileCopy queue domain d s))

/-- FETCH_RAW (R81): A tile transfer copies raw lines from stacked memory into a region. -/
def execFetchRaw (queue : Nat) (domain : Owner) (d : TileDesc) (ecc : EccOutcome) (s : State) : Host.Outcome State Fault Refusal :=
  .next (s.finish [.host, .bus, .kmem, .tiles, .flt, .out, .reg .flt, .reg .kitty, .reg .stack] (tileFetchRaw queue domain d ecc s))

/-- STORE_RAW (R81): A tile transfer copies raw lines from a region into stacked memory. -/
def execStoreRaw (queue : Nat) (domain : Owner) (d : TileDesc) (s : State) : Host.Outcome State Fault Refusal :=
  .next (s.adopt [.bus, .smem, .tiles, .reg .kitty, .reg .stack] (tileStoreRaw queue domain d s))

/-- TILE_TRANSFER_COMPLETE (R82): A tile transfer completes once all its writes are acknowledged, writes STATUS and notifies the issuer when asked. -/
def execTileTransferComplete (queue : Nat) (id : Nat) (s : State) : Host.Outcome State Fault Refusal :=
  .next (s.adopt [.kitty, .bus, .tiles, .out] (tileComplete queue id s))

/-- PAGE_OPEN (R91): Page command OPEN finds a frame by free frame, new unit or spill of the oldest sealed page and makes the page OPEN. -/
def execPageOpen (domain : Owner) (handle : W16) (page : Nat) (s : State) : Host.Outcome State Fault Refusal :=
  .next (s.adopt [.kitty, .quota, .out, .reg .sched] (pageOpen domain handle page (s.controlMsg handle)))

/-- PAGE_SEAL (R90): Page command SEAL makes an OPEN page SEALED and records the LTC. -/
def execPageSeal (domain : Owner) (handle : W16) (page : Nat) (s : State) : Host.Outcome State Fault Refusal :=
  .next (s.adopt [.kitty, .out] (pageSeal domain handle page (s.controlMsg handle)))

/-- PAGE_RECALL (R90): Page command RECALL finds a frame for a SPILLED page and starts expanding its slot into it. -/
def execPageRecall (domain : Owner) (handle : W16) (page : PageRecalled) (s : State) : Host.Outcome State Fault Refusal :=
  .next (s.adopt [.kitty, .quota, .out, .reg .sched, .reg .stack] (pageRecall domain handle page.page page.prefetch (s.controlMsg handle)))

/-- PAGE_RECALL_DONE (R90): The slot of a recalled page is expanded and the page becomes SEALED with its original seal time. -/
def execPageRecallDone (handle : W16) (page : Nat) (s : State) : Host.Outcome State Fault Refusal :=
  .next (s.adopt [.kitty, .bus, .kmem, .out, .reg .kitty] (pageRecallDone handle page s))

/-- PAGE_RELEASE (R94): Page command RELEASE frees the page's frame and makes it FREE, waiting for a spill in progress to end. -/
def execPageRelease (domain : Owner) (handle : W16) (page : Nat) (s : State) : Host.Outcome State Fault Refusal :=
  .next (s.adopt [.kitty, .out] (pageRelease domain handle page (s.controlMsg handle)))

/-- PAGE_SPILL_DONE (R94): A spill's slot is written, and in the same cycle the page becomes SPILLED and its frame free. -/
def execPageSpillDone (handle : W16) (page : Nat) (s : State) : Host.Outcome State Fault Refusal :=
  .next (s.adopt [.kitty, .bus, .smem, .out, .reg .kitty] (pageSpillDone handle page s))

/-- KITTY_RGN_SEL (R98): A write selects a region and takes a snapshot of it. -/
def execKittyRgnSel (value : W32) (s : State) : Host.Outcome State Fault Refusal :=
  .next (s.adopt [.reg .kitty] (rgnSel value s))

/-- KITTY_QUOTA_SEL (R98): A write selects an owner and takes a snapshot of its Kitty quota and use. -/
def execKittyQuotaSel (value : W32) (s : State) : Host.Outcome State Fault Refusal :=
  .next (s.adopt [.reg .kitty] (kquotaSel value s))

/-- KITTY_CLS_SEL (R97): A write selects a store die and class and takes a snapshot of the class counters. -/
def execKittyClsSel (value : W32) (s : State) : Host.Outcome State Fault Refusal :=
  .next (s.adopt [.reg .kitty] (clsSel value s))

end Sys2Proof.Machine
end

