-- ==== Sys2Proof/Machine/ExecKv.lean ====
section
/-! DEFINITION. The commands of placement, prefix trees and the KV service (R319 to R347): one meaning a command, each an operation of its unit on the parts it may change. -/

namespace Sys2Proof.Machine

/-- CREATE (R324): STACK command CREATE checks a placement descriptor and registers it under the lowest free number. -/
def execCreate (slot : Nat) (arg0 arg1 : W32) (s : State) : Host.Outcome State Fault Refusal :=
  .next (s.finish [.slots, .kitty, .bus, .pds, .quota, .kv, .out, .reg .sched, .reg .stack] (slotCmd .pcmd slot 1 [(0, arg0), (1, arg1)] s))

/-- PD_FREE (R324): STACK command FREE removes a placement descriptor not still named by a table, spill region or tree. -/
def execPdFree (slot : Nat) (arg0 : W32) (s : State) : Host.Outcome State Fault Refusal :=
  .next (s.finish [.slots, .kitty, .bus, .pds, .quota, .kv, .out, .reg .sched, .reg .stack] (slotCmd .pcmd slot 2 [(0, arg0)] s))

/-- TREE_CREATE (R334): STACK command TREE_CREATE allocates a prefix tree region bound to a spill region. -/
def execTreeCreate (slot : Nat) (arg0 arg2 arg3 : W32) (s : State) : Host.Outcome State Fault Refusal :=
  .next (s.finish [.slots, .kitty, .bus, .pds, .quota, .kv, .out, .reg .sched, .reg .stack] (slotCmd .pcmd slot 3 [(0, arg0), (2, arg2), (3, arg3)] s))

/-- TREE_FREE (R342): STACK command TREE_FREE waits until every node has REFS 0, then releases the tree's pages and region. -/
def execTreeFree (slot : Nat) (arg0 : W32) (s : State) : Host.Outcome State Fault Refusal :=
  .next (s.finish [.slots, .kitty, .bus, .pds, .quota, .kv, .out, .reg .sched, .reg .stack] (slotCmd .pcmd slot 4 [(0, arg0)] s))

/-- KV_RING_POLL (R337): The KV service examines a tree's request rings at least every STACK_KV_POLL LTC units, serving one request at a time. -/
def execKvRingPoll (region : Nat) (s : State) : Host.Outcome State Fault Refusal :=
  .next (s.adopt [.kitty, .bus, .kmem, .kv, .reg .cd] (kvRingPoll region s))

/-- LOOKUP (R339): A KV request LOOKUP walks offered blocks from the root, referencing matched nodes. -/
def execLookup (region : Nat) (s : State) : Host.Outcome State Fault Refusal :=
  .next (s.adopt [.kitty, .bus, .kmem, .kv, .reg .cd, .reg .stack] (kvLookup region s))

/-- INSERT (R340): A KV request INSERT enters one sealed block as a node, or returns the existing node with DUP. -/
def execInsert (region : Nat) (s : State) : Host.Outcome State Fault Refusal :=
  .next (s.adopt [.kitty, .bus, .kmem, .kv, .out, .reg .cd, .reg .stack] (kvInsert region s))

/-- UNREF (R342): A KV request UNREF lowers the REFS of each named node, skipping bad indices. -/
def execUnref (region : Nat) (s : State) : Host.Outcome State Fault Refusal :=
  .next (s.finish [.slots, .kitty, .bus, .kmem, .pds, .quota, .kv, .out, .reg .cd, .reg .sched, .reg .stack] (kvUnref idxNames region s))

/-- STACK_PD_SEL (R347): A write selects a placement descriptor and takes a snapshot of it. -/
def execStackPdSel (value : W32) (s : State) : Host.Outcome State Fault Refusal :=
  .next (s.adopt [.reg .stack] (stackPdSel value s))

/-- STACK_TREE_SEL (R347): A write selects a spill region and takes a snapshot of its tree. -/
def execStackTreeSel (value : W32) (s : State) : Host.Outcome State Fault Refusal :=
  .next (s.adopt [.reg .stack] (stackTreeSel value s))

end Sys2Proof.Machine
end

