-- ==== Sys2Proof/Machine/ExecLend.lean ====
section
/-! DEFINITION. The commands of lending (R479 to R506): one meaning a command, each an operation of its unit on the parts it may change. -/

namespace Sys2Proof.Machine

/-- FORM (R483): LEND command FORM checks a composition descriptor, moves cleared units and queues to it and allocates its control region. -/
def execForm (slot : Nat) (arg0 arg1 : W32) (s : State) : Host.Outcome State Fault Refusal :=
  .next (s.finish [.slots, .kitty, .bus, .kmem, .smem, .quota, .sched, .qry, .eng, .emb, .nand, .lend, .med, .post, .reg .qry, .reg .cd, .reg .media, .reg .lend, .reg .stack] (slotCmd .lend slot 1 [(0, arg0), (1, arg1)] s))

/-- CHANGE (R484): LEND command CHANGE alters a live composition's units, quotas and links. -/
def execChange (slot : Nat) (arg0 arg1 : W32) (s : State) : Host.Outcome State Fault Refusal :=
  .next (s.finish [.slots, .kitty, .bus, .kmem, .smem, .quota, .sched, .qry, .eng, .emb, .nand, .lend, .med, .post, .reg .qry, .reg .cd, .reg .media, .reg .lend, .reg .stack] (slotCmd .lend slot 2 [(0, arg0), (1, arg1)] s))

/-- COMPOSITION_NOTICE (R485): A FORM or CHANGE is applied; the status block is written and NOTICE_SYNC raised. -/
def execCompositionNotice (comp : Nat) (s : State) : Host.Outcome State Fault Refusal :=
  .next (s.finish [.slots, .kitty, .kmem, .lend, .reg .cd, .reg .lend] (compositionNotice comp s))

/-- RECLAIM (R500): LEND command RECLAIM halts a composition, drops the open step and keeps pushing ended steps until secured or deadline. -/
def execReclaim (slot : Nat) (arg0 arg2 : W32) (s : State) : Host.Outcome State Fault Refusal :=
  .next (s.finish [.slots, .kitty, .bus, .kmem, .smem, .quota, .sched, .qry, .eng, .emb, .nand, .lend, .med, .post, .reg .qry, .reg .cd, .reg .media, .reg .lend, .reg .stack] (slotCmd .lend slot 3 [(0, arg0), (2, arg2)] s))

/-- RECLAIM_DEADLINE (R500): The LTC reaches the reclaim deadline D, CLOSE is sent and the units and regions are returned. -/
def execReclaimDeadline (comp : Nat) (s : State) : Host.Outcome State Fault Refusal :=
  .next (s.finish [.bus, .eng, .emb, .lend, .post, .reg .cd, .reg .stack] (reclaimDeadline comp s))

/-- RECLAIM_DONE (R500): The composition's units are cleared and returned, its regions freed, and it reads RECLAIMED. -/
def execReclaimDone (comp : Nat) (s : State) : Host.Outcome State Fault Refusal :=
  .next (s.finish [.slots, .kitty, .bus, .quota, .sched, .lend, .out, .reg .lend] (reclaimDone comp s))

/-- KEEP_OPEN (R492): LEND command KEEP_OPEN opens a keep for a pusher's composition. -/
def execKeepOpen (slot : Nat) (arg0 arg1 : W32) (s : State) : Host.Outcome State Fault Refusal :=
  .next (s.finish [.slots, .kitty, .bus, .kmem, .smem, .quota, .sched, .qry, .eng, .emb, .nand, .lend, .med, .post, .reg .qry, .reg .cd, .reg .media, .reg .lend, .reg .stack] (slotCmd .lend slot 4 [(0, arg0), (1, arg1)] s))

/-- KEEP_CLOSE (R492): LEND command KEEP_CLOSE closes a keep. -/
def execKeepClose (slot : Nat) (arg0 : W32) (s : State) : Host.Outcome State Fault Refusal :=
  .next (s.finish [.slots, .kitty, .bus, .kmem, .smem, .quota, .sched, .qry, .eng, .emb, .nand, .lend, .med, .post, .reg .qry, .reg .cd, .reg .media, .reg .lend, .reg .stack] (slotCmd .lend slot 5 [(0, arg0)] s))

/-- RESTORE (R492): LEND command RESTORE pushes a keep's secured step to a named endpoint. -/
def execRestore (slot : Nat) (arg0 arg1 : W32) (s : State) : Host.Outcome State Fault Refusal :=
  .next (s.finish [.slots, .kitty, .bus, .kmem, .smem, .quota, .sched, .qry, .eng, .emb, .nand, .lend, .med, .post, .reg .qry, .reg .cd, .reg .media, .reg .lend, .reg .stack] (slotCmd .lend slot 6 [(0, arg0), (1, arg1)] s))

/-- STEP_BEGIN (R487): A push ring STEP_BEGIN checks its step number and waits until the secured step is at least n - S. -/
def execStepBegin (comp : Nat) (s : State) : Host.Outcome State Fault Refusal :=
  .next (s.adopt [.kitty, .kmem, .lend, .reg .cd] (stepBegin comp s))

/-- STEP_BEGIN_RELEASE (R487): The secured step reaches n - S and a waiting STEP_BEGIN completes. -/
def execStepBeginRelease (comp : Nat) (s : State) : Host.Outcome State Fault Refusal :=
  .next (s.adopt [.kitty, .kmem, .lend, .reg .cd] (stepBeginRelease comp s))

/-- PUSH (R488): A push ring PUSH copies an object into the push buffer in W6, waiting for space. -/
def execPush (comp : Nat) (s : State) : Host.Outcome State Fault Refusal :=
  .next (s.finish [.kitty, .kmem, .smem, .nand, .lend, .med, .post, .reg .cd, .reg .media] (push comp s))

/-- STEP_END (R489): A push ring STEP_END closes a step with the objects pushed in it. -/
def execStepEnd (comp : Nat) (s : State) : Host.Outcome State Fault Refusal :=
  .next (s.finish [.kitty, .kmem, .smem, .nand, .lend, .med, .post, .reg .cd, .reg .media] (stepEnd comp s))

/-- STATE_PUSH (R492): A keeper receives a STATE_PUSH item and writes, secures or refuses it, answering STATE_ACK. -/
def execStatePush (m : Msg) (s : State) : Host.Outcome State Fault Refusal :=
  .next (s.finish [.kitty, .kmem, .smem, .link, .nand, .lend, .med, .post, .reg .media, .reg .lend] (statePush m (s.took m)))

/-- STATE_ACK (R494): A pusher receives STATE_ACK, releases the shadow when it outranks the offer, and pushes the next items. -/
def execStateAck (m : Msg) (s : State) : Host.Outcome State Fault Refusal :=
  .next (s.finish [.kitty, .bus, .kmem, .smem, .link, .eng, .emb, .nand, .lend, .med, .post, .reg .cd, .reg .media, .reg .stack] (stateAck m (s.took m)))

/-- HANDOFF_TIMEOUT (R495): No releasing acknowledgement within LEND_HANDOFF_TO; the item is re-pushed under the next ownership number. -/
def execHandoffTimeout (comp : Nat) (s : State) : Host.Outcome State Fault Refusal :=
  .next (s.finish [.kitty, .bus, .kmem, .smem, .eng, .emb, .nand, .lend, .med, .post, .reg .cd, .reg .media, .reg .stack] (handoffTimeout comp s))

/-- KEEPER_PROBE (R498): Every LEND_PROBE during DETOUR a PROBE is sent to the keeper. -/
def execKeeperProbe (comp : Nat) (s : State) : Host.Outcome State Fault Refusal :=
  .next (s.finish [.lend, .post] (keeperProbe comp s))

/-- LEND_C_SEL (R506): A write selects a composition and takes a snapshot of it. -/
def execLendCSel (value : W32) (s : State) : Host.Outcome State Fault Refusal :=
  .next (s.adopt [.reg .lend] (lendCSel value s))

/-- LEND_K_SEL (R506): A write selects a keep and takes a snapshot of it. -/
def execLendKSel (value : W32) (s : State) : Host.Outcome State Fault Refusal :=
  .next (s.adopt [.reg .lend] (lendKSel value s))

end Sys2Proof.Machine
end

