-- ==== Sys2Proof/Machine/ExecLink.lean ====
section
/-! DEFINITION. The commands of Skeldel links (R409 to R433): one meaning a command, each an operation of its unit on the parts it may change. -/

namespace Sys2Proof.Machine

/-- FLIT_RECEIVE (R415): A flit arrives; it is checked, accepted in order or discarded with a replay request, and its ACK and CREDIT applied. -/
def execFlitReceive (link : Nat) (flit : Bytes) (s : State) : Host.Outcome State Fault Refusal :=
  .next (s.finish [.host, .link, .ton, .flt, .out, .reg .flt, .reg .link] (flitReceive link flit s))

/-- REPLAY_TIMEOUT (R415): The oldest unacknowledged flit waits LINK_REPLAY_TO and the sender resends from it. -/
def execReplayTimeout (link : Nat) (s : State) : Host.Outcome State Fault Refusal :=
  .next (s.finish [.host, .link, .ton, .flt, .out, .reg .flt, .reg .link] (replayTimeout link s))

/-- CREDIT_RETURN (R414): A flit's bytes leave the receive buffer into the Kitty and its credit is returned. -/
def execCreditReturn (link vc : Nat) (relay : Bool) (flits : Nat) (s : State) : Host.Outcome State Fault Refusal :=
  .next (s.adopt [.link, .out, .reg .link] (creditReturn link vc relay flits s))

/-- PACKET_RECEIVE (R420): A packet ends at its END flit; it is checked, reassembled, relayed or delivered to its function. -/
def execPacketReceive (link vc : Nat) (s : State) : Host.Outcome State Fault Refusal :=
  .next (s.finish [.host, .slots, .kitty, .bus, .kmem, .smem, .idx, .qry, .link, .ton, .eng, .emb, .nand, .lend, .med, .post, .flt, .out, .reg .flt, .reg .qry, .reg .idx, .reg .cd, .reg .media, .reg .link, .reg .lend, .reg .stack] (packetReceive link vc s))

/-- REASSEMBLY_TIMEOUT (R424): A segmented message lacks its last packet after LINK_REASM_TO and is discarded. -/
def execReassemblyTimeout (src : W32) (msgId : Nat) (s : State) : Host.Outcome State Fault Refusal :=
  .next (s.adopt [.link, .reg .link] (reassemblyTimeout src msgId s))

/-- EGRESS_SELECT (R457): At a packet boundary a link egress point selects a trump or weighted queue and sends the packet. -/
def execEgressSelect (link : Nat) (s : State) : Host.Outcome State Fault Refusal :=
  .next (s.adopt [.sched, .link, .out, .reg .link] (egressSelect link s))

/-- CARRIER_DETECT (R429): Carrier is detected on a DOWN link and PHY training starts. -/
def execCarrierDetect (link : Nat) (s : State) : Host.Outcome State Fault Refusal :=
  .next (s.adopt [.link, .reg .link] (carrierDetect link s))

/-- PHY_TRAINED (R429): The PHY trains with FEC locked and the link sends HELLO and starts its hello timer. -/
def execPhyTrained (link : Nat) (s : State) : Host.Outcome State Fault Refusal :=
  .next (s.adopt [.link, .out, .reg .link] (phyTrained link s))

/-- LINK_TRAIN_TIMEOUT (R429): LINK_TRAIN_TO passes in TRAINING and the link returns to DOWN. -/
def execLinkTrainTimeout (link : Nat) (s : State) : Host.Outcome State Fault Refusal :=
  .next (s.finish [.host, .link, .ton, .flt, .out, .reg .flt, .reg .link] (linkTrainTimeout link s))

/-- HELLO (R428): A HELLO is received; the link settles version and features and sends HELLO_ACK. -/
def execHello (link : Nat) (body : Bytes) (s : State) : Host.Outcome State Fault Refusal :=
  .next (s.finish [.host, .link, .ton, .flt, .out, .reg .flt, .reg .link] (hello link body s))

/-- HELLO_ACK (R429): A HELLO_ACK is received; a matching echo brings the link UP or MGMT_ONLY and reports JOIN. -/
def execHelloAck (link : Nat) (body : Bytes) (s : State) : Host.Outcome State Fault Refusal :=
  .next (s.finish [.link, .ton, .out, .reg .link] (helloAck link body s))

/-- HELLO_TIMER_EXPIRY (R430): The hello timer expires and HELLO is sent again. -/
def execHelloTimerExpiry (link : Nat) (s : State) : Host.Outcome State Fault Refusal :=
  .next (s.adopt [.link, .out, .reg .link] (helloTimerExpiry link s))

/-- CARRIER_LOST (R433): Carrier or FEC lock is lost; the link goes DOWN, its replay buffer and queued packets are lost and LEAVE is reported. -/
def execCarrierLost (link : Nat) (s : State) : Host.Outcome State Fault Refusal :=
  .next (s.finish [.host, .link, .ton, .flt, .out, .reg .flt, .reg .link] (carrierLost link s))

/-- KEEPALIVE_SEND (R431): Every LINK_KA_INTERVAL an UP or MGMT_ONLY link sends a keepalive flit. -/
def execKeepaliveSend (link : Nat) (s : State) : Host.Outcome State Fault Refusal :=
  .next (s.adopt [.link, .out, .reg .link] (keepaliveSend link s))

/-- KEEPALIVE_LOSS (R431): LINK_KA_MISS intervals pass without a good flit and the partner is declared lost. -/
def execKeepaliveLoss (link : Nat) (s : State) : Host.Outcome State Fault Refusal :=
  .next (s.finish [.host, .link, .ton, .flt, .out, .reg .flt, .reg .link] (keepaliveLoss link s))

/-- LINK_EVENT (R432): A LINK_EVENT reaches the dealer, which records it and routes around lost links. -/
def execLinkEvent (e : LinkEventRec) (s : State) : Host.Outcome State Fault Refusal :=
  .next (s.finish [.host, .slots, .kitty, .bus, .kmem, .smem, .idx, .qry, .link, .ton, .eng, .emb, .nand, .lend, .med, .post, .flt, .out, .reg .flt, .reg .qry, .reg .idx, .reg .cd, .reg .media, .reg .link, .reg .lend, .reg .stack] (linkEvent e (s.tookBody 0x0A (eventBytes e))))

end Sys2Proof.Machine
end

