-- ==== Sys2Proof/Machine/ExecMedia.lean ====
section
/-! DEFINITION. The commands of flash media (R371 to R408): one meaning a command, each an operation of its unit on the parts it may change. -/

namespace Sys2Proof.Machine

/-- READ (R385): A media READ request is checked, translated per LMU and its blocks delivered in offset order. -/
def execRead (quadrant ring : Nat) (s : State) : Host.Outcome State Fault Refusal :=
  .next (s.finish [.slots, .kitty, .kmem, .med, .free, .reg .cd, .reg .media] (mediaRead quadrant ring s))

/-- WRITE (R387): A media WRITE request programs each map unit into the next free data page of an open superblock. -/
def execWrite (quadrant ring : Nat) (s : State) : Host.Outcome State Fault Refusal :=
  .next (s.finish [.slots, .kitty, .kmem, .med, .reg .cd, .reg .media] (mediaWrite quadrant ring s))

/-- TRIM (R388): A media TRIM request unmaps map units and records them in a trim record page. -/
def execTrim (quadrant ring : Nat) (s : State) : Host.Outcome State Fault Refusal :=
  .next (s.finish [.slots, .kitty, .kmem, .med, .reg .cd, .reg .media] (mediaTrim quadrant ring s))

/-- SCAN (R396): A media SCAN request reads record blocks and delivers records that pass the sieve program. -/
def execScan (quadrant ring : Nat) (s : State) : Host.Outcome State Fault Refusal :=
  .next (s.finish [.slots, .kitty, .kmem, .med, .free, .reg .cd, .reg .media] (mediaScan quadrant ring s))

/-- NAND_READ_DONE (R375): A plane read completes and its codewords are corrected by hard decode, retries, soft decode or stripe parity. -/
def execNandReadDone (read : Nat) (outcome : CwOutcome) (peersReadable : Bool) (s : State) : Host.Outcome State Fault Refusal :=
  .next (s.finish [.host, .slots, .kitty, .kmem, .med, .flt, .out, .free, .reg .flt, .reg .cd, .reg .media] (nandReadDone read outcome peersReadable s))

/-- NAND_PROGRAM_DONE (R387): NAND reports a program complete and the map entry and valid bits are written, or a failed block is marked BAD. -/
def execNandProgramDone (program : Nat) (ok : Bool) (s : State) : Host.Outcome State Fault Refusal :=
  .next (s.finish [.host, .slots, .kitty, .kmem, .nand, .med, .flt, .out, .reg .flt, .reg .cd, .reg .media] (nandProgramDone program ok s))

/-- NAND_ERASE_DONE (R391): A superblock erase completes and wear spread is checked. -/
def execNandEraseDone (superblock : Nat) (failed : List Nat) (s : State) : Host.Outcome State Fault Refusal :=
  .next (s.finish [.host, .kitty, .nand, .med, .flt, .out, .reg .flt, .reg .media] (nandEraseDone superblock failed s))

/-- RELOCATION_DONE (R389): A relocated copy is programmed and the map entry is updated only if it still names the old page. -/
def execRelocationDone (reloc : Nat) (s : State) : Host.Outcome State Fault Refusal :=
  .next (s.adopt [.kitty, .kmem, .nand, .med, .reg .media] (relocationDone reloc s))

/-- MEDIA_WAIT_TIMEOUT (R390): A WRITE or TRIM waiting for a free superblock for IDX_UPD_WAIT completes with BUSY. -/
def execMediaWaitTimeout (request : Nat) (s : State) : Host.Outcome State Fault Refusal :=
  .next (s.finish [.slots, .kitty, .kmem, .med, .reg .cd, .reg .media] (mediaWaitTimeout request s))

/-- JOURNAL_FLUSH_TIMER (R401): MEDIA_JOURNAL_INTERVAL LTC units pass and a journal flush is made. -/
def execJournalFlushTimer (s : State) : Host.Outcome State Fault Refusal :=
  .next (s.adopt [.kitty, .kmem, .nand, .med] (journalFlushTimer s))

/-- REBUILD_PAGE (R380): A live page of a retired NAND die is reconstructed and relocated in W7. -/
def execRebuildPage (ppa : Nat) (s : State) : Host.Outcome State Fault Refusal :=
  .next (s.adopt [.med, .reg .media] (rebuildPage ppa s))

/-- MEDIA_ENUMERATION_DONE (R372): Media dies finish reading target parameter pages, NODE_CAP_FLASH_GIB is set and map recovery starts. -/
def execMediaEnumerationDone (found : List (Nat × TargetFound)) (s : State) : Host.Outcome State Fault Refusal :=
  .next (s.adopt [.pds, .nand, .med, .free, .reg .node, .reg .media, .reg .stack] (enumerationDone found s))

/-- MAP_RECOVERY_DONE (R405): Map recovery by journal or full scan ends, open stripes are closed and MEDIA_STATE becomes READY or FAILED. -/
def execMapRecoveryDone (complete : MapRecovery) (s : State) : Host.Outcome State Fault Refusal :=
  .next (s.finish [.host, .kitty, .kmem, .nand, .med, .flt, .out, .reg .flt, .reg .media] (mapRecoveryDone complete.complete complete.unreadable s))

/-- FORMAT (R406): MEDIA command FORMAT erases every superblock, writes anchors and fixes the logical space. -/
def execFormat (slot : Nat) (s : State) : Host.Outcome State Fault Refusal :=
  .next (s.finish [.slots, .kitty, .kmem, .pds, .nand, .med, .free, .reg .media, .reg .stack] (slotCmd .media slot 1 [] s))

/-- SCHEMA_SET (R393): MEDIA command SCHEMA_SET sets a record schema from a region. -/
def execSchemaSet (slot : Nat) (arg0 arg1 : W32) (s : State) : Host.Outcome State Fault Refusal :=
  .next (s.finish [.slots, .kitty, .kmem, .pds, .nand, .med, .free, .reg .media, .reg .stack] (slotCmd .media slot 2 [(0, arg0), (1, arg1)] s))

/-- RING_ATTACH (R383): MEDIA command RING_ATTACH attaches a request ring to a quadrant's front end. -/
def execRingAttach (slot : Nat) (arg0 arg1 : W32) (s : State) : Host.Outcome State Fault Refusal :=
  .next (s.finish [.slots, .kitty, .kmem, .pds, .nand, .med, .free, .reg .media, .reg .stack] (slotCmd .media slot 3 [(0, arg0), (1, arg1)] s))

/-- RING_DETACH (R383): MEDIA command RING_DETACH detaches a ring once its accepted requests complete. -/
def execRingDetach (slot : Nat) (arg0 : W32) (s : State) : Host.Outcome State Fault Refusal :=
  .next (s.finish [.slots, .kitty, .kmem, .pds, .nand, .med, .free, .reg .media, .reg .stack] (slotCmd .media slot 4 [(0, arg0)] s))

/-- MEDIA_CH_SEL (R408): A write selects a channel and target and takes a snapshot of its counters. -/
def execMediaChSel (value : W32) (s : State) : Host.Outcome State Fault Refusal :=
  .next (s.adopt [.reg .media] (mediaChSel value s))

end Sys2Proof.Machine
end

