-- ==== Sys2Proof/Machine/ExecPhys.lean ====
section
/-! DEFINITION. The commands of package, power and cooling (R609 to R629): one meaning a command, each an operation of its unit on the parts it may change. -/

namespace Sys2Proof.Machine

/-- PWROK_DEASSERT (R615): PWROK falls; NAND program and erase stop within 10 us and all other work stops. -/
def execPwrokDeassert (s : State) : Host.Outcome State Fault Refusal :=
  .next (s.adopt [.clk] (pwrokDeassert s))

/-- RAIL_FAULT (R616): A rail out of range for more than 10 us while PWROK is asserted is a rail fault of its die. -/
def execRailFault (dieIndex : Nat) (s : State) : Host.Outcome State Fault Refusal :=
  .next (s.finish [.clk, .host, .flt, .out, .reg .clk, .reg .flt] (railFault dieIndex s))

/-- REFCLK_LOSS (R618): REFCLK stops or drifts after PLL lock; the node holds dies in reset, stops the LTC and enters REF_LOST. -/
def execRefclkLoss (s : State) : Host.Outcome State Fault Refusal :=
  .next (s.adopt allParts (refclkLoss s))

/-- THERMAL_SAMPLE (R621): Every 10,000 LTC units sensors are sampled and each compute die's duty D is stepped. -/
def execThermalSample (readings : List (Nat × Int)) (throttleN flowOk : Bool) (s : State) : Host.Outcome State Fault Refusal :=
  .next (s.finish [.clk, .host, .flt, .out, .reg .clk, .reg .flt] (thermalSample readings throttleN flowOk s))

/-- AVS_TELEMETRY (R613): Every 10,000 LTC units the node reads VDD_AX voltage and current over AVSBus. -/
def execAvsTelemetry (millivolts amps watts : Nat) (s : State) : Host.Outcome State Fault Refusal :=
  .next (s.adopt [.clk, .reg .clk] (avsTelemetry millivolts amps watts s))

/-- SMBUS_READ (R625): A module management SMBus read is answered with NODE or CLK register values. -/
def execSmbusRead (offset : Nat) (s : State) : Host.Outcome State Fault Refusal :=
  .next (s.adopt [.out, .reg .node, .reg .clk] (smbusRead offset s))

/-- CLK_TS_SEL (R627): A write selects a sensor and takes a snapshot of its readings. -/
def execClkTsSel (value : W32) (s : State) : Host.Outcome State Fault Refusal :=
  .next (s.adopt [.reg .clk] (tsSel value s))

/-- POR_ASSERT (R618): POR_N is asserted, which resets the node, ends REF_LOST and releases THERMTRIP_N. -/
def execPorAssert (s : State) : Host.Outcome State Fault Refusal :=
  .next (s.adopt allParts (porAssert s))

end Sys2Proof.Machine
end

