-- ==== Sys2Proof/Machine/ExecQuery.lean ====
section
/-! DEFINITION. The commands of the query path, selection and merging (R144 to R216): one meaning a command, each an operation of its unit on the parts it may change. -/

namespace Sys2Proof.Machine

/-- QUERY (R154): A query descriptor received whole at its home admission unit is checked, given a query number and hands, and queued, or answered at once with its failure. -/
def execQuery (m : Msg) (s : State) : Host.Outcome State Fault Refusal :=
  .next (s.finish [.quota, .kitty, .kmem, .qry, .link, .post, .reg .qry, .reg .sched] (query m (s.took m)))

/-- QUERY_RELEASE (R158): The tenant shaper releases a queued query, which is admitted and pins a milepost or completes with NOT_OWNER or STALE. -/
def execQueryRelease (tenant : Nat) (s : State) : Host.Outcome State Fault Refusal :=
  .next (s.finish [.sched, .qry, .post, .reg .qry, .reg .idx] (queryRelease tenant s))

/-- PROBE_BATCH_DEADLINE (R161): The oldest query of a probe batch has waited QRY_PROBE_DL and the batch launches. -/
def execProbeBatchDeadline (table : Nat) (s : State) : Host.Outcome State Fault Refusal :=
  .next (s.finish [.qry, .post, .reg .qry] (probeBatchDeadline table s))

/-- PROBE_DONE (R162): The probe distances of a batch are complete and pass to a select unit for ranking. -/
def execProbeDone (batch : Nat) (s : State) : Host.Outcome State Fault Refusal :=
  .next (s.adopt [.qry, .free] (probeDone batch s))

/-- LISTS_RANKED (R163): A select unit finishes ranking a query's lists and the first stage's pairs are dispatched. -/
def execListsRanked (query : Nat) (s : State) : Host.Outcome State Fault Refusal :=
  .next (s.finish [.qry, .reg .qry, .reg .idx] (listsRanked query s))

/-- PAIR_ARRIVAL (R165): A pair reaching a Trick Former joins the open trick of its identity or opens a new one, lowering its deadline. -/
def execPairArrival (quadrant query list : Nat) (s : State) : Host.Outcome State Fault Refusal :=
  .next (s.finish [.idx, .qry, .post, .reg .qry] (pairArrival quadrant query list s))

/-- TRICK_DEADLINE (R167): An open trick's deadline is reached with no arrival at that LTC value and it launches DEADLINE. -/
def execTrickDeadline (quadrant entry : Nat) (s : State) : Host.Outcome State Fault Refusal :=
  .next (s.finish [.idx, .qry, .post, .reg .qry] (trickDeadline quadrant entry s))

/-- TRICK_IDLE_LAUNCH (R166): A scan engine of the quadrant is idle with the launch queue empty, and the eligible trick with the earliest deadline launches IDLE. -/
def execTrickIdleLaunch (quadrant : Nat) (s : State) : Host.Outcome State Fault Refusal :=
  .next (s.finish [.idx, .qry, .post, .reg .qry] (trickIdleLaunch quadrant s))

/-- LAUNCH_QUEUE_SPACE (R169): Space appears in a full launch queue and waiting tricks, relaunches first, enter it in deadline order. -/
def execLaunchQueueSpace (quadrant : Nat) (s : State) : Host.Outcome State Fault Refusal :=
  .next (s.finish [.idx, .qry, .post, .reg .qry] (launchQueueSpace quadrant s))

/-- SCAN_STRIP (R172): A scan engine processes one strip of its trick's image for every member, reading the hand threshold at its start. -/
def execScanStrip (engine : Nat) (s : State) : Host.Outcome State Fault Refusal :=
  .next (s.adopt [.bus, .kmem, .qry, .reg .qry, .reg .idx] (scanStrip engine s))

/-- SCAN_WAYSIDE (R173): After the last strip the engine scans the visible wayside records below the COUNT read at launch. -/
def execScanWayside (engine : Nat) (s : State) : Host.Outcome State Fault Refusal :=
  .next (s.adopt [.bus, .kmem, .qry, .reg .qry, .reg .idx] (scanWayside engine s))

/-- TRICK_SCAN_DONE (R169): A scan engine finishes its trick and takes the next trick from the launch queue. -/
def execTrickScanDone (engine : Nat) (s : State) : Host.Outcome State Fault Refusal :=
  .next (s.finish [.kitty, .bus, .idx, .qry, .post, .reg .qry] (trickScanDone engine s))

/-- SCAN_ENGINE_FAIL (R175): A scan engine fails during a trick; its trick is relaunched once on another engine or the members complete with FAULT. -/
def execScanEngineFail (engine : Nat) (s : State) : Host.Outcome State Fault Refusal :=
  .next (s.finish [.host, .qry, .post, .flt, .out, .reg .flt, .reg .qry] (scanEngineFail engine s))

/-- ENTRY_ARRIVAL (R196): A surviving entry reaches a select unit's staging buffer, is numbered, or is dropped as NaN or late. -/
def execEntryArrival (query : Nat) (s : State) : Host.Outcome State Fault Refusal :=
  .next (s.finish [.kitty, .kmem, .qry, .reg .qry] (entryArrival query s))

/-- STAGING_AGE_FLUSH (R197): The oldest staged entry has waited 128 SCLK cycles and the staging buffer is flushed. -/
def execStagingAgeFlush (query : Nat) (s : State) : Host.Outcome State Fault Refusal :=
  .next (s.finish [.kitty, .kmem, .qry, .reg .qry] (stagingAgeFlush query s))

/-- HAND_THRESHOLD_UPDATE (R198): A flush completes and its new hand threshold takes effect in the next SCLK cycle. -/
def execHandThresholdUpdate (query : Nat) (s : State) : Host.Outcome State Fault Refusal :=
  .next (s.finish [.qry] (handThresholdUpdate query s))

/-- STAGE_END (R176): Every pair of a stage is scanned and in the hand; the query widens or goes to rerank. -/
def execStageEnd (query : Nat) (s : State) : Host.Outcome State Fault Refusal :=
  .next (s.finish [.kitty, .kmem, .qry, .reg .qry, .reg .idx] (stageEnd query s))

/-- RERANK_FETCH_DONE (R178): A full vector fetch from stack or flash completes into the T1 region, or fails and keeps the code distance. -/
def execRerankFetchDone (query place : Nat) (readable : Bool) (s : State) : Host.Outcome State Fault Refusal :=
  .next (s.finish [.kitty, .kmem, .med, .qry, .reg .qry, .reg .media] (rerankFetchDone query place readable s))

/-- RERANK_SCORED (R179): The exact distances of the fetched vectors are computed on matrix engines or vector units. -/
def execRerankScored (query : Nat) (s : State) : Host.Outcome State Fault Refusal :=
  .next (s.finish [.qry, .free, .reg .qry] (rerankScored query s))

/-- FINAL_SELECT (R181): The final select forms the answer record from reranked and hand entries and sends it through a link die. -/
def execFinalSelect (query : QuerySelected) (s : State) : Host.Outcome State Fault Refusal :=
  .next (s.finish [.host, .qry, .post, .flt, .out, .reg .flt, .reg .qry] (finalSelect query.query query.mismatches s))

/-- EXACT_ENTRY_SCORED (R182): For an exact query an entry's full vector is fetched, filtered and scored, and the survivor is sent to its select unit. -/
def execExactEntryScored (query : Nat) (readable : Bool) (die : Nat) (s : State) : Host.Outcome State Fault Refusal :=
  .next (s.finish [.kitty, .kmem, .qry, .free, .reg .qry, .reg .idx] (exactEntryScored query readable die s))

/-- QUERY_DEADLINE (R185): A query's deadline passes before its answer is sent; it completes with TIMEOUT and frees its hands and number. -/
def execQueryDeadline (query : Nat) (s : State) : Host.Outcome State Fault Refusal :=
  .next (s.finish [.qry, .post, .reg .qry] (queryDeadline query s))

/-- QRY_TF_SEL (R188): A write selects a quadrant and takes a snapshot of its Trick Former. -/
def execQryTfSel (value : W32) (s : State) : Host.Outcome State Fault Refusal :=
  .next (s.adopt [.reg .qry] (qryTfSel value s))

/-- QRY_TNT_SEL (R188): A write selects a tenant and takes a snapshot of its parameters and use. -/
def execQryTntSel (value : W32) (s : State) : Host.Outcome State Fault Refusal :=
  .next (s.adopt [.reg .qry] (qryTntSel value s))

/-- ANSWER (R208): A seat's answer reaches the dealer and joins the merge, or is discarded late; MOVED answers are sent again. -/
def execAnswer (seat : Nat) (m : Msg) (s : State) : Host.Outcome State Fault Refusal :=
  .next (s.finish [.link, .ton, .post, .reg .mbx, .reg .qry, .reg .link] (answer seat m (s.took m)))

/-- MERGE_CLOSE_DEADLINE (R209): The dealer's LTC reaches the query deadline less QRY_MRG_MARGIN and the merge closes with the answers received. -/
def execMergeCloseDeadline (merge : Nat) (s : State) : Host.Outcome State Fault Refusal :=
  .next (s.finish [.ton, .post, .reg .mbx, .reg .qry] (mergeCloseDeadline merge s))

end Sys2Proof.Machine
end

