-- ==== Sys2Proof/Machine/ExecSched.lean ====
section
/-! DEFINITION. The commands of scheduling and quotas (R454 to R478): one meaning a command, each an operation of its unit on the parts it may change. -/

namespace Sys2Proof.Machine

/-- BUCKET_REFILL (R461): At each refill time a point installs pending shaper changes and refills every shaped bucket up to BURST. -/
def execBucketRefill (p : Point) (s : State) : Host.Outcome State Fault Refusal :=
  .next (s.adopt [.sched, .reg .sched] (bucketRefill p s))

/-- GATE_ENTRY_CHANGE (R464): A gate list entry's DURATION ends and the next entry's mask applies. -/
def execGateEntryChange (p : Point) (s : State) : Host.Outcome State Fault Refusal :=
  .next (s.adopt [.sched] (gateEntryChange p s))

/-- GATE_TAKEOVER (R465): The LTC reaches S and a pending gate list takes over at its entry 0. -/
def execGateTakeover (p : Point) (s : State) : Host.Outcome State Fault Refusal :=
  .next (s.adopt [.sched, .reg .sched] (gateTakeover p s))

/-- SET_SHAPER (R462): SCHED command SET_SHAPER is accepted and takes effect at the bucket's next refill. -/
def execSetShaper (slot : Nat) (arg0 arg1 arg2 : W32) (s : State) : Host.Outcome State Fault Refusal :=
  .next (s.finish [.cfg, .slots, .kitty, .quota, .sched, .reg .sched] (slotCmd .sched slot 1 [(0, arg0), (1, arg1), (2, arg2)] s))

/-- SET_GATES (R465): SCHED command SET_GATES checks a gate list and makes it pending with start time S. -/
def execSetGates (slot : Nat) (arg0 arg1 arg2 arg3 arg4 : W32) (s : State) : Host.Outcome State Fault Refusal :=
  .next (s.finish [.cfg, .slots, .kitty, .quota, .sched, .reg .sched] (slotCmd .sched slot 2 [(0, arg0), (1, arg1), (2, arg2), (3, arg3), (4, arg4)] s))

/-- CANCEL_GATES (R465): SCHED command CANCEL_GATES discards the pending gate list. -/
def execCancelGates (slot : Nat) (arg0 : W32) (s : State) : Host.Outcome State Fault Refusal :=
  .next (s.finish [.cfg, .slots, .kitty, .quota, .sched, .reg .sched] (slotCmd .sched slot 3 [(0, arg0)] s))

/-- SET_QUOTA (R472): SCHED command SET_QUOTA sets a holder's quota for one resource. -/
def execSetQuota (slot : Nat) (arg0 arg1 arg2 : W32) (s : State) : Host.Outcome State Fault Refusal :=
  .next (s.finish [.cfg, .slots, .kitty, .quota, .sched, .reg .sched] (slotCmd .sched slot 4 [(0, arg0), (1, arg1), (2, arg2)] s))

/-- SCHED_LTC_LO (R469): A read of SCHED_LTC_LO returns LTC bits 31:0 and latches bits 63:32 into SCHED_LTC_HI. -/
def execSchedLtcLo (s : State) : Host.Outcome State Fault Refusal :=
  .next (s.adopt [.out, .reg .sched] (schedLtcLo s))

/-- SCHED_PT_SEL (R478): A write selects a point and queue and takes a snapshot of it. -/
def execSchedPtSel (value : W32) (s : State) : Host.Outcome State Fault Refusal :=
  .next (s.adopt [.reg .sched] (schedPtSel pointDepth value s))

/-- SCHED_QUOTA_SEL (R478): A write selects a holder and resource and takes a snapshot of quota and use. -/
def execSchedQuotaSel (value : W32) (s : State) : Host.Outcome State Fault Refusal :=
  .next (s.adopt [.reg .sched] (schedQuotaSel resourceUse value s))

end Sys2Proof.Machine
end

