-- ==== Sys2Proof/Machine/ExecStart.lean ====
section
/-! DEFINITION. The commands of start, configuration and identity (R538 to R573): one meaning a command, each an operation of its unit on the parts it may change. -/

namespace Sys2Proof.Machine

/-- PWROK_ASSERT (R614): PWROK is asserted after the rails are in range. -/
def execPwrokAssert (s : State) : Host.Outcome State Fault Refusal :=
  .next (s.adopt [.clk] (pwrokAssert s))

/-- POR_RELEASE (R614): POR_N is released, the LTC starts at 0 and the steward dies enter phase ROM. -/
def execPorRelease (refclkOk : Bool) (s : State) : Host.Outcome State Fault Refusal :=
  .next (s.adopt allParts (porRelease refclkOk s))

/-- REFCLK_STABLE (R629): REFCLK has been present and within band for 100 us after POR_N release, and the start proceeds. -/
def execRefclkStable (s : State) : Host.Outcome State Fault Refusal :=
  .next (s.adopt allParts (refclkStable s))

/-- ROM_DONE (R539): Steward dies finish their ROM self-test and identity work, set VDD_AX, and the lead enters IMAGE. -/
def execRomDone (selfTestPassed : List Nat) (axMillivolts : Nat) (s : State) : Host.Outcome State Fault Refusal :=
  .next (s.adopt allParts (romDone selfTestPassed axMillivolts s))

/-- IMAGE_CHECK (R551): The lead checks each copy's header, trailer and signatures and chooses a candidate to load. -/
def execImageCheck (readErrorA readErrorB : Bool) (s : State) : Host.Outcome State Fault Refusal :=
  .next (s.adopt allParts (imageCheck readErrorA readErrorB s))

/-- SECTIONS_LOADED (R540): Sections are loaded and checked by digest and control cores start from firmware. -/
def execSectionsLoaded (stewardsPassed : List Nat) (readError : Bool) (s : State) : Host.Outcome State Fault Refusal :=
  .next (s.adopt allParts (sectionsLoaded stewardsPassed readError s))

/-- CONFIG_DONE (R560): The CONFIG section is read, records applied, clamped and joined, the report written and the waymark computed. -/
def execConfigDone (s : State) : Host.Outcome State Fault Refusal :=
  .next (s.adopt servedParts (configDone s))

/-- BRING_UP_DONE (R544): Bring-up of dies and stacks ends and the node enters RUNNING. -/
def execBringUpDone (s : State) : Host.Outcome State Fault Refusal :=
  .next (s.finish servedParts (enterRunning s))

/-- START_TIMEOUT (R542): RUNNING is not reached within 60 s of LOAD and the attempt fails. -/
def execStartTimeout (s : State) : Host.Outcome State Fault Refusal :=
  .next (s.adopt allParts (startTimeout s))

/-- START_FAILED (R542): Firmware reports a start failure and the node tries the other copy or enters stand-still. -/
def execStartFailed (s : State) : Host.Outcome State Fault Refusal :=
  .next (s.adopt allParts (startFailed s))

/-- CONFIG_PUBLISH (R565): The new configuration milepost and waymark are published together after accepted live commands. -/
def execConfigPublish (s : State) : Host.Outcome State Fault Refusal :=
  .next (s.adopt [.cfg, .host, .out, .reg .node] (configPublish s))

/-- CFG_MP_LO (R607): A read of CFG_MP_LO latches a milepost and waymark from one publication. -/
def execCfgMpLo (s : State) : Host.Outcome State Fault Refusal :=
  .next (s.adopt [.out, .reg .cfg] (cfgMpLo s))

/-- STAGE_BEGIN (R555): STAGE_BEGIN erases the target copy and opens staging. -/
def execStageBegin (sender : Sender) (s : State) : Host.Outcome State Fault Refusal :=
  .next (s.adopt [.start, .host, .out, .reg .mbx] (stageBegin sender s))

/-- STAGE_WRITE (R555): STAGE_WRITE writes 4,096 bytes from a transfer slot at an aligned offset of the target. -/
def execStageWrite (sender : Sender) (offset : W64) (xferSlot : Nat) (s : State) : Host.Outcome State Fault Refusal :=
  .next (s.adopt [.start, .host, .out, .reg .mbx] (stageWrite sender offset xferSlot s))

/-- STAGE_COMMIT (R555): STAGE_COMMIT checks the staged copy, writes its trailer and closes staging. -/
def execStageCommit (sender : Sender) (s : State) : Host.Outcome State Fault Refusal :=
  .next (s.adopt [.start, .host, .out, .reg .mbx] (stageCommit sender s))

/-- STAGE_ABORT (R555): STAGE_ABORT closes staging, leaving the target without a trailer. -/
def execStageAbort (sender : Sender) (s : State) : Host.Outcome State Fault Refusal :=
  .next (s.adopt [.start, .host, .out, .reg .mbx] (stageAbort sender s))

/-- NODE_RESTART (R601): Writing the restart key requests a restart, which begins again at ROM within 1,000 LTC units. -/
def execNodeRestart (value : W32) (s : State) : Host.Outcome State Fault Refusal :=
  .next (s.adopt [.start] (nodeRestart value s))

end Sys2Proof.Machine
end

