-- ==== Sys2Proof/Machine/ExecTon.lean ====
section
/-! DEFINITION. The commands of tables of nodes (R434 to R453): one meaning a command, each an operation of its unit on the parts it may change. -/

namespace Sys2Proof.Machine

/-- MAP_SET (R436): LINK command MAP_SET checks a routing map on the dealer and sends it as MAP_PART. -/
def execMapSet (slot : Nat) (arg0 arg1 : W32) (s : State) : Host.Outcome State Fault Refusal :=
  .next (s.finish [.host, .slots, .kitty, .bus, .kmem, .smem, .idx, .qry, .link, .ton, .eng, .emb, .nand, .lend, .med, .post, .flt, .out, .reg .flt, .reg .qry, .reg .idx, .reg .cd, .reg .media, .reg .link, .reg .lend, .reg .stack] (slotCmd .link slot 1 [(0, arg0), (1, arg1)] s))

/-- MAP_PART (R438): A seat receives MAP_PART, checks it, holds it pending and answers MAP_ACK. -/
def execMapPart (m : Msg) (s : State) : Host.Outcome State Fault Refusal :=
  .next (s.finish [.link, .ton, .post, .reg .link] (mapPart m (s.took m)))

/-- MAP_ACK (R438): The dealer receives MAP_ACK and, on quorum, sends MAP_COMMIT and installs the map. -/
def execMapAck (seat : Nat) (mapMp : W64) (s : State) : Host.Outcome State Fault Refusal :=
  .next (s.finish [.host, .slots, .kitty, .bus, .kmem, .smem, .idx, .qry, .link, .ton, .eng, .emb, .nand, .lend, .med, .post, .flt, .out, .reg .flt, .reg .qry, .reg .idx, .reg .cd, .reg .media, .reg .link, .reg .lend, .reg .stack] (mapAck seat mapMp (s.tookFrom 0x0C seat)))

/-- MAP_COMMIT (R438): A seat receives MAP_COMMIT and installs its pending map. -/
def execMapCommit (m : Msg) (s : State) : Host.Outcome State Fault Refusal :=
  .next (s.finish [.host, .slots, .kitty, .bus, .kmem, .smem, .idx, .qry, .link, .ton, .eng, .emb, .nand, .lend, .med, .post, .flt, .out, .reg .flt, .reg .qry, .reg .idx, .reg .cd, .reg .media, .reg .link, .reg .lend, .reg .stack] (mapCommit m (s.took m)))

/-- MAP_ACK_TIMEOUT (R438): No quorum forms within LINK_MAP_ACK_TO; the change is abandoned and MAP_SET completes with BUSY. -/
def execMapAckTimeout (s : State) : Host.Outcome State Fault Refusal :=
  .next (s.finish [.host, .slots, .kitty, .bus, .kmem, .smem, .idx, .qry, .ton, .eng, .emb, .nand, .lend, .med, .post, .flt, .out, .reg .flt, .reg .qry, .reg .idx, .reg .cd, .reg .media, .reg .link, .reg .lend, .reg .stack] (mapAckTimeout s))

/-- WINDOW_OPEN (R421): LINK command WINDOW_OPEN opens a receive window for a region and remote endpoint. -/
def execWindowOpen (slot : Nat) (arg0 arg1 : W32) (s : State) : Host.Outcome State Fault Refusal :=
  .next (s.finish [.host, .slots, .kitty, .bus, .kmem, .smem, .idx, .qry, .link, .ton, .eng, .emb, .nand, .lend, .med, .post, .flt, .out, .reg .flt, .reg .qry, .reg .idx, .reg .cd, .reg .media, .reg .link, .reg .lend, .reg .stack] (slotCmd .link slot 2 [(0, arg0), (1, arg1)] s))

/-- WINDOW_CLOSE (R421): LINK command WINDOW_CLOSE closes a receive window. -/
def execWindowClose (slot : Nat) (arg0 : W32) (s : State) : Host.Outcome State Fault Refusal :=
  .next (s.finish [.host, .slots, .kitty, .bus, .kmem, .smem, .idx, .qry, .link, .ton, .eng, .emb, .nand, .lend, .med, .post, .flt, .out, .reg .flt, .reg .qry, .reg .idx, .reg .cd, .reg .media, .reg .link, .reg .lend, .reg .stack] (slotCmd .link slot 3 [(0, arg0)] s))

/-- LINK_RESET (R452): LINK command LINK_RESET takes a link DOWN to train again, returning a retired link to service. -/
def execLinkReset (slot : Nat) (arg0 : W32) (s : State) : Host.Outcome State Fault Refusal :=
  .next (s.finish [.host, .slots, .kitty, .bus, .kmem, .smem, .idx, .qry, .link, .ton, .eng, .emb, .nand, .lend, .med, .post, .flt, .out, .reg .flt, .reg .qry, .reg .idx, .reg .cd, .reg .media, .reg .link, .reg .lend, .reg .stack] (slotCmd .link slot 4 [(0, arg0)] s))

/-- TILE (R421): A TILE packet writes lines into an open receive window's region, or is discarded. -/
def execTile (m : Msg) (s : State) : Host.Outcome State Fault Refusal :=
  .next (s.adopt [.kitty, .kmem, .link, .reg .link] (tile m (s.took m)))

/-- DEALER_QUERY (R444): A QUERY with TO_DEALER is checked by the dealer and fanned out to one seat of each share. -/
def execDealerQuery (m : Msg) (s : State) : Host.Outcome State Fault Refusal :=
  .next (s.finish [.quota, .link, .ton, .post, .reg .mbx, .reg .qry, .reg .sched] (dealerQuery m (s.took m)))

/-- DEALER_UPDATE (R445): An UPDATE with TO_DEALER is split by share and sent to each seat of each share. -/
def execDealerUpdate (m : Msg) (s : State) : Host.Outcome State Fault Refusal :=
  .next (s.finish [.kitty, .kmem, .idx, .link, .ton, .post, .reg .cd] (dealerUpdate m (s.took m)))

/-- UPDATE_ANSWER (R445): A seat's update answer reaches the dealer and is composed into the client's update answer. -/
def execUpdateAnswer (seat : Nat) (m : Msg) (s : State) : Host.Outcome State Fault Refusal :=
  .next (s.finish [.kitty, .kmem, .link, .ton, .post, .reg .cd, .reg .link] (updateAnswer seat m (s.took m)))

/-- DEALER_UPDATE_TIMEOUT (R445): A seat has not answered IDX_UPD_WAIT after the send and its operations are given TIMEOUT. -/
def execDealerUpdateTimeout (update seat : Nat) (s : State) : Host.Outcome State Fault Refusal :=
  .next (s.finish [.kitty, .kmem, .ton, .post, .reg .cd] (dealerUpdateTimeout update seat s))

/-- ROW_GET (R422): A ROW_GET packet runs a GATHER for a remote requester and answers with ROW_DATA. -/
def execRowGet (m : Msg) (s : State) : Host.Outcome State Fault Refusal :=
  .next (s.finish [.slots, .kitty, .bus, .kmem, .smem, .link, .eng, .emb, .nand, .med, .post, .reg .cd, .reg .media, .reg .stack] (rowRequest false m (s.took m)))

/-- ROW_PUT (R422): A ROW_PUT packet runs a SCATTER for a remote requester. -/
def execRowPut (m : Msg) (s : State) : Host.Outcome State Fault Refusal :=
  .next (s.finish [.slots, .kitty, .bus, .kmem, .smem, .link, .eng, .emb, .nand, .med, .post, .reg .cd, .reg .media, .reg .stack] (rowRequest true m (s.took m)))

/-- ROW_DATA (R357): A ROW_DATA reply is delivered to its requester, whose MOVED positions are sent once to the named seat. -/
def execRowData (m : Msg) (request : Bytes) (resent : Bool) (s : State) : Host.Outcome State Fault Refusal :=
  .next (s.finish [.link, .post, .out, .reg .link] (rowData m request resent (s.took m)))

/-- BEAT_SEND (R446): Every LINK_BEAT the dealer sends BEAT to every seat. -/
def execBeatSend (s : State) : Host.Outcome State Fault Refusal :=
  .next (s.finish [.ton, .post] (beatSend s))

/-- BEAT (R446): A BEAT is received; a seat answers the dealer, and the dealer records the seat alive. -/
def execBeat (seat : Nat) (s : State) : Host.Outcome State Fault Refusal :=
  .next (s.finish [.link, .ton, .post] (beat seat (s.tookFrom 0x09 seat)))

/-- SEAT_LOSS (R446): A seat's BEAT is absent for LINK_SEAT_LOSS and the dealer commits a map removing it. -/
def execSeatLoss (seat : Nat) (s : State) : Host.Outcome State Fault Refusal :=
  .next (s.finish [.host, .slots, .kitty, .bus, .kmem, .smem, .idx, .qry, .ton, .eng, .emb, .nand, .lend, .med, .post, .flt, .out, .reg .flt, .reg .qry, .reg .idx, .reg .cd, .reg .media, .reg .link, .reg .lend, .reg .stack] (seatLoss seat s))

/-- DEALER_LOSS (R447): The standby hears no BEAT from the dealer for LINK_DEALER_LOSS and proposes a map naming itself dealer. -/
def execDealerLoss (s : State) : Host.Outcome State Fault Refusal :=
  .next (s.finish [.host, .slots, .kitty, .bus, .kmem, .smem, .idx, .qry, .ton, .eng, .emb, .nand, .lend, .med, .post, .flt, .out, .reg .flt, .reg .qry, .reg .idx, .reg .cd, .reg .media, .reg .link, .reg .lend, .reg .stack] (dealerLoss s))

/-- WAYMARK_SEND (R449): Every LINK_WM_INTERVAL, or after a configuration milepost change, the node sends its waymark to the dealer. -/
def execWaymarkSend (s : State) : Host.Outcome State Fault Refusal :=
  .next (s.finish [.ton, .post, .reg .link] (waymarkSend s))

/-- WAYMARK (R450): The dealer receives a seat's waymark and marks MISMATCH against the expected waymark of its role. -/
def execWaymark (seat : Nat) (mp : W64) (wm : Bytes) (s : State) : Host.Outcome State Fault Refusal :=
  .next (s.adopt [.link, .ton, .reg .link] (waymark seat mp wm (s.tookFrom 0x08 seat)))

/-- WAYMARK_SILENT (R450): No WAYMARK from a seat for 2 x 2^30 LTC units marks it SILENT. -/
def execWaymarkSilent (seat : Nat) (s : State) : Host.Outcome State Fault Refusal :=
  .next (s.adopt [.reg .link] (waymarkSilent seat s))

/-- FAULT_NOTICE (R524): A MGMT fault notice reaches the dealer, which commits a map removing the seat from replicated shares. -/
def execFaultNotice (seat : Nat) (body : Bytes) (s : State) : Host.Outcome State Fault Refusal :=
  .next (s.finish [.host, .slots, .kitty, .bus, .kmem, .smem, .idx, .qry, .link, .ton, .eng, .emb, .nand, .lend, .med, .post, .flt, .out, .reg .flt, .reg .qry, .reg .idx, .reg .cd, .reg .media, .reg .link, .reg .lend, .reg .stack] (faultNotice seat body (s.tookBody 0x0D body)))

/-- MGMT_ATTEST (R572): A MGMT attestation request with a nonce is answered with a signed attestation report. -/
def execMgmtAttest (m : Msg) (s : State) : Host.Outcome State Fault Refusal :=
  .next (s.finish [.link, .post] (mgmtAttest m (s.took m)))

/-- LINK_TON_SEAT_SEL (R453): A write on the dealer selects a seat and takes a snapshot of its state. -/
def execLinkTonSeatSel (value : W32) (s : State) : Host.Outcome State Fault Refusal :=
  .next (s.adopt [.ton, .reg .link] (tonSeatSel value s))

end Sys2Proof.Machine
end

