-- ==== Sys2Proof/Machine/ExecTransport.lean ====
section
/-! DEFINITION. The commands of the write to BAR0 and the Kitty transport (R9 to R12, R37 to R50): one meaning a command, each an operation of its unit on the parts it may change. -/

namespace Sys2Proof.Machine

/-- REGISTER_WRITE (R9): A host or firmware write to a BAR0 register that has no row of its own takes effect by its access code; writes to reserved space or reserved fields are discarded. -/
def execRegisterWrite (firmware : Bool) (offset : Nat) (bytes : Bytes) (s : State) : Host.Outcome State Fault Refusal :=
  .next (s.finish servedParts (registerWrite firmware offset bytes s))

/-- XP_MESSAGE_ISSUE (R38): A source port issues a transport read or write message over the module chosen by hash, when it holds credit, and routes it column-first; the adapters of its hops may meet something on the way. -/
def execXpMessageIssue (die : Nat) (port : Crossing) (s : State) : Host.Outcome State Fault Refusal :=
  .next (s.finish [.host, .xp, .kitty, .flt, .out, .reg .flt, .reg .kitty] (issueMsg die port.id port.found s))

/-- XP_WRITE_ACK (R39): A write's data reaches its bank and is acknowledged to its source; a duplicate reissued write is dropped but still acknowledged. -/
def execXpWriteAck (msg : Crossing) (s : State) : Host.Outcome State Fault Refusal :=
  .next (s.finish [.host, .xp, .kitty, .bus, .kmem, .flt, .out, .reg .flt, .reg .kitty] (s.completeMsg msg.id true msg.found))

/-- XP_READ_RESPONSE (R39): A read response returns whole 64-byte lines to the source port. -/
def execXpReadResponse (msg : Crossing) (s : State) : Host.Outcome State Fault Refusal :=
  .next (s.finish [.host, .xp, .kitty, .bus, .kmem, .flt, .out, .reg .flt, .reg .kitty] (s.completeMsg msg.id false msg.found))

/-- E2E_TIMEOUT (R43): A message not completed 2,000 LTC units after issue is counted, reissued once on another path, or completed with FAULT on a second expiry. -/
def execE2eTimeout (msg : Nat) (s : State) : Host.Outcome State Fault Refusal :=
  .next (s.finish [.host, .xp, .kitty, .flt, .out, .reg .flt, .reg .kitty] (e2eTimeout msg s))

/-- MODULE_SET_CHANGE (R42): Before a module is retired or returned, the source stops issuing to affected lines and waits for their outstanding messages. -/
def execModuleSetChange (die module : Nat) (retire : Bool) (s : State) : Host.Outcome State Fault Refusal :=
  .next (s.adopt [.xp] (setChange die module retire s))

/-- MODULE_SET_RESUME (R42): Once outstanding messages to the affected lines complete, the source resumes on the new module set. -/
def execModuleSetResume (die module : Nat) (s : State) : Host.Outcome State Fault Refusal :=
  .next (s.finish [.host, .xp, .flt, .out, .reg .flt] (setResume die module s))

/-- KITTY_XP_SEL (R47): A write selects a die and module and copies its live counters and state into the snapshot registers within 64 CCLK cycles. -/
def execKittyXpSel (value : W32) (s : State) : Host.Outcome State Fault Refusal :=
  .next (s.adopt [.reg .kitty] (xpSel value s))

/-- KITTY_XP_SNAP (R47): Writing 1 takes a new snapshot of the selected module. -/
def execKittyXpSnap (s : State) : Host.Outcome State Fault Refusal :=
  .next (s.adopt [.reg .kitty] (xpSnap s))

/-- KITTY_XP_CLEAR (R49): Writing 1 clears the live counters of the selected module. -/
def execKittyXpClear (s : State) : Host.Outcome State Fault Refusal :=
  .next (s.adopt [.xp] (xpClear s))

/-- KITTY_XP_CLEAR_ALL (R49): Writing 1 clears the live counters of every module of every die. -/
def execKittyXpClearAll (s : State) : Host.Outcome State Fault Refusal :=
  .next (s.adopt [.xp] (xpClearAll s))

end Sys2Proof.Machine
end

