-- ==== Sys2Proof/Machine/ExecUpdate.lean ====
section
/-! DEFINITION. The commands of updates, versions and shuffles (R217 to R261): one meaning a command, each an operation of its unit on the parts it may change. -/

namespace Sys2Proof.Machine

/-- UPDATE (R221): An update descriptor reaches its commit unit, is checked whole, and its operations join commit groups or are refused. -/
def execUpdate (m : Msg) (s : State) : Host.Outcome State Fault Refusal :=
  .next (s.finish [.kitty, .kmem, .idx, .link, .post, .reg .idx, .reg .cd] (update m (s.took m)))

/-- UPDATE_INTAKE_ENTRY (R320): A program writes an intake entry naming an in-node update descriptor, which the commit unit takes as an update. -/
def execUpdateIntakeEntry (domain : Owner) (table : Nat) (entry : Bytes) (s : State) : Host.Outcome State Fault Refusal :=
  .next (s.finish [.kitty, .kmem, .idx, .post, .reg .idx, .reg .cd] (updateIntake domain table entry s))

/-- COMMIT_GROUP_DEADLINE (R229): IDX_COMMIT_DL LTC units pass since a group opened and the group closes. -/
def execCommitGroupDeadline (table : Nat) (s : State) : Host.Outcome State Fault Refusal :=
  .next (s.adopt [.idx] (commitDeadline table s))

/-- GROUP_COMMIT (R230): A closed group writes its rows, wayside records and tombstones and waits for their acknowledgements. -/
def execGroupCommit (table : Nat) (s : State) : Host.Outcome State Fault Refusal :=
  .next (s.adopt [.kitty, .kmem, .smem, .idx, .nand, .med, .reg .idx, .reg .media] (groupCommit table s))

/-- GROUP_PUBLISH (R230): With all writes acknowledged, the table milepost is raised, key-map entries written and update answers sent. -/
def execGroupPublish (table : Nat) (s : State) : Host.Outcome State Fault Refusal :=
  .next (s.finish [.slots, .kitty, .kmem, .smem, .idx, .nand, .med, .post, .reg .idx, .reg .cd, .reg .media] (groupPublish table s))

/-- UPDATE_WAIT_TIMEOUT (R232): An operation waiting IDX_UPD_WAIT LTC units completes with BUSY. -/
def execUpdateWaitTimeout (table : Nat) (s : State) : Host.Outcome State Fault Refusal :=
  .next (s.finish [.kitty, .kmem, .idx, .post, .reg .idx, .reg .cd] (updateWaitTimeout table s))

/-- MERGE (R250): Version command MERGE triggers or takes over a merge of a list. -/
def execMerge (slot : Nat) (arg0 arg1 : W32) (s : State) : Host.Outcome State Fault Refusal :=
  .next (s.finish [.slots, .kitty, .kmem, .smem, .idx, .nand, .med, .post, .reg .idx, .reg .cd, .reg .media] (slotCmd .vcmd slot 1 [(0, arg0), (1, arg1)] s))

/-- MERGE_START (R237): A triggered merge gets a place under IDX_MERGE_MAX and starts building the new image. -/
def execMergeStart (table list : Nat) (s : State) : Host.Outcome State Fault Refusal :=
  .next (s.finish [.slots, .idx, .reg .idx] (mergeStart table list s))

/-- MERGE_COMMIT (R238): A merge finishes catch-up, holds operations, commits the new image at the next milepost and releases the held operations. -/
def execMergeCommit (table list : Nat) (s : State) : Host.Outcome State Fault Refusal :=
  .next (s.finish [.slots, .kitty, .kmem, .smem, .idx, .nand, .med, .post, .reg .idx, .reg .cd, .reg .media] (mergeCommit table list s))

/-- MILEPOST_RECLAIM (R240): A superseded object becomes reclaimable, is freed in W7 and the table floor is raised. -/
def execMilepostReclaim (table : Nat) (s : State) : Host.Outcome State Fault Refusal :=
  .next (s.adopt [.kitty, .kmem, .smem, .idx, .nand, .med, .reg .idx, .reg .media] (milepostReclaim table s))

/-- MOVE_STACK (R251): Version command MOVE_STACK starts a merge whose new image goes to the named stack. -/
def execMoveStack (slot : Nat) (arg0 arg1 arg2 : W32) (s : State) : Host.Outcome State Fault Refusal :=
  .next (s.finish [.slots, .kitty, .kmem, .smem, .idx, .nand, .med, .post, .reg .idx, .reg .cd, .reg .media] (slotCmd .vcmd slot 2 [(0, arg0), (1, arg1), (2, arg2)] s))

/-- MOVE_SEAT (R252): Version command MOVE_SEAT starts moving a list to another seat in the COPY phase. -/
def execMoveSeat (slot : Nat) (arg0 arg1 arg2 : W32) (s : State) : Host.Outcome State Fault Refusal :=
  .next (s.finish [.slots, .kitty, .kmem, .smem, .idx, .nand, .med, .post, .reg .idx, .reg .cd, .reg .media] (slotCmd .vcmd slot 3 [(0, arg0), (1, arg1), (2, arg2)] s))

/-- SPLIT_SEAT (R258): Version command SPLIT_SEAT starts moving the entries of a list that match a hash bit to another seat. -/
def execSplitSeat (slot : Nat) (arg0 arg1 arg2 : W32) (s : State) : Host.Outcome State Fault Refusal :=
  .next (s.finish [.slots, .kitty, .kmem, .smem, .idx, .nand, .med, .post, .reg .idx, .reg .cd, .reg .media] (slotCmd .vcmd slot 4 [(0, arg0), (1, arg1), (2, arg2)] s))

/-- SHUFFLE (R253): A shuffle message between seats is taken: copy data, forwarded change, HANDOVER, commit acknowledgement or ABORT, advancing the move's phase. -/
def execShuffle (from_ : Nat) (object : MoveObject) (seq : Nat) (msg : ShuffleMsg) (s : State) : Host.Outcome State Fault Refusal :=
  .next (s.finish [.slots, .kitty, .bus, .kmem, .smem, .idx, .link, .eng, .emb, .nand, .med, .post, .reg .idx, .reg .cd, .reg .media, .reg .stack] (shuffleTaken from_ object seq msg s))

/-- SHUFFLE_RESEND (R257): An unacknowledged shuffle message is sent again every IDX_SHUF_RESEND LTC units. -/
def execShuffleResend (move : Nat) (s : State) : Host.Outcome State Fault Refusal :=
  .next (s.finish [.idx, .emb, .post] (if s.idx.moves.has move then moveResend move s else rowResend move s))

/-- SHUFFLE_OVERLAP_END (R254): IDX_SHUF_OVERLAP passes since a cutover and the overlap image may be released when no query reads it. -/
def execShuffleOverlapEnd (table list : Nat) (s : State) : Host.Outcome State Fault Refusal :=
  .next (s.adopt [.idx] (overlapEnd table list s))

/-- REPLACE_BEGIN (R243): Version command REPLACE_BEGIN makes a LIVE table REPLACING, allocates its change log and returns B. -/
def execReplaceBegin (slot : Nat) (arg0 arg2 : W32) (s : State) : Host.Outcome State Fault Refusal :=
  .next (s.finish [.slots, .kitty, .kmem, .smem, .idx, .nand, .med, .post, .reg .idx, .reg .cd, .reg .media] (slotCmd .vcmd slot 5 [(0, arg0), (2, arg2)] s))

/-- REPLACE_COMMIT (R246): Version command REPLACE_COMMIT loads the new image, replays the log and swaps tables at M_c. -/
def execReplaceCommit (slot : Nat) (arg0 arg3 arg4 : W32) (s : State) : Host.Outcome State Fault Refusal :=
  .next (s.finish [.slots, .kitty, .kmem, .smem, .idx, .nand, .med, .post, .reg .idx, .reg .cd, .reg .media] (slotCmd .vcmd slot 6 [(0, arg0), (3, arg3), (4, arg4)] s))

/-- REPLACE_CANCEL (R248): Version command REPLACE_CANCEL aborts a replacement, returning the table to LIVE. -/
def execReplaceCancel (slot : Nat) (arg0 : W32) (s : State) : Host.Outcome State Fault Refusal :=
  .next (s.finish [.slots, .kitty, .kmem, .smem, .idx, .nand, .med, .post, .reg .idx, .reg .cd, .reg .media] (slotCmd .vcmd slot 7 [(0, arg0)] s))

/-- SKEW_WINDOW_CLOSE (R249): An IDX_SKEW_WIN window closes and each Trick Former publishes its 64 hottest lists. -/
def execSkewWindowClose (quadrant : Nat) (s : State) : Host.Outcome State Fault Refusal :=
  .next (s.adopt [.idx] (skewWindowClose quadrant s))

/-- IDX_HOT_SEL (R261): A write selects a quadrant and rank and takes a snapshot of the hot-list entry. -/
def execIdxHotSel (value : W32) (s : State) : Host.Outcome State Fault Refusal :=
  .next (s.adopt [.reg .idx] (idxHotSel value s))

/-- MOVE_CANCEL (R257): Firmware cancels a list move between seats in COPY, and the source aborts it, returning the list to LOCAL. -/
def execMoveCancel (move : Nat) (s : State) : Host.Outcome State Fault Refusal :=
  .next (s.finish [.slots, .kitty, .kmem, .smem, .idx, .nand, .med, .post, .reg .idx, .reg .cd, .reg .media] (moveCancel move s))

/-- REPLACE_LOAD_DONE (R246): The image of a REPLACE_COMMIT finishes loading and log replay; new operations are held, the tail replayed and the new table committed at M_c, or the new objects freed on a failed check or CRC. -/
def execReplaceLoadDone (slot : Nat) (s : State) : Host.Outcome State Fault Refusal :=
  .next (s.finish [.slots, .kitty, .kmem, .smem, .idx, .nand, .med, .post, .reg .idx, .reg .cd, .reg .media] (replaceLoadDone slot s))

end Sys2Proof.Machine
end

