-- ==== Sys2Proof/Machine/Dispatch.lean ====
section
/-! DEFINITION. One arm a command. -/

namespace Sys2Proof.Machine

/-- What each command does (the queue is left as it is). -/
def exec (i : Instr) (s : State) : Host.Outcome State Fault Refusal :=
  match i with
  | .registerWrite firmware offset bytes => Sys2Proof.Machine.execRegisterWrite firmware offset bytes s
  | .xpMessageIssue die port => Sys2Proof.Machine.execXpMessageIssue die port s
  | .xpWriteAck msg => Sys2Proof.Machine.execXpWriteAck msg s
  | .xpReadResponse msg => Sys2Proof.Machine.execXpReadResponse msg s
  | .e2eTimeout msg => Sys2Proof.Machine.execE2eTimeout msg s
  | .moduleSetChange die module retire => Sys2Proof.Machine.execModuleSetChange die module retire s
  | .moduleSetResume die module => Sys2Proof.Machine.execModuleSetResume die module s
  | .kittyXpSel value => Sys2Proof.Machine.execKittyXpSel value s
  | .kittyXpSnap => Sys2Proof.Machine.execKittyXpSnap s
  | .kittyXpClear => Sys2Proof.Machine.execKittyXpClear s
  | .kittyXpClearAll => Sys2Proof.Machine.execKittyXpClearAll s
  | .regionAccess a => Sys2Proof.Machine.execRegionAccess a s
  | .bankArbitration bank => Sys2Proof.Machine.execBankArbitration bank s
  | .alloc slot arg0 arg1 arg2 => Sys2Proof.Machine.execAlloc slot arg0 arg1 arg2 s
  | .free slot arg2 => Sys2Proof.Machine.execFree slot arg2 s
  | .transfer slot arg1 arg2 => Sys2Proof.Machine.execTransfer slot arg1 arg2 s
  | .resize slot arg0 arg2 => Sys2Proof.Machine.execResize slot arg0 arg2 s
  | .rcmdComplete slot => Sys2Proof.Machine.execRcmdComplete slot s
  | .unitScrubDone unit => Sys2Proof.Machine.execUnitScrubDone unit s
  | .quotaEvict holder => Sys2Proof.Machine.execQuotaEvict holder s
  | .expand queue domain d ecc => Sys2Proof.Machine.execExpand queue domain d ecc s
  | .compress queue domain d => Sys2Proof.Machine.execCompress queue domain d s
  | .copy queue domain d => Sys2Proof.Machine.execCopy queue domain d s
  | .fetchRaw queue domain d ecc => Sys2Proof.Machine.execFetchRaw queue domain d ecc s
  | .storeRaw queue domain d => Sys2Proof.Machine.execStoreRaw queue domain d s
  | .tileTransferComplete queue id => Sys2Proof.Machine.execTileTransferComplete queue id s
  | .pageOpen domain handle page => Sys2Proof.Machine.execPageOpen domain handle page s
  | .pageSeal domain handle page => Sys2Proof.Machine.execPageSeal domain handle page s
  | .pageRecall domain handle page => Sys2Proof.Machine.execPageRecall domain handle page s
  | .pageRecallDone handle page => Sys2Proof.Machine.execPageRecallDone handle page s
  | .pageRelease domain handle page => Sys2Proof.Machine.execPageRelease domain handle page s
  | .pageSpillDone handle page => Sys2Proof.Machine.execPageSpillDone handle page s
  | .kittyRgnSel value => Sys2Proof.Machine.execKittyRgnSel value s
  | .kittyQuotaSel value => Sys2Proof.Machine.execKittyQuotaSel value s
  | .kittyClsSel value => Sys2Proof.Machine.execKittyClsSel value s
  | .load slot arg0 arg1 arg2 => Sys2Proof.Machine.execLoad slot arg0 arg1 arg2 s
  | .tableLoadDone slot => Sys2Proof.Machine.execTableLoadDone slot s
  | .build slot arg0 arg1 arg2 arg3 arg4 => Sys2Proof.Machine.execBuild slot arg0 arg1 arg2 arg3 arg4 s
  | .buildDone slot => Sys2Proof.Machine.execBuildDone slot s
  | .drop slot arg0 => Sys2Proof.Machine.execDrop slot arg0 s
  | .dropFree table => Sys2Proof.Machine.execDropFree table s
  | .idxTblSel value => Sys2Proof.Machine.execIdxTblSel value s
  | .idxLstSelList value => Sys2Proof.Machine.execIdxLstSelList value s
  | .query m => Sys2Proof.Machine.execQuery m s
  | .queryRelease tenant => Sys2Proof.Machine.execQueryRelease tenant s
  | .probeBatchDeadline table => Sys2Proof.Machine.execProbeBatchDeadline table s
  | .probeDone batch => Sys2Proof.Machine.execProbeDone batch s
  | .listsRanked query => Sys2Proof.Machine.execListsRanked query s
  | .pairArrival quadrant query list => Sys2Proof.Machine.execPairArrival quadrant query list s
  | .trickDeadline quadrant entry => Sys2Proof.Machine.execTrickDeadline quadrant entry s
  | .trickIdleLaunch quadrant => Sys2Proof.Machine.execTrickIdleLaunch quadrant s
  | .launchQueueSpace quadrant => Sys2Proof.Machine.execLaunchQueueSpace quadrant s
  | .scanStrip engine => Sys2Proof.Machine.execScanStrip engine s
  | .scanWayside engine => Sys2Proof.Machine.execScanWayside engine s
  | .trickScanDone engine => Sys2Proof.Machine.execTrickScanDone engine s
  | .scanEngineFail engine => Sys2Proof.Machine.execScanEngineFail engine s
  | .entryArrival query => Sys2Proof.Machine.execEntryArrival query s
  | .stagingAgeFlush query => Sys2Proof.Machine.execStagingAgeFlush query s
  | .handThresholdUpdate query => Sys2Proof.Machine.execHandThresholdUpdate query s
  | .stageEnd query => Sys2Proof.Machine.execStageEnd query s
  | .rerankFetchDone query place readable => Sys2Proof.Machine.execRerankFetchDone query place readable s
  | .rerankScored query => Sys2Proof.Machine.execRerankScored query s
  | .finalSelect query => Sys2Proof.Machine.execFinalSelect query s
  | .exactEntryScored query readable die => Sys2Proof.Machine.execExactEntryScored query readable die s
  | .queryDeadline query => Sys2Proof.Machine.execQueryDeadline query s
  | .qryTfSel value => Sys2Proof.Machine.execQryTfSel value s
  | .qryTntSel value => Sys2Proof.Machine.execQryTntSel value s
  | .answer seat m => Sys2Proof.Machine.execAnswer seat m s
  | .mergeCloseDeadline merge => Sys2Proof.Machine.execMergeCloseDeadline merge s
  | .update m => Sys2Proof.Machine.execUpdate m s
  | .updateIntakeEntry domain table entry => Sys2Proof.Machine.execUpdateIntakeEntry domain table entry s
  | .commitGroupDeadline table => Sys2Proof.Machine.execCommitGroupDeadline table s
  | .groupCommit table => Sys2Proof.Machine.execGroupCommit table s
  | .groupPublish table => Sys2Proof.Machine.execGroupPublish table s
  | .updateWaitTimeout table => Sys2Proof.Machine.execUpdateWaitTimeout table s
  | .merge slot arg0 arg1 => Sys2Proof.Machine.execMerge slot arg0 arg1 s
  | .mergeStart table list => Sys2Proof.Machine.execMergeStart table list s
  | .mergeCommit table list => Sys2Proof.Machine.execMergeCommit table list s
  | .milepostReclaim table => Sys2Proof.Machine.execMilepostReclaim table s
  | .moveStack slot arg0 arg1 arg2 => Sys2Proof.Machine.execMoveStack slot arg0 arg1 arg2 s
  | .moveSeat slot arg0 arg1 arg2 => Sys2Proof.Machine.execMoveSeat slot arg0 arg1 arg2 s
  | .splitSeat slot arg0 arg1 arg2 => Sys2Proof.Machine.execSplitSeat slot arg0 arg1 arg2 s
  | .shuffle from_ object seq msg => Sys2Proof.Machine.execShuffle from_ object seq msg s
  | .shuffleResend move => Sys2Proof.Machine.execShuffleResend move s
  | .shuffleOverlapEnd table list => Sys2Proof.Machine.execShuffleOverlapEnd table list s
  | .replaceBegin slot arg0 arg2 => Sys2Proof.Machine.execReplaceBegin slot arg0 arg2 s
  | .replaceCommit slot arg0 arg3 arg4 => Sys2Proof.Machine.execReplaceCommit slot arg0 arg3 arg4 s
  | .replaceCancel slot arg0 => Sys2Proof.Machine.execReplaceCancel slot arg0 s
  | .skewWindowClose quadrant => Sys2Proof.Machine.execSkewWindowClose quadrant s
  | .idxHotSel value => Sys2Proof.Machine.execIdxHotSel value s
  | .commandPost die sq cls unit command => Sys2Proof.Machine.execCommandPost die sq cls unit command s
  | .loadWeights me => Sys2Proof.Machine.execLoadWeights me s
  | .stream me mismatches => Sys2Proof.Machine.execStream me mismatches s
  | .drain me => Sys2Proof.Machine.execDrain me s
  | .add vu => Sys2Proof.Machine.execAdd vu s
  | .mul vu => Sys2Proof.Machine.execMul vu s
  | .mac vu => Sys2Proof.Machine.execMac vu s
  | .max vu => Sys2Proof.Machine.execMax vu s
  | .act vu => Sys2Proof.Machine.execAct vu s
  | .softmaxRow vu => Sys2Proof.Machine.execSoftmaxRow vu s
  | .normRow vu => Sys2Proof.Machine.execNormRow vu s
  | .reduceRow vu => Sys2Proof.Machine.execReduceRow vu s
  | .distFinish vu => Sys2Proof.Machine.execDistFinish vu s
  | .optStep vu => Sys2Proof.Machine.execOptStep vu s
  | .convert vu => Sys2Proof.Machine.execConvert vu s
  | .skew sk => Sys2Proof.Machine.execSkew sk s
  | .unitCommandComplete cls unit => Sys2Proof.Machine.execUnitCommandComplete cls unit s
  | .completionQueueSpace die sq => Sys2Proof.Machine.execCompletionQueueSpace die sq s
  | .cdWaitTimeout cls unit => Sys2Proof.Machine.execCdWaitTimeout cls unit s
  | .syncCounterAccess die sq ctr write => Sys2Proof.Machine.execSyncCounterAccess die sq ctr write s
  | .sequencerHalt die sq ecc => Sys2Proof.Machine.execSequencerHalt die sq ecc s
  | .sequencerAssign die sq owner program => Sys2Proof.Machine.execSequencerAssign die sq owner program s
  | .unitClearDone cls unit => Sys2Proof.Machine.execUnitClearDone cls unit s
  | .create slot arg0 arg1 => Sys2Proof.Machine.execCreate slot arg0 arg1 s
  | .pdFree slot arg0 => Sys2Proof.Machine.execPdFree slot arg0 s
  | .treeCreate slot arg0 arg2 arg3 => Sys2Proof.Machine.execTreeCreate slot arg0 arg2 arg3 s
  | .treeFree slot arg0 => Sys2Proof.Machine.execTreeFree slot arg0 s
  | .kvRingPoll region => Sys2Proof.Machine.execKvRingPoll region s
  | .lookup region => Sys2Proof.Machine.execLookup region s
  | .insert region => Sys2Proof.Machine.execInsert region s
  | .unref region => Sys2Proof.Machine.execUnref region s
  | .stackPdSel value => Sys2Proof.Machine.execStackPdSel value s
  | .stackTreeSel value => Sys2Proof.Machine.execStackTreeSel value s
  | .gather ge => Sys2Proof.Machine.execGather ge s
  | .scatter ge => Sys2Proof.Machine.execScatter ge s
  | .rowReadDone ge read readable => Sys2Proof.Machine.execRowReadDone ge read readable s
  | .embSkewWindowClose => Sys2Proof.Machine.execEmbSkewWindowClose s
  | .embCreate slot arg0 arg1 => Sys2Proof.Machine.execEmbCreate slot arg0 arg1 s
  | .embDrop slot arg0 => Sys2Proof.Machine.execEmbDrop slot arg0 s
  | .rowMoveStack slot arg0 arg1 arg2 => Sys2Proof.Machine.execRowMoveStack slot arg0 arg1 arg2 s
  | .rowMoveCommit move => Sys2Proof.Machine.execRowMoveCommit move s
  | .rowMoveSeat slot arg0 arg1 arg2 => Sys2Proof.Machine.execRowMoveSeat slot arg0 arg1 arg2 s
  | .rowMoveCancel slot arg2 => Sys2Proof.Machine.execRowMoveCancel slot arg2 s
  | .rowHoldTimeout ge => Sys2Proof.Machine.execRowHoldTimeout ge s
  | .stackEmbTblSel value => Sys2Proof.Machine.execStackEmbTblSel value s
  | .stackEmbShardSel value => Sys2Proof.Machine.execStackEmbShardSel value s
  | .stackEmbHotSel value => Sys2Proof.Machine.execStackEmbHotSel value s
  | .stackEmbOwnSel value => Sys2Proof.Machine.execStackEmbOwnSel value s
  | .read quadrant ring => Sys2Proof.Machine.execRead quadrant ring s
  | .write quadrant ring => Sys2Proof.Machine.execWrite quadrant ring s
  | .trim quadrant ring => Sys2Proof.Machine.execTrim quadrant ring s
  | .scan quadrant ring => Sys2Proof.Machine.execScan quadrant ring s
  | .nandReadDone read outcome peersReadable => Sys2Proof.Machine.execNandReadDone read outcome peersReadable s
  | .nandProgramDone program ok => Sys2Proof.Machine.execNandProgramDone program ok s
  | .nandEraseDone superblock failed => Sys2Proof.Machine.execNandEraseDone superblock failed s
  | .relocationDone reloc => Sys2Proof.Machine.execRelocationDone reloc s
  | .mediaWaitTimeout request => Sys2Proof.Machine.execMediaWaitTimeout request s
  | .journalFlushTimer => Sys2Proof.Machine.execJournalFlushTimer s
  | .rebuildPage ppa => Sys2Proof.Machine.execRebuildPage ppa s
  | .mediaEnumerationDone found => Sys2Proof.Machine.execMediaEnumerationDone found s
  | .mapRecoveryDone complete => Sys2Proof.Machine.execMapRecoveryDone complete s
  | .format slot => Sys2Proof.Machine.execFormat slot s
  | .schemaSet slot arg0 arg1 => Sys2Proof.Machine.execSchemaSet slot arg0 arg1 s
  | .ringAttach slot arg0 arg1 => Sys2Proof.Machine.execRingAttach slot arg0 arg1 s
  | .ringDetach slot arg0 => Sys2Proof.Machine.execRingDetach slot arg0 s
  | .mediaChSel value => Sys2Proof.Machine.execMediaChSel value s
  | .flitReceive link flit => Sys2Proof.Machine.execFlitReceive link flit s
  | .replayTimeout link => Sys2Proof.Machine.execReplayTimeout link s
  | .creditReturn link vc relay flits => Sys2Proof.Machine.execCreditReturn link vc relay flits s
  | .packetReceive link vc => Sys2Proof.Machine.execPacketReceive link vc s
  | .reassemblyTimeout src msgId => Sys2Proof.Machine.execReassemblyTimeout src msgId s
  | .egressSelect link => Sys2Proof.Machine.execEgressSelect link s
  | .carrierDetect link => Sys2Proof.Machine.execCarrierDetect link s
  | .phyTrained link => Sys2Proof.Machine.execPhyTrained link s
  | .linkTrainTimeout link => Sys2Proof.Machine.execLinkTrainTimeout link s
  | .hello link body => Sys2Proof.Machine.execHello link body s
  | .helloAck link body => Sys2Proof.Machine.execHelloAck link body s
  | .helloTimerExpiry link => Sys2Proof.Machine.execHelloTimerExpiry link s
  | .carrierLost link => Sys2Proof.Machine.execCarrierLost link s
  | .keepaliveSend link => Sys2Proof.Machine.execKeepaliveSend link s
  | .keepaliveLoss link => Sys2Proof.Machine.execKeepaliveLoss link s
  | .linkEvent e => Sys2Proof.Machine.execLinkEvent e s
  | .mapSet slot arg0 arg1 => Sys2Proof.Machine.execMapSet slot arg0 arg1 s
  | .mapPart m => Sys2Proof.Machine.execMapPart m s
  | .mapAck seat mapMp => Sys2Proof.Machine.execMapAck seat mapMp s
  | .mapCommit m => Sys2Proof.Machine.execMapCommit m s
  | .mapAckTimeout => Sys2Proof.Machine.execMapAckTimeout s
  | .windowOpen slot arg0 arg1 => Sys2Proof.Machine.execWindowOpen slot arg0 arg1 s
  | .windowClose slot arg0 => Sys2Proof.Machine.execWindowClose slot arg0 s
  | .linkReset slot arg0 => Sys2Proof.Machine.execLinkReset slot arg0 s
  | .tile m => Sys2Proof.Machine.execTile m s
  | .dealerQuery m => Sys2Proof.Machine.execDealerQuery m s
  | .dealerUpdate m => Sys2Proof.Machine.execDealerUpdate m s
  | .updateAnswer seat m => Sys2Proof.Machine.execUpdateAnswer seat m s
  | .dealerUpdateTimeout update seat => Sys2Proof.Machine.execDealerUpdateTimeout update seat s
  | .rowGet m => Sys2Proof.Machine.execRowGet m s
  | .rowPut m => Sys2Proof.Machine.execRowPut m s
  | .rowData m request resent => Sys2Proof.Machine.execRowData m request resent s
  | .beatSend => Sys2Proof.Machine.execBeatSend s
  | .beat seat => Sys2Proof.Machine.execBeat seat s
  | .seatLoss seat => Sys2Proof.Machine.execSeatLoss seat s
  | .dealerLoss => Sys2Proof.Machine.execDealerLoss s
  | .waymarkSend => Sys2Proof.Machine.execWaymarkSend s
  | .waymark seat mp wm => Sys2Proof.Machine.execWaymark seat mp wm s
  | .waymarkSilent seat => Sys2Proof.Machine.execWaymarkSilent seat s
  | .faultNotice seat body => Sys2Proof.Machine.execFaultNotice seat body s
  | .mgmtAttest m => Sys2Proof.Machine.execMgmtAttest m s
  | .linkTonSeatSel value => Sys2Proof.Machine.execLinkTonSeatSel value s
  | .bucketRefill p => Sys2Proof.Machine.execBucketRefill p s
  | .gateEntryChange p => Sys2Proof.Machine.execGateEntryChange p s
  | .gateTakeover p => Sys2Proof.Machine.execGateTakeover p s
  | .setShaper slot arg0 arg1 arg2 => Sys2Proof.Machine.execSetShaper slot arg0 arg1 arg2 s
  | .setGates slot arg0 arg1 arg2 arg3 arg4 => Sys2Proof.Machine.execSetGates slot arg0 arg1 arg2 arg3 arg4 s
  | .cancelGates slot arg0 => Sys2Proof.Machine.execCancelGates slot arg0 s
  | .setQuota slot arg0 arg1 arg2 => Sys2Proof.Machine.execSetQuota slot arg0 arg1 arg2 s
  | .schedLtcLo => Sys2Proof.Machine.execSchedLtcLo s
  | .schedPtSel value => Sys2Proof.Machine.execSchedPtSel value s
  | .schedQuotaSel value => Sys2Proof.Machine.execSchedQuotaSel value s
  | .form slot arg0 arg1 => Sys2Proof.Machine.execForm slot arg0 arg1 s
  | .change slot arg0 arg1 => Sys2Proof.Machine.execChange slot arg0 arg1 s
  | .compositionNotice comp => Sys2Proof.Machine.execCompositionNotice comp s
  | .reclaim slot arg0 arg2 => Sys2Proof.Machine.execReclaim slot arg0 arg2 s
  | .reclaimDeadline comp => Sys2Proof.Machine.execReclaimDeadline comp s
  | .reclaimDone comp => Sys2Proof.Machine.execReclaimDone comp s
  | .keepOpen slot arg0 arg1 => Sys2Proof.Machine.execKeepOpen slot arg0 arg1 s
  | .keepClose slot arg0 => Sys2Proof.Machine.execKeepClose slot arg0 s
  | .restore slot arg0 arg1 => Sys2Proof.Machine.execRestore slot arg0 arg1 s
  | .stepBegin comp => Sys2Proof.Machine.execStepBegin comp s
  | .stepBeginRelease comp => Sys2Proof.Machine.execStepBeginRelease comp s
  | .push comp => Sys2Proof.Machine.execPush comp s
  | .stepEnd comp => Sys2Proof.Machine.execStepEnd comp s
  | .statePush m => Sys2Proof.Machine.execStatePush m s
  | .stateAck m => Sys2Proof.Machine.execStateAck m s
  | .handoffTimeout comp => Sys2Proof.Machine.execHandoffTimeout comp s
  | .keeperProbe comp => Sys2Proof.Machine.execKeeperProbe comp s
  | .lendCSel value => Sys2Proof.Machine.execLendCSel value s
  | .lendKSel value => Sys2Proof.Machine.execLendKSel value s
  | .faultCounterLeak cls inst => Sys2Proof.Machine.execFaultCounterLeak cls inst s
  | .bankSpareSwitch bank => Sys2Proof.Machine.execBankSpareSwitch bank s
  | .coreWatchdog core => Sys2Proof.Machine.execCoreWatchdog core s
  | .stewardHeartbeatLoss steward => Sys2Proof.Machine.execStewardHeartbeatLoss steward s
  | .drillDue entry => Sys2Proof.Machine.execDrillDue entry s
  | .drillEnd result => Sys2Proof.Machine.execDrillEnd result s
  | .setDrills slot arg0 arg1 => Sys2Proof.Machine.execSetDrills slot arg0 arg1 s
  | .drillNow slot arg0 => Sys2Proof.Machine.execDrillNow slot arg0 s
  | .retire slot arg0 => Sys2Proof.Machine.execRetire slot arg0 s
  | .fltLogRead value => Sys2Proof.Machine.execFltLogRead value s
  | .fltLogSel value => Sys2Proof.Machine.execFltLogSel value s
  | .fltRetSel value => Sys2Proof.Machine.execFltRetSel value s
  | .fltCntSel value => Sys2Proof.Machine.execFltCntSel value s
  | .fltDrillPtSel value => Sys2Proof.Machine.execFltDrillPtSel value s
  | .pwrokAssert => Sys2Proof.Machine.execPwrokAssert s
  | .porRelease refclkOk => Sys2Proof.Machine.execPorRelease refclkOk s
  | .refclkStable => Sys2Proof.Machine.execRefclkStable s
  | .romDone selfTestPassed axMillivolts => Sys2Proof.Machine.execRomDone selfTestPassed axMillivolts s
  | .imageCheck readErrorA readErrorB => Sys2Proof.Machine.execImageCheck readErrorA readErrorB s
  | .sectionsLoaded stewardsPassed readError => Sys2Proof.Machine.execSectionsLoaded stewardsPassed readError s
  | .configDone => Sys2Proof.Machine.execConfigDone s
  | .bringUpDone => Sys2Proof.Machine.execBringUpDone s
  | .startTimeout => Sys2Proof.Machine.execStartTimeout s
  | .startFailed => Sys2Proof.Machine.execStartFailed s
  | .configPublish => Sys2Proof.Machine.execConfigPublish s
  | .cfgMpLo => Sys2Proof.Machine.execCfgMpLo s
  | .stageBegin sender => Sys2Proof.Machine.execStageBegin sender s
  | .stageWrite sender offset xferSlot => Sys2Proof.Machine.execStageWrite sender offset xferSlot s
  | .stageCommit sender => Sys2Proof.Machine.execStageCommit sender s
  | .stageAbort sender => Sys2Proof.Machine.execStageAbort sender s
  | .echo core => Sys2Proof.Machine.execEcho core s
  | .blockCmd core => Sys2Proof.Machine.execBlockCmd core s
  | .attest core => Sys2Proof.Machine.execAttest core s
  | .mailboxPost h firstWord words => Sys2Proof.Machine.execMailboxPost h firstWord words s
  | .coreMailboxPost core post => Sys2Proof.Machine.execCoreMailboxPost core post s
  | .coreMailboxPop core fromHost => Sys2Proof.Machine.execCoreMailboxPop core fromHost s
  | .mbxHPop h value => Sys2Proof.Machine.execMbxHPop h value s
  | .mbxHRing h value => Sys2Proof.Machine.execMbxHRing h value s
  | .mbxHCtlReset h value => Sys2Proof.Machine.execMbxHCtlReset h value s
  | .mbxHRejects h => Sys2Proof.Machine.execMbxHRejects h s
  | .mbxHAbortInfo h => Sys2Proof.Machine.execMbxHAbortInfo h s
  | .irqStatusWrite r value => Sys2Proof.Machine.execIrqStatusWrite r value s
  | .msixUnmask vector => Sys2Proof.Machine.execMsixUnmask vector s
  | .nodeRestart value => Sys2Proof.Machine.execNodeRestart value s
  | .nodeLtcLo => Sys2Proof.Machine.execNodeLtcLo s
  | .nodeDieSel value => Sys2Proof.Machine.execNodeDieSel value s
  | .pcieReset kind => Sys2Proof.Machine.execPcieReset kind s
  | .pwrokDeassert => Sys2Proof.Machine.execPwrokDeassert s
  | .railFault dieIndex => Sys2Proof.Machine.execRailFault dieIndex s
  | .refclkLoss => Sys2Proof.Machine.execRefclkLoss s
  | .thermalSample readings throttleN flowOk => Sys2Proof.Machine.execThermalSample readings throttleN flowOk s
  | .avsTelemetry millivolts amps watts => Sys2Proof.Machine.execAvsTelemetry millivolts amps watts s
  | .smbusRead offset => Sys2Proof.Machine.execSmbusRead offset s
  | .clkTsSel value => Sys2Proof.Machine.execClkTsSel value s
  | .porAssert => Sys2Proof.Machine.execPorAssert s
  | .dieFault kind => Sys2Proof.Machine.execDieFault kind s
  | .moveCancel move => Sys2Proof.Machine.execMoveCancel move s
  | .replaceLoadDone slot => Sys2Proof.Machine.execReplaceLoadDone slot s

end Sys2Proof.Machine
end

