-- ==== Sys2Proof/Machine/Step.lean ====
section
/-! DEFINITION. One step of the node: the command at the front of the queue, or one SCLK cycle with none (log 1). -/

namespace Sys2Proof.Machine

/-- A step: the command at the front of the queue takes effect on the state with the rest of the queue; an empty queue lets one SCLK cycle pass. -/
def step (s : State) : Host.Outcome State Fault Refusal :=
  match s.pending with
  | [] => .next (idleCycle s)
  | c :: rest => exec c { s with pending := rest }

/-- The table gives its rows no bits: no word spells a command, and the queue stays as it is. -/
def State.withFetchWord (s : State) (_nbits _w : Nat) : State := s

end Sys2Proof.Machine
end

