-- ==== Sys2Proof/Safety.lean ====
section
/-! DEFINITION. What a safe step is, the terms in which statements about commands are made, and the invariant that every step keeps. -/

namespace Sys2Proof.Machine

/-- A step that neither faults nor is refused. -/
def SafeStep (s : State) : Prop := ∃ t, step s = .next t

/-- Nothing is left for the node to do of its own: no action fell due, no link event, request, command, message or reply waits, and no pair waits at a
Trick Former's input. -/
def State.calm (s : State) : Bool :=
  s.sendsOnly s && s.post.isEmpty && s.slots.replies.isEmpty

/-- An event of a code on an instance leaves its counter below THRESHOLD, so that nothing is declared lasting (R511). -/
def State.uncrossed (s : State) (code cls inst : Nat) : Bool :=
  decide ((faultRow code).2 ≠ 65536) &&
    (decide ((faultRow code).2 = 0 ∨ s.fltThreshold cls = 0 ∨ cls = 0xFF ∨ (cls, inst) ∈ s.flt.retired)
      || decide (s.flt.counters.getD (fltKey cls inst) 0 + (faultRow code).2 < s.fltThreshold cls))

/-- The parts of two states that are not listed agree; registers are left to `SameRegs`. -/
structure State.Same (ps : List Part) (s t : State) : Prop where
  clk : .clk ∉ ps → t.clk = s.clk
  start : .start ∉ ps → t.start = s.start
  ident : .ident ∉ ps → t.ident = s.ident
  cfg : .cfg ∉ ps → t.cfg = s.cfg
  host : .host ∉ ps → t.host = s.host
  slots : .slots ∉ ps → t.slots = s.slots
  xp : .xp ∉ ps → t.xp = s.xp
  kitty : .kitty ∉ ps → t.kitty = s.kitty
  bus : .bus ∉ ps → t.bus = s.bus
  kmem : .kmem ∉ ps → t.kmem = s.kmem
  smem : .smem ∉ ps → t.smem = s.smem
  tiles : .tiles ∉ ps → t.tiles = s.tiles
  pds : .pds ∉ ps → t.pds = s.pds
  quota : .quota ∉ ps → t.quota = s.quota
  sched : .sched ∉ ps → t.sched = s.sched
  idx : .idx ∉ ps → t.idx = s.idx
  qry : .qry ∉ ps → t.qry = s.qry
  link : .link ∉ ps → t.link = s.link
  ton : .ton ∉ ps → t.ton = s.ton
  eng : .eng ∉ ps → t.eng = s.eng
  kv : .kv ∉ ps → t.kv = s.kv
  emb : .emb ∉ ps → t.emb = s.emb
  nand : .nand ∉ ps → t.nand = s.nand
  lend : .lend ∉ ps → t.lend = s.lend
  med : .med ∉ ps → t.med = s.med
  post : .post ∉ ps → t.post = s.post
  flt : .flt ∉ ps → t.flt = s.flt
  out : .out ∉ ps → t.out = s.out
  free : .free ∉ ps → t.free = s.free
  pending : t.pending = s.pending

/-- Every register reads as before, but those listed and those of the listed blocks. -/
def State.SameRegs (ps : List Part) (rs : List Nat) (s t : State) : Prop :=
  ∀ off b, blockOf off = some b → .reg b ∉ ps → off ∉ rs → t.reg off = s.reg off

/-- A command completes: `exec` answers a next state, that differs from the old one in the listed parts and registers alone, and of which `P` holds. -/
def Does (c : Instr) (s : State) (ps : List Part) (rs : List Nat) (P : State → Prop) : Prop :=
  ∃ t, exec c s = .next t ∧ State.Same ps s t ∧ State.SameRegs ps rs s t ∧ P t

/-- Registers that a command of its own writes (R9): a write to one of them does what that command does. -/
def commandRegs : List Nat :=
  [Reg.NODE_IRQ_MASK, Reg.FLT_IRQ_MASK, Reg.CLK_IRQ_MASK, Reg.MBX_H_IRQ_MASK, Reg.MSIX_CTRL, Reg.NODE_DIE_SEL, Reg.CLK_TS_SEL, Reg.FLT_LOG_READ,
   Reg.FLT_LOG_SEL, Reg.FLT_RET_SEL, Reg.FLT_CNT_SEL, Reg.FLT_DRILL_PT_SEL, Reg.KITTY_XP_SEL, Reg.KITTY_RGN_SEL, Reg.KITTY_QUOTA_SEL,
   Reg.KITTY_CLS_SEL, Reg.QRY_TF_SEL, Reg.QRY_TNT_SEL, Reg.IDX_TBL_SEL, Reg.IDX_LST_SEL_LIST, Reg.IDX_HOT_SEL, Reg.MEDIA_CH_SEL,
   Reg.LINK_TON_SEAT_SEL, Reg.SCHED_PT_SEL, Reg.SCHED_QUOTA_SEL, Reg.LEND_C_SEL, Reg.LEND_K_SEL, Reg.STACK_PD_SEL, Reg.STACK_TREE_SEL,
   Reg.STACK_EMB_TBL_SEL, Reg.STACK_EMB_SHARD_SEL, Reg.STACK_EMB_HOT_SEL, Reg.STACK_EMB_OWN_SEL]

/-- The snapshot registers of the transport (R47). -/
def xpSnapRegs : List Nat :=
  Reg.KITTY_XP_STATUS :: [Reg.KITTY_XP_TX_FLITS_LO, Reg.KITTY_XP_RX_FLITS_LO, Reg.KITTY_XP_CRC_ERR_LO, Reg.KITTY_XP_RETRY_LO, Reg.KITTY_XP_STALL_LO,
    Reg.KITTY_XP_E2E_TO_LO].flatMap fun r => [r, r + 4]

/-- The snapshot registers hold a module's record; for a module that does not exist they read 0 (R47, R48). -/
def XpLatched (t : State) (m : XpModule) (exists_ : Bool) (count : Nat) : Prop :=
  (t.reg Reg.KITTY_XP_STATUS).toNat = (if exists_ then 2 ^ 31 + m.lanesRepaired % 256 * 2 ^ 16 + count * 2 ^ 8 + m.state.code else 0) ∧
  t.pair Reg.KITTY_XP_TX_FLITS_LO = (if exists_ then m.live.tx.toNat else 0) ∧ t.pair Reg.KITTY_XP_RX_FLITS_LO = (if exists_ then m.live.rx.toNat else 0) ∧
  t.pair Reg.KITTY_XP_CRC_ERR_LO = (if exists_ then m.live.crcErr.toNat else 0) ∧ t.pair Reg.KITTY_XP_RETRY_LO = (if exists_ then m.live.retry.toNat else 0) ∧
  t.pair Reg.KITTY_XP_STALL_LO = (if exists_ then m.live.stall.toNat else 0) ∧ t.pair Reg.KITTY_XP_E2E_TO_LO = (if exists_ then m.live.e2eTo.toNat else 0)
/-- How many of a spill region's pages are spilled, a recall under way included (R98). -/
def Region.spilledPages (r : Region) : Nat := (r.pages.vals.filter fun p => match p with | .spilled _ | .recalling _ _ => true | _ => false).length
/-- How many are sealed, a spill under way included. -/
def Region.sealedPages (r : Region) : Nat := (r.pages.vals.filter fun p => match p with | .sealed _ _ | .spilling _ _ _ _ _ => true | _ => false).length
/-- An owner that SCHED_QUOTA_SEL shows (R478): a configured tenant, or a composition. -/
def State.quotaHolder (s : State) : Owner → Bool
  | .system => false
  | .tenant n => s.tenantConfigured n
  | .comp _ => true

/-- No command of a family of slots is at work or waits, and the slot may take one (R69). -/
def State.slotIdle (s : State) (f : Family) (slot : Nat) : Bool :=
  s.isRunning && decide (slot < 4) && (List.range 4).all fun k => !s.slotBusy f k

/-- The registers of a slot: OP, arguments and RESULT. -/
def slotRegs (f : Family) (slot : Nat) : List Nat := (List.range (f.args + 2)).map (slotReg f slot)

/-- The slot's command completed: GO reads 0 and RESULT holds what it returns (R69). -/
def SlotDone (f : Family) (slot op result : Nat) (t : State) : Prop :=
  t.slotBusy f slot = false ∧ t.reg (slotReg f slot 0) = w32 op ∧ t.reg (slotResult f slot) = w32 result

/-- The slot's command is under way: GO reads 1, and it waits for what is named. -/
def SlotUnderWay (f : Family) (slot op : Nat) (w : SlotWait) (t : State) : Prop :=
  ((t.slots.runs.get (slotKey f slot)).bind SlotRun.wait) = some w ∧ t.reg (slotReg f slot 0) = w32 (0x80000000 + op)

/-- The slot's command waits for what is named, alone in its family; no host request waits for its answer, and its core has not failed. -/
def State.slotAwaits (s : State) (f : Family) (slot op : Nat) (w : SlotWait) : Bool :=
  s.isRunning && decide (slot < 4) &&
    (match s.slots.runs.get (slotKey f slot) with
     | some r => r.op == op && r.wait == some w && r.reply.isNone && !r.aborted
     | none => false) &&
    (List.range 4).all fun k => k == slot || !s.slotBusy f k

/-- Bytes of one memory in another: every byte that no listed place holds reads as before. -/
def StoredAt (addr : Nat → Option Nat) (off n : Nat) (m m' : Mem) : Prop :=
  ∀ x, (∀ i, i < n → addr (off + i) ≠ some x) → Mem.read m' x = Mem.read m x

/-- A transfer may run: its opcode is known, its stack address exists and is held, and its checks pass (R81). -/
def State.tileReady (s : State) (dom : Owner) (d : TileDesc) (may : Bool) (rgns : List TileRange) : Bool :=
  tileOpOk d && stackOk (tileAddr d) && !s.stackGone (tileAddr d) && r21 (stackChecks dom (tileAddr d) may ++ s.tileChecks dom rgns) == St.ok

/-- Every unit of a holder's spill regions holds a page, the page of a region named in `but` left out: no unit has been emptied (R72). -/
def State.noneEmptied (s : State) (o : Owner) (but : Option (Nat × Nat)) : Bool :=
  s.kitty.regions.all fun e => !(e.2.owner == o && e.2.spill) || match s.kitty.regions.get e.1 with
    | some r => (List.range r.units.length).all fun i => r.pages.any fun x => but != some (e.1, x.1) && x.2.holds.any fun f => f / 32 == i
    | none => true

/-- A domain may write a region through its handle (R60, R61). -/
def mayWrite (domain : Owner) (r : Region) : Bool := mayReach domain r.owner && (!r.readOnly || domain == .system)

/-- The slot's command waits for what is named; no host request waits for its answer, and its core has not failed. -/
def State.slotHas (s : State) (f : Family) (slot op : Nat) (w : SlotWait) : Bool :=
  s.isRunning && decide (slot < 4) &&
    match s.slots.runs.get (slotKey f slot) with
    | some r => r.op == op && r.wait == some w && r.reply.isNone && !r.aborted
    | none => false

/-- A slot that may take a command (R69). -/
def State.slotFree (s : State) (f : Family) (slot : Nat) : Bool := s.isRunning && decide (slot < 4) && !s.slotBusy f slot

/-- What commands of the catalogue and of versions may change, with what sending changes. -/
def idxParts : List Part :=
  [.host, .slots, .kitty, .kmem, .smem, .idx, .link, .nand, .med, .post, .out, .reg .mbx, .reg .idx, .reg .cd, .reg .media, .reg .link]

/-- Of the Kitty a command changed its own traffic alone: class counters, and bytes of the node's own regions (R51, R74). -/
def SelfTraffic (s t : State) : Prop :=
  t.kitty = { s.kitty with classes := t.kitty.classes } ∧
    ∀ a, (∀ e ∈ s.kitty.service, ∀ r, s.kitty.regions.get e.2 = some r → ∀ o, r.addr o ≠ some a) → Mem.read t.kmem a = Mem.read s.kmem a

/-- The state with an update recorded whose operations are on their way (R217). -/
def State.withUpdate (u : Update) (s : State) : State :=
  { s with idx := { s.idx with upds := s.idx.upds.put s.idx.nextUpd u, nextUpd := s.idx.nextUpd + 1 } }

/-- A table with an open group of one operation that has just joined (R229). -/
def IdxTable.opens (x : IdxTable) (o : GroupOp) (now : Nat) : IdxTable := { x with openGroup := some ⟨[o], o.changes, now⟩ }

/-- An OPEN of the page waits for the spill of another (R91). -/
def Region.awaited (r : Region) (p : Nat) : Bool :=
  r.pages.vals.any fun x => match x with | .spilling _ _ _ _ (some (q, false)) => q == p | _ => false

/-- What commands of versions that send may change. -/
def idxSends : List Part := [.host, .slots, .kitty, .kmem, .smem, .idx, .link, .nand, .med, .post, .out, .reg .mbx, .reg .idx, .reg .media, .reg .link]
/-- What commits of lists may change: tables, their objects, and the slot that waits. -/
def idxCommits : List Part := [.slots, .kitty, .kmem, .smem, .idx, .nand, .med, .reg .idx, .reg .media]

/-- What the end of a query changes: its number and hands, and what sending its answer changes. -/
def qryEnds : List Part := [.host, .slots, .qry, .link, .post, .out, .reg .mbx, .reg .link]

/-- Lists by ascending probe distance, ties to the lower list; NaN distances are left out (R163). -/
def rankedLists (d : List W32) : List Nat :=
  (sortBy (fun a b : Nat × W32 => decide (dKey a.2 < dKey b.2)) ((List.zip (List.range d.length) d).filter fun x => !isNan x.2)).map Prod.fst

/-- A trick of a quadrant goes to an idle scan engine at once: the quadrant's launch queue is empty and nothing waits for space in it (R169). -/
def State.goesTo (s : State) (q : Nat) (y : Trick) (e : Nat) : Bool :=
  s.isRunning && s.launchTo q none == some q && (s.former q).queue.isEmpty && !s.spaceWaiters q && s.engineFor q y == some e

/-- A trick launched: its entry is free and the engine scans it from its first strip. -/
def TrickLaunched (q entry e : Nat) (y : Trick) (t : State) : Prop :=
  (t.former q).opens.get entry = none ∧ (t.former q).queue = [] ∧ ∃ c, t.qry.engines.get e = some ⟨{ y with count := c }, 0, false⟩

/-- A query that waits for nothing more of its stage. -/
def Query.stageOver (q : Query) : Bool := q.phase == .scanning && q.pairsTo.isEmpty && q.pairsOpen == 0 && q.inbox.isEmpty

/-- A rerank that waits for its vectors, or begins with them (R178). -/
def Query.toRerank (q : Query) : List (Cand × Fetch) :=
  ((handOrder q.flushed.entries).take (qRerank q.header)).map fun c => (c, if hasFv q.gen c.row then Fetch.waiting else Fetch.none_)

/-- A query whose arrived entry is numbered and staged (R196). -/
def Query.staged (q : Query) (oldest : Nat) (c : Cand) : Query :=
  { q with inbox := [], nextSeq := q.nextSeq + 1, oldest := oldest, staging := q.staging ++ [{ c with seq := q.nextSeq }] }

/-- An exact query past an entry of list `l`, with what is left of the list and what was sent to its select unit (R182). -/
def Query.scored (q : Query) (l : Nat) (rest : List Cand) (sent : List (Nat × Nat × Cand)) : Query :=
  { q with cursor := l + 1, rerank := rest.map fun x => (x, Fetch.waiting), inbox := q.inbox ++ sent }

/-- A command started: it has left the queue and is under way with its status and resource; no other unit and no sequencer changed (R282). -/
def CmdStarted (c : UnitClass) (n : Nat) (x : EngCmd) (res : EngRes) (s t : State) : Prop :=
  (t.engine c n).queue = (s.engine c n).queue.drop 1 ∧ (t.engine c n).running = (s.engine c n).running ++ [⟨x, St.ok, false, res⟩] ∧
  (t.engine c n).owner = (s.engine c n).owner ∧ (t.engine c n).last = (s.engine c n).last ∧
  (∀ k, k ≠ engKey c n → t.eng.units.get k = s.eng.units.get k) ∧ t.eng.seqs = s.eng.seqs

/-- The front command of a unit is the operation asked for and may start, and no sequencer is stalled on the unit. -/
def State.starts (s : State) (c : UnitClass) (n op : Nat) (x : EngCmd) : Bool :=
  s.startable c n (· == op) == some x && (s.engine c n).stalled.isEmpty

/-- The registers of a unit that its commands change. -/
def vuRegs (n : Nat) : List Nat :=
  [Reg.STACK_KV_PAGE_READS_LO, Reg.STACK_KV_PAGE_READS_HI] ++
    [Reg.CD_VU_STATUS, Reg.CD_VU_NAN, Reg.CD_VU_OPS_LO, Reg.CD_VU_OPS_HI].map fun r => engReg .vu n 0 r 0 0
def meRegs (n : Nat) : List Nat :=
  [Reg.STACK_KV_PAGE_READS_LO, Reg.STACK_KV_PAGE_READS_HI] ++
    [Reg.CD_ME_STATUS, Reg.CD_ME_MODE_SW, Reg.CD_ME_BUSY_LO, Reg.CD_ME_BUSY_LO + 4, Reg.CD_ME_SAT].map fun r => engReg .me n r 0 0 0
def skRegs (n : Nat) : List Nat :=
  [Reg.STACK_KV_PAGE_READS_LO, Reg.STACK_KV_PAGE_READS_HI] ++
    [Reg.CD_SK_STATUS, Reg.CD_SK_BYTES_LO, Reg.CD_SK_BYTES_HI].map fun r => engReg .sk n 0 0 r 0

/-- A unit's STATUS register, and a sequencer's CD_SQ_STATE. -/
def statusReg (c : UnitClass) (n : Nat) : Nat := engReg c n Reg.CD_ME_STATUS Reg.CD_VU_STATUS Reg.CD_SK_STATUS Reg.STACK_GE_STATUS
def seqStateReg (q : Nat) : Nat := Reg.CD_SQ_STATE + 0x80000 * (q / 8) + 0x40 * (q % 8)

/-- The registers that the completion of a unit's command changes. -/
def doneRegs (c : UnitClass) (n : Nat) (x : EngCmd) : List Nat :=
  [statusReg c n, syncOff (engDie c n) (cmdSigCtr x.bytes), seqStateReg x.sq] ++ match c with
    | .me => [Reg.CD_ME_TILES, Reg.CD_ME_PASSES, Reg.CD_ME_MACS_LO, Reg.CD_ME_MACS_HI].map fun r => engReg .me n r 0 0 0
    | .sk => [engReg .sk n 0 0 Reg.CD_SK_DONE 0]
    | _ => []

/-- A command completed with a status: the unit's last status, its signal and its record (R283, R285); no other unit changed. -/
def CmdCompleted (c : UnitClass) (n : Nat) (x : EngCmd) (st : Nat) (signals : Bool) (s t : State) : Prop :=
  (t.engine c n).last = st ∧
  t.reg (syncOff (engDie c n) (cmdSigCtr x.bytes)) = s.reg (syncOff (engDie c n) (cmdSigCtr x.bytes)) + (if cmdFlag x.bytes 2 && signals then 1 else 0) ∧
  (t.seqCore x.sq).cq = (s.seqCore x.sq).cq ++ (if cmdFlag x.bytes 0 then [leBytes 2 (fieldAt x.bytes 8 2) ++ leBytes 1 st ++
    leBytes 1 (64 * clsNum c + n % clsPerDie c) ++ leBytes 4 0 ++ leBytes 8 s.now] else []) ∧
  ∀ k, k ≠ engKey c n → t.eng.units.get k = s.eng.units.get k

/-- Bytes of an operand of a vector command in a format. -/
def vuSize (b : Bytes) (fmt : Nat) : Nat := arrayBytes fmt (vuCmd b).shape.1 (vuCmd b).shape.2

/-- Operand `k` of a vector command, widened to FP32 (R309). -/
def State.vuOperand (s : State) (b : Bytes) (k fmt : Nat) : List W32 := widen fmt (vuCmd b).shape.1 (vuCmd b).shape.2 (s.opRead b k (vuSize b fmt))

/-- The formats of a vector command are those its operation takes (R309), and it has elements. -/
def vuForm (b : Bytes) : Bool := vuInOk (vuCmd b) && decide ((vuCmd b).count ≠ 0 ∧ 2 ≤ (vuCmd b).outF ∧ (vuCmd b).outF ≤ 11)

/-- A vector command of one input operand, and of two, with its result operand passes its checks (R284). -/
def State.vuOneOk (s : State) (n op : Nat) (x : EngCmd) (sizeOut : Nat) : Bool :=
  s.starts .vu n op x && vuForm x.bytes && s.engChecks .vu n x false false
    [(cmdHandle x.bytes 0, cmdOffset x.bytes 0, vuSize x.bytes (vuCmd x.bytes).inF, false), (cmdHandle x.bytes 2, cmdOffset x.bytes 2, sizeOut, true)] == St.ok
def State.vuWithOk (s : State) (n op : Nat) (x : EngCmd) (sizeB : Nat) : Bool :=
  s.starts .vu n op x && vuForm x.bytes && decide (sizeB ≠ 0) && s.engChecks .vu n x false false
    [(cmdHandle x.bytes 0, cmdOffset x.bytes 0, vuSize x.bytes (vuCmd x.bytes).inF, false),
     (cmdHandle x.bytes 1, cmdOffset x.bytes 1, sizeB, false),
     (cmdHandle x.bytes 2, cmdOffset x.bytes 2, vuSize x.bytes (vuCmd x.bytes).outF, true)] == St.ok
def State.vuTwoOk (s : State) (n op : Nat) (x : EngCmd) : Bool := s.vuWithOk n op x (vuSize x.bytes (vuCmd x.bytes).inF)

/-- Values of operand 1 that are FP32 (R288, R318). -/
def State.vuFloats (s : State) (b : Bytes) (n : Nat) : List W32 := widen 5 1 n (s.opRead b 1 (4 * n))

/-- The rows that a row operation works on are whole. -/
def vuRows (b : Bytes) : Bool := decide ((vuCmd b).row ≠ 0) && (vuCmd b).count % (vuCmd b).row == 0

/-- A vector command has written its results at its third operand, counted its NaN results, and is under way. -/
def VuWrote (n : Nat) (x : EngCmd) (res : List W32) (s t : State) : Prop :=
  t.kmem = (s.opWrite x.bytes 2 (vuOut (vuCmd x.bytes) res).1).kmem ∧ CmdStarted .vu n x .whole s t ∧
  (t.reg (engReg .vu n 0 Reg.CD_VU_NAN 0 0)).toNat = min 0xFFFFFFFF ((s.reg (engReg .vu n 0 Reg.CD_VU_NAN 0 0)).toNat + (res.filter isNan).length)

/-- A gather or scatter passes its checks (R284, R353): counters and unit are the owner's, the table is LIVE and its owner's, the operands lie in their
regions, the stride holds a row. -/
def State.gatherFits (s : State) (scatter : Bool) (ge : Nat) (x : EngCmd) (t : EmbTable) : Bool :=
  let b := x.bytes
  let n := fieldAt b 44 4
  let w := if bitOf (byteAt b 42) 0 then 8 else 4
  let ok (k len : Nat) (write : Bool) : Bool := !s.beyond (cmdHandle b k) (cmdOffset b k) len &&
    s.operandStatus (s.engine .ge ge).owner (cmdHandle b k) (cmdOffset b k) len write == St.ok
  s.starts .ge ge (if scatter then 0x41 else 0x40) x && !s.engDenied .ge ge x && s.emb.tables.get (fieldAt b 40 2) == some t && t.state == 1 &&
    ((s.pds.get t.pdRows).all fun d => (d.owner == (s.seqCore x.sq).owner || (s.seqCore x.sq).owner == .system) && !(scatter && d.readOnly)) &&
    decide (n ≤ 2 ^ 20 ∧ fieldAt b 40 2 ≤ 1023 ∧ t.rowBytes ≤ fieldAt b 48 4 ∧ fieldAt b 48 4 % 16 = 0) &&
    ok 0 (w * n) false && ok 1 (n * fieldAt b 48 4) (!scatter) && ok 2 ((64 + n + 63) / 64 * 64) true

/-- The row that a gather's only position names. -/
def State.firstRow (s : State) (x : EngCmd) : Nat :=
  leNat (s.opRead x.bytes 0 (if bitOf (byteAt x.bytes 42) 0 then 8 else 4))

/-- Registers of a gather engine. -/
def geRegs (ge : Nat) : List Nat :=
  [Reg.STACK_GE_STATUS, Reg.STACK_GE_ROWS_LO, Reg.STACK_GE_ROWS_LO + 4, Reg.STACK_GE_WRITES, Reg.STACK_GE_DROP_RANGE, Reg.STACK_GE_DROP_MISSING,
    Reg.STACK_GE_MOVED, Reg.STACK_GE_FAULT, Reg.STACK_GE_COALESCED].map fun r => geReg ge r

/-- The bytes that no offset of a region lies at. -/
def outside (g : Option Region) (x : Nat) : Prop := ∀ r, g = some r → ∀ o, r.addr o ≠ some x

/-- The registers that count parts of KV pages read (R343). -/
def kvReadRegs : List Nat := [Reg.STACK_KV_PAGE_READS_LO, Reg.STACK_KV_PAGE_READS_HI]

/-- A tree's next entry is a request of an operation, from ring `c`. -/
def State.kvAsks (s : State) (n op c : Nat) (tr : KvTree) (b : Bytes) : Bool :=
  s.isRunning && s.kv.get n == some tr && s.kvNext tr == some c && s.treeRead tr (s.kvEntryAt tr c) 64 == b && byteAt b 0 == op

/-- An EMB command of a move of the rows listed, of a LIVE table, that nothing holds back (R364). -/
def State.movable (s : State) (slot id : Nat) (t : EmbTable) (rows : List Nat) : Bool :=
  s.emb.tables.get id == some t && t.state == 1 && !rows.isEmpty && decide (rows.length ≤ 4096) &&
    rows.all (fun r => decide (r < t.rows) && (s.reloc id r).isNone && (s.rowMoving id r).isNone) &&
    decide (s.relocUse + rows.length ≤ (s.reg Reg.STACK_EMB_RELOC_LIMIT).toNat ∧ s.rowMoves < 16) && !s.embNamed slot id

/-- No request but `id` waits to issue a program. -/
def State.noneWaits (s : State) (id : Option Nat) : Bool := s.med.reqs.all fun e => id == some e.1 || e.2.todo.isEmpty

/-- No superblock but `k` is closed, being emptied or being erased, and none with a retired die holds a live page: nothing is to be relocated. -/
def State.sbsRest (s : State) (k : Nat) : Bool :=
  s.med.sbs.all fun e => k == e.1 || match e.2 with | .opened _ => true | .system => true | .retired => (s.livePages e.1).isEmpty | _ => false

/-- A map unit that is programmed brings no flush of the journal with it (R401). -/
def State.noFlush (s : State) : Bool := s.mapMode != 0 || decide (s.med.sinceFlush + 1 < (s.reg Reg.MEDIA_JOURNAL_BYTES).toNat * 16)

/-- The superblock counts of the media's registers. -/
def mediaCountRegs : List Nat := [Reg.MEDIA_FREE_SB, Reg.MEDIA_ERASE_MIN, Reg.MEDIA_ERASE_MAX, Reg.MEDIA_REBUILD_PENDING]

/-- The next entry of a ring whose turn it is (R383). -/
def State.ringFront (s : State) (ringK : Nat) (r : MediaRing) (e : Bytes) : Bool :=
  s.isRunning && s.med.rings.get ringK == some r && r.detach.isNone && s.ringNext (ringK / 64) == some ringK && s.ringRead r (2 + r.accepted % 64) 64 == e

/-- The next entry of a ring whose turn it is, of operation `op` and length 1, passes its checks with the media READY (R383, R384). -/
def State.ringHas (s : State) (ringK op : Nat) (r : MediaRing) (e : Bytes) : Bool :=
  s.ringFront ringK r e && reqOpc e == op && reqLen e == 1 && s.reqStatus (s.ringDomain r) e == St.ok && s.mediaState == 3

/-- A request accepted from a ring: it is listed with what it has outstanding, the ring counts it, and its quadrant has served that ring. -/
def ReqTaken (s t : State) (ringK : Nat) (r : MediaRing) (e : Bytes) : Prop :=
  t.med.rings.get ringK = some { r with accepted := r.accepted + 1 } ∧ t.med.turn.get (ringK / 64) = some (ringK % 64) ∧
  ∃ q, t.med.reqs.get s.med.nextId = some q ∧ q.entry = e ∧ q.ring = ringK ∧
    q.slot = r.accepted % 2 ^ 32 ∧ q.domain = s.ringDomain r ∧ q.outstanding = 1 ∧ q.todo = [] ∧ q.status = St.ok

/-- The counters of a channel after a codeword has been read with an outcome other than failure (Table 11.7). -/
def ChanCount.after (c : ChanCount) (o : CwOutcome) : ChanCount :=
  { c with reads := satAdd64 c.reads 1, retries := if o = .retry then satAdd32 c.retries 1 else c.retries,
           soft := if o = .soft then satAdd32 c.soft 1 else c.soft }

/-- Registers that show a port's state and partner (Table 12.10). -/
def portRegs (l : Nat) : List Nat :=
  [Reg.LINK_L_STATE, Reg.LINK_L_FEAT, Reg.LINK_L_PARTNER, Reg.LINK_L_SERIAL_LO, Reg.LINK_L_SERIAL_LO + 4].map (linkReg l)
/-- Registers that a link's going down changes (R433). -/
def downRegs (l : Nat) : List Nat := portRegs l ++ [linkReg l Reg.LINK_L_FWD_DOWN, linkReg l Reg.LINK_L_DOWN_EVENTS]
/-- A link's counters of flits sent and received. -/
def txFlits (l : Nat) : List Nat := [linkReg l Reg.LINK_L_TX_FLITS_LO, linkReg l Reg.LINK_L_TX_FLITS_LO + 4]
def rxFlits (l : Nat) : List Nat := [linkReg l Reg.LINK_L_RX_FLITS_LO, linkReg l Reg.LINK_L_RX_FLITS_LO + 4]

/-- A port is as given, and nothing else of the links changed. -/
def PortNow (l : Nat) (p : LinkPort) (s t : State) : Prop :=
  t.port l = p ∧ (∀ k, k ≠ l → t.port k = s.port k) ∧ t.link.inbox = s.link.inbox ∧ t.link.reasm = s.link.reasm ∧ t.link.windows = s.link.windows ∧
    t.link.msgIds = s.link.msgIds ∧ t.link.mute = s.link.mute

/-- A HELLO went out and the port is in HELLO with its timer started (R430). -/
def HelloSent (l : Nat) (s t : State) : Prop :=
  PortNow l { s.port l with state := 2, helloNo := ((s.port l).helloNo + 1) % 2 ^ 32, helloAt := s.now, own := none } s t ∧
    t.out = .hello l (s.helloPacket l 1 (s.helloBody l (((s.port l).helloNo + 1) % 2 ^ 32))) :: s.out ∧
    t.pair (linkReg l Reg.LINK_L_TX_FLITS_LO) = min (2 ^ 64 - 1) (s.pair (linkReg l Reg.LINK_L_TX_FLITS_LO) + 1)

/-- The packet's source as the receiver takes it: at its first link, the partner's node (R418). -/
def State.sourced (s : State) (l : Nat) (b : Bytes) : Bytes :=
  if pHop b = 0 then patch b 10 (leBytes 2 ((s.port l).partner.elim 0 Partner.node)) else b
/-- A packet has arrived on a virtual channel of a live port, with the length its header gives, of a type agreed for the link, as is a feature it uses. -/
def State.packetIn (s : State) (l vc : Nat) (b e : Bytes) : Bool :=
  s.linkOk l && (s.port l).live && ((s.port l).arrived.find? fun a => a.1 == vc) == some (vc, b) && decide (32 ≤ b.length ∧ pBody b ≤ 16384) &&
    b.length == 240 * ((32 + pBody b + 239) / 240) && e == s.sourced l b && (s.port l).carries e && tonOk (pType e) (pTon e) s.myTon
/-- The port once that packet is taken. -/
def LinkPort.taken (p : LinkPort) (vc : Nat) : LinkPort := { p with arrived := removeFirst (fun x => x.1 == vc) p.arrived }

/-- The queue that a link's egress point selects (R457). -/
def State.egressPick (s : State) (l : Nat) : Option Nat :=
  ((s.point (.link l)).select 4 ((List.range 8).map fun v => ((s.port l).queue v).head?.map packetCost)
    (fun v => (s.port l).hasCredit v ((((s.port l).queue v).head?).elim false headRelay))
    ((s.point (.link l)).stillOpen s.now fun v => (s.port l).headAt.getD v 0)).1
/-- A live port sends nothing yet and has room for a flit that waits for its ACK. -/
def LinkPort.maySend (p : LinkPort) : Bool := p.live && p.sending.isNone && decide (p.replay.length < 512)
/-- The link is up, no map is held, no composition spans a link, and its going down is not lasting: nothing but the event remains to be done. -/
def State.linkAlone (s : State) (l : Nat) : Bool :=
  s.linkOk l && (s.port l).live && s.ton.cur.isNone && s.mySeat != some 0 && s.lend.comps.isEmpty && s.uncrossed 0x0051 14 l
/-- The link is DOWN, counted, reported in an event and logged (R432, R433). -/
def LinkFell (l : Nat) (s t : State) : Prop :=
  (t.port l).state = 0 ∧ (∀ k, k ≠ l → t.port k = s.port k) ∧ t.link.inbox = s.link.inbox ∧
    (t.reg (linkReg l Reg.LINK_L_DOWN_EVENTS)).toNat = min 0xFFFFFFFF ((s.reg (linkReg l Reg.LINK_L_DOWN_EVENTS)).toNat + 1) ∧
    (∃ e, t.ton.events = [e] ∧ e.leave = true ∧ e.link = l) ∧ ∃ r, t.flt.log.head? = some r ∧ r.code = 0x0051

/-- Registers of the map current and pending (Table 12.10), and of marks. -/
def mapRegs : List Nat :=
  Reg.LINK_ROLE :: [Reg.LINK_MAP_MP_LO, Reg.LINK_MAP_PENDING_LO, Reg.LINK_MAP_INSTALL_LO].flatMap fun r => [r, r + 4]
def markRegs : List Nat := [Reg.LINK_TON_MISMATCH_LO, Reg.LINK_TON_SILENT_LO].flatMap fun r => [r, r + 4]
/-- Registers of the seat selected on the dealer (R453). -/
def seatRegs : List Nat :=
  [Reg.LINK_TON_SEAT_SEL, Reg.LINK_TON_SEAT_STATE, Reg.LINK_TON_SEAT_QSENT, Reg.LINK_TON_SEAT_QMISSING, Reg.LINK_TON_SEAT_LAT, Reg.LINK_TON_SEAT_MOVED]
    ++ (List.range 16).map fun i => Reg.LINK_TON_SEAT_WM + 4 * i

/-- The map that a MAP_SET names passes its checks on the dealer, with no change in progress (R436, R437). -/
def State.mapReady (s : State) (a0 a1 : W32) (m : Bytes) : Bool :=
  match s.handleRead (fld a0 31 16) (64 * a1.toNat) 64 with
  | some head => s.isDealer && s.ton.change.isNone && !s.beyond (fld a0 31 16) (64 * a1.toNat) 64 && decide (mapLen head ≤ 2 ^ 21) &&
      !s.beyond (fld a0 31 16) (64 * a1.toNat) (mapLen head) && s.handleRead (fld a0 31 16) (64 * a1.toNat) (mapLen head) == some m &&
      mapFieldsOk m s.myTon && decide (mapMp head = s.mapNow + 1) &&
      decide (mapMp head ≠ 1 ∨ (mapDealer head = 0 ∧ mapStandby head = if mapSeats head = 1 then 255 else 1))
  | none => false
/-- Installing a map ends no move and takes no composition down: every seat that was LIVE still is, and there is no composition; no further change of
the map waits. -/
def State.installsAlone (s : State) (m : Bytes) : Bool :=
  s.ton.edits.isEmpty && s.lend.comps.isEmpty && (List.range 64).all fun n => !(s.ton.cur.any fun o => mapLive o n) || mapLive m n
/-- A map is current (R438). -/
def MapCurrent (m : Bytes) (s t : State) : Prop :=
  t.ton.cur = some m ∧ t.ton.prev = s.ton.cur ∧ t.ton.installed = s.now ∧ t.ton.change = none ∧ t.pair Reg.LINK_MAP_MP_LO = mapMp m % 2 ^ 64

/-- A query as the dealer takes it: the descriptor holds its client's endpoint (R444). -/
def dealtDesc (m : Msg) : Bytes := sliceAt m.body 0 40 ++ leBytes 4 m.src.toNat ++ sliceAt m.body 44 20 ++ m.body.drop 64
/-- An update's header as the dealer takes it. -/
def dealtHeader (m : Msg) : Bytes := sliceAt m.body 0 24 ++ leBytes 4 m.src.toNat ++ sliceAt m.body 28 36
/-- A part of a dealer's update that a seat answers. -/
def DealPart.answered (b : Bytes) (p : DealPart) : DealPart := if p.tag = fieldAt b 16 8 then { p with answer := some b } else p
/-- Parts of a seat that have not answered once IDX_UPD_WAIT after the send has passed get TIMEOUT (R445). -/
def DealPart.isLate (seat wait now : Nat) (p : DealPart) : Bool := p.seat == seat && !p.done && decide (p.sent + wait < now)
def DealPart.timed (seat wait now : Nat) (p : DealPart) : DealPart := if p.isLate seat wait now then { p with status := some St.timeout } else p

/-- A request for one row of a LIVE table passes its checks (R353, R422): the row is the table's and was not moved away. -/
def State.rowAsk (s : State) (put : Bool) (m : Msg) (tb : EmbTable) (row : Nat) : Bool :=
  s.isRunning && decide (16 ≤ m.body.length ∧ fieldAt m.body 4 4 = 1 ∧ fieldAt m.body 0 2 ≤ 1023) &&
    s.emb.tables.get (fieldAt m.body 0 2) == some tb && tb.state == 1 && tb.dropSlot.isNone &&
    (match ownerOf (fieldAt m.body 8 4) with
     | some o => (s.pds.get tb.pdRows).all fun d => (d.owner == o || o == .system) && !(put && d.readOnly)
     | none => false) &&
    row == fieldAt m.body 16 (if bitOf (byteAt m.body 2) 0 then 8 else 4) && decide (row < tb.rows) &&
    row != (if bitOf (byteAt m.body 2) 0 then 2 ^ 64 - 1 else 2 ^ 32 - 1) &&
    match s.rowKind (fieldAt m.body 0 2) row (tb.pinAt s.cycle) with | some (.away _) => false | _ => true
/-- Bytes of the index of a row request. -/
def idxBytes (m : Msg) : Nat := if bitOf (byteAt m.body 2) 0 then 8 else 4
/-- The selected seat's fields on the dealer; elsewhere, and for a seat outside the map, 0 (R453). -/
def State.seatShown (s : State) (n v : Nat) : W32 := if s.isDealer && s.ton.cur.any (fun m => decide (n < mapSeats m)) then w32 v else 0
/-- The windows of the seats' figures go on. -/
def State.tonWindow (s : State) : Bool := decide ((s.now - s.ton.window) / max 1 (s.reg Reg.IDX_SKEW_WIN).toNat = 0)

/-- Registers of the selected point and queue, and of the selected quota (R478). -/
def ptRegs : List Nat :=
  [Reg.SCHED_PT_SEL, Reg.SCHED_Q_CFG, Reg.SCHED_Q_RATE, Reg.SCHED_Q_LEVEL, Reg.SCHED_Q_DEFICIT, Reg.SCHED_Q_DEPTH, Reg.SCHED_Q_GATE_WAIT,
    Reg.SCHED_Q_RATE_WAIT, Reg.SCHED_PT_GATES]
    ++ [Reg.SCHED_Q_SENT_LO, Reg.SCHED_Q_TOKENS_LO, Reg.SCHED_PT_START_LO].flatMap fun r => [r, r + 4]
def quotaRegs : List Nat :=
  [Reg.SCHED_QUOTA_SEL, Reg.SCHED_QUOTA_DENIED] ++ [Reg.SCHED_QUOTA_LIMIT_LO, Reg.SCHED_QUOTA_USE_LO].flatMap fun r => [r, r + 4]
/-- One point is as given, every other as before. -/
def PointNow (p : Point) (v : PointSt) (s t : State) : Prop := t.point p = v ∧ ∀ r, pointKey r ≠ pointKey p → t.point r = s.point r
/-- A live change was accepted: the configuration milepost will advance (R476, R565). -/
def ChangeAccepted (s t : State) : Prop := t.cfg.accepted = s.cfg.accepted + 1 ∧ t.cfg.milepost = s.cfg.milepost
/-- RATE that a queue has once its change is in force. -/
def SchedQueue.planned (q : SchedQueue) : Nat := match q.change with | some (r, _, _) => r | none => q.rate
/-- A holder that SET_QUOTA may name (R472). -/
def State.holderOk (s : State) : Owner → Bool
  | .system => false | .tenant t => s.tenantConfigured t | .comp c => c != 0
/-- A point's queue has a shaper change that waits for the next refill (R462). -/
def PointSt.withChange (x : PointSt) (q : Nat) (c : Nat × Nat × Nat) : PointSt := { x with queues := x.queues.set q { x.queue q with change := some c } }
/-- The gate entry after one that held for its DURATION `n` (R464). -/
def PointSt.nextEntry (x : PointSt) (n : Nat) : PointSt := { x.gatesChange (x.entryStart + n) with entry := (x.entry + 1) % x.gates.length, entryStart := x.entryStart + n }

/-- Units, sequencers and regions that FORM and CHANGE move (R483, R484), and those a reclaim returns (R500). -/
def movesParts : List Part := [.slots, .kitty, .bus, .quota, .sched, .eng, .emb, .lend, .reg .cd, .reg .lend, .reg .stack]
/-- The quotas of a composition's descriptor hold. -/
def QuotasOf (id : Nat) (d : Bytes) (t : State) : Prop :=
  t.quota.limits.get (quotaKey (.comp id) 0) = some (fieldAt d 36 4) ∧ t.quota.limits.get (quotaKey (.comp id) 1) = some (fieldAt d 40 4) ∧
    t.quota.limits.get (quotaKey (.comp id) 2) = some (fieldAt d 48 8)
/-- FORM's descriptor passes its checks and there is room for the composition (R482, R483). -/
def State.formable (s : State) (a0 a1 : W32) (d : Bytes) : Bool :=
  s.handleRead (fld a0 31 16) (64 * a1.toNat) 128 == some d && byteAt d 1 == 1 && r21 (s.compChecks d [] []) == St.ok && !s.compLive (fieldAt d 2 2) &&
    decide ((s.lend.comps.vals.filter Comp.live).length < 64) && s.freeNumber.isSome && !((s.offer (List.range 24)).take 1).isEmpty &&
    decide (fieldAt d 36 4 ≠ 0)
/-- CHANGE's descriptor passes its checks against the composition's (R484). -/
def State.changeable (s : State) (a0 a1 : W32) (d : Bytes) (c : Comp) : Bool :=
  s.handleRead (fld a0 31 16) (64 * a1.toNat) 128 == some d && s.comp (fieldAt d 2 2) == some c && c.state == 1 &&
    r21 (s.compChecks d (dUnits c.desc) (dSeqs c.desc)) == St.ok && byteAt d 1 == byteAt c.desc 1 && dTraining d == dTraining c.desc &&
    dSpan d == dSpan c.desc && (!dSpan d || fieldAt d 6 2 == fieldAt c.desc 6 2) && dPush d == dPush c.desc &&
    ((dSmall d && dSmall c.desc) || (dSeqs c.desc).all fun q => (s.seqCore q).state != 1 && (s.seqCore q).state != 2)
/-- What signalling a counter adds to it: 1 where its group is the owner's (R283). -/
def State.signalled (s : State) (o : Owner) (die ctr : Nat) : W32 := s.reg (syncOff die ctr) + (if s.holdsCtr o die ctr then 1 else 0)
/-- The sync counter that an entry names with a die below 8. -/
def syncNamed (die ctr : Nat) : List Nat := if die < 8 then [syncOff die (ctr % 64)] else []
/-- The next entry of a training composition's push ring asks for an operation, names no counter that the composition lacks, and nothing waits before it (R283, R486). -/
def State.ringAsks (s : State) (id op : Nat) (c : Comp) (b : Bytes) : Bool :=
  s.isRunning && s.comp id == some c && (c.state == 1 || c.state == 2) && c.training && decide (1 ≤ op ∧ op ≤ 3) &&
    (match s.ringEntry c with | some e => e.2.2 == b | none => false) && byteAt b 0 == op && c.waiting.isNone && !s.ctrRefused (.comp id) (byteAt b 4) (byteAt b 5 % 64)
/-- The composition pushes to its keeper and has no detour to turn to. -/
def Comp.direct (c : Comp) : Bool := !c.detour && c.pdDetour == 0
/-- A PUSH from a region of the composition passes its checks, with room for the copy at `a` of the push buffer (R488). -/
def State.pushable (s : State) (id : Nat) (c : Comp) (b : Bytes) (a : Nat) (p : PlaceDesc) : Bool :=
  byteAt b 1 == 0 && r21 (s.rgnChecks (.comp id) (fieldAt b 18 2) (64 * fieldAt b 20 4) (fieldAt b 32 8) false) == St.ok && c.openStep &&
    decide (fieldAt b 8 8 = c.begun ∧ fieldAt b 16 2 ≤ 4095 ∧ fieldAt b 16 2 ∉ c.objects ∧ fieldAt b 32 8 ≠ 0 ∧ fieldAt b 32 8 % 64 = 0) &&
    s.pds.get (dPush c.desc) == some p && decide (p.tier ≠ 2 ∧ 2 * fieldAt b 32 8 ≤ p.length) &&
    pushPlace ((c.items.filter fun x => !x.stepRec && !x.acked && !x.logged).map fun x => (x.place, x.bytes)) p.length (fieldAt b 32 8) == some a
/-- A pushed object of one packet, of the step after the secured one, is to be kept: its CHECK holds and the slot it goes to has nothing newer of it (R492). -/
def State.keepable (s : State) (m : Msg) (k : Keep) : Bool :=
  let b := m.body
  let x := s.keepSlot k (fieldAt b 4 4) (s.freeSlotOf k (fieldAt b 4 4))
  byteAt b 0 == 0 && fieldAt b 24 8 == 0 && decide (fieldAt b 36 4 ≤ fieldAt b 32 4 ∧ fieldAt b 4 4 < k.objects ∧ fieldAt b 36 4 ≤ k.slotBytes) &&
    decide (fieldAt b 8 8 = k.secured + 1) && (crc32c (sliceAt b 64 (fieldAt b 32 4))).toNat == fieldAt b 40 4 &&
    !(decide (x.step = fieldAt b 8 8) && x.whole && decide (fieldAt b 16 8 ≤ x.own))
/-- The keep that a message of a pusher goes to. -/
def State.keepFor (s : State) (m : Msg) : Option (Nat × Keep) := s.lend.keeps.find? fun e => e.2.pusher == m.src && e.2.comp == fieldAt m.body 2 2
/-- Bytes of a directory entry of a keep (R492). -/
def dirEntry (step own bytes check : Nat) : Bytes := leBytes 8 step ++ leBytes 8 own ++ leBytes 8 bytes ++ leBytes 4 check ++ leBytes 1 1 ++ [0, 0, 0]
/-- An item that waits for its acknowledgement past LEND_HANDOFF_TO (R495). -/
def PushItem.overdue (x : PushItem) (limit now : Nat) : Bool := decide (x.offered ≠ 0 ∧ x.sent + limit < now) && !x.acked
/-- The item once its acknowledgement came (R494). -/
def PushItem.released (x : PushItem) : PushItem := { x with acked := true, again := 0 }
/-- Registers of the selected composition and keep (R506). -/
def lendCRegs : List Nat :=
  [Reg.LEND_C_SEL, Reg.LEND_C_STATE, Reg.LEND_C_ME_MASK, Reg.LEND_C_REASON, Reg.LEND_C_REPUSH, Reg.LEND_C_GATE_STALL, Reg.LEND_C_DETOURS,
    Reg.LEND_C_ACK_STALE, Reg.LEND_C_RECLAIM_LTC]
    ++ [Reg.LEND_C_BEGUN_LO, Reg.LEND_C_SEC_KEEPER_LO, Reg.LEND_C_SEC_LOCAL_LO, Reg.LEND_C_OWN_SEQ_LO, Reg.LEND_C_PUSH_BYTES_LO].flatMap fun r => [r, r + 4]
/-- A field of the selected composition; of none it reads 0. -/
def State.compField (s : State) (id : Nat) (f : Comp → Nat) : Nat := (s.comp id).elim 0 f
/-- The keep that a KEEP_OPEN record describes (R492). -/
def openedKeep (b : Bytes) : Keep := ⟨w32 (fieldAt b 0 4), fieldAt b 4 2, fieldAt b 8 4, fieldAt b 12 4, fieldAt b 16 8, fieldAt b 24 8, []⟩

/-- A drill point can be drilled now (R532, R533): an instance is left, nothing of its class recovers or was logged, no counter counts, and its own needs are met. -/
def State.drillable (s : State) (p : Nat) : Bool :=
  s.flt.running.isNone && s.flt.queue.isEmpty && !(s.drillLive p).isEmpty && s.flt.recovering.isEmpty && s.flt.counters.isEmpty && s.flt.log.isEmpty &&
    (!decide (24 ≤ p ∧ p < 48) || (s.freeSpare (p - 24)).isSome) &&
    (!decide (148 ≤ p ∧ p < 160) || s.linkAlt ((s.drillLive p).getD ((s.flt.points.getD p ⟨0, 0, 0, 0⟩).rotation % max 1 (s.drillLive p).length) 0))
/-- A drill of a point runs on its next instance, and its injected event is in the log, counted nowhere and declaring nothing lasting (R529, R531, R532). -/
def DrillRuns (p : Nat) (s t : State) : Prop :=
  ∃ d r, t.flt.running = some d ∧ d.point = p ∧ d.start = s.now ∧
    d.inst = (s.drillLive p).getD ((s.flt.points.getD p ⟨0, 0, 0, 0⟩).rotation % (s.drillLive p).length) 0 ∧
    t.flt.log = [r] ∧ r.code = drillCode p ∧ r.injected = true ∧ r.inst = d.inst ∧ t.flt.queue = [] ∧
    t.flt.counters = s.flt.counters ∧ t.flt.due = s.flt.due ∧ t.flt.retired = s.flt.retired
/-- What a drill's end is logged as (R534): PASS, LATE, FAIL or PREEMPTED. -/
def drillOutcome (point : Nat) : DrillResult → Nat
  | .completed x => (drillBound point).elim 0 fun b => if x ≤ b then 0 else 1
  | .notCompleted => 2
  | .preempted => 4
/-- The newest record of the fault log has a code. -/
def Logged (code : Nat) (t : State) : Prop := ∃ r, t.flt.log.head? = some r ∧ r.code = code
/-- What writing a record to the fault log changes. -/
def logParts : List Part := [.host, .flt, .out]
def logRegs : List Nat := [Reg.FLT_IRQ_STATUS, Reg.FLT_LOG_LOST]
/-- No message waits in a control core's mailboxes. -/
def CoreSt.quiet (x : CoreSt) : Bool := x.fromHost.msgs.isEmpty && x.fromCores.msgs.isEmpty

/-- A request heads the service core's mailbox, has an opcode, and is to be served (R592, R593, R598): no reply to its sender is held, and the sender's mailbox
has room. -/
def State.hostAsks (s : State) (c op : Nat) (w : List W32) : Bool :=
  (s.core c).live && ((s.core c).fromHost.msgs.head?.map MboxMsg.words) == some w && (s.requestRefusal c w).isNone && reqOp w == op &&
    !(s.host.held.any fun r => r.mailbox == reqBox w) && decide ((s.box (reqBox w)).fifo.msgs.length < 4)
/-- The reply to a request is in its sender's mailbox (R592): status and tag in word 1, results from word 2 on. -/
def Replied (w : List W32) (st : Nat) (s t : State) : Prop :=
  ∃ x, (t.box (reqBox w)).fifo.msgs = (s.box (reqBox w)).fifo.msgs ++ [x] ∧ x.words.getD 1 0 = w32 (reqTag w * 2 ^ 16 + st * 2 ^ 8 + reqOp w)
/-- The head request has left the core's mailbox. -/
def Popped (c : Nat) (s t : State) : Prop := (t.core c).fromHost.msgs = (s.core c).fromHost.msgs.drop 1
/-- A FIFO whose head has been popped: the senders it has recorded stay until it has become empty at the end of a cycle (R586, R588). -/
def Fifo.popped (f : Fifo) : Fifo := { f with msgs := f.msgs.drop 1 }
/-- No reply for a host mailbox is held. -/
def State.noneHeld (s : State) (h : Nat) : Bool := (s.host.held.find? fun r => r.mailbox == h).isNone
/-- The send window once words are written from word `first` on (R584). -/
def txAfter (b : HostMbox) (first : Nat) (words : List W32) : List W32 :=
  (List.range 16).map fun i => if first ≤ i then words.getD (i - first) (b.tx.getD i 0) else b.tx.getD i 0
/-- The core that a host mailbox's TARGET names. -/
def State.targetCore (s : State) (h : Nat) : Nat := fld (s.reg (mboxReg Reg.MBX_H_TARGET h)) 4 0
/-- Writable bits of an interrupt mask. -/
def irqMaskBits : IrqReg → W32
  | .fltMask => 0x1F
  | .clkMask => 0x3F
  | _ => 0xF
/-- The source is a status register, and the block serves it now (R579). -/
def irqIsStatus : IrqReg → Bool
  | .nodeStatus | .fltStatus | .clkStatus | .mbxStatus _ => true
  | _ => false
def State.irqServed (s : State) : IrqReg → Bool
  | .fltStatus | .fltMask | .clkStatus | .clkMask => s.isRunning
  | .mbxStatus h | .mbxMask h => decide (h < 16)
  | _ => true

/-- A start attempt has failed (R542): the copy's outcome is kept, and the other copy is to be tried or the node stands still. -/
def AttemptFailed (b : Bool) (reason status : Nat) (s t : State) : Prop :=
  (t.start.copy b).reason = reason ∧ (t.start.copy b).status = status ∧ t.start.trying = none ∧ (t.start.phase = .image ∨ t.start.phase = .standStill) ∧
    t.start.flashA = s.start.flashA ∧ t.start.flashB = s.start.flashB
/-- IMAGE_SEQ of a copy's header, 0 where it has none (R551). -/
def State.copySeq (s : State) (b : Bool) : Nat := if sliceAt (imgHeader (s.start.flash b)) 0 8 == imageMagic then imgSeq (s.start.flash b) else 0
/-- The candidates in the order they are tried (R551): copies that pass checks 1 to 4 and were not tried, by descending IMAGE_SEQ, A first on equal values. -/
def State.candidates (s : State) (ea eb : Bool) : List Bool :=
  (if s.copySeq false < s.copySeq true then [true, false] else [false, true]).filter fun b =>
    (examine (s.start.flash b) s.start.capacity (if b then eb else ea)).isNone && !(s.start.copy b).tried
/-- The first candidate whose signatures verify (R551). -/
def State.verified (s : State) (ea eb : Bool) : Option Bool := (s.candidates ea eb).find? fun b => (checkSignatures (s.start.flash b)).isNone
/-- Phase ROM has begun (R539, R614): the LTC is 0, core 1 serves, and the configuration flash is as it was. -/
def RomBegun (s t : State) : Prop :=
  t.start.phase = .rom ∧ t.now = 0 ∧ t.clk.ticking = true ∧ t.clk.porN = true ∧ t.start.stewards = [0, 1, 2, 3] ∧ t.host.service = 1 ∧
    t.host.serviceLive = true ∧ (t.core 1).live = true ∧ t.cfg = cfgReset ∧ t.start.flashA = s.start.flashA ∧ t.start.flashB = s.start.flashB ∧
    t.ident.dieRecords = s.ident.dieRecords
/-- What a staging command may change: staging, and the reply to the host's request. -/
def stageParts : List Part := [.start, .host, .out, .reg .mbx]
/-- The trailer that STAGE_COMMIT writes (R549). -/
def trailerOf (m : Mem) : Bytes :=
  let t := trailerMagic ++ leBytes 8 (imgSeq m) ++ imageDigest m ++ List.replicate 44 0
  t ++ leBytes 4 (crc32c t).toNat
/-- A staged copy passes the checks of STAGE_COMMIT (R555). -/
def State.stagedOk (s : State) : Bool :=
  let m := s.start.flash s.start.stageTarget
  let o := s.start.flash (!s.start.stageTarget)
  (checkLayout m s.start.capacity).isNone && (checkSignatures m).isNone && (checkDigests m).isNone &&
    !(sliceAt (imgHeader o) 0 8 == imageMagic && decide (imgSeq m ≤ imgSeq o))
/-- SMBus shows a register (R625). -/
def smbusShows (off : Nat) : Bool :=
  off == Reg.NODE_SERIAL_LO || off == Reg.NODE_SERIAL_HI || off == Reg.NODE_STATUS || decide (Reg.CLK_STATUS ≤ off ∧ off ≤ Reg.CLK_RAIL_FAULTS)
/-- Registers of the selected sensor. -/
def tsRegs : List Nat := [Reg.CLK_TS_SEL, Reg.CLK_TS_VALUE, Reg.CLK_TS_MAX]

/-- The clocks are in a state that they can be in: each of the 8 duties is from 4 to 16 sixteenths (R621), at most 17 SCLK cycles have passed since the LTC last
counted (R15, R617), and the LTC counts exactly while the root PLL is locked, which takes REFCLK and a released POR_N (R614, R618, R629). -/
def State.clockLegal (s : State) : Prop :=
  s.clk.duty.length = 8 ∧ (∀ d ∈ s.clk.duty, 4 ≤ d ∧ d ≤ 16) ∧ s.clk.sub < 18 ∧ s.clk.ticking = s.clk.pllLocked ∧
    (s.clk.ticking = true → s.clk.porN = true ∧ s.clk.refclk = true)
/-- What is written once, at sort and at assembly (R568 to R570), is the same. -/
def OnceWritten (s t : State) : Prop :=
  t.ident.dieRecords = s.ident.dieRecords ∧ t.ident.packages = s.ident.packages ∧ t.ident.puf = s.ident.puf ∧ t.ident.romVersion = s.ident.romVersion

end Sys2Proof.Machine
end

