-- ==== Sys2Proof/Certificates/Slice0/Obligations.lean ====
section
/-! DEFINITION. The statements for the provers: what the commands of each group do, what a step does, what reset leaves, and what every step keeps.
`Does c s parts regs P` (Sys2Proof/Safety.lean) says that `exec c s` answers a next state of which `P` holds, in which only the listed parts of the state and the
listed registers may differ from `s`. -/

section

open Sys2Proof Sys2Proof.Machine

/-- From Log 1 (the model's own queue), R15, R601, R617. A step takes the command at the front of the queue and runs it on the state with the queue's
rest; every command completes and leaves the queue alone; with no command one SCLK cycle passes, of which every 18th counts the LTC; a restart that
was requested enters ROM. Where the spec leaves a point open, a clause holds the model's own reading: log 1. -/
def Obligations.StepTakesTheFrontCommand : Prop :=
  (∀ (c : Instr) (rest : List Instr) (s : State), s.pending = c :: rest → step s = exec c { s with pending := rest }) ∧
  (∀ (c : Instr) (s : State), ∃ t, exec c s = .next t ∧ t.pending = s.pending) ∧
  (∀ (s : State), s.pending = [] → s.start.restarting = false → s.clk.ticking = true → s.clk.sub < 17 →
    ∃ t, step s = .next t ∧ t.pending = [] ∧ t.clk = { s.clk with sub := s.clk.sub + 1 }) ∧
  (∀ (s : State), s.pending = [] → s.start.restarting = false → s.clk.ticking = true → 17 ≤ s.clk.sub →
    ∃ t, step s = .next t ∧ t.pending = [] ∧ t.clk = { s.clk with sub := 0, ltc := s.clk.ltc + 1 }) ∧
  (∀ (s : State), s.pending = [] → s.start.restarting = false → s.clk.ticking = false → ∃ t, step s = .next t ∧ t.pending = [] ∧ t.clk = s.clk) ∧
  (∀ (s : State), s.pending = [] → s.start.restarting = true →
    ∃ t, step s = .next t ∧ t.pending = [] ∧ t.start.phase = .rom ∧ t.start.restarting = false ∧ t.start.flashA = s.start.flashA ∧ t.start.flashB = s.start.flashB)

/-- From R5, R468, R538 and Tables 0.2, 13.2 and 15.3. At power-on reset the node is in phase RESET with the LTC at 0, the capability registers hold
the part's values, link points and fault thresholds hold their defaults, duties are 16, and the clocks are legal. The empty memories and the default
schedule's start are the model's choice (log 2). Where the spec leaves a point open, a clause holds the model's own reading: log 2. -/
def Obligations.ResetLeavesWhatTheSpecStates : Prop :=
  State.reset.start.phase = .reset ∧ State.reset.now = 0 ∧ State.reset.clk.ticking = false ∧ State.reset.pending = [] ∧ State.reset.clockLegal ∧
    State.reset.clk.duty = List.replicate 8 16 ∧
    ([Reg.NODE_CAP_PART, Reg.NODE_CAP_COMPUTE, Reg.NODE_CAP_UNITS, Reg.NODE_CAP_STORE, Reg.NODE_CAP_MEMORY, Reg.NODE_CAP_IO, Reg.NODE_CAP_CONTROL,
      Reg.NODE_CAP_FLASH].map State.reset.reg = [0x03C00401, 0x08208010, 0x20204040, 0x18090014, 0x00400500, 0x0C601080, 0x04200400, 0]) ∧
    (∀ (l : Nat), l < 96 → (State.reset.point (.link l)).queues.map SchedQueue.rate =
      [10000, 60000, unshaped, unshaped, unshaped, unshaped, unshaped, unshaped]) ∧
    (∀ (l : Nat), l < 96 → (State.reset.point (.link l)).queues.map SchedQueue.weight = [1, 1, 64, 32, 32, 48, 48, 8]) ∧
    ([0, 1, 2, 4, 10, 12, 13, 14, 15].map State.reset.fltThreshold = [16, 256, 64, 4, 16, 16, 3, 1024, 32]) ∧
    State.reset.flt.schedule = [⟨0, 199, true, 6000000000, 0, 0⟩]

/-- From R15, R614, R617, R618, R621, R629. Whatever the node does in a step, a command or a cycle without one, the clocks stay legal. Where the spec
leaves a point open, a clause holds the model's own reading: log 1 and 2. -/
def Obligations.EveryStepKeepsTheClocksLegal : Prop :=
  ∀ (s t : State), s.clockLegal → step s = .next t → t.clockLegal

/-- From R468. No command changes the LTC, but power-on reset and the release of it, which set it to 0; only they let a stopped LTC count again;
without a command it stays or counts one; and what was written once stays as it is (R568 to R570). Where the spec leaves a point open, a clause holds
the model's own reading: log 1. -/
def Obligations.OnlyPowerOnResetSetsTheLtc : Prop :=
  (∀ (c : Instr) (s t : State), exec c s = .next t →
    (t.clk.ltc = s.clk.ltc ∧ t.clk.sub = s.clk.sub) ∨ (t.clk.ltc = 0 ∧ (c = .porAssert ∨ c = .refclkStable ∨ c = .porRelease true))) ∧
  (∀ (c : Instr) (s t : State), exec c s = .next t → s.clk.ticking = false → t.clk.ticking = true → c = .refclkStable ∨ c = .porRelease true) ∧
  (∀ (s t : State), s.pending = [] → step s = .next t → t.clk.ltc = s.clk.ltc ∨ (t.clk.ltc = s.clk.ltc + 1 ∧ s.clk.ticking = true)) ∧
  (∀ (c : Instr) (s t : State), exec c s = .next t → OnceWritten s t)

/-- From R10, R578. A register of access code RW that no other command writes holds the writable bits of what is written; a read-only register, and a
request of a size that is not accepted, change no register. Where the spec leaves a point open, a clause holds the model's own reading: log 39. -/
def Obligations.RegisterWriteHoldsWritableBits : Prop :=
  (∀ (fw : Bool) (off : Nat) (d : RegDef) (b : Block) (v : W32) (s : State), s.calm = true → off % 4 = 0 → off < 0x10000 ∨ 0x20000 ≤ off →
    blockOf off = some b → s.served b = true → regDef off = some d → d.acc = .rw → d.base ∉ commandRegs →
    Does (.registerWrite fw off (leBytes 4 v.toNat)) s [] [off] fun t => t.reg off = v &&& w32 d.mask) ∧
  (∀ (off : Nat) (d : RegDef) (v : W32) (s : State), s.calm = true → off % 4 = 0 → off < 0x18000 ∨ 0x20000 ≤ off → regDef off = some d →
    d.acc = .ro ∨ d.acc = .rc ∨ d.acc = .fw → Does (.registerWrite false off (leBytes 4 v.toNat)) s [] [] fun _ => True) ∧
  (∀ (off : Nat) (bs : Bytes) (s : State), s.calm = true → requestAccepted off bs.length = false →
    Does (.registerWrite false off bs) s [.out] [] fun t => t.out = .completerAbort off :: s.out)

/-- From R38, R39, R41, R44. A message at the front of its port is issued on its route, waits where a hop of it must wait, and completes with FAULT
where no route is left; a write reaches the bank unless it is a reissue whose data the bank has accepted, and is acknowledged either way; a read
answers the line of the bank. Where the spec leaves a point open, a clause holds the model's own reading: log 1 and 10. -/
def Obligations.TransportMessagesComplete : Prop :=
  (∀ (die port id : Nat) (m : XpMsg) (path : List XpHop) (s : State), s.calm = true →
    s.xp.msgs.find? (fun e => e.2.die == die && e.2.port == port && e.2.stage == .waiting) = some (id, m) →
    s.route m.avoid m.die (unitDie m.unit) m.line = some path → s.mustWait m path = false →
    Does (.xpMessageIssue die ⟨port, []⟩) s [.xp, .kitty] [] fun t =>
      t.xp.msgs.get id = some { m with path := path, issued := s.now, stage := .atBank s.kitty.arrivals } ∧
      (∀ k, k ≠ id → t.xp.msgs.get k = s.xp.msgs.get k) ∧ t.kitty = { s.kitty with arrivals := s.kitty.arrivals + 1 } ∧
      ∀ k, (t.module k).state = (s.module k).state) ∧
  (∀ (die port id : Nat) (m : XpMsg) (path : List XpHop) (s : State), s.calm = true → s.xp.msgs.get id = some m →
    s.xp.msgs.find? (fun e => e.2.die == die && e.2.port == port && e.2.stage == .waiting) = some (id, m) →
    s.route m.avoid m.die (unitDie m.unit) m.line = some path → s.mustWait m path = true →
    Does (.xpMessageIssue die ⟨port, []⟩) s [.xp] [] fun t => (∀ k, t.xp.msgs.get k = s.xp.msgs.get k) ∧ t.xp.modules = s.xp.modules) ∧
  (∀ (die port id : Nat) (m : XpMsg) (s : State), s.calm = true → m.die < 64 →
    s.xp.msgs.find? (fun e => e.2.die == die && e.2.port == port && e.2.stage == .waiting) = some (id, m) →
    s.route m.avoid m.die (unitDie m.unit) m.line = none →
    Does (.xpMessageIssue die ⟨port, []⟩) s [.host, .xp, .flt, .out]
      [Reg.FLT_IRQ_STATUS, Reg.FLT_LOG_LOST, Reg.KITTY_XP_ERR_DIE_LO, Reg.KITTY_XP_ERR_DIE_HI] fun t =>
      t.xp.msgs.get id = none ∧ .access m.die m.port St.fault [] ∈ t.out ∧ ∃ r, t.flt.log.head? = some r ∧ r.code = 0x0014) ∧
  (∀ (id : Nat) (m : XpMsg) (d : Bytes) (s : State), s.calm = true → s.xp.msgs.get id = some m → m.write.isSome = true → m.stage = .answering d →
    m.ecc ≠ .uncorrectable →
    Does (.xpWriteAck ⟨id, []⟩) s [.xp, .out] [] fun t => t.xp.msgs.get id = none ∧ (∀ k, k ≠ id → t.xp.msgs.get k = s.xp.msgs.get k) ∧
      t.out = .access m.die m.port St.ok d :: s.out) ∧
  (∀ (id : Nat) (m : XpMsg) (d : Bytes) (s : State), s.calm = true → s.xp.msgs.get id = some m → m.write = none → m.stage = .answering d →
    m.ecc ≠ .uncorrectable →
    Does (.xpReadResponse ⟨id, []⟩) s [.xp, .out] [] fun t => t.xp.msgs.get id = none ∧ (∀ k, k ≠ id → t.xp.msgs.get k = s.xp.msgs.get k) ∧
      t.out = .access m.die m.port St.ok d :: s.out) ∧
  (∀ (id a : Nat) (m : XpMsg) (b : Bytes) (back : List XpHop) (s : State), s.calm = true → s.xp.msgs = [(id, m)] → s.bus = [] → m.write = some b →
    m.cls < 8 → m.die * 1024 + m.port + 1 < 2 ^ 20 → m.stage = .atBank a → m.ecc = .clean → m.reissued = false → s.routeBack m.die (unitDie m.unit) m.line = some back →
    Does (.xpWriteAck ⟨id, []⟩) s [.xp, .kitty, .kmem, .out] [] fun t =>
      t.xp.msgs.get id = none ∧ t.out = .access m.die m.port St.ok [] :: s.out ∧
      (∀ x, Mem.read t.kmem x = if m.unit * unitBytes + m.offset ≤ x ∧ x < m.unit * unitBytes + m.offset + b.length
        then b.getD (x - (m.unit * unitBytes + m.offset)) 0 else Mem.read s.kmem x) ∧
      t.xp.bankSeq.get (bankOf m.unit m.offset * 2 ^ 20 + m.die * 2 ^ 10 + m.port) = some m.seq ∧ t.kitty.regions = s.kitty.regions ∧
      t.kitty.units = s.kitty.units) ∧
  (∀ (id a : Nat) (m : XpMsg) (b : Bytes) (back : List XpHop) (s : State), s.calm = true → s.xp.msgs = [(id, m)] → s.bus = [] → m.write = some b →
    m.cls < 8 → m.die * 1024 + m.port + 1 < 2 ^ 20 → m.stage = .atBank a → m.ecc = .clean → m.reissued = true →
    s.xp.bankSeq.get (bankOf m.unit m.offset * 2 ^ 20 + m.die * 2 ^ 10 + m.port) = some m.seq →
    s.routeBack m.die (unitDie m.unit) m.line = some back →
    Does (.xpWriteAck ⟨id, []⟩) s [.xp, .kitty, .out] [] fun t => t.xp.msgs.get id = none ∧ t.out = .access m.die m.port St.ok [] :: s.out ∧
      t.xp.bankSeq = s.xp.bankSeq) ∧
  (∀ (id a : Nat) (m : XpMsg) (back : List XpHop) (s : State), s.calm = true → s.xp.msgs = [(id, m)] → s.bus = [] → m.write = none → m.cls < 8 →
    m.die * 1024 + m.port + 1 < 2 ^ 20 → m.stage = .atBank a → m.ecc = .clean → s.routeBack m.die (unitDie m.unit) m.line = some back →
    Does (.xpReadResponse ⟨id, []⟩) s [.xp, .kitty, .out] [] fun t =>
      t.xp.msgs.get id = none ∧ t.out = .access m.die m.port St.ok (Mem.readBytes s.kmem (m.unit * unitBytes + m.offset) m.len) :: s.out)

/-- From R42, R43, R50. A timed-out message is counted, and reissued where another route is left; one that was already reissued completes with FAULT;
a set change makes lines wait for the module and its far end, and with no message of those lines outstanding the source resumes, a retired module
being out of use at both ends and a returned one carrying traffic. Where the spec leaves a point open, a clause holds the model's own reading: log 1
and 10. -/
def Obligations.TransportTimeoutsAndSets : Prop :=
  (∀ (id : Nat) (m : XpMsg) (avoid : List Nat) (path : List XpHop) (s : State), s.calm = true → s.isRunning = true → s.xp.msgs.get id = some m → m.stage ≠ .waiting →
    s.past (m.issued + 2000) = true → m.reissued = false → s.uncrossed 0x0011 1 ((m.path.head?.map XpHop.src).getD (64 * m.die)) = true →
    ((avoidSets (m.path.map XpHop.src)).find? fun a => (s.route a m.die (unitDie m.unit) m.line).isSome) = some avoid →
    s.route avoid m.die (unitDie m.unit) m.line = some path → s.mustWait m path = false →
    Does (.e2eTimeout id) s [.host, .xp, .kitty, .flt, .out] [Reg.FLT_IRQ_STATUS, Reg.FLT_LOG_LOST] fun t =>
      t.xp.msgs.get id = some { m with avoid := avoid, reissued := true, path := path, issued := s.now, stage := .atBank s.kitty.arrivals } ∧
      (∀ k, k ≠ id → t.xp.msgs.get k = s.xp.msgs.get k) ∧
      (t.module ((m.path.head?.map XpHop.src).getD (64 * m.die))).live.e2eTo =
        satAdd64 (s.module ((m.path.head?.map XpHop.src).getD (64 * m.die))).live.e2eTo 1 ∧ ∃ r, t.flt.log.head? = some r ∧ r.code = 0x0011) ∧
  (∀ (id : Nat) (m : XpMsg) (s : State), s.calm = true → s.isRunning = true → s.xp.msgs.get id = some m → m.stage ≠ .waiting →
    s.past (m.issued + 2000) = true → m.reissued = true → m.die < 64 → s.uncrossed 0x0011 1 ((m.path.head?.map XpHop.src).getD (64 * m.die)) = true →
    Does (.e2eTimeout id) s [.host, .xp, .flt, .out]
      [Reg.FLT_IRQ_STATUS, Reg.FLT_LOG_LOST, Reg.KITTY_XP_ERR_DIE_LO, Reg.KITTY_XP_ERR_DIE_HI] fun t =>
      t.xp.msgs.get id = none ∧ t.out.head? = some (.access m.die m.port St.fault []) ∧
      (t.module ((m.path.head?.map XpHop.src).getD (64 * m.die))).live.e2eTo =
        satAdd64 (s.module ((m.path.head?.map XpHop.src).getD (64 * m.die))).live.e2eTo 1 ∧
      ∃ r, t.flt.log.head? = some r ∧ r.code = 0x0011) ∧
  (∀ (die mo : Nat) (s : State), (moduleReach die mo).isSome = true → s.xp.changing.has (64 * die + mo) = false →
    (s.module (64 * die + mo)).usable = true →
    Does (.moduleSetChange die mo true) s [.xp] [] fun t => t.xp.changing.get (64 * die + mo) = some true ∧
      t.xp.changing.get (peerKey (64 * die + mo)) = some true ∧ t.xp.modules = s.xp.modules ∧ t.xp.msgs = s.xp.msgs) ∧
  (∀ (die mo : Nat) (s : State), (moduleReach die mo).isSome = true → s.xp.changing.has (64 * die + mo) = false →
    (s.module (64 * die + mo)).usable = false → (s.module (64 * die + mo)).state ≠ .retired →
    Does (.moduleSetChange die mo false) s [.xp] [] fun t => t.xp.changing.get (64 * die + mo) = some false ∧
      t.xp.changing.get (peerKey (64 * die + mo)) = some false ∧ (t.module (64 * die + mo)).state = .training ∧
      (t.module (peerKey (64 * die + mo))).state = .training ∧ t.xp.msgs = s.xp.msgs) ∧
  (∀ (die mo : Nat) (s : State), s.calm = true → s.xp.changing.get (64 * die + mo) = some false →
    s.lineOutstanding die (peerKey (64 * die + mo) / 64) = false →
    Does (.moduleSetResume die mo) s [.xp] [] fun t =>
      t.xp.changing.has (64 * die + mo) = false ∧ t.xp.changing.has (peerKey (64 * die + mo)) = false ∧ (t.module (64 * die + mo)).usable = true ∧
      (t.module (peerKey (64 * die + mo))).usable = true ∧
      ∀ k, k ≠ 64 * die + mo → k ≠ peerKey (64 * die + mo) → t.module k = s.module k) ∧
  (∀ (die mo : Nat) (s : State), s.calm = true → s.isRunning = true → s.xp.changing.get (64 * die + mo) = some true →
    s.lineOutstanding die (peerKey (64 * die + mo) / 64) = false →
    Does (.moduleSetResume die mo) s [.host, .xp, .flt, .out] [Reg.FLT_IRQ_STATUS, Reg.FLT_LOG_LOST] fun t =>
      (t.module (64 * die + mo)).state = .retired ∧ (t.module (peerKey (64 * die + mo))).state = .retired ∧ (1, 64 * die + mo) ∈ t.flt.retired ∧
      (1, peerKey (64 * die + mo)) ∈ t.flt.retired ∧ (t.flt.log.head?.map FltRec.code) = some 0x0013)

/-- From R46, R47, R48, R49. KITTY_XP_SEL and KITTY_XP_SNAP latch the selected module's counters; KITTY_XP_CLEAR clears the selected module's live
counters and KITTY_XP_CLEAR_ALL those of every module, to the events of the same SCLK cycle alone, and neither changes a register. Where the spec
leaves a point open, a clause holds the model's own reading: log 1. -/
def Obligations.TransportCountersLatchAndClear : Prop :=
  (∀ (v : W32) (s : State), s.isRunning = true →
    Does (.kittyXpSel v) s [] (Reg.KITTY_XP_SEL :: xpSnapRegs) fun t => t.reg Reg.KITTY_XP_SEL = v &&& 0x3F3F ∧
      XpLatched t (s.module (64 * fld v 13 8 + fld v 5 0)) (moduleReach (fld v 13 8) (fld v 5 0)).isSome (modulesOf (fld v 13 8)).length) ∧
  (∀ (s : State), s.isRunning = true →
    Does .kittyXpSnap s [] xpSnapRegs fun t =>
      XpLatched t (s.module (64 * fld (s.reg Reg.KITTY_XP_SEL) 13 8 + fld (s.reg Reg.KITTY_XP_SEL) 5 0))
        (moduleReach (fld (s.reg Reg.KITTY_XP_SEL) 13 8) (fld (s.reg Reg.KITTY_XP_SEL) 5 0)).isSome (modulesOf (fld (s.reg Reg.KITTY_XP_SEL) 13 8)).length) ∧
  (∀ (s : State), s.isRunning = true → (moduleReach (fld (s.reg Reg.KITTY_XP_SEL) 13 8) (fld (s.reg Reg.KITTY_XP_SEL) 5 0)).isSome = true →
    Does .kittyXpClear s [.xp] [] fun t => t.xp.msgs = s.xp.msgs ∧ ∀ k, t.module k =
      if k = 64 * fld (s.reg Reg.KITTY_XP_SEL) 13 8 + fld (s.reg Reg.KITTY_XP_SEL) 5 0
      then (s.module k).cleared s.cycle else s.module k) ∧
  (∀ (s : State), s.isRunning = true →
    Does .kittyXpClearAll s [.xp] [] fun t => t.xp.msgs = s.xp.msgs ∧
      ∀ k, t.module k = (s.module k).cleared s.cycle)

/-- From R57, R61, R89, R93. An access that a region's owner may make, to a byte the region has and a page that may be accessed, is translated and
waits to be issued with the region's class, a corrected read also adding to its bank's counter; one by a domain that may not reach the region
completes with DENIED, one at or beyond the region's size, or of a FREE page, with RANGE, one through a handle that names no current region with
NOT_OWNER, each counted, and a read of a SPILLED page with BUSY; none of these is issued. Where the spec leaves a point open, a clause holds the
model's own reading: log 17 and 15. -/
def Obligations.RegionAccessTranslatesOrRefuses : Prop :=
  (∀ (a : Access) (r : Region) (u b : Nat) (s : State), s.calm = true → s.region a.handle.toNat = some r → mayReach a.domain r.owner = true →
    (a.write.isSome = true → r.readOnly = true → a.domain = .system) → (a.write.isSome = true ∨ a.ecc = .clean) → a.offset < r.size →
    (r.spill = true → pageStatus a.write.isSome (r.pages.get (a.offset / pageBytes)) = St.ok) → r.addr a.offset = some (u * unitBytes + b) →
    b < unitBytes →
    Does (.regionAccess a) s [.xp] [] fun t => t.xp.modules = s.xp.modules ∧ ∃ m, t.xp.msgs.get s.xp.nextMsg = some m ∧ m.die = a.die ∧ m.port = a.port ∧
      m.unit = u ∧ m.offset = b ∧ m.len = min a.len (64 - b % 64) ∧ m.write = a.write.map (List.take (min a.len (64 - b % 64))) ∧
      m.cls = (if a.recovery then 0 else r.cls) ∧ m.stage = .waiting ∧ m.seq = s.xp.nextSeq.getD (a.die * 1024 + a.port) 1 ∧
      ∀ k, k ≠ s.xp.nextMsg → t.xp.msgs.get k = s.xp.msgs.get k) ∧
  (∀ (a : Access) (r : Region) (u b : Nat) (s : State), s.calm = true → s.region a.handle.toNat = some r → mayReach a.domain r.owner = true →
    a.write = none → a.ecc = .corrected → s.uncrossed 0x0001 0 (s.physBank (bankOf u b)) = true → a.offset < r.size →
    (r.spill = true → pageStatus false (r.pages.get (a.offset / pageBytes)) = St.ok) → r.addr a.offset = some (u * unitBytes + b) → b < unitBytes →
    Does (.regionAccess a) s [.host, .xp, .flt, .out] [Reg.FLT_IRQ_STATUS, Reg.FLT_LOG_LOST] fun t =>
      (∃ m, t.xp.msgs.get s.xp.nextMsg = some m ∧ m.unit = u ∧ m.offset = b ∧ m.stage = .waiting ∧ m.ecc = .corrected) ∧
      (t.flt.log.head?.map fun r => (r.code, r.inst)) = some (0x0001, s.physBank (bankOf u b))) ∧
  (∀ (a : Access) (r : Region) (s : State), s.calm = true → s.region a.handle.toNat = some r →
    mayReach a.domain r.owner = false ∨ (a.write.isSome = true ∧ r.readOnly = true ∧ a.domain ≠ .system) →
    Does (.regionAccess a) s [.out] [Reg.KITTY_ACC_DENIED] fun t => t.out = .access a.die a.port St.denied [] :: s.out ∧
      (t.reg Reg.KITTY_ACC_DENIED).toNat = min 0xFFFFFFFF ((s.reg Reg.KITTY_ACC_DENIED).toNat + 1)) ∧
  (∀ (a : Access) (r : Region) (s : State), s.calm = true → s.region a.handle.toNat = some r → mayReach a.domain r.owner = true →
    (a.write.isSome = true → r.readOnly = true → a.domain = .system) →
    r.size ≤ a.offset ∨ (r.spill = true ∧ r.pages.get (a.offset / pageBytes) = none) →
    Does (.regionAccess a) s [.out] [Reg.KITTY_ACC_RANGE] fun t => t.out = .access a.die a.port St.range [] :: s.out ∧
      (t.reg Reg.KITTY_ACC_RANGE).toNat = min 0xFFFFFFFF ((s.reg Reg.KITTY_ACC_RANGE).toNat + 1)) ∧
  (∀ (a : Access) (s : State), s.calm = true → s.region a.handle.toNat = none →
    Does (.regionAccess a) s [.out] [Reg.KITTY_ACC_NOT_OWNER] fun t => t.out = .access a.die a.port St.notOwner [] :: s.out ∧
      (t.reg Reg.KITTY_ACC_NOT_OWNER).toNat = min 0xFFFFFFFF ((s.reg Reg.KITTY_ACC_NOT_OWNER).toNat + 1)) ∧
  (∀ (a : Access) (r : Region) (sealed : Nat) (s : State), s.calm = true → s.region a.handle.toNat = some r → mayReach a.domain r.owner = true →
    a.write = none → a.offset < r.size → r.spill = true → r.pages.get (a.offset / pageBytes) = some (.spilled sealed) →
    Does (.regionAccess a) s [.out] [Reg.STACK_KV_SPILLED_READS] fun t => t.out = .access a.die a.port St.busy [] :: s.out ∧
      (t.reg Reg.STACK_KV_SPILLED_READS).toNat = min 0xFFFFFFFF ((s.reg Reg.STACK_KV_SPILLED_READS).toNat + 1))

/-- From R76, R77, R78. A bank with one access waiting serves it in its cycle, a read taking the line of the bank, a write entering it, and a unit's
access leaving its entry; a trump class within its cap goes first; a bank with none waiting only counts its cycle. Where the spec leaves a point open,
a clause holds the model's own reading: log 17 and 15. -/
def Obligations.BankServesOneAccessACycle : Prop :=
  (∀ (bank id a : Nat) (m : XpMsg) (s : State), s.calm = true → m.cls < 8 → s.xp.msgs.get id = some m → m.stage = .atBank a → m.write = none →
    (s.routeBack m.die (unitDie m.unit) m.line).isSome = true →
    (∀ c, c < 8 → s.bankWaiting bank c = if c = m.cls then [⟨m.die * 1024 + m.port + 1, a, some id, 0⟩] else []) →
    Does (.bankArbitration bank) s [.xp, .kitty] [] fun t =>
      (∃ x, t.xp.msgs.get id = some x ∧
        (x.stage = .served (Mem.readBytes s.kmem (m.unit * unitBytes + m.offset) m.len) ∨
          x.stage = .answering (Mem.readBytes s.kmem (m.unit * unitBytes + m.offset) m.len))) ∧
      (∀ k, k ≠ id → t.xp.msgs.get k = s.xp.msgs.get k) ∧
      (t.kitty.banks.getD bank bankReset).cycle = ((s.kitty.banks.getD bank bankReset).cycle + 1) % 64 ∧ t.kitty.regions = s.kitty.regions ∧
      t.kitty.units = s.kitty.units ∧
      (t.kitty.classes.getD (8 * (bank / 96) + m.cls) ⟨0, 0⟩).grants = satAdd64 (s.kitty.classes.getD (8 * (bank / 96) + m.cls) ⟨0, 0⟩).grants 1) ∧
  (∀ (bank id a : Nat) (m : XpMsg) (b : Bytes) (s : State), s.calm = true → m.cls < 8 → s.xp.msgs.get id = some m → m.stage = .atBank a → m.write = some b →
    m.reissued = false → (s.routeBack m.die (unitDie m.unit) m.line).isSome = true →
    (∀ c, c < 8 → s.bankWaiting bank c = if c = m.cls then [⟨m.die * 1024 + m.port + 1, a, some id, 0⟩] else []) →
    Does (.bankArbitration bank) s [.xp, .kitty, .kmem] [] fun t =>
      (∃ x, t.xp.msgs.get id = some x ∧ (x.stage = .served [] ∨ x.stage = .answering [])) ∧
      (∀ k, k ≠ id → t.xp.msgs.get k = s.xp.msgs.get k) ∧ t.kitty.regions = s.kitty.regions ∧
      ∀ x, Mem.read t.kmem x = if m.unit * unitBytes + m.offset ≤ x ∧ x < m.unit * unitBytes + m.offset + b.length
        then b.getD (x - (m.unit * unitBytes + m.offset)) 0 else Mem.read s.kmem x) ∧
  (∀ (bank place : Nat) (u : BusUse) (s : State), s.calm = true → u.cls < 8 → s.bus[place]? = some u →
    ({ u with served := u.served.put (bank % 32) (u.served.getD (bank % 32) 0 + 1) } : BusUse).rest ≠ 0 →
    (∀ c, c < 8 → s.bankWaiting bank c = if c = u.cls then [⟨u.port, place, none, place⟩] else []) →
    Does (.bankArbitration bank) s [.kitty, .bus] [] fun t =>
      t.bus = s.bus.set place { u with served := u.served.put (bank % 32) (u.served.getD (bank % 32) 0 + 1) } ∧ t.kitty.regions = s.kitty.regions ∧
      (t.kitty.classes.getD (8 * (bank / 96) + u.cls) ⟨0, 0⟩).grants = satAdd64 (s.kitty.classes.getD (8 * (bank / 96) + u.cls) ⟨0, 0⟩).grants 1) ∧
  (∀ (bank : Nat) (s : State), s.calm = true → (∀ c, c < 8 → s.bankWaiting bank c = []) →
    Does (.bankArbitration bank) s [.kitty] [] fun t =>
      (t.kitty.banks.getD bank bankReset).cycle = ((s.kitty.banks.getD bank bankReset).cycle + 1) % 64 ∧ t.kitty.classes = s.kitty.classes ∧
      (t.kitty.banks.getD bank bankReset).credits = List.replicate 6 0) ∧
  (∀ (bank id j a d : Nat) (m x : XpMsg) (s : State), s.calm = true → m.cls = 0 → 1 ≤ x.cls → x.cls < 8 →
    (if (s.kitty.banks.getD bank bankReset).cycle = 0 then 0 else (s.kitty.banks.getD bank bankReset).t0Used) < fld (s.reg Reg.KITTY_ARB_CAPS) 7 0 →
    (∀ c, c < 8 → s.bankWaiting bank c = if c = 0 then [⟨m.die * 1024 + m.port + 1, a, some id, 0⟩]
      else if c = x.cls then [⟨x.die * 1024 + x.port + 1, d, some j, 0⟩] else []) → s.xp.msgs.get j = some x →
    s.xp.msgs.get id = some m → id ≠ j → m.stage = .atBank a → m.write = none → (s.routeBack m.die (unitDie m.unit) m.line).isSome = true →
    Does (.bankArbitration bank) s [.xp, .kitty] [] fun t => t.xp.msgs.get j = some x ∧
      (∃ y, t.xp.msgs.get id = some y ∧ (y.stage = .served (Mem.readBytes s.kmem (m.unit * unitBytes + m.offset) m.len) ∨
        y.stage = .answering (Mem.readBytes s.kmem (m.unit * unitBytes + m.offset) m.len))) ∧
      (t.kitty.classes.getD (8 * (bank / 96) + x.cls) ⟨0, 0⟩).waits = satAdd64 (s.kitty.classes.getD (8 * (bank / 96) + x.cls) ⟨0, 0⟩).waits 1)

/-- From R64 to R68, R95. ALLOC takes the units its placement offers and FREE ends a region, whose units drain; TRANSFER names the new owner; RESIZE
takes units for the tail, or removes units from it. Each then waits for the map copies. Where the spec leaves a point open, a clause holds the model's
own reading: log 17 and 15. -/
def Obligations.RegionCommandsChangeTheMap : Prop :=
  (∀ (slot num : Nat) (a0 a1 a2 : W32) (o : Owner) (s : State), s.calm = true → s.slotIdle .kitty slot = true → ownerOf a1.toNat = some o →
    0 < fld a0 11 0 → fld a0 11 0 ≤ 2304 →
    (a0.getLsbD 24 = true → fld a0 11 0 ≤ 256 ∧ ∃ d, s.pds.get a2.toNat = some d ∧ d.kind = 3 ∧ d.tier = 1 ∧ d.owner = o ∧ 128 * fld a0 11 0 ≤ d.spillSlots) →
    (fld a0 15 12 = 0 ∨ (fld a0 15 12 = 1 ∧ fld a0 20 16 < 4) ∨ (fld a0 15 12 = 2 ∧ fld a0 20 16 < 24)) →
    s.quotaAdmits o 0 (s.unitUse o) (fld a0 11 0) = true → fld a0 11 0 ≤ (s.offer (placementDies (fld a0 15 12) (fld a0 20 16))).length →
    s.freeNumber = some num →
    Does (.alloc slot a0 a1 a2) s [.slots, .kitty] (slotRegs .kitty slot) fun t => t.kitty.regions = s.kitty.regions ∧
      (∀ u, u < 2304 → t.kitty.units.get u = if u ∈ (s.offer (placementDies (fld a0 15 12) (fld a0 20 16))).take (fld a0 11 0)
        then some .allocated else s.kitty.units.get u) ∧ t.kitty.lastGen.get num = some (s.nextGen num) ∧
      SlotUnderWay .kitty slot 1 (.mapNew num ⟨s.nextGen num, o, fld a0 23 21, a0.getLsbD 25, a0.getLsbD 24,
        (s.offer (placementDies (fld a0 15 12) (fld a0 20 16))).take (fld a0 11 0), if a0.getLsbD 24 then a2.toNat else 0, []⟩) t) ∧
  (∀ (slot : Nat) (a2 : W32) (r : Region) (s : State), s.calm = true → s.slotIdle .kitty slot = true → s.region (a2.toNat % 65536) = some r →
    Does (.free slot a2) s [.slots, .kitty, .out] (slotRegs .kitty slot) fun t => t.kitty.regions.get (a2.toNat % 4096) = none ∧
      (∀ k, k ≠ a2.toNat % 4096 → t.kitty.regions.get k = s.kitty.regions.get k) ∧
      (∀ u, u < 2304 → t.kitty.units.get u = if u ∈ r.units then some .draining else s.kitty.units.get u) ∧
      (r.pages = [] → t.out = s.out) ∧ SlotUnderWay .kitty slot 2 (.mapDrop r.units (a2.toNat % 65536)) t) ∧
  (∀ (slot : Nat) (a1 a2 : W32) (o : Owner) (r : Region) (s : State), s.calm = true → s.slotIdle .kitty slot = true → ownerOf a1.toNat = some o →
    s.region (a2.toNat % 65536) = some r → r.owner = o ∨ s.quotaAdmits o 0 (s.unitUse o) r.unitCount = true →
    Does (.transfer slot a1 a2) s [.slots] (slotRegs .kitty slot) fun t => SlotUnderWay .kitty slot 3 (.mapOwner (a2.toNat % 65536) o) t) ∧
  (∀ (slot : Nat) (a0 a2 : W32) (r : Region) (s : State), s.calm = true → s.slotIdle .kitty slot = true → s.region (a2.toNat % 65536) = some r →
    r.unitCount < fld a0 11 0 → fld a0 11 0 ≤ 2304 →
    (r.spill = true → fld a0 11 0 ≤ 256 ∧ ∃ d, s.pds.get r.detour = some d ∧ 128 * fld a0 11 0 ≤ d.spillSlots) →
    (fld a0 15 12 = 0 ∨ (fld a0 15 12 = 1 ∧ fld a0 20 16 < 4) ∨ (fld a0 15 12 = 2 ∧ fld a0 20 16 < 24)) →
    s.quotaAdmits r.owner 0 (s.unitUse r.owner) (fld a0 11 0 - r.unitCount) = true →
    fld a0 11 0 - r.unitCount ≤ (s.offer (placementDies (fld a0 15 12) (fld a0 20 16))).length →
    Does (.resize slot a0 a2) s [.slots, .kitty] (slotRegs .kitty slot) fun t => t.kitty.regions = s.kitty.regions ∧
      (∀ u, u < 2304 → t.kitty.units.get u = if u ∈ (s.offer (placementDies (fld a0 15 12) (fld a0 20 16))).take (fld a0 11 0 - r.unitCount)
        then some .allocated else s.kitty.units.get u) ∧
      SlotUnderWay .kitty slot 4 (.mapGrow (a2.toNat % 65536)
        ((s.offer (placementDies (fld a0 15 12) (fld a0 20 16))).take (fld a0 11 0 - r.unitCount))) t) ∧
  (∀ (slot : Nat) (a0 a2 : W32) (r : Region) (s : State), s.calm = true → s.slotIdle .kitty slot = true → s.region (a2.toNat % 65536) = some r →
    r.spill = false → noUnit ∉ r.units → r.pages = [] → 0 < fld a0 11 0 → fld a0 11 0 ≤ r.units.length →
    Does (.resize slot a0 a2) s [.slots, .kitty] (slotRegs .kitty slot) fun t =>
      t.kitty.regions.get (a2.toNat % 4096) = some { r with units := r.units.take (fld a0 11 0) } ∧
      (∀ k, k ≠ a2.toNat % 4096 → t.kitty.regions.get k = s.kitty.regions.get k) ∧
      (∀ u, u < 2304 → t.kitty.units.get u = if u ∈ r.units.drop (fld a0 11 0) then some .draining else s.kitty.units.get u) ∧
      SlotUnderWay .kitty slot 4 (.mapDrop (r.units.drop (fld a0 11 0)) (a2.toNat % 65536)) t) ∧
  (∀ (slot : Nat) (a0 a2 : W32) (r : Region) (s : State), s.calm = true → s.slotIdle .kitty slot = true → s.region (a2.toNat % 65536) = some r →
    r.spill = true → 0 < fld a0 11 0 → fld a0 11 0 ≤ r.unitCount → (∀ e ∈ r.pages, e.1 < 128 * fld a0 11 0) →
    (∀ e ∈ r.pages, ∀ f, e.2.holds = some f → f / 32 ∈ r.places.take (fld a0 11 0)) →
    Does (.resize slot a0 a2) s [.slots, .kitty] (slotRegs .kitty slot) fun t =>
      t.kitty.regions.get (a2.toNat % 4096) = some (r.keep (r.places.take (fld a0 11 0))) ∧
      (∀ k, k ≠ a2.toNat % 4096 → t.kitty.regions.get k = s.kitty.regions.get k) ∧
      SlotUnderWay .kitty slot 4 (.mapDrop ((r.places.drop (fld a0 11 0)).map fun i => r.units.getD i noUnit) (a2.toNat % 65536)) t)

/-- From R58, R62, R66 to R68, R72, R73. A region command completes with the handle in RESULT and its map in force: ALLOC's region, TRANSFER's owner,
RESIZE's units; and where units were given up, once no access is in flight to them, when their scrub begins. A scrubbed unit reads 0 throughout and is
free, or out of use where its bank group has lost a bank. A holder over its quota has its oldest sealed page spilled, or is counted once where it has
none; one within its quota has none. Where the spec leaves a point open, a clause holds the model's own reading: log 17 and 15. -/
def Obligations.RegionUnitsDrainScrubAndEvict : Prop :=
  (∀ (slot op num : Nat) (r : Region) (s : State), s.calm = true → s.slotAwaits .kitty slot op (.mapNew num r) = true →
    Does (.rcmdComplete slot) s [.slots, .kitty] [slotReg .kitty slot 0, slotResult .kitty slot] fun t =>
      SlotDone .kitty slot op (r.handle num * 65536) t ∧ t.kitty = { s.kitty with regions := s.kitty.regions.put num r }) ∧
  (∀ (slot op h : Nat) (o : Owner) (r : Region) (s : State), s.calm = true → s.slotAwaits .kitty slot op (.mapOwner h o) = true → s.region h = some r →
    Does (.rcmdComplete slot) s [.slots, .kitty] [slotReg .kitty slot 0, slotResult .kitty slot] fun t =>
      SlotDone .kitty slot op (h * 65536) t ∧ t.kitty = { s.kitty with regions := s.kitty.regions.put (h % 4096) { r with owner := o } }) ∧
  (∀ (slot op h : Nat) (us : List Nat) (r : Region) (s : State), s.calm = true → s.slotAwaits .kitty slot op (.mapGrow h us) = true → s.region h = some r →
    noUnit ∉ r.units →
    Does (.rcmdComplete slot) s [.slots, .kitty] [slotReg .kitty slot 0, slotResult .kitty slot] fun t =>
      SlotDone .kitty slot op (h * 65536) t ∧ t.kitty = { s.kitty with regions := s.kitty.regions.put (h % 4096) { r with units := r.units ++ us } }) ∧
  (∀ (slot op h : Nat) (us : List Nat) (s : State), s.calm = true → s.slotAwaits .kitty slot op (.mapDrop us h) = true →
    (∀ u ∈ us, s.accessInFlight (u * unitBytes) unitBytes = false) →
    Does (.rcmdComplete slot) s [.slots, .kitty, .bus] [slotReg .kitty slot 0, slotResult .kitty slot] fun t =>
      SlotDone .kitty slot op (h * 65536) t ∧ t.kitty.regions = s.kitty.regions ∧
      (∀ u, u < 2304 → t.kitty.units.get u = if u ∈ us then some .scrub else s.kitty.units.get u) ∧
      t.bus = s.bus ++ (us.filter (· < 2304)).map fun u => ⟨scrubPort (unitDie u), 7, u, 0, unitBytes / 64, []⟩) ∧
  (∀ (u : Nat) (s : State), s.kitty.units.get u = some .scrub → s.accessInFlight (u * unitBytes) unitBytes = false →
    Does (.unitScrubDone u) s [.kitty, .bus, .kmem] [] fun t => t.kitty.units.get u = (if s.groupUnspared u then some .out else none) ∧
      (∀ k, k ≠ u → t.kitty.units.get k = s.kitty.units.get k) ∧ t.kitty.regions = s.kitty.regions ∧
      (∀ x ∈ t.bus, x ∈ s.bus ∧ ¬(x.port = scrubPort (unitDie u) ∧ x.unit = u)) ∧
      ∀ x, Mem.read t.kmem x = if u * unitBytes ≤ x ∧ x < u * unitBytes + unitBytes then 0 else Mem.read s.kmem x) ∧
  (∀ (o : Owner) (num p f sealed : Nat) (r : Region) (s : State), s.overQuota o = true →
    s.noneEmptied o none = true →
    (s.kitty.evict.get (ownerKey o)).elim true (fun e => decide (e.1 ≠ s.now / 10000)) = true → 0 < (s.reg Reg.KITTY_EVICT_RATE).toNat →
    s.oldestOf o = some (num, p, f, sealed) → s.kitty.regions.get num = some r → r.pages.get p = some (.sealed f sealed) → r.owner = o → r.spill = true →
    Does (.quotaEvict o) s [.kitty] [] fun t =>
      t.kitty.regions.get num = some { r with pages := r.pages.put p (.spilling f sealed 0 true none) } ∧
      (∀ k, k ≠ num → t.kitty.regions.get k = s.kitty.regions.get k) ∧ t.kitty.evict.get (ownerKey o) = some (s.now / 10000, 1)) ∧
  (∀ (o : Owner) (s : State), s.overQuota o = true →
    s.noneEmptied o none = true →
    s.sealedLeft o = false → ownerKey o ∉ s.kitty.stuck →
    Does (.quotaEvict o) s [.kitty] [Reg.KITTY_EVICT_STUCK] fun t => t.kitty = { s.kitty with stuck := ownerKey o :: s.kitty.stuck } ∧
      (t.reg Reg.KITTY_EVICT_STUCK).toNat = min 0xFFFFFFFF ((s.reg Reg.KITTY_EVICT_STUCK).toNat + 1)) ∧
  (∀ (o : Owner) (s : State), s.overQuota o = false →
    (∀ e ∈ s.kitty.regions, ∀ r, s.kitty.regions.get e.1 = some r → e.2.owner = o → r.owner = o) →
    Does (.quotaEvict o) s [.kitty] [] fun t => t.kitty = { s.kitty with stuck := s.kitty.stuck.filter (· != ownerKey o) })

/-- From R80 to R84, R86, R87. A tile transfer that passes its checks moves its bytes and no other, its accesses wait at the banks, and it is listed
with OK; a codec error in EXPAND is counted and listed with FAULT; on completion its accesses have been granted, its descriptor has its STATUS, and
its issuer is notified where asked. Where the spec leaves a point open, a clause holds the model's own reading: log 17 and 15. -/
def Obligations.TileTransfersMoveTheirBytes : Prop :=
  (∀ (q : Nat) (dom : Owner) (d : TileDesc) (r : Region) (x : Bytes) (s : State), s.calm = true → s.region d.dstHandle.toNat = some r →
    s.tileReady dom d (s.tileMay dom (tileAddr d)) [(d.dstHandle, tileDstOff d, 4096 * fieldAt (Mem.readBytes s.smem (tileAddr d) 192) 0 2, true)] = true →
    0 < fieldAt (Mem.readBytes s.smem (tileAddr d) 192) 0 2 → fieldAt (Mem.readBytes s.smem (tileAddr d) 192) 0 2 ≤ 64 →
    decodeTile (fun o k => Mem.readBytes s.smem (tileAddr d + o) k) (byteAt (Mem.readBytes s.smem (tileAddr d) 192) 2)
      ((List.range (fieldAt (Mem.readBytes s.smem (tileAddr d) 192) 0 2)).map fun i =>
        fieldAt (Mem.readBytes s.smem (tileAddr d) 192) (64 + 2 * i) 2) = (x, true) →
    Does (.expand q dom d .clean) s [.bus, .kmem, .tiles] [] fun t => t.kmem = r.store (tileDstOff d) x s.kmem ∧
      StoredAt r.addr (tileDstOff d) x.length s.kmem t.kmem ∧ t.bus = (s.busRgn (tilePort (stackDie q)) r (tileDstOff d) x.length).bus ∧
      t.tiles.running = s.tiles.running ++ [⟨q, s.tiles.nextId, 1, d, St.ok⟩]) ∧
  (∀ (q : Nat) (dom : Owner) (d : TileDesc) (s : State), s.calm = true →
    s.tileReady dom d (s.tileMay dom (tileAddr d)) [(d.dstHandle, tileDstOff d, 4096 * fieldAt (Mem.readBytes s.smem (tileAddr d) 192) 0 2, true)] = true →
    fieldAt (Mem.readBytes s.smem (tileAddr d) 192) 0 2 = 0 ∨ 64 < fieldAt (Mem.readBytes s.smem (tileAddr d) 192) 0 2 →
    Does (.expand q dom d .clean) s [.tiles] [Reg.KITTY_CODEC_ERR] fun t => t.tiles.running = s.tiles.running ++ [⟨q, s.tiles.nextId, 1, d, St.fault⟩] ∧
      (t.reg Reg.KITTY_CODEC_ERR).toNat = min 0xFFFFFFFF ((s.reg Reg.KITTY_CODEC_ERR).toNat + 1)) ∧
  (∀ (q : Nat) (dom : Owner) (d : TileDesc) (r : Region) (tile : Bytes) (s : State), s.region d.srcHandle.toNat = some r → 0 < d.length.toNat →
    d.length.toNat ≤ 64 → tileWidth d < 3 →
    tile = codeTile (tileWidth d) (cutBlocks d.length.toNat (s.rgnRead r (tileSrcOff d) (4096 * d.length.toNat))) →
    s.tileReady dom d (s.stackMay dom (tileAddr d) tile.length true) [(d.srcHandle, tileSrcOff d, 4096 * d.length.toNat, false)] = true →
    Does (.compress q dom d) s [.bus, .smem, .tiles] [] fun t =>
      (∀ x, Mem.read t.smem x = if tileAddr d ≤ x ∧ x < tileAddr d + tile.length then tile.getD (x - tileAddr d) 0 else Mem.read s.smem x) ∧
      t.bus = (s.busRgn (tilePort (stackDie q)) r (tileSrcOff d) (4096 * d.length.toNat)).bus ∧
      t.tiles.running = s.tiles.running ++ [⟨q, s.tiles.nextId, 2, d, St.ok⟩]) ∧
  (∀ (q : Nat) (dom : Owner) (d : TileDesc) (r r' : Region) (s : State), s.region d.srcHandle.toNat = some r → s.region d.dstHandle.toNat = some r' →
    0 < d.length.toNat → tileOpOk d = true → r21 (s.tileChecks dom [(d.dstHandle, tileDstOff d, 64 * d.length.toNat, true),
      (d.srcHandle, tileSrcOff d, 64 * d.length.toNat, false)]) = St.ok →
    Does (.copy q dom d) s [.bus, .kmem, .tiles] [] fun t =>
      t.kmem = r'.store (tileDstOff d) (s.rgnRead r (tileSrcOff d) (64 * d.length.toNat)) s.kmem ∧
      StoredAt r'.addr (tileDstOff d) (64 * d.length.toNat) s.kmem t.kmem ∧ t.tiles.running = s.tiles.running ++ [⟨q, s.tiles.nextId, 3, d, St.ok⟩]) ∧
  (∀ (q : Nat) (dom : Owner) (d : TileDesc) (r : Region) (s : State), s.calm = true → s.region d.dstHandle.toNat = some r → 0 < d.length.toNat →
    s.tileReady dom d (s.stackMay dom (tileAddr d) (64 * d.length.toNat) false) [(d.dstHandle, tileDstOff d, 64 * d.length.toNat, true)] = true →
    Does (.fetchRaw q dom d .clean) s [.bus, .kmem, .tiles] [] fun t =>
      t.kmem = r.store (tileDstOff d) (Mem.readBytes s.smem (tileAddr d) (64 * d.length.toNat)) s.kmem ∧
      StoredAt r.addr (tileDstOff d) (64 * d.length.toNat) s.kmem t.kmem ∧ t.tiles.running = s.tiles.running ++ [⟨q, s.tiles.nextId, 4, d, St.ok⟩]) ∧
  (∀ (q : Nat) (dom : Owner) (d : TileDesc) (r : Region) (s : State), s.region d.srcHandle.toNat = some r → 0 < d.length.toNat →
    s.tileReady dom d (s.stackMay dom (tileAddr d) (64 * d.length.toNat) true) [(d.srcHandle, tileSrcOff d, 64 * d.length.toNat, false)] = true →
    Does (.storeRaw q dom d) s [.bus, .smem, .tiles] [] fun t =>
      (∀ x, Mem.read t.smem x = if tileAddr d ≤ x ∧ x < tileAddr d + 64 * d.length.toNat
        then (s.rgnRead r (tileSrcOff d) (64 * d.length.toNat)).getD (x - tileAddr d) 0 else Mem.read s.smem x) ∧
      t.tiles.running = s.tiles.running ++ [⟨q, s.tiles.nextId, 5, d, St.ok⟩]) ∧
  (∀ (q id : Nat) (x : TileXfer) (s : State), s.tiles.running.find? (fun y => y.queue == q && y.id == id) = some x →
    Does (.tileTransferComplete q id) s [.kitty, .bus, .tiles, .out] [] fun t =>
      t.tiles.running = s.tiles.running.filter (fun y => !(y.queue == q && y.id == id)) ∧ t.tiles.done.get id = some (tileBytes x.desc x.status) ∧
      t.bus = s.bus.filter (fun u => !(u.port == tilePort (stackDie q))) ∧ t.kitty.regions = s.kitty.regions ∧ t.kitty.units = s.kitty.units ∧
      t.out = if tileNotify x.desc then .tileNotice q x.desc.tag.toNat x.status :: s.out else s.out)

/-- From R74, R88 to R94. A FREE page is opened in a free frame, or in the first frame of a unit added, or starts the spill of the oldest sealed page;
an OPEN page is sealed at the LTC of now; a SPILLED page is given a frame to be recalled into and is then SEALED with its seal time; a page is
released to FREE, one being spilled only when the spill ends; a page whose spill ended is SPILLED, its frame going to the page that waits for it. Each
changes those pages alone, and a page command is an access granted in class T0. Where the spec leaves a point open, a clause holds the model's own
reading: log 17 and 15. -/
def Obligations.PageCommandsMoveOnePage : Prop :=
  (∀ (dom : Owner) (h : W16) (p f : Nat) (r : Region) (s : State), s.region h.toNat = some r → mayWrite dom r = true → r.spill = true →
    p < 128 * r.units.length → r.pages.get p = none → r.awaited p = false → s.findFrame r = .frame f →
    Does (.pageOpen dom h p) s [.kitty, .out] [] fun t => t.out = .pageCmd St.ok p :: s.out ∧
      t.kitty = { (s.controlMsg h).kitty with regions := s.kitty.regions.put (h.toNat % 4096) { r with pages := r.pages.put p (.opened f) } }) ∧
  (∀ (dom : Owner) (h : W16) (p u : Nat) (r : Region) (s : State), s.region h.toNat = some r → mayWrite dom r = true → r.spill = true →
    p < 128 * r.units.length → r.pages.get p = none → r.awaited p = false → noUnit ∉ r.units → u < 2304 → s.findFrame r = .newUnit u r.units.length →
    Does (.pageOpen dom h p) s [.kitty, .out] [] fun t => t.out = .pageCmd St.ok p :: s.out ∧ t.kitty.units.get u = some .allocated ∧
      t.kitty.regions.get (h.toNat % 4096) = some { r with units := r.units ++ [u], pages := r.pages.put p (.opened (32 * r.units.length)) } ∧
      (∀ k, k ≠ u → t.kitty.units.get k = s.kitty.units.get k) ∧ ∀ k, k ≠ h.toNat % 4096 → t.kitty.regions.get k = s.kitty.regions.get k) ∧
  (∀ (dom : Owner) (h : W16) (p q f sealed : Nat) (r : Region) (s : State), s.region h.toNat = some r → mayWrite dom r = true → r.spill = true →
    p < 128 * r.units.length → r.pages.get p = none → r.awaited p = false → s.findFrame r = .spill q f sealed →
    Does (.pageOpen dom h p) s [.kitty] [] fun t => t.kitty = { (s.controlMsg h).kitty with
      regions := s.kitty.regions.put (h.toNat % 4096) { r with pages := r.pages.put q (.spilling f sealed 0 false (some (p, false))) } }) ∧
  (∀ (dom : Owner) (h : W16) (p f : Nat) (r : Region) (s : State), s.region h.toNat = some r → mayWrite dom r = true → r.spill = true →
    p < 128 * r.units.length → r.pages.get p = some (.opened f) →
    Does (.pageSeal dom h p) s [.kitty, .out] [] fun t => t.out = .pageCmd St.ok p :: s.out ∧
      t.kitty = { (s.controlMsg h).kitty with regions := s.kitty.regions.put (h.toNat % 4096) { r with pages := r.pages.put p (.sealed f s.now) } }) ∧
  (∀ (dom : Owner) (h : W16) (p f sealed : Nat) (pre : Bool) (d : PlaceDesc) (r : Region) (s : State), s.region h.toNat = some r → mayWrite dom r = true →
    r.spill = true → p < 128 * r.units.length → r.pages.get p = some (.spilled sealed) → s.pds.get r.detour = some d → d.lost = false →
    s.findFrame r = .frame f →
    Does (.pageRecall dom h ⟨p, pre⟩) s [.kitty] [Reg.STACK_KV_PREFETCHES] fun t =>
      t.kitty = { (s.controlMsg h).kitty with regions := s.kitty.regions.put (h.toNat % 4096) { r with pages := r.pages.put p (.recalling f sealed) } } ∧
      (t.reg Reg.STACK_KV_PREFETCHES).toNat = (if pre then min 0xFFFFFFFF ((s.reg Reg.STACK_KV_PREFETCHES).toNat + 1)
        else (s.reg Reg.STACK_KV_PREFETCHES).toNat)) ∧
  (∀ (h : W16) (p f sealed : Nat) (d : PlaceDesc) (r : Region) (x : Bytes) (s : State), s.region h.toNat = some r →
    r.pages.get p = some (.recalling f sealed) → s.pds.get r.detour = some d → s.slotTile d p = (x, true) →
    Does (.pageRecallDone h p) s [.kitty, .bus, .kmem, .out] [Reg.KITTY_RECALL_PAGES] fun t => t.out = .pageCmd St.ok p :: s.out ∧
      t.kitty = { s.kitty with regions := s.kitty.regions.put (h.toNat % 4096) { r with pages := r.pages.put p (.sealed f sealed) } } ∧
      (t.reg Reg.KITTY_RECALL_PAGES).toNat = min 0xFFFFFFFF ((s.reg Reg.KITTY_RECALL_PAGES).toNat + 1) ∧
      ∀ y, Mem.read t.kmem y = if r.frameAddr f 0 ≤ y ∧ y < r.frameAddr f 0 + min pageBytes x.length then x.getD (y - r.frameAddr f 0) 0
        else Mem.read s.kmem y) ∧
  (∀ (h : W16) (p f sealed : Nat) (d : PlaceDesc) (r : Region) (x : Bytes) (s : State), s.region h.toNat = some r →
    r.pages.get p = some (.recalling f sealed) → s.pds.get r.detour = some d → s.slotTile d p = (x, false) →
    Does (.pageRecallDone h p) s [.kitty, .out] [Reg.KITTY_CODEC_ERR] fun t => t.out = .pageCmd St.fault p :: s.out ∧
      t.kitty = { s.kitty with regions := s.kitty.regions.put (h.toNat % 4096) { r with pages := r.pages.put p (.spilled sealed) } }) ∧
  (∀ (dom : Owner) (h : W16) (p : Nat) (r : Region) (x : PageSt) (s : State), s.region h.toNat = some r → mayWrite dom r = true → r.spill = true →
    p < 128 * r.units.length → r.pages.get p = some x → (x matches .opened _ | .sealed _ _ | .spilled _) = true →
    Does (.pageRelease dom h p) s [.kitty, .out] [] fun t => t.out = .pageCmd St.ok p :: s.out ∧
      t.kitty = { (s.controlMsg h).kitty with regions := s.kitty.regions.put (h.toNat % 4096) { r with pages := r.pages.del p } }) ∧
  (∀ (dom : Owner) (h : W16) (p f sealed k : Nat) (ev : Bool) (w : Option (Nat × Bool)) (r : Region) (s : State), s.region h.toNat = some r →
    mayWrite dom r = true → r.spill = true → p < 128 * r.units.length → r.pages.get p = some (.spilling f sealed k ev w) →
    Does (.pageRelease dom h p) s [.kitty] [] fun t => t.kitty = { (s.controlMsg h).kitty with
      regions := s.kitty.regions.put (h.toNat % 4096) { r with pages := r.pages.put p (.spilling f sealed (k + 1) ev w) } }) ∧
  (∀ (h : W16) (p f sealed : Nat) (ev : Bool) (d : PlaceDesc) (r : Region) (s : State), s.region h.toNat = some r →
    r.pages.get p = some (.spilling f sealed 0 ev none) → s.pds.get r.detour = some d → s.noneEmptied r.owner (some (h.toNat % 4096, p)) = true →
    Does (.pageSpillDone h p) s [.kitty, .bus, .smem] [Reg.KITTY_SPILL_PAGES, Reg.KITTY_EVICT_PAGES] fun t =>
      t.kitty = { s.kitty with regions := s.kitty.regions.put (h.toNat % 4096) { r with pages := r.pages.put p (.spilled sealed) } } ∧
      t.smem = d.store (p * slotBytes) (codeTile d.width (cutBlocks 16 (Mem.readBytes s.kmem (r.frameAddr f 0) pageBytes))) s.smem ∧
      (t.reg Reg.KITTY_SPILL_PAGES).toNat = min 0xFFFFFFFF ((s.reg Reg.KITTY_SPILL_PAGES).toNat + 1) ∧
      (t.reg Reg.KITTY_EVICT_PAGES).toNat = (if ev then min 0xFFFFFFFF ((s.reg Reg.KITTY_EVICT_PAGES).toNat + 1) else (s.reg Reg.KITTY_EVICT_PAGES).toNat)) ∧
  (∀ (h : W16) (p q f sealed : Nat) (d : PlaceDesc) (r : Region) (s : State), s.region h.toNat = some r →
    r.pages.get p = some (.spilling f sealed 0 false (some (q, false))) → s.pds.get r.detour = some d → q ≠ p → r.pages.get q = none →
    Does (.pageSpillDone h p) s [.kitty, .bus, .smem, .out] [Reg.KITTY_SPILL_PAGES] fun t => t.out = .pageCmd St.ok q :: s.out ∧
      t.kitty = { s.kitty with
        regions := s.kitty.regions.put (h.toNat % 4096) { r with pages := (r.pages.put p (.spilled sealed)).put q (.opened f) } } ∧
      t.smem = d.store (p * slotBytes) (codeTile d.width (cutBlocks 16 (Mem.readBytes s.kmem (r.frameAddr f 0) pageBytes))) s.smem)

/-- From R99, R101, R136, R138, R140. LOAD and BUILD, with their checks passed, reserve the table's keys and put it in LOADING or BUILDING; DROP of a
LIVE table that nothing holds back puts it in DROPPING. Each is then under way in its slot, and no other table changes. LOAD and BUILD whose checks
fail complete with the status of the first failing check, DROP of a FREE table with NOT_OWNER, and no table changes. Where the spec leaves a point
open, a clause holds the model's own reading: log 26 and 39. -/
def Obligations.CatalogueCommandsStart : Prop :=
  (∀ (slot : Nat) (a0 a1 a2 : W32) (g : TableGen) (keys : Nat) (places : List Nat) (b s : State), s.calm = true → s.slotFree .idx slot = true →
    b = s.begun .idx slot 1 [(0, a0), (1, a1), (2, a2)] none → fld a0 31 28 < 2 → fld a0 31 28 = 1 ∨ stackOk (a1.toNat + 2 ^ 32 * a2.toNat) = true →
    b.loadChecks ⟨fld a0 31 28 == 1, a1.toNat + 2 ^ 32 * a2.toNat⟩ true false (fld a0 9 0) (b.slotArg .idx slot 3) (b.slotArg .idx slot 4)
      [(b.tblState (fld a0 9 0) != 0 || b.tableNamed .idx slot (fld a0 9 0), St.busy)] = (St.ok, g, keys, some places) →
    Does (.load slot a0 a1 a2) s [.slots, .idx, .reg .idx] [] fun t => SlotUnderWay .idx slot 1 (.load (fld a0 9 0)) t ∧
      (∀ k, k ≠ fld a0 9 0 → t.idx.tables.get k = s.idx.tables.get k) ∧ ∃ x, t.idx.tables.get (fld a0 9 0) = some x ∧ x.state = 1 ∧ x.gen = g ∧
      ∃ l, x.loading = some l ∧ l.keys = keys ∧ l.images = places ∧ l.build = false) ∧
  (∀ (slot : Nat) (a0 a1 a2 a3 a4 : W32) (g : TableGen) (keys : Nat) (places : List Nat) (b s : State), s.calm = true → s.slotFree .idx slot = true →
    b = s.begun .idx slot 2 [(0, a0), (1, a1), (2, a2), (3, a3), (4, a4)] none → fld a0 31 28 < 2 →
    fld a0 31 28 = 1 ∨ stackOk (a1.toNat + 2 ^ 32 * a2.toNat) = true →
    b.loadChecks ⟨fld a0 31 28 == 1, a1.toNat + 2 ^ 32 * a2.toNat⟩ true true (fld a0 9 0) (b.slotArg .idx slot 3) (b.slotArg .idx slot 4)
      [(b.tblState (fld a0 9 0) != 0 || b.tableNamed .idx slot (fld a0 9 0), St.busy)] = (St.ok, g, keys, some places) →
    Does (.build slot a0 a1 a2 a3 a4) s [.slots, .idx, .reg .idx] [] fun t => SlotUnderWay .idx slot 2 (.build (fld a0 9 0)) t ∧
      (∀ k, k ≠ fld a0 9 0 → t.idx.tables.get k = s.idx.tables.get k) ∧ ∃ x, t.idx.tables.get (fld a0 9 0) = some x ∧ x.state = 2 ∧ x.gen = g ∧
      ∃ l, x.loading = some l ∧ l.keys = keys ∧ l.build = true ∧ l.sample = a4.toNat) ∧
  (∀ (slot : Nat) (a0 : W32) (x : IdxTable) (s : State), s.calm = true → s.slotFree .idx slot = true → s.tbl (fld a0 9 0) = some x → x.state = 3 →
    x.pending = none → x.groups = [] → x.waiting = [] → s.tableNamed .idx slot (fld a0 9 0) = false →
    (∀ m ∈ s.idx.merges, m.table ≠ fld a0 9 0) → s.idx.moves = [] →
    Does (.drop slot a0) s [.slots, .idx, .reg .idx] [] fun t => t.idx.tables.get (fld a0 9 0) = some { x.marked s.cycle with state := 4, dropSlot := some slot } ∧
      SlotUnderWay .idx slot 3 (.other 4 (fld a0 9 0) 0) t ∧ ∀ k, k ≠ fld a0 9 0 → t.idx.tables.get k = s.idx.tables.get k) ∧
  (∀ (slot st : Nat) (a0 a1 a2 : W32) (b s : State), s.calm = true → s.slotFree .idx slot = true →
    b = s.begun .idx slot 1 [(0, a0), (1, a1), (2, a2)] none →
    (b.loadChecks ⟨fld a0 31 28 == 1, a1.toNat + 2 ^ 32 * a2.toNat⟩
      (decide (fld a0 31 28 < 2) && (fld a0 31 28 == 1 || stackOk (a1.toNat + 2 ^ 32 * a2.toNat))) false (fld a0 9 0) (b.slotArg .idx slot 3)
      (b.slotArg .idx slot 4) [(b.tblState (fld a0 9 0) != 0 || b.tableNamed .idx slot (fld a0 9 0), St.busy)]).1 = st → st ≠ St.ok →
    Does (.load slot a0 a1 a2) s [.slots] (slotRegs .idx slot) fun t => SlotDone .idx slot 1 st t) ∧
  (∀ (slot st : Nat) (a0 a1 a2 a3 a4 : W32) (b s : State), s.calm = true → s.slotFree .idx slot = true →
    b = s.begun .idx slot 2 [(0, a0), (1, a1), (2, a2), (3, a3), (4, a4)] none →
    (b.loadChecks ⟨fld a0 31 28 == 1, a1.toNat + 2 ^ 32 * a2.toNat⟩
      (decide (fld a0 31 28 < 2) && (fld a0 31 28 == 1 || stackOk (a1.toNat + 2 ^ 32 * a2.toNat))) true (fld a0 9 0) (b.slotArg .idx slot 3)
      (b.slotArg .idx slot 4) [(b.tblState (fld a0 9 0) != 0 || b.tableNamed .idx slot (fld a0 9 0), St.busy)]).1 = st → st ≠ St.ok →
    Does (.build slot a0 a1 a2 a3 a4) s [.slots] (slotRegs .idx slot) fun t => SlotDone .idx slot 2 st t) ∧
  (∀ (slot : Nat) (a0 : W32) (s : State), s.calm = true → s.slotFree .idx slot = true → s.tbl (fld a0 9 0) = none →
    s.tableNamed .idx slot (fld a0 9 0) = false →
    Does (.drop slot a0) s [.slots] (slotRegs .idx slot) fun t => SlotDone .idx slot 3 St.notOwner t)

/-- From R136 to R138, R140. Once loaded or built a table is LIVE at milepost 1 with its visible keys counted, and RESULT reads OK with the sections
done; a DROPPING table with no pin left is free, and its DROP reads OK. A load whose sections fail their CRC frees the table with FAULT, and a build
that cannot be made frees it with RANGE. Where the spec leaves a point open, a clause holds the model's own reading: log 26 and 39. -/
def Obligations.CatalogueCommandsComplete : Prop :=
  (∀ (slot id : Nat) (x : IdxTable) (l : Loading) (s : State), s.calm = true → s.slotHas .idx slot 1 (.load id) = true → s.tbl id = some x →
    x.loading = some l → s.crcBad ⟨l.flash, l.addr⟩ (s.srcSections ⟨l.flash, l.addr⟩) = false →
    (∀ d ∈ dupSlots ((s.srcLists ⟨l.flash, l.addr⟩ (s.srcSections ⟨l.flash, l.addr⟩) (genOf l.desc l.cols)).map fun es => es.getD []),
      d.length ≤ (genOf l.desc l.cols).tsCap) →
    Does (.tableLoadDone slot) s [.slots, .smem, .idx, .nand, .med, .reg .idx, .reg .media] [] fun t => ∃ y, t.idx.tables.get id = some y ∧ y.state = 3 ∧ y.milepost = 1 ∧ y.loading = none ∧
      y.keys = visibleKeys (s.srcLists ⟨l.flash, l.addr⟩ (s.srcSections ⟨l.flash, l.addr⟩) (genOf l.desc l.cols))
        (dupSlots ((s.srcLists ⟨l.flash, l.addr⟩ (s.srcSections ⟨l.flash, l.addr⟩) (genOf l.desc l.cols)).map fun es => es.getD [])) ∧
      SlotDone .idx slot 1 (256 * s.sectionsDone ⟨l.flash, l.addr⟩ (s.srcSections ⟨l.flash, l.addr⟩)) t) ∧
  (∀ (slot id repeats empties : Nat) (x : IdxTable) (l : Loading) (cents : List (List W32)) (book : Bytes) (ls : List (Option (List Entry)))
    (pl : List Nat × State) (s : State), s.calm = true → s.slotHas .idx slot 2 (.build id) = true → s.tbl id = some x → x.loading = some l →
    s.crcBad ⟨l.flash, l.addr⟩ (s.srcSections ⟨l.flash, l.addr⟩) = false →
    s.buildPlan ⟨l.flash, l.addr⟩ (s.srcSections ⟨l.flash, l.addr⟩) (genOf l.desc l.cols) l = some (cents, book, ls, repeats, empties) →
    (∀ es ∈ ls, (es.getD []).length ≤ 2 ^ 24) →
    s.buildPlaces (genOf l.desc l.cols) ls = some pl →
    Does (.buildDone slot) s [.slots, .smem, .idx, .nand, .med, .free, .reg .idx, .reg .media] [] fun t => ∃ y, t.idx.tables.get id = some y ∧ y.state = 3 ∧ y.milepost = 1 ∧ y.loading = none ∧
      y.keys = visibleKeys ls [] ∧
      (t.reg Reg.IDX_DUP_KEYS).toNat = min 0xFFFFFFFF ((s.reg Reg.IDX_DUP_KEYS).toNat + repeats) ∧ SlotDone .idx slot 2 (256 * s.sectionsDone ⟨l.flash, l.addr⟩ (s.srcSections ⟨l.flash, l.addr⟩)) t) ∧
  (∀ (slot id : Nat) (x : IdxTable) (l : Loading) (s : State), s.calm = true → s.slotHas .idx slot 1 (.load id) = true → s.tbl id = some x →
    x.loading = some l → s.crcBad ⟨l.flash, l.addr⟩ (s.srcSections ⟨l.flash, l.addr⟩) = true →
    Does (.tableLoadDone slot) s [.slots, .idx, .reg .idx] [] fun t => t.idx.tables.get id = none ∧
      (∀ k, k ≠ id → t.idx.tables.get k = s.idx.tables.get k) ∧
      (t.reg Reg.IDX_IMAGE_CRC_ERR).toNat = min 0xFFFFFFFF ((s.reg Reg.IDX_IMAGE_CRC_ERR).toNat + 1) ∧
      SlotDone .idx slot 1 (256 * s.sectionsDone ⟨l.flash, l.addr⟩ (s.srcSections ⟨l.flash, l.addr⟩) + St.fault) t) ∧
  (∀ (slot id : Nat) (x : IdxTable) (l : Loading) (s : State), s.calm = true → s.slotHas .idx slot 2 (.build id) = true → s.tbl id = some x →
    x.loading = some l → s.crcBad ⟨l.flash, l.addr⟩ (s.srcSections ⟨l.flash, l.addr⟩) = false →
    s.buildPlan ⟨l.flash, l.addr⟩ (s.srcSections ⟨l.flash, l.addr⟩) (genOf l.desc l.cols) l = none →
    Does (.buildDone slot) s [.slots, .idx, .reg .idx] [] fun t => t.idx.tables.get id = none ∧
      (∀ k, k ≠ id → t.idx.tables.get k = s.idx.tables.get k) ∧
      SlotDone .idx slot 2 (256 * s.sectionsDone ⟨l.flash, l.addr⟩ (s.srcSections ⟨l.flash, l.addr⟩) + St.range) t) ∧
  (∀ (slot id : Nat) (x : IdxTable) (s : State), s.calm = true → s.slotHas .idx slot 3 (.other 4 id 0) = true → s.tbl id = some x → x.state = 4 →
    x.dropSlot = some slot → s.pins id = [] →
    Does (.dropFree id) s [.slots, .idx, .reg .idx] [] fun t => t.idx.tables.get id = none ∧ SlotDone .idx slot 3 St.ok t ∧
      ∀ k, k ≠ id → t.idx.tables.get k = s.idx.tables.get k)

/-- From R217, R222, R229, R283, R320. An operation that passes the checks of its descriptor and may join opens a commit group of its table, whether
its update came by a link or from inside the node; an entry of a domain that does not own the region, or names a counter of a group its owner does not
hold, joins nothing. Where the spec leaves a point open, a clause holds the model's own reading: log 27 and 28. -/
def Obligations.UpdateOperationsJoinGroups : Prop :=
  (∀ (m : Msg) (r : Bytes) (x : IdxTable) (l : Option Nat) (rep : Bool) (b s : State), s.calm = true → s.isRunning = true → m.flags.getLsbD 0 = false →
    64 ≤ m.body.length → (s.took m).updChecks m.body = (St.ok, [r]) → bitOf (byteAt m.body 12) 0 = false →
    (s.took m).mapOutcome m.mapMp.toNat (fieldAt m.body 2 2) (some (opKey r)) = .served → s.tbl (fieldAt m.body 2 2) = some x →
    x.waiting = [] → x.openGroup = none → fieldAt m.body 10 2 = 1 →
    b = (s.took m).withUpdate ⟨.endpoint m.src, sliceAt m.body 0 24 ++ leBytes 4 m.src.toNat ++ sliceAt m.body 28 36, s.now, [none], none, 0, 0⟩ →
    b.opFate (fieldAt m.body 2 2) x (byteAt m.body 13) r = .joins l rep →
    Does (.update m) s [.kitty, .kmem, .idx, .link] [] fun t => SelfTraffic s t ∧ t.idx.tables.get (fieldAt m.body 2 2) = some
      (x.opens ⟨⟨s.idx.nextUpd, 0, r, s.now, false, none⟩, l, rep⟩ s.now)) ∧
  (∀ (dom : Owner) (table h off : Nat) (e d r : Bytes) (g : Region) (x : IdxTable) (l : Option Nat) (rep : Bool) (b u s : State), s.calm = true →
    s.isRunning = true → h = fieldAt e 0 2 → off = 64 * fieldAt e 4 4 → (byteAt e 8 < 8 → s.holdsCtr dom (byteAt e 8) (byteAt e 9 % 64) = true) →
    s.region h = some g → g.owner = dom → u = s.updIntake table (sliceAt e 0 16) →
    d = u.rgnRead g off (max 64 (fieldAt (u.rgnRead g off 64) 4 4)) → fieldAt d 2 2 = table → s.updChecks d = (St.ok, [r]) →
    bitOf (byteAt d 12) 0 = false → s.tbl table = some x → x.waiting = [] → x.openGroup = none → fieldAt d 10 2 = 1 →
    b = s.withUpdate ⟨.endpoint 0xFFFFFFFF, sliceAt d 0 24 ++ leBytes 4 0xFFFFFFFF ++ sliceAt d 28 36, s.now, [none],
      some (h, off, byteAt e 8, byteAt e 9 % 64), 0, 0⟩ →
    b.opFate table x (byteAt d 13) r = .joins l rep →
    Does (.updateIntakeEntry dom table e) s [.kitty, .kmem, .idx] [] fun t => SelfTraffic s t ∧ t.idx.tables.get table = some
      (x.opens ⟨⟨s.idx.nextUpd, 0, r, s.now, false, none⟩, l, rep⟩ s.now)) ∧
  (∀ (dom : Owner) (table : Nat) (e : Bytes) (g : Region) (s : State), s.calm = true → s.isRunning = true → s.region (fieldAt e 0 2) = some g →
    g.owner ≠ dom → 8 ≤ byteAt e 8 → Does (.updateIntakeEntry dom table e) s [.kitty, .kmem] [] fun t => SelfTraffic s t) ∧
  (∀ (dom : Owner) (table : Nat) (e : Bytes) (s : State), s.calm = true → s.isRunning = true → byteAt e 8 < 8 →
    s.holdsCtr dom (byteAt e 8) (byteAt e 9 % 64) = false →
    Does (.updateIntakeEntry dom table e) s [.kitty, .kmem] [] fun t => SelfTraffic s t)

/-- From R229, R230, R232. A group open for IDX_COMMIT_DL closes; the oldest closed group is committed before the next; its publication raises the
table's milepost by one; operations that waited IDX_UPD_WAIT no longer wait. Where the spec leaves a point open, a clause holds the model's own
reading: log 27 and 28. -/
def Obligations.CommitGroupsCloseCommitAndPublish : Prop :=
  (∀ (table : Nat) (x : IdxTable) (g : Group) (s : State), s.tbl table = some x → x.openGroup = some g →
    s.past (g.opened + (s.reg Reg.IDX_COMMIT_DL).toNat) = true →
    Does (.commitGroupDeadline table) s [.idx] [] fun t =>
      t.idx = { s.idx with tables := s.idx.tables.put table { x with openGroup := none, closed := x.closed ++ [g] } }) ∧
  (∀ (table : Nat) (x : IdxTable) (g : Group) (rest : List Group) (s : State), s.isRunning = true → s.tbl table = some x → x.state = 3 ∨ x.state = 5 →
    x.committing = none → x.closed = g :: rest →
    Does (.groupCommit table) s [.kitty, .kmem, .smem, .idx, .nand, .med, .reg .idx, .reg .media] [] fun t => SelfTraffic s t ∧ ∃ y, t.idx.tables.get table = some y ∧
      y.committing.map Prod.fst = some g ∧ y.closed = rest ∧ y.milepost = x.milepost ∧ y.state = x.state ∧ t.idx.upds = s.idx.upds) ∧
  (∀ (table : Nat) (x : IdxTable) (g : Group) (c : List Change) (km : List (Nat × Nat)) (s : State), s.calm = true → s.isRunning = true →
    s.tbl table = some x → x.state = 3 → x.pending = none → x.committing = some (g, c, km) → s.idx.moves = [] →
    Does (.groupPublish table) s idxParts [] fun t => ∃ y, t.idx.tables.get table = some y ∧ y.committing = none ∧ y.milepost = x.milepost + 1 ∧
      y.closed = x.closed ∧ y.state = 3) ∧
  (∀ (table : Nat) (x : IdxTable) (o : UpdOp) (u : Update) (s : State), s.calm = true → s.tbl table = some x → x.waiting = [⟨[o], false⟩] →
    s.past (o.since + (s.reg Reg.IDX_UPD_WAIT).toNat) = true → s.idx.upds.get o.upd = some u → u.results = [none] → o.idx = 0 → u.intake = none →
    Does (.updateWaitTimeout table) s ([.idx, .reg .idx] ++ sendParts) [] fun t => t.idx.tables.get table = some { x with waiting := [] } ∧ t.idx.upds.get o.upd = none ∧
      (t.reg Reg.IDX_UPD_BUSY).toNat = min 0xFFFFFFFF ((s.reg Reg.IDX_UPD_BUSY).toNat + 1))

/-- From R237 to R239, R250, R251. MERGE and MOVE_STACK trigger a merge of a LOCAL list that has none; the next merge of its quadrant starts with a
place and the table's milepost as its snapshot, and commits at the next milepost, its slot completing with OK and the longest hold recorded; while a
group is being committed it holds the operations on its list instead. Where the spec leaves a point open, a clause holds the model's own reading: log
27. -/
def Obligations.MergesTriggerStartAndCommit : Prop :=
  (∀ (slot table list : Nat) (x : IdxTable) (s : State), s.calm = true → s.slotFree .vcmd slot = true → table < 1024 → s.tbl table = some x →
    x.state = 3 ∨ x.state = 5 → list < x.gen.lists → list < 2 ^ 24 → (s.dirEntry x.gen list).state ≠ 2 → s.tableNamed .vcmd slot table = false → s.listBusy table list = false →
    Does (.merge slot (w32 table) (w32 list)) s [.slots, .idx] (slotRegs .vcmd slot) fun t =>
      t.idx.merges = s.idx.merges ++ [⟨table, list, none, false, s.idx.nextOrder, some slot, none, none⟩] ∧ t.idx.tables = s.idx.tables ∧
      SlotUnderWay .vcmd slot 1 (.mergeOf table list) t) ∧
  (∀ (slot table list stack : Nat) (x : IdxTable) (d : PlaceDesc) (s : State), s.calm = true → s.slotFree .vcmd slot = true → table < 1024 →
    s.tbl table = some x → x.state = 3 ∨ x.state = 5 → list < x.gen.lists → list < 2 ^ 24 → (s.dirEntry x.gen list).state ≠ 2 →
    s.tableNamed .vcmd slot table = false → s.listBusy table list = false → stack < 20 → s.pds.get x.gen.pdLists = some d → (∃ e ∈ d.extents, stackOf e.addr = stack) →
    Does (.moveStack slot (w32 table) (w32 list) (w32 (stack * 2 ^ 24))) s [.slots, .idx] (slotRegs .vcmd slot) fun t =>
      t.idx.merges = s.idx.merges ++ [⟨table, list, some stack, false, s.idx.nextOrder, some slot, none, none⟩] ∧ t.idx.tables = s.idx.tables ∧
      SlotUnderWay .vcmd slot 2 (.mergeOf table list) t) ∧
  (∀ (table list a n : Nat) (m : ListMerge) (x : IdxTable) (s : State), s.calm = true → s.isRunning = true → s.tbl table = some x → x.state = 3 ∨ x.state = 5 →
    s.mergeOf table list = some m → m.running = none → (s.idx.merges.filter fun y => y.running.isSome && s.mergeQuadrant y == s.mergeQuadrant m).length <
      (s.reg Reg.IDX_MERGE_MAX).toNat → (s.mergesWaiting (s.mergeQuadrant m)).head? = some m →
    n = (if (s.dirEntry x.gen list).image = 0 then 0 else (s.visibleAt x.gen (s.dirEntry x.gen list).image x.milepost).length) →
    s.poolPlace x.gen (some (s.mergeStack x.gen m)) (x.gen.imageBytes (n + x.gen.wayCap)) = some a →
    Does (.mergeStart table list) s [.idx] [] fun t =>
      t.idx.pool = s.idx.pool.put a (x.gen.imageBytes (n + x.gen.wayCap)) ∧ t.idx.tables = s.idx.tables ∧
      t.idx.merges = s.idx.merges.map fun y => if y == m then { y with running := some (a, x.milepost) } else y) ∧
  (∀ (table list a snap slot : Nat) (m : ListMerge) (x : IdxTable) (s : State), s.calm = true → s.isRunning = true → s.tbl table = some x →
    s.mergeOf table list = some m → m.running = some (a, snap) → x.committing = none → x.waiting = [] → m.slot = some slot →
    s.slotHas .vcmd slot 1 (.mergeOf table list) = true →
    Does (.mergeCommit table list) s idxCommits [] fun t => (∃ y, t.idx.tables.get table = some y ∧ y.milepost = x.milepost + 1 ∧ y.state = x.state) ∧
      t.idx.merges = s.idx.merges.filter (· != m) ∧ SlotDone .vcmd slot 1 St.ok t ∧
      t.reg (slotReg .vcmd slot 7) = w32 (x.milepost + 1) ∧
      (t.reg Reg.IDX_MERGE_HOLD_MAX).toNat = max (min (2 ^ 32 - 1) (s.now - m.held.getD s.now)) (s.reg Reg.IDX_MERGE_HOLD_MAX).toNat) ∧
  (∀ (table list a snap : Nat) (m : ListMerge) (x : IdxTable) (s : State), s.calm = true → s.isRunning = true → s.tbl table = some x →
    s.mergeOf table list = some m → m.running = some (a, snap) → x.committing.isSome = true → m.held = none →
    Does (.mergeCommit table list) s [.idx] [] fun t =>
      t.idx = { s.idx with merges := s.idx.merges.map fun y => if y == m then { y with held := some s.now } else y })

/-- From R250 to R258, R367. MOVE_SEAT and SPLIT_SEAT begin a move of a list in COPY; the seat that is copied to acknowledges, messages without an
acknowledgement are sent again IDX_SHUF_RESEND after they were sent last; COMMIT_ACK makes the list MOVED at the next milepost; a COPY that cannot be
taken changes nothing here; a move in COPY is cancelled by its source, one in HANDOVER once its ABORT is acknowledged, and every ABORT is repeated
until it is. Where the spec leaves a point open, a clause holds the model's own reading: log 14 and 28. -/
def Obligations.ListMovesBeginAcknowledgeAndCancel : Prop :=
  (∀ (slot table list seat : Nat) (x : IdxTable) (s : State), s.calm = true → s.slotFree .vcmd slot = true → table < 1024 → s.tbl table = some x →
    x.state = 3 → list < x.gen.lists → list < 2 ^ 24 → seat < 64 → s.seatNamed table seat = true → s.mySeat ≠ some seat →
    (s.dirEntry x.gen list).state ≠ 2 → (s.dirEntry x.gen list).image ≠ 0 → s.tableNamed .vcmd slot table = false → s.listBusy table list = false →
    s.shuffles < 16 →
    Does (.moveSeat slot (w32 table) (w32 list) (w32 (seat * 2 ^ 24))) s idxSends [] fun t => ∃ m, t.idx.moves.get (256 + s.idx.nextMove) = some m ∧
      m.table = table ∧ m.list = list ∧ m.seat = seat ∧ m.dest = false ∧ m.split = none ∧ m.phase = .copy ∧ m.slot = some slot ∧
      m.snapshot = x.milepost ∧ m.unacked.length = 1 ∧ SlotUnderWay .vcmd slot 3 (.moveOf table list) t) ∧
  (∀ (slot table list seat bit a n : Nat) (x : IdxTable) (s : State), s.calm = true → s.slotFree .vcmd slot = true → table < 1024 → s.tbl table = some x →
    x.state = 3 → list < x.gen.lists → list < 2 ^ 24 → seat < 64 → s.seatNamed table seat = true → s.mySeat ≠ some seat → bit < 64 → x.splits.length < 1024 →
    (s.dirEntry x.gen list).state ≠ 2 → (s.dirEntry x.gen list).image ≠ 0 → s.tableNamed .vcmd slot table = false → s.listBusy table list = false →
    s.shuffles < 16 → n = (s.visibleAt x.gen (s.dirEntry x.gen list).image x.milepost).length →
    s.poolPlace x.gen (some (stackOf (s.dirEntry x.gen list).image)) (x.gen.imageBytes (n + x.gen.wayCap)) = some a →
    Does (.splitSeat slot (w32 table) (w32 list) (w32 (seat * 2 ^ 24 + bit * 2 ^ 16))) s idxSends [] fun t => ∃ m,
      t.idx.moves.get (256 + s.idx.nextMove) = some m ∧ m.seat = seat ∧ m.split = some (bit, false) ∧ m.phase = .copy ∧ m.addr = a ∧
      SlotUnderWay .vcmd slot 4 (.moveOf table list) t) ∧
  (∀ (from_ table list seq n k : Nat) (m : ListMove) (s : State), s.calm = true → (s.idx.moves.find? fun e =>
      e.2.table == table && e.2.list == list && !e.2.dest && e.2.seat == from_ && e.2.unacked.any fun u => u.seq == n) = some (k, m) → m.phase ≠ .copy →
    Does (.shuffle from_ (.list table list) seq (.ack n)) s [.idx, .link] [] fun t =>
      t.idx.moves.get k = some { m with unacked := m.unacked.filter fun u => u.seq != n } ∧ t.idx.tables = s.idx.tables) ∧
  (∀ (from_ table list seq k slot op : Nat) (m : ListMove) (x : IdxTable) (s : State), s.calm = true → (s.idx.moves.find? fun e =>
      e.2.table == table && e.2.list == list && e.2.dest == false && e.2.seat == from_ && e.2.phase != .closed) = some (k, m) → s.idx.moves.get k = some m →
    m.phase = .handover → m.split = none → m.table = table → m.list = list → s.tbl table = some x → x.committing = none → x.waiting = [] →
    m.slot = some slot → s.slotHas .vcmd slot op (.moveOf table list) = true →
    Does (.shuffle from_ (.list table list) seq .commitAck) s idxSends [] fun t => t.idx.moves.get k = none ∧ SlotDone .vcmd slot op St.ok t ∧
      t.reg (slotReg .vcmd slot 7) = w32 (x.milepost + 1) ∧
      (t.reg Reg.IDX_SHUF_DONE).toNat = min 0xFFFFFFFF ((s.reg Reg.IDX_SHUF_DONE).toNat + 1) ∧ ∃ y, t.idx.tables.get table = some y ∧
      y.milepost = x.milepost + 1 ∧ y.moved = x.moved ++ [(list, m.seat)] ∧ y.gen.cuts = x.gen.cuts ++ [⟨list, x.milepost + 1, s.now⟩]) ∧
  (∀ (from_ table list seq k : Nat) (m : ListMove) (s : State), s.calm = true → (s.idx.moves.find? fun e =>
      e.2.table == table && e.2.list == list && !e.2.dest && e.2.seat == from_ && e.2.unacked.any fun u => u.seq == seq) = some (k, m) → m.phase = .closed →
    Does (.shuffle from_ (.list table list) seq .abortAck) s [.idx, .link] [] fun t => t.idx = { s.idx with moves := s.idx.moves.del k }) ∧
  (∀ (from_ table list seq : Nat) (items : List MoveItem) (s : State), s.calm = true → (s.idx.moves.find? fun e =>
      e.2.table == table && e.2.list == list && e.2.dest == true && e.2.seat == from_ && e.2.phase != .closed) = none → s.canTake table list items = none →
    Does (.shuffle from_ (.list table list) seq (.copy items)) s (.link :: sendParts) [] fun _ => True) ∧
  (∀ (id : Nat) (m : ListMove) (s : State), s.calm = true → s.idx.moves.get id = some m →
    Does (.shuffleResend id) s (.idx :: sendParts) [] fun t => t.idx = { s.idx with moves := s.idx.moves.put id { m with
      unacked := m.unacked.map fun u => if s.past (u.sent + (s.reg Reg.IDX_SHUF_RESEND).toNat) then { u with sent := s.now } else u } }) ∧
  (∀ (id slot op : Nat) (m : ListMove) (x : IdxTable) (s : State), s.calm = true → s.idx.moves.get id = some m → m.dest = false → m.phase = .copy →
    s.tbl m.table = some x → x.waiting = [] → m.slot = some slot → s.slotHas .vcmd slot op (.moveOf m.table m.list) = true →
    Does (.moveCancel id) s idxSends [] fun t => SlotDone .vcmd slot op St.aborted t ∧ t.idx.tables.get m.table = some x ∧
      (t.reg Reg.IDX_SHUF_ABORTED).toNat = min 0xFFFFFFFF ((s.reg Reg.IDX_SHUF_ABORTED).toNat + 1) ∧
      ∃ y, t.idx.moves.get id = some y ∧ y.phase = .closed ∧ y.unacked = [⟨m.nextSeq, .abort, s.now⟩]) ∧
  (∀ (id : Nat) (m : ListMove) (s : State), s.calm = true → s.idx.moves.get id = some m → m.dest = false → m.phase = .handover →
    Does (.moveCancel id) s (.idx :: sendParts) [] fun t => t.idx.moves.get id = some { m with
      phase := .aborting, nextSeq := m.nextSeq + 1, unacked := m.unacked ++ [⟨m.nextSeq, .abort, s.now⟩] })

/-- From R240, R254. What no held milepost needs is reclaimed IDX_RETAIN after it was superseded and raises the floor, an image giving back its place
and a row being free for the next insert; the overlap of a cutover ends once no query that may read its image remains; the skew window of a Trick
Former closes with its 64 most used lists (R249). Where the spec leaves a point open, a clause holds the model's own reading: log 27. -/
def Obligations.ReclaimOverlapAndSkewWindow : Prop :=
  (∀ (table a l : Nat) (x : IdxTable) (o : Superseded) (s : State), s.isRunning = true → s.tbl table = some x → x.superseded = [o] → o.object = .image l a →
    (∀ g ∈ x.gen :: x.prior, l < g.lists → (s.dirEntry g l).image ≠ a) →
    o.milepost ≤ s.oldest table → o.ltc + (s.reg Reg.IDX_RETAIN).toNat ≤ s.now → o.overlap = none →
    Does (.milepostReclaim table) s [.idx] [Reg.IDX_RECLAIM_IMAGES] fun t =>
      t.idx = { s.idx with tables := s.idx.tables.put table { x with superseded := [], floor := max x.floor o.milepost }, pool := s.idx.pool.del a } ∧
      (t.reg Reg.IDX_RECLAIM_IMAGES).toNat = min 0xFFFFFFFF ((s.reg Reg.IDX_RECLAIM_IMAGES).toNat + 1)) ∧
  (∀ (table r : Nat) (x : IdxTable) (o : Superseded) (s : State), s.isRunning = true → s.tbl table = some x → x.superseded = [o] → o.object = .row r →
    r ≠ noRow → o.milepost ≤ s.oldest table → o.ltc + (s.reg Reg.IDX_RETAIN).toNat ≤ s.now → o.overlap = none →
    Does (.milepostReclaim table) s [.idx] [Reg.IDX_RECLAIM_ROWS] fun t =>
      t.idx = { s.idx with tables := s.idx.tables.put table { x with superseded := [], floor := max x.floor o.milepost, gen := { x.gen with freeRows := x.gen.freeRows ++ [r] } } } ∧
      (t.reg Reg.IDX_RECLAIM_ROWS).toNat = min 0xFFFFFFFF ((s.reg Reg.IDX_RECLAIM_ROWS).toNat + 1)) ∧
  (∀ (table list : Nat) (x : IdxTable) (s : State), s.tbl table = some x → x.prior = [] →
    (∀ c ∈ x.gen.cuts, c.list = list → s.past (c.ltc + (s.reg Reg.IDX_SHUF_OVERLAP).toNat) = true ∧
      ∀ e ∈ s.qry.queries, e.2.table = table → c.ltc + (s.reg Reg.IDX_SHUF_OVERLAP).toNat < e.2.accept) →
    Does (.shuffleOverlapEnd table list) s [.idx] [] fun t => t.idx = { s.idx with tables := s.idx.tables.put table { x with
      gen := { x.gen with cuts := x.gen.cuts.filter fun c => c.list != list },
      superseded := x.superseded.map fun o =>
        if o.overlap = some list ∧ (x.gen.cuts.any fun c => c.list == list && c.milepost == o.milepost) = true then { o with overlap := none } else o } }) ∧
  (∀ (q : Nat) (s : State), s.isRunning = true → q < 4 → s.idx.hotStart.getD q 0 + (s.reg Reg.IDX_SKEW_WIN).toNat ≤ s.now →
    Does (.skewWindowClose q) s [.idx] [] fun t => t.idx.hotStart.get q = some s.now ∧ t.idx.hotNow.get q = none ∧ t.idx.tables = s.idx.tables ∧
      ∃ l, t.idx.hotLast.get q = some l ∧ l.length = min 64 (s.idx.hotNow.getD q []).length ∧ ∀ e ∈ l, e ∈ s.idx.hotNow.getD q [])

/-- From R243 to R248. REPLACE_BEGIN puts a LIVE table that nothing holds back in REPLACING with its milepost as base; REPLACE_COMMIT starts the load
of the new image, or reports an abort that is owed; REPLACE_LOAD_DONE swaps it in at the next milepost; REPLACE_CANCEL returns the table to LIVE.
Where the spec leaves a point open, a clause holds the model's own reading: log 28. -/
def Obligations.WholeTableReplacement : Prop :=
  (∀ (slot table size a : Nat) (x : IdxTable) (s : State), s.calm = true → s.slotFree .vcmd slot = true → table < 1024 → s.tbl table = some x → x.state = 3 →
    x.pending = none → x.groups = [] → x.waiting = [] → 0 < size → size < 65536 → s.poolPlace x.gen none (size * 2 ^ 20) = some a →
    s.tableNamed .vcmd slot table = false → s.idx.moves = [] →
    Does (.replaceBegin slot (w32 table) (w32 size)) s [.slots, .idx, .reg .idx] [] fun t => (∃ y, t.idx.tables.get table = some y ∧ y.state = 5 ∧ y.base = x.milepost ∧
      y.logCap = size * 2 ^ 20 ∧ y.logAddr = a ∧ y.log = []) ∧ SlotDone .vcmd slot 5 St.ok t ∧ t.reg (slotReg .vcmd slot 7) = w32 x.milepost) ∧
  (∀ (slot : Nat) (a0 a3 a4 : W32) (x : IdxTable) (g : TableGen) (keys : Nat) (places : Option (List Nat)) (b s : State), s.calm = true →
    s.slotFree .vcmd slot = true → b = s.begun .vcmd slot 6 [(0, a0), (3, a3), (4, a4)] none → s.tbl (fld a0 9 0) = some x → x.state = 5 →
    x.owedAborts = 0 ∨ b.tableNamed .vcmd slot (fld a0 9 0) = true → fld a0 31 28 < 2 → fld a0 31 28 = 1 ∨ stackOk (a3.toNat + 2 ^ 32 * a4.toNat) = true →
    b.loadChecks ⟨fld a0 31 28 == 1, a3.toNat + 2 ^ 32 * a4.toNat⟩ true false (fld a0 9 0) 0 0
      [(x.state != 5 || b.tableNamed .vcmd slot (fld a0 9 0) || x.loading.isSome, St.busy)] = (St.ok, g, keys, places) →
    Does (.replaceCommit slot a0 a3 a4) s [.slots, .idx, .reg .idx] [] fun t => SlotUnderWay .vcmd slot 6 (.replaceLoad (fld a0 9 0)) t ∧
      ∃ y, t.idx.tables.get (fld a0 9 0) = some y ∧ y = { x with loading := y.loading } ∧
      ∃ l, y.loading = some l ∧ l.slot = slot ∧ l.desc = g.desc ∧ l.keys = keys) ∧
  (∀ (slot : Nat) (a0 a3 a4 : W32) (x : IdxTable) (s : State), s.calm = true → s.slotFree .vcmd slot = true → s.tbl (fld a0 9 0) = some x →
    s.tableNamed .vcmd slot (fld a0 9 0) = false → x.owedAborts ≠ 0 →
    Does (.replaceCommit slot a0 a3 a4) s [.slots, .idx] (slotRegs .vcmd slot) fun t => SlotDone .vcmd slot 6 St.aborted t ∧
      t.idx = { s.idx with tables := s.idx.tables.put (fld a0 9 0) { x with owedAborts := x.owedAborts - 1 } }) ∧
  (∀ (slot table : Nat) (x : IdxTable) (l : Loading) (pl : List Nat × State) (sc : State) (s : State), s.calm = true →
    s.slotHas .vcmd slot 6 (.replaceLoad table) = true → s.tbl table = some x → x.state = 5 → x.loading = some l → x.groups = [] → x.waiting = [] →
    x.log = [] → s.idx.merges = [] → s.crcBad ⟨l.flash, l.addr⟩ (s.srcSections ⟨l.flash, l.addr⟩) = false →
    (∀ d ∈ dupSlots ((s.srcLists ⟨l.flash, l.addr⟩ (s.srcSections ⟨l.flash, l.addr⟩) (genOf l.desc l.cols)).map fun es => es.getD []), d = []) →
    sc = (s.copyObjects ⟨l.flash, l.addr⟩ (s.srcSections ⟨l.flash, l.addr⟩) (genOf l.desc l.cols)).copyRows ⟨l.flash, l.addr⟩
      (s.srcSections ⟨l.flash, l.addr⟩) (genOf l.desc l.cols) →
    sc.poolPlaces (genOf l.desc l.cols) ((s.srcLists ⟨l.flash, l.addr⟩ (s.srcSections ⟨l.flash, l.addr⟩) (genOf l.desc l.cols)).map fun es =>
      (genOf l.desc l.cols).listBytes (es.map List.length)) = some pl →
    Does (.replaceLoadDone slot) s idxCommits [] fun t => (∃ y, t.idx.tables.get table = some y ∧ y.state = 3 ∧ y.milepost = x.milepost + 1 ∧
      y.loading = none ∧ y.gen.desc = l.desc ∧ x.gen ∈ y.prior) ∧ SlotDone .vcmd slot 6 St.ok t ∧ t.reg (slotReg .vcmd slot 7) = w32 (x.milepost + 1)) ∧
  (∀ (slot table : Nat) (x : IdxTable) (s : State), s.calm = true → s.slotFree .vcmd slot = true → table < 1024 → s.tbl table = some x → x.state = 5 →
    x.loading = none → x.waiting = [] → s.tableNamed .vcmd slot table = false →
    Does (.replaceCancel slot (w32 table)) s [.slots, .idx, .reg .idx] [] fun t => (∃ y, t.idx.tables.get table = some y ∧ y.state = 3 ∧ y.owedAborts = x.owedAborts + 1 ∧
      y.milepost = x.milepost) ∧ SlotDone .vcmd slot 7 St.ok t ∧
      (t.reg Reg.IDX_REPLACE_ABORTED).toNat = min 0xFFFFFFFF ((s.reg Reg.IDX_REPLACE_ABORTED).toNat + 1))

/-- From R154, R156 to R159, R161 to R164. A descriptor that passes the checks gets the lowest free query number, its hands, the select unit in turn
and its tenant's queue; released it is pinned and joins a probe batch; the batch launches QRY_PROBE_DL after it opened; its probe distances rank the
lists, and the pairs of the first stage are dispatched. Where the spec leaves a point open, a clause holds the model's own reading: log 29 and 30. -/
def Obligations.QueriesAreTakenProbedAndRanked : Prop :=
  (∀ (m : Msg) (h : Bytes) (x : IdxTable) (su n : Nat) (u s : State), s.calm = true → s.isRunning = true → m.flags.getLsbD 0 = false → 64 ≤ m.body.length →
    u = s.took m → h = sliceAt m.body 0 40 ++ leBytes 4 m.src.toNat ++ sliceAt m.body 44 20 → s.tbl (qTable h) = some x → qTable h ≤ 1023 →
    s.tblState (qTable h) ≠ 0 → qPinGiven h = false →
    u.queryStatus false (h ++ m.body.drop 64) (u.mapOutcome m.mapMp.toNat (qTable h) none) (some x.gen) = St.ok →
    s.turnSu = some su → s.qry.queries.lowestFree 0 16384 = some n → s.genLost x.gen = false →
    Does (.query m) s [.kitty, .kmem, .qry, .link] [Reg.QRY_ACCEPTED_LO, Reg.QRY_ACCEPTED_LO + 4, Reg.QRY_EXACT, Reg.QRY_OUTSTANDING, Reg.QRY_HANDS_FREE] fun t => SelfTraffic s t ∧
      (∃ q, t.qry.queries.get n = some q ∧ q.phase = .queued ∧ q.header = h ∧ q.accept = s.now ∧ q.hands = qHands h ∧ q.handAt = s.freeHands (qHands h) ∧ q.su = su ∧ q.gen = x.gen ∧
        q.deadline = s.now + (if qDeadline h = 0 then s.tntDeadline (qTenant h) else qDeadline h)) ∧
      (∀ k, k ≠ n → t.qry.queries.get k = s.qry.queries.get k) ∧ t.qry.nextSu = (su + 1) % 32 ∧
      t.qry.queues.get (8 * qTenant h + qQueue h) = some (s.qry.queues.getD (8 * qTenant h + qQueue h) [] ++ [n]) ∧
      t.pair Reg.QRY_ACCEPTED_LO = min (2 ^ 64 - 1) (s.pair Reg.QRY_ACCEPTED_LO + 1)) ∧
  (∀ (m : Msg) (h : Bytes) (x : IdxTable) (st : Nat) (u s : State), s.calm = true → s.isRunning = true → m.flags.getLsbD 0 = false → 64 ≤ m.body.length →
    u = s.took m → h = sliceAt m.body 0 40 ++ leBytes 4 m.src.toNat ++ sliceAt m.body 44 20 → s.tbl (qTable h) = some x → qTable h ≤ 1023 →
    s.tblState (qTable h) ≠ 0 → qPinGiven h = false →
    u.queryStatus false (h ++ m.body.drop 64) (u.mapOutcome m.mapMp.toNat (qTable h) none) (some x.gen) = st → st ≠ St.ok →
    Does (.query m) s ([.kitty, .kmem, .quota, .reg .sched] ++ sendParts) [Reg.QRY_REJECT + 4 * st] fun t => SelfTraffic s t ∧
      (t.reg (Reg.QRY_REJECT + 4 * st)).toNat = min 0xFFFFFFFF ((s.reg (Reg.QRY_REJECT + 4 * st)).toNat + 1)) ∧
  (∀ (tenant k n mp : Nat) (rest : List Nat) (pt : PointSt) (q : Query) (x : IdxTable) (s : State), s.calm = true → s.isRunning = true →
    s.tenantTurn (tenant % 4) = some tenant → s.tenantPick tenant = (some k, pt) → s.qry.queues.getD (8 * tenant + k) [] = n :: rest → s.query n = some q → s.tbl (qTable q.header) = some x →
    s.past q.deadline = false → x.admits s.cycle = (3, mp) → qPinGiven q.header = false → x.gen = q.gen → x.prior = [] → x.gen.since ≤ mp → x.floor ≤ mp →
    s.genLost x.gen = false → qExact q.header = false → (∀ b ∈ s.qry.batches, b.2.table = qTable q.header → b.2.launched = true) →
    1 < bitsOf (s.reg Reg.QRY_PROBE_CFG).toNat 8 0 →
    Does (.queryRelease tenant) s [.sched, .qry] [] fun t =>
      t.query n = some { q with pin := mp, stages := 1, phase := .batched } ∧ t.qry.queues.get (8 * tenant + k) = some rest ∧
      t.qry.batches.get s.qry.nextBatch = some ⟨qTable q.header, [(n, s.now)], s.now, false⟩) ∧
  (∀ (tenant k n mp : Nat) (rest : List Nat) (pt : PointSt) (q : Query) (x : IdxTable) (s : State), s.calm = true → s.isRunning = true →
    s.tenantTurn (tenant % 4) = some tenant → s.tenantPick tenant = (some k, pt) → s.qry.queues.getD (8 * tenant + k) [] = n :: rest → s.query n = some q → s.tbl (qTable q.header) = some x →
    s.past q.deadline = false → x.admits s.cycle = (3, mp) → qPinGiven q.header = false → x.gen = q.gen → x.prior = [] → x.gen.since ≤ mp → x.floor ≤ mp →
    s.genLost x.gen = false → qExact q.header = true →
    Does (.queryRelease tenant) s [.sched, .qry] [] fun t =>
      t.query n = some { q with pin := mp, stages := 1, phase := .exact } ∧ t.qry.queues.get (8 * tenant + k) = some rest ∧ t.qry.batches = s.qry.batches) ∧
  (∀ (table b : Nat) (x : Batch) (s : State), s.calm = true → s.isRunning = true →
    (s.qry.batches.find? fun e => e.2.table == table && !e.2.launched) = some (b, x) → x.oldest + fld (s.reg Reg.QRY_PROBE_CFG) 31 16 ≤ s.now →
    x.lastJoin < s.now → (s.probers x.table).isEmpty = false →
    Does (.probeBatchDeadline table) s [.qry] [] fun t => t.qry.batches.get b = some { x with launched := true } ∧
      (∀ m ∈ x.members, ∀ q, s.query m.1 = some q → t.query m.1 = some { q with phase := .probing }) ∧
      ∀ n, n ∉ x.members.map Prod.fst → t.query n = s.query n) ∧
  (∀ (b : Nat) (x : Batch) (s : State), s.isRunning = true → s.qry.batches.get b = some x → x.launched = true →
    Does (.probeDone b) s [.qry, .free] [] fun t => t.qry.batches.get b = none ∧
      (∀ m ∈ x.members, ∀ q, s.query m.1 = some q → ∃ seed, t.query m.1 = some { q with phase := .probed, probe := s.probeAll seed q }) ∧
      ∀ n, n ∉ x.members.map Prod.fst → t.query n = s.query n) ∧
  (∀ (n : Nat) (q : Query) (s : State), s.calm = true → s.isRunning = true → s.query n = some q → q.phase = .probed →
    Does (.listsRanked n) s [.qry] [Reg.QRY_PROBE_NAN, Reg.IDX_SHUF_SKIPPED, Reg.IDX_SHUF_OVERLAP_READS] fun t => ∃ q', t.query n = some q' ∧
      q'.phase = .scanning ∧ q'.used = min (qNprobe q.header) (rankedLists q.probe).length ∧
      q'.ranks = (rankedLists q.probe).take (if qWiden q.header then min (s.tntNprobeMax (qTenant q.header)) 4096 else qNprobe q.header) ∧
      q'.pairsTo.map PairTo.list = q.pairsTo.map PairTo.list ++
        (((rankedLists q.probe).take (qNprobe q.header)).filter fun l => (s.pairImage q l).isSome) ∧
      (t.reg Reg.QRY_PROBE_NAN).toNat = min 0xFFFFFFFF ((s.reg Reg.QRY_PROBE_NAN).toNat + (q.probe.filter isNan).length))

/-- From R165 to R169. A pair joins the open trick of its identity and may lower its deadline, or opens one; a trick launches when it is full, at its
deadline, or old enough to an idle engine, and counts its cause; a trick that waits for space enters the queue when there is some. Where the spec
leaves a point open, a clause holds the model's own reading: log 30. -/
def Obligations.TricksFormAndLaunch : Prop :=
  (∀ (q n l e : Nat) (x : Query) (p : PairTo) (s : State), s.calm = true → s.isRunning = true → s.query n = some x →
    (x.pairsTo.find? fun p => p.quadrant == q && p.list == l) = some p → (s.launchTo q none).isSome = true →
    s.outOfTurn q n (qTable x.header) p = false → s.openTrick q (qTable x.header) p = none → (s.former q).opens.lowestFree 0 4096 = some e →
    Does (.pairArrival q n l) s [.idx, .qry] [] fun t => (t.former q).opens.get e = some ⟨qTable x.header, p.list, p.addr, [(n, s.cycle)],
        s.now + fld (s.reg (Reg.QRY_TRICK_DL + 4 * s.tntClass (qTenant x.header))) 15 0, 0, false, none, []⟩ ∧
      t.query n = some { x with pairsTo := x.pairsTo.erase p } ∧ t.idx.tables = s.idx.tables) ∧
  (∀ (q n l e : Nat) (x : Query) (p : PairTo) (y : Trick) (s : State), s.calm = true → s.isRunning = true → s.query n = some x →
    (x.pairsTo.find? fun p => p.quadrant == q && p.list == l) = some p → (s.launchTo q none).isSome = true →
    s.outOfTurn q n (qTable x.header) p = false → s.openTrick q (qTable x.header) p = some (e, y) → y.members.length < 31 →
    Does (.pairArrival q n l) s [.idx, .qry] [] fun t => (t.former q).opens.get e = some (y.join n s.cycle
        (s.now + fld (s.reg (Reg.QRY_TRICK_DL + 4 * s.tntClass (qTenant x.header))) 15 0)) ∧
      t.query n = some { x with pairsTo := x.pairsTo.erase p } ∧ t.idx.tables = s.idx.tables) ∧
  (∀ (q n l e e' : Nat) (x : Query) (p : PairTo) (y y' : Trick) (s : State), s.calm = true → s.query n = some x →
    (x.pairsTo.find? fun p => p.quadrant == q && p.list == l) = some p → s.outOfTurn q n (qTable x.header) p = false →
    s.openTrick q (qTable x.header) p = some (e, y) →
    y' = y.join n s.cycle (s.now + fld (s.reg (Reg.QRY_TRICK_DL + 4 * s.tntClass (qTenant x.header))) 15 0) → y'.members.length = 32 →
    s.goesTo q y' e' = true →
    Does (.pairArrival q n l) s [.idx, .qry] [] fun t => TrickLaunched q e e' y' t ∧ (t.former q).full = satAdd32 (s.former q).full 1 ∧
      (t.former q).members = satAdd64 (s.former q).members 32 ∧ t.query n = some { x with pairsTo := x.pairsTo.erase p } ∧ t.idx.tables = s.idx.tables) ∧
  (∀ (q n l : Nat) (x : Query) (p : PairTo) (s : State), s.calm = true → s.isRunning = true → s.query n = some x →
    (x.pairsTo.find? fun p => p.quadrant == q && p.list == l) = some p → s.outOfTurn q n (qTable x.header) p = false → s.launchTo q none = none →
    Does (.pairArrival q n l) s qryEnds [Reg.QRY_DONE + 4 * St.fault, Reg.QRY_REJECT + 4 * St.fault, Reg.QRY_OUTSTANDING, Reg.QRY_HANDS_FREE] fun t =>
      t.query n = none ∧ ∀ k, k ≠ n → t.query k = s.query k) ∧
  (∀ (q entry e : Nat) (y : Trick) (s : State), s.calm = true → s.goesTo q y e = true → (s.former q).opens.get entry = some y → y.deadline ≤ s.now →
    (∀ m ∈ y.members, m.2 / 18 < s.now) → y.members.length < 32 →
    Does (.trickDeadline q entry) s [.qry] [] fun t => TrickLaunched q entry e y t ∧ (t.former q).byDeadline = satAdd32 (s.former q).byDeadline 1 ∧
      (t.former q).idle = (s.former q).idle ∧ (t.former q).members = satAdd64 (s.former q).members y.members.length ∧ t.qry.queries = s.qry.queries) ∧
  (∀ (q entry e : Nat) (y : Trick) (s : State), s.calm = true → s.goesTo q y e = true → (s.former q).opens.get entry = some y →
    e ∈ s.liveSe q none → earliest ((s.former q).opens.filter fun o => (o.2.members.head?).any fun m =>
      decide (m.2 / 18 + fld (s.reg Reg.QRY_TRICK_MIN_AGE) 15 0 ≤ s.now)) = some entry →
    Does (.trickIdleLaunch q) s [.qry] [] fun t => TrickLaunched q entry e y t ∧ (t.former q).idle = satAdd32 (s.former q).idle 1 ∧
      (t.former q).byDeadline = (s.former q).byDeadline ∧ t.qry.queries = s.qry.queries) ∧
  (∀ (q entry cause e : Nat) (y : Trick) (s : State), s.calm = true → s.isRunning = true → q < 4 → s.launchTo q none = some q →
    (s.former q).queue = [] → s.engineFor q y = some e → (s.former q).opens.get entry = some y → (s.former q).due = [(entry, cause)] →
    (∀ f ∈ s.qry.formers, f.2.held = []) → (∀ f ∈ s.qry.formers, f.1 ≠ q → f.2.due = []) →
    Does (.launchQueueSpace q) s [.qry] [] fun t => TrickLaunched q entry e y t ∧ (t.former q).due = [] ∧ t.qry.queries = s.qry.queries)

/-- From R172 to R175. An engine judges every entry of the next strip, then the wayside records, for each member, and gives what survives to the
member's select unit; a scan that is done leaves each member one pair less; an engine that fails is logged, and its trick goes once to another engine.
Where the spec leaves a point open, a clause holds the model's own reading: log 30. -/
def Obligations.EnginesScanTricks : Prop :=
  (∀ (e : Nat) (x : ScanRun) (m : Nat × Nat) (q : Query) (r : Scanned) (s : State), s.isRunning = true → s.qry.engines.get e = some x →
    x.strip < s.imgStrips x.trick.addr → x.trick.members = [m] → x.trick.gone = [] →
    s.query m.1 = some q → r = s.scanSlots q x.trick.list x.trick.addr x.strip (e / 16) (s.memberPin q x.trick.list) →
    Does (.scanStrip e) s [.bus, .kmem, .qry] [Reg.QRY_TOMB_HIDDEN, Reg.QRY_SCAN_DIST_LO, Reg.QRY_SCAN_DIST_LO + 4, Reg.QRY_FILTER_REJECT_LO,
        Reg.QRY_FILTER_REJECT_LO + 4, Reg.IDX_ROW_RANGE, Reg.IDX_TS_CONSULT] fun t => SelfTraffic s t ∧
      t.qry.engines.get e = some { x with strip := x.strip + 1 } ∧
      t.query m.1 = some { q with inbox := q.inbox ++ r.cands.map fun c => (s.cycle, e, c) } ∧
      t.pair Reg.QRY_SCAN_DIST_LO = min (2 ^ 64 - 1) (s.pair Reg.QRY_SCAN_DIST_LO + r.dists) ∧
      (t.reg Reg.QRY_TOMB_HIDDEN).toNat = min 0xFFFFFFFF ((s.reg Reg.QRY_TOMB_HIDDEN).toNat + r.hidden)) ∧
  (∀ (e : Nat) (x : ScanRun) (m : Nat × Nat) (q : Query) (r : Scanned) (s : State), s.isRunning = true → s.qry.engines.get e = some x →
    s.imgStrips x.trick.addr ≤ x.strip → x.wayDone = false → x.trick.members = [m] → x.trick.gone = [] →
    s.query m.1 = some q → r = s.scanRecords q x.trick.list x.trick.addr x.trick.count (e / 16) (s.memberPin q x.trick.list) →
    Does (.scanWayside e) s [.bus, .kmem, .qry] [Reg.QRY_TOMB_HIDDEN, Reg.QRY_SCAN_DIST_LO, Reg.QRY_SCAN_DIST_LO + 4, Reg.QRY_FILTER_REJECT_LO,
        Reg.QRY_FILTER_REJECT_LO + 4, Reg.IDX_ROW_RANGE] fun t => SelfTraffic s t ∧
      t.qry.engines.get e = some { x with wayDone := true } ∧
      t.query m.1 = some { q with inbox := q.inbox ++ r.cands.map fun c => (s.cycle, e, c) } ∧
      t.pair Reg.QRY_FILTER_REJECT_LO = min (2 ^ 64 - 1) (s.pair Reg.QRY_FILTER_REJECT_LO + r.rejects)) ∧
  (∀ (e : Nat) (x : ScanRun) (m : Nat × Nat) (q : Query) (s : State), s.calm = true → s.isRunning = true → s.qry.engines.get e = some x → x.wayDone = true →
    x.trick.members = [m] → s.query m.1 = some q → (s.former (e / 32)).queue = [] →
    Does (.trickScanDone e) s [.kitty, .bus, .qry] [Reg.QRY_SCAN_PAIRS_LO, Reg.QRY_SCAN_PAIRS_LO + 4] fun t => SelfTraffic s t ∧ t.qry.engines.get e = none ∧
      t.query m.1 = some { q with pairsOpen := q.pairsOpen - 1 } ∧
      t.pair Reg.QRY_SCAN_PAIRS_LO = min (2 ^ 64 - 1) (s.pair Reg.QRY_SCAN_PAIRS_LO + 1)) ∧
  (∀ (e e' : Nat) (x : ScanRun) (s : State), s.calm = true → s.isRunning = true → s.qry.engines.get e = some x → x.trick.relaunch = false →
    s.uncrossed 0x0031 5 e = true → x.trick.home = e / 32 → (s.former (e / 32)).queue = [] → s.launchTo (e / 32) (some e) = some (e / 32) →
    s.engineFor (e / 32) { x.trick with avoid := some e } = some e' →
    Does (.scanEngineFail e) s [.host, .qry, .flt, .out] [Reg.FLT_IRQ_STATUS, Reg.FLT_LOG_LOST, Reg.QRY_TRICK_RELAUNCH] fun t =>
      t.qry.engines.get e = none ∧ t.qry.engines.get e' = some ⟨{ x.trick with relaunch := true, avoid := some e }, 0, false⟩ ∧
      t.qry.queries = s.qry.queries ∧ (∃ r, t.flt.log.head? = some r ∧ r.code = 0x0031) ∧
      (t.reg Reg.QRY_TRICK_RELAUNCH).toNat = min 0xFFFFFFFF ((s.reg Reg.QRY_TRICK_RELAUNCH).toNat + 1)) ∧
  (∀ (e : Nat) (x : ScanRun) (m : Nat × Nat) (q : Query) (s : State), s.calm = true → s.isRunning = true → s.qry.engines.get e = some x →
    x.trick.relaunch = true → x.trick.members = [m] → s.query m.1 = some q → q.phase ≠ .queued → s.uncrossed 0x0031 5 e = true →
    (s.former (e / 32)).queue = [] →
    Does (.scanEngineFail e) s ([.flt] ++ qryEnds) [Reg.FLT_IRQ_STATUS, Reg.FLT_LOG_LOST, Reg.QRY_DONE + 4 * St.fault, Reg.QRY_OUTSTANDING,
        Reg.QRY_HANDS_FREE] fun t => t.qry.engines.get e = none ∧ t.query m.1 = none ∧ (∀ k, k ≠ m.1 → t.query k = s.query k) ∧
      (t.reg (Reg.QRY_DONE + 4 * St.fault)).toNat = min 0xFFFFFFFF ((s.reg (Reg.QRY_DONE + 4 * St.fault)).toNat + 1))

/-- From R182, R195 to R198. Arrivals are numbered in order of cycle and engine, NaN and late ones dropped and counted, the rest staged; a staging
buffer whose oldest entry waited 128 cycles is flushed, and the new threshold takes effect after it. An exact query scores its next entry and sends a
survivor to its select unit; one whose vector cannot be read is counted. Where the spec leaves a point open, a clause holds the model's own reading:
log 8 and 31. -/
def Obligations.HandsTakeEntriesAndFlush : Prop :=
  (∀ (n : Nat) (q : Query) (x : Nat × Nat × Cand) (s : State), s.calm = true → s.isRunning = true → s.query n = some q → q.inbox = [x] →
    isNan x.2.2.dist = false → dKey x.2.2.dist ≤ q.tested s.cycle → q.staging.length < 255 →
    Does (.entryArrival n) s [.qry] [] fun t => t.query n = some (q.staged (if q.staging = [] then s.cycle else q.oldest) x.2.2)) ∧
  (∀ (n : Nat) (q : Query) (x : Nat × Nat × Cand) (s : State), s.calm = true → s.isRunning = true → s.query n = some q → q.inbox = [x] →
    isNan x.2.2.dist = true →
    Does (.entryArrival n) s [.qry] [Reg.QRY_SEL_NAN] fun t =>
      t.query n = some { q with inbox := [], nextSeq := q.nextSeq + 1, nans := q.nans + 1 } ∧
      (t.reg Reg.QRY_SEL_NAN).toNat = min 0xFFFFFFFF ((s.reg Reg.QRY_SEL_NAN).toNat + 1)) ∧
  (∀ (n : Nat) (q : Query) (x : Nat × Nat × Cand) (s : State), s.calm = true → s.isRunning = true → s.query n = some q → q.inbox = [x] →
    isNan x.2.2.dist = false → q.tested s.cycle < dKey x.2.2.dist →
    Does (.entryArrival n) s [.qry] [Reg.QRY_SEL_LATE] fun t => t.query n = some { q with inbox := [], nextSeq := q.nextSeq + 1 } ∧
      (t.reg Reg.QRY_SEL_LATE).toNat = min 0xFFFFFFFF ((s.reg Reg.QRY_SEL_LATE).toNat + 1)) ∧
  (∀ (n : Nat) (q : Query) (s : State), s.calm = true → s.isRunning = true → s.query n = some q → q.staging ≠ [] → q.oldest + 128 ≤ s.cycle →
    Does (.stagingAgeFlush n) s [.kitty, .kmem, .qry] [Reg.QRY_SEL_DUP, Reg.QRY_SEL_FLUSH_LO, Reg.QRY_SEL_FLUSH_LO + 4] fun t =>
      SelfTraffic s t ∧ t.query n = some { q.flushed with flushAt := s.cycle } ∧ q.flushed.staging = [] ∧ q.flushed.inForce = q.inForce ∧
      (q.flushed.entries.map fun c => c.key.toNat).Nodup ∧ (∀ c ∈ q.flushed.entries, c ∈ q.entries ∨ c ∈ q.staging) ∧
      t.pair Reg.QRY_SEL_FLUSH_LO = min (2 ^ 64 - 1) (s.pair Reg.QRY_SEL_FLUSH_LO + 1)) ∧
  (∀ (n : Nat) (q : Query) (s : State), s.calm = true → s.isRunning = true → s.query n = some q →
    q.flushAt < s.cycle → q.inForce ≠ q.t →
    Does (.handThresholdUpdate n) s [.qry] [] fun t =>
      t.query n = some { q with inForce := q.t, before := (s.cycle, q.tested s.cycle) } ∧ ∀ k, k ≠ n → t.query k = s.query k) ∧
  (∀ (n die l : Nat) (readable : Bool) (q : Query) (c : Cand) (rest : List Cand) (s : State), s.calm = true → s.isRunning = true → s.query n = some q →
    q.phase = .exact → s.exactLeft q = some (l, c :: rest) → q.gen.metric = 3 → s.rowPasses q.gen (readNodes q.filter) c.row = true →
    Does (.exactEntryScored n readable die) s [.kitty, .kmem, .qry] [Reg.IDX_ROW_RANGE, Reg.IDX_TS_CONSULT] fun t => SelfTraffic s t ∧ t.query n = some (q.scored l rest
      [(s.cycle, 16 * (die % 8), { c with dist := hamming q.bits (s.exactCode q l c), die := die % 8 })])) ∧
  (∀ (n die l : Nat) (q : Query) (c : Cand) (rest : List Cand) (s : State), s.calm = true → s.isRunning = true → s.query n = some q →
    q.phase = .exact → s.exactLeft q = some (l, c :: rest) → q.gen.metric ≠ 3 → hasFv q.gen c.row = true →
    Does (.exactEntryScored n true die) s [.kitty, .kmem, .qry, .free] [Reg.QRY_RR_FLASH, Reg.QRY_RR_STACK, Reg.IDX_ROW_RANGE, Reg.IDX_TS_CONSULT] fun t =>
      SelfTraffic s t ∧ t.query n = some (q.scored l rest [(s.cycle, 16 * (die % 8), { c with
        dist := exactDist q.gen.metric s.free q.values (fvVals q.gen.fvFormat q.gen.dim (s.fvRead q.gen c.row)), die := die % 8 })])) ∧
  (∀ (n die l : Nat) (q : Query) (c : Cand) (rest : List Cand) (s : State), s.calm = true → s.isRunning = true → s.query n = some q →
    q.phase = .exact → s.exactLeft q = some (l, c :: rest) → q.gen.metric ≠ 3 → hasFv q.gen c.row = true →
    Does (.exactEntryScored n false die) s [.kitty, .kmem, .qry] [Reg.QRY_RR_FLASH, Reg.QRY_RR_STACK, Reg.QRY_RR_FAULT, Reg.IDX_TS_CONSULT] fun t =>
      SelfTraffic s t ∧
      t.query n = some (q.scored l rest []) ∧
      (t.reg Reg.QRY_RR_FAULT).toNat = min 0xFFFFFFFF ((s.reg Reg.QRY_RR_FAULT).toNat + 1))

/-- From R176 to R181, R185, R200, R201. At the end of its last stage a query's hand is flushed and vectors are fetched for its first entries; a fetch
gives its vector or is counted and keeps the code distance; scored, the reranked entries are in ascending order without NaN; the final select, or a
deadline, ends the query, counts its status and frees its number. Where the spec leaves a point open, a clause holds the model's own reading: log 8
and 31. -/
def Obligations.StagesRerankAndEndQueries : Prop :=
  (∀ (n : Nat) (q : Query) (s : State), s.calm = true → s.isRunning = true → s.query n = some q → q.stageOver = true → qWiden q.header = false →
    qExact q.header = false → qRerank q.header ≠ 0 → q.gen.metric ≠ 3 →
    Does (.stageEnd n) s [.kitty, .kmem, .qry] [Reg.QRY_SEL_DUP, Reg.QRY_SEL_FLUSH_LO, Reg.QRY_SEL_FLUSH_LO + 4, Reg.QRY_RR_NOVEC, Reg.IDX_ROW_RANGE,
        Reg.QRY_RR_FLASH, Reg.QRY_RR_STACK] fun t => SelfTraffic s t ∧ ∃ q', t.query n = some q' ∧ q'.phase = .rerank ∧ q'.rerank = q.toRerank ∧ q'.entries = q.flushed.entries ∧
      q'.staging = [] ∧ (q'.partialRerank = true ↔ ∃ e ∈ q.toRerank, e.2 = Fetch.none_)) ∧
  (∀ (n : Nat) (q : Query) (s : State), s.calm = true → s.isRunning = true → s.query n = some q → q.stageOver = true → qWiden q.header = true →
    q.flushed.entries.length < qK q.header → q.used < q.ranks.length →
    Does (.stageEnd n) s [.kitty, .kmem, .qry] [Reg.QRY_SEL_DUP, Reg.QRY_SEL_FLUSH_LO, Reg.QRY_SEL_FLUSH_LO + 4, Reg.QRY_WIDEN_STAGES, Reg.IDX_SHUF_SKIPPED,
        Reg.IDX_SHUF_OVERLAP_READS] fun t => SelfTraffic s t ∧ (∃ q', t.query n = some q' ∧ q'.phase = .scanning ∧ q'.used = min (2 * q.used) q.ranks.length ∧
        q'.stages = q.stages + 1 ∧ q'.widened = true ∧ q'.entries = q.flushed.entries) ∧
      (t.reg Reg.QRY_WIDEN_STAGES).toNat = min 0xFFFFFFFF ((s.reg Reg.QRY_WIDEN_STAGES).toNat + 1)) ∧
  (∀ (n place : Nat) (q : Query) (c : Cand) (s : State), s.calm = true → s.isRunning = true → s.query n = some q → q.phase = .rerank →
    q.rerank[place]? = some (c, .waiting) →
    Does (.rerankFetchDone n place true) s [.kitty, .kmem, .med, .qry, .reg .media] [] fun t => SelfTraffic s t ∧
      t.query n = some { q with rerank := q.rerank.set place (c, .vector (s.fvRead q.gen c.row)) }) ∧
  (∀ (n place : Nat) (q : Query) (c : Cand) (s : State), s.calm = true → s.isRunning = true → s.query n = some q → q.phase = .rerank →
    q.rerank[place]? = some (c, .waiting) →
    Does (.rerankFetchDone n place false) s [.qry] [Reg.QRY_RR_FAULT] fun t =>
      t.query n = some { q with rerank := q.rerank.set place (c, .none_), partialRerank := true } ∧
      (t.reg Reg.QRY_RR_FAULT).toNat = min 0xFFFFFFFF ((s.reg Reg.QRY_RR_FAULT).toNat + 1)) ∧
  (∀ (n : Nat) (q : Query) (s : State), s.calm = true → s.isRunning = true → s.query n = some q → q.phase = .rerank →
    (∀ x ∈ q.rerank, x.2 ≠ .waiting) →
    Does (.rerankScored n) s [.qry, .free] [Reg.QRY_SEL_NAN] fun t => ∃ q', t.query n = some q' ∧ q'.phase = .scored ∧ q'.rerank = [] ∧
      (∀ o ∈ q'.ordered, isNan o.1.dist = false) ∧ (q'.ordered.Pairwise fun a b => dKey a.1.dist ≤ dKey b.1.dist) ∧
      q'.ordered.length + (q'.nans - q.nans) = q.rerank.length) ∧
  (∀ (n st : Nat) (q : Query) (s : State), s.calm = true → s.isRunning = true → s.query n = some q → q.phase = .scored →
    s.past q.deadline = false → st = (if (q.finalSelect s.answerSeat).1.length = qK q.header then St.ok else St.short) →
    Does (.finalSelect ⟨n, 0⟩) s qryEnds [Reg.QRY_DONE + 4 * st, Reg.QRY_SEL_TIE, Reg.QRY_WIDEN_SHORT, Reg.QRY_OUTSTANDING, Reg.QRY_HANDS_FREE] fun t =>
      t.query n = none ∧ (∀ k, k ≠ n → t.query k = s.query k) ∧
      (t.reg (Reg.QRY_DONE + 4 * st)).toNat = min 0xFFFFFFFF ((s.reg (Reg.QRY_DONE + 4 * st)).toNat + 1)) ∧
  (∀ (n mm : Nat) (q : Query) (s : State), s.calm = true → s.isRunning = true → s.query n = some q → q.phase = .scored → s.past q.deadline = true →
    Does (.finalSelect ⟨n, mm⟩) s qryEnds [Reg.QRY_DONE + 4 * St.timeout, Reg.QRY_OUTSTANDING, Reg.QRY_HANDS_FREE] fun t =>
      t.query n = none ∧ ∀ k, k ≠ n → t.query k = s.query k) ∧
  (∀ (n : Nat) (q : Query) (s : State), s.calm = true → s.isRunning = true → s.query n = some q → q.phase ≠ .queued → s.past q.deadline = true →
    Does (.queryDeadline n) s qryEnds [Reg.QRY_DONE + 4 * St.timeout, Reg.QRY_OUTSTANDING, Reg.QRY_HANDS_FREE] fun t =>
      t.query n = none ∧ (∀ k, k ≠ n → t.query k = s.query k) ∧
      (t.reg (Reg.QRY_DONE + 4 * St.timeout)).toNat = min 0xFFFFFFFF ((s.reg (Reg.QRY_DONE + 4 * St.timeout)).toNat + 1))

/-- From R188, R208 to R212. The selectors of the query path show a quadrant's Trick Former and a tenant; a seat's answer joins its open merge, one
for a merge that is closed counts as late, and a merge that reaches its deadline less QRY_MRG_MARGIN closes. Where the spec leaves a point open, a
clause holds the model's own reading: log 29 and 35. -/
def Obligations.QuerySelectorsAndTheDealersMerge : Prop :=
  (∀ (v : W32) (s : State), s.isRunning = true →
    Does (.qryTfSel v) s [] [Reg.QRY_TF_SEL, Reg.QRY_TF_OPEN, Reg.QRY_TF_LQ, Reg.QRY_TF_LQ_FULL, Reg.QRY_TF_L_FULL, Reg.QRY_TF_L_DEADLINE, Reg.QRY_TF_L_IDLE,
        Reg.QRY_TF_L_EVICT, Reg.QRY_TF_MEMBERS_LO, Reg.QRY_TF_MEMBERS_LO + 4] fun t =>
      t.reg Reg.QRY_TF_SEL = v &&& 3 ∧ t.reg Reg.QRY_TF_OPEN = w32 (s.former (v.toNat % 4)).opens.length ∧
      t.reg Reg.QRY_TF_LQ = w32 (s.former (v.toNat % 4)).queue.length ∧ t.reg Reg.QRY_TF_LQ_FULL = (s.former (v.toNat % 4)).lqFull ∧
      t.reg Reg.QRY_TF_L_FULL = (s.former (v.toNat % 4)).full ∧ t.reg Reg.QRY_TF_L_DEADLINE = (s.former (v.toNat % 4)).byDeadline ∧
      t.reg Reg.QRY_TF_L_IDLE = (s.former (v.toNat % 4)).idle ∧ t.reg Reg.QRY_TF_L_EVICT = (s.former (v.toNat % 4)).evict ∧
      t.pair Reg.QRY_TF_MEMBERS_LO = (s.former (v.toNat % 4)).members.toNat) ∧
  (∀ (v : W32) (s : State), s.isRunning = true →
    Does (.qryTntSel v) s [] [Reg.QRY_TNT_SEL, Reg.QRY_TNT_CFG, Reg.QRY_TNT_DEADLINE, Reg.QRY_TNT_USE, Reg.QRY_TNT_LIMIT] fun t =>
      t.reg Reg.QRY_TNT_SEL = v &&& 0xFFF ∧
      (s.tenantConfigured (v.toNat % 4096) = true → t.reg Reg.QRY_TNT_DEADLINE = w32 (s.tntDeadline (v.toNat % 4096)) ∧
        t.reg Reg.QRY_TNT_CFG = w32 (2 ^ 31 + b1 (s.tntExact (v.toNat % 4096)) * 2 ^ 30 + s.tntExactClass (v.toNat % 4096) * 2 ^ 27 +
          s.tntClass (v.toNat % 4096) * 2 ^ 24 + s.tntNprobeMax (v.toNat % 4096)) ∧
        t.reg Reg.QRY_TNT_LIMIT = w32 (s.quotaLimit (.tenant (v.toNat % 4096)) 4 * 65536 + s.quotaLimit (.tenant (v.toNat % 4096)) 3) ∧
        t.reg Reg.QRY_TNT_USE = w32 (s.numberUse (v.toNat % 4096) * 65536 + s.handUse (v.toNat % 4096))) ∧
      (s.tenantConfigured (v.toNat % 4096) = false → t.reg Reg.QRY_TNT_CFG = 0 ∧ t.reg Reg.QRY_TNT_DEADLINE = 0 ∧ t.reg Reg.QRY_TNT_USE = 0 ∧
        t.reg Reg.QRY_TNT_LIMIT = 0)) ∧
  (∀ (seat : Nat) (m : Msg) (b : Bytes) (q : DealQuery) (a o : Asked) (s : State), s.calm = true → s.isRunning = true → answerRecords 257 m.body = [b] →
    s.ton.queries.get (fieldAt b 32 8) = some q → (q.asked.find? fun a => a.seat == seat && a.answer.isNone && !a.dropped) = some a →
    ansStatus b ≤ 1 → o ∈ q.asked → o ≠ a → o.answer = none → o.dropped = false →
    Does (.answer seat m) s [.link, .ton] [] fun t => t.ton.queries.get (fieldAt b 32 8) =
      some { q with asked := q.asked.map fun y => if y = a then { y with answer := some b } else y }) ∧
  (∀ (seat : Nat) (m : Msg) (b : Bytes) (s : State), s.calm = true → s.isRunning = true → answerRecords 257 m.body = [b] →
    s.ton.queries.get (fieldAt b 32 8) = none →
    Does (.answer seat m) s [.link, .ton] [Reg.QRY_MRG_LATE] fun t =>
      (t.reg Reg.QRY_MRG_LATE).toNat = min 0xFFFFFFFF ((s.reg Reg.QRY_MRG_LATE).toNat + 1)) ∧
  (∀ (tag : Nat) (q : DealQuery) (s : State), s.calm = true → s.isRunning = true → s.ton.queries.get tag = some q →
    s.past (max (q.deadline - (s.reg Reg.QRY_MRG_MARGIN).toNat) (q.accept + 1)) = true →
    Does (.mergeCloseDeadline tag) s [.host, .slots, .link, .ton, .post, .out, .reg .mbx, .reg .link] [Reg.QRY_MRG_DONE, Reg.QRY_MRG_DUP, Reg.QRY_MRG_MISSING,
        Reg.QRY_SEL_NAN] fun t => t.ton.queries.get tag = none ∧
      (t.reg Reg.QRY_MRG_DONE).toNat = min 0xFFFFFFFF ((s.reg Reg.QRY_MRG_DONE).toNat + 1))

/-- From R281, R283 to R285. A posted command enters its unit's queue, or stalls its sequencer while the queue is full; the command started first
completes with its signal and its record; a taken record makes room; a wait that outlasts CD_WAIT_LIMIT ends with TIMEOUT; a sequencer reads and
writes the counters of its owner. Where the spec leaves a point open, a clause holds the model's own reading: log 20. -/
def Obligations.CommandsArePostedAndComplete : Prop :=
  (∀ (die sq unit : Nat) (c : UnitClass) (b : Bytes) (s : State), s.calm = true → s.isRunning = true → die < 8 → sq < 8 → unit < clsPerDie c →
    (s.seqCore (8 * die + sq)).state = 2 → s.seqStalled (8 * die + sq) = false → (s.engine c (clsPerDie c * die + unit)).stalled = [] →
    Does (.commandPost die sq c unit ⟨b, false⟩) s [.eng] [statusReg c (clsPerDie c * die + unit), Reg.CD_SQ_POSTED + 0x80000 * die + 0x40 * sq] fun t =>
      t.eng.seqs = s.eng.seqs ∧ (∀ k, k ≠ engKey c (clsPerDie c * die + unit) → t.eng.units.get k = s.eng.units.get k) ∧
      ((s.engine c (clsPerDie c * die + unit)).queue.length < clsDepth c → (t.engine c (clsPerDie c * die + unit)).stalled = [] ∧
        (t.engine c (clsPerDie c * die + unit)).queue = (s.engine c (clsPerDie c * die + unit)).queue ++
          [⟨sliceAt b 0 64, 8 * die + sq, (s.seqCore (8 * die + sq)).owner⟩] ∧
        (t.reg (Reg.CD_SQ_POSTED + 0x80000 * die + 0x40 * sq)).toNat = min 0xFFFFFFFF ((s.reg (Reg.CD_SQ_POSTED + 0x80000 * die + 0x40 * sq)).toNat + 1)) ∧
      (clsDepth c ≤ (s.engine c (clsPerDie c * die + unit)).queue.length →
        (t.engine c (clsPerDie c * die + unit)).queue = (s.engine c (clsPerDie c * die + unit)).queue ∧
        (t.engine c (clsPerDie c * die + unit)).stalled = [⟨sliceAt b 0 64, 8 * die + sq, (s.seqCore (8 * die + sq)).owner⟩])) ∧
  (∀ (c : UnitClass) (n place : Nat) (r : EngRun) (s : State), s.calm = true → s.isRunning = true → engOk c n = true → (s.engine c n).held = [] →
    (s.engine c n).running[place]? = some r → (c = .ge → s.emb.runs.get n = none) → (s.seqCore r.cmd.sq).cq.length < 64 → r.cmd.sq < 64 →
    Does (.unitCommandComplete c ⟨n, place, 0⟩) s [.kitty, .bus, .eng] (doneRegs c n r.cmd) fun t => SelfTraffic s t ∧
      CmdCompleted c n r.cmd r.status (!r.refused) s t ∧ (t.engine c n).running = (s.engine c n).running.eraseIdx place ∧
      (t.engine c n).queue = (s.engine c n).queue) ∧
  (∀ (c : UnitClass) (n : Nat) (x : EngCmd) (rest : List EngCmd) (s : State), s.calm = true → (s.engine c n).queue = x :: rest →
    (s.engine c n).running = [] → (s.engine c n).stalled = [] → s.engAble c n = true → cmdOp x.bytes ∉ opsOf c →
    (s.engine c n).free c x.bytes = true → s.cmdWaitMet (engDie c n) x = true → (s.seqCore x.sq).cq.length < 64 → x.sq < 64 →
    Does (.unitCommandComplete c ⟨n, 0, 0⟩) s [.kitty, .bus, .eng]
      (engReg c n Reg.CD_ME_CMD_ERR Reg.CD_VU_CMD_ERR Reg.CD_SK_CMD_ERR Reg.STACK_GE_CMD_ERR :: doneRegs c n x) fun t => SelfTraffic s t ∧
      CmdCompleted c n x (if s.engDenied c n x then St.denied else St.range) false s t ∧ (t.engine c n).running = [] ∧ (t.engine c n).queue = rest) ∧
  (∀ (die sq : Nat) (r : Bytes) (rest : List Bytes) (s : State), s.isRunning = true → die < 8 → sq < 8 → (s.seqCore (8 * die + sq)).cq = r :: rest →
    (∀ c n, ∀ h ∈ (s.engine c n).held, h.sq ≠ 8 * die + sq) →
    Does (.completionQueueSpace die sq) s [.eng] [seqStateReg (8 * die + sq)] fun t =>
      t.eng.seqs = s.eng.seqs.put (8 * die + sq) { (s.seqCore (8 * die + sq)) with cq := rest } ∧ t.eng.units = s.eng.units) ∧
  (∀ (c : UnitClass) (n sq : Nat) (h : HeldRecord) (hs : List HeldRecord) (r : Bytes) (rest : List Bytes) (s : State), s.isRunning = true →
    engOk c n = true → sq < 8 → (s.engine c n).held = h :: hs → h.sq = 8 * engDie c n + sq → (s.seqCore h.sq).cq = r :: rest → rest.length < 64 →
    (∀ c' n', engKey c' n' ≠ engKey c n → (s.engine c' n').held = []) →
    Does (.completionQueueSpace (engDie c n) sq) s [.eng] [seqStateReg h.sq, statusReg c n] fun t =>
      (t.seqCore h.sq).cq = rest ++ [h.record] ∧ (t.engine c n).held = hs ∧ (t.engine c n).queue = (s.engine c n).queue) ∧
  (∀ (c : UnitClass) (n since : Nat) (x : EngCmd) (rest : List EngCmd) (s : State), (s.engine c n).queue = x :: rest → (s.engine c n).ready = some since →
    (s.engine c n).stalled = [] → s.engAble c n = true → s.cmdWaitMet (engDie c n) x = false →
    s.past (since + (s.reg (Reg.CD_WAIT_LIMIT + 0x80000 * engDie c n)).toNat) = true → (s.seqCore x.sq).cq.length < 64 → x.sq < 64 →
    Does (.cdWaitTimeout c n) s [.kitty, .bus, .eng]
      (engReg c n Reg.CD_ME_WAIT_TO Reg.CD_VU_WAIT_TO Reg.CD_SK_WAIT_TO Reg.STACK_GE_WAIT_TO :: doneRegs c n x) fun t => SelfTraffic s t ∧
      CmdCompleted c n x St.timeout true s t ∧ (t.engine c n).queue = rest ∧ (t.engine c n).running = (s.engine c n).running ∧
      (t.reg (engReg c n Reg.CD_ME_WAIT_TO Reg.CD_VU_WAIT_TO Reg.CD_SK_WAIT_TO Reg.STACK_GE_WAIT_TO)).toNat = min 0xFFFFFFFF
        ((s.reg (engReg c n Reg.CD_ME_WAIT_TO Reg.CD_VU_WAIT_TO Reg.CD_SK_WAIT_TO Reg.STACK_GE_WAIT_TO)).toNat + 1)) ∧
  (∀ (die sq ctr : Nat) (v : W32) (s : State), s.isRunning = true → die < 8 → sq < 8 → ctr < 64 → (s.seqCore (8 * die + sq)).state = 2 →
    Does (.syncCounterAccess die sq ctr (some v)) s [] [syncOff die ctr] fun t => t.reg (syncOff die ctr) =
      if (s.seqCore (8 * die + ctr / 8)).owner = (s.seqCore (8 * die + sq)).owner then v else s.reg (syncOff die ctr)) ∧
  (∀ (die sq ctr : Nat) (s : State), s.isRunning = true → die < 8 → sq < 8 → ctr < 64 → (s.seqCore (8 * die + sq)).state = 2 →
    Does (.syncCounterAccess die sq ctr none) s [.out] [] fun t => t.out = .syncRead (8 * die + sq)
      (if (s.seqCore (8 * die + ctr / 8)).owner = (s.seqCore (8 * die + sq)).owner then s.reg (syncOff die ctr) else 0) :: s.out)

/-- From R269, R270, R277, R278, R286. LOAD_WEIGHTS fills the shadow tile, STREAM makes a pass of an activation tile into a bank, DRAIN writes the
words of a bank row by row in the format asked for, SKEW writes an activation or a weight tile; each is then under way. Where the spec leaves a point
open, a clause holds the model's own reading: log 21. -/
def Obligations.MatrixCommandsLoadStreamDrainAndSkew : Prop :=
  (∀ (me size : Nat) (zw : Int) (x : EngCmd) (s : State), s.starts .me me 0x10 x = true → operandFmt (byteAt x.bytes 40) = true → byteAt x.bytes 41 ≤ 2 →
    zw = signedOf (byteAt x.bytes 42) 8 → (isIntFmt (byteAt x.bytes 40) = true → bitOf (byteAt x.bytes 43) 0 = true ∨ zw = 0) →
    (byteAt x.bytes 40 = 1 → -8 ≤ zw ∧ zw ≤ 7) → size = weightBytes (byteAt x.bytes 40) (byteAt x.bytes 41) (bitOf (byteAt x.bytes 43) 0) →
    s.engChecks .me me x false false [(cmdHandle x.bytes 0, cmdOffset x.bytes 0, size, false)] = St.ok →
    Does (.loadWeights me) s [.bus, .eng] (meRegs me) fun t => CmdStarted .me me x .shadow s t ∧ (t.engine .me me).active = (s.engine .me me).active ∧
      (t.engine .me me).banks = (s.engine .me me).banks ∧
      (t.engine .me me).shadow = some ⟨byteAt x.bytes 41, byteAt x.bytes 40, zw, bitOf (byteAt x.bytes 43) 0, s.opRead x.bytes 0 size⟩) ∧
  (∀ (me m size fmt bank : Nat) (za : Int) (swap clear sums : Bool) (x : EngCmd) (w : WTile) (s : State), s.calm = true → s.starts .me me 0x11 x = true →
    fmt = byteAt x.bytes 40 → za = signedOf (byteAt x.bytes 41) 8 → m = fieldAt x.bytes 42 2 → bank = byteAt x.bytes 44 →
    swap = bitOf (byteAt x.bytes 45) 0 → clear = bitOf (byteAt x.bytes 45) 1 → sums = bitOf (byteAt x.bytes 45) 2 →
    (if swap then (s.engine .me me).shadow else (s.engine .me me).active) = some w → operandFmt fmt = true → pairOk w.fmt fmt = true →
    (isIntFmt fmt = true → sums = true ∨ za = 0) → (fmt = 1 → -8 ≤ za ∧ za ≤ 7) → bank ≤ 1 →
    (clear = false → ((s.engine .me me).banks.getD bank ⟨none, []⟩).recorded = some (w.mode, isIntFmt w.fmt)) → 0 < m → m ≤ modeRows w.mode →
    size = actBytes fmt (modeDepth w.mode) m sums →
    s.engChecks .me me x false false [(cmdHandle x.bytes 0, cmdOffset x.bytes 0, size, false)] = St.ok →
    Does (.stream me 0) s [.bus, .eng] (meRegs me) fun t => CmdStarted .me me x (.array bank) s t ∧ (t.engine .me me).active = some w ∧
      (t.engine .me me).shadow = (if swap then none else (s.engine .me me).shadow) ∧ (t.engine .me me).banks = (s.engine .me me).banks.set bank
        (passBank w fmt m za sums clear (s.opRead x.bytes 0 size) ((s.engine .me me).banks.getD bank ⟨none, []⟩)).1 ∧
      t.pair (engReg .me me Reg.CD_ME_BUSY_LO 0 0 0) =
        min (2 ^ 64 - 1) (s.pair (engReg .me me Reg.CD_ME_BUSY_LO 0 0 0) + passCycles w.fmt fmt m)) ∧
  (∀ (me m mode : Nat) (x : EngCmd) (words : Tbl W32) (s : State), s.starts .me me 0x12 x = true → byteAt x.bytes 40 = 12 →
    byteAt x.bytes 45 = 0 → byteAt x.bytes 44 ≤ 1 → (s.engine .me me).banks.getD (byteAt x.bytes 44) ⟨none, []⟩ = ⟨some (mode, true), words⟩ →
    m = fieldAt x.bytes 42 2 → 0 < m → m ≤ modeRows mode →
    s.engChecks .me me x false false [(cmdHandle x.bytes 0, cmdOffset x.bytes 0, arrayBytes 12 m (modeWidth mode), true)] = St.ok →
    Does (.drain me) s [.bus, .kmem, .eng] (meRegs me) fun t => CmdStarted .me me x (.drain (byteAt x.bytes 44)) s t ∧
      (t.engine .me me).banks = (s.engine .me me).banks ∧
      t.kmem = (s.opWrite x.bytes 0 ((List.range (m * modeWidth mode)).flatMap fun i => leBytes 4 (words.getD i 0).toNat)).kmem) ∧
  (∀ (me m mode wd rnd fmt : Nat) (zy : Int) (table : Bytes) (draws : List Nat) (x : EngCmd) (words : Tbl W32) (s : State), s.starts .me me 0x12 x = true →
    fmt = byteAt x.bytes 40 → fmt ≤ 1 → zy = signedOf (byteAt x.bytes 41) 8 → rnd = byteAt x.bytes 45 % 4 → rnd ≤ 2 → bitOf (byteAt x.bytes 45) 2 = true →
    byteAt x.bytes 44 ≤ 1 → (s.engine .me me).banks.getD (byteAt x.bytes 44) ⟨none, []⟩ = ⟨some (mode, true), words⟩ →
    m = fieldAt x.bytes 42 2 → 0 < m → m ≤ modeRows mode → wd = modeWidth mode → table = s.opRead x.bytes 1 (8 * wd) →
    (∀ j, j < wd → byteAt table (8 * j + 4) ≤ 63) →
    draws = (if rnd = 2 then (rngDraws (m * wd) (s.engine .me me).rng).1 else []) →
    s.engChecks .me me x false false [(cmdHandle x.bytes 0, cmdOffset x.bytes 0, arrayBytes fmt m wd, true),
      (cmdHandle x.bytes 1, cmdOffset x.bytes 1, 8 * wd, false)] = St.ok →
    Does (.drain me) s [.bus, .kmem, .eng] (meRegs me) fun t => CmdStarted .me me x (.drain (byteAt x.bytes 44)) s t ∧
      (t.engine .me me).banks = (s.engine .me me).banks ∧
      t.kmem = (s.opWrite x.bytes 0 (packElems fmt (((List.range (m * wd)).zip (draws ++ List.replicate (m * wd) 0)).map fun p =>
        (BitVec.ofInt 8 (rescale (words.getD p.1 0).toInt (fieldAt table (8 * (p.1 % wd)) 4) (byteAt table (8 * (p.1 % wd) + 4)) zy rnd fmt p.2).1).toNat))).kmem) ∧
  (∀ (me m mode rnd fmt : Nat) (draws : List Nat) (x : EngCmd) (words : Tbl W32) (s : State), s.starts .me me 0x12 x = true →
    fmt = byteAt x.bytes 40 → 2 ≤ fmt → fmt ≤ 11 → rnd = byteAt x.bytes 45 % 4 → rnd ≤ 2 → bitOf (byteAt x.bytes 45) 2 = false →
    byteAt x.bytes 44 ≤ 1 → (s.engine .me me).banks.getD (byteAt x.bytes 44) ⟨none, []⟩ = ⟨some (mode, false), words⟩ →
    m = fieldAt x.bytes 42 2 → 0 < m → m ≤ modeRows mode →
    draws = (if rnd = 2 then (rngDraws (m * modeWidth mode) (s.engine .me me).rng).1 else []) →
    s.engChecks .me me x false false [(cmdHandle x.bytes 0, cmdOffset x.bytes 0, arrayBytes fmt m (modeWidth mode), true)] = St.ok →
    Does (.drain me) s [.bus, .kmem, .eng] (meRegs me) fun t => CmdStarted .me me x (.drain (byteAt x.bytes 44)) s t ∧
      (t.engine .me me).banks = (s.engine .me me).banks ∧
      t.kmem = (s.opWrite x.bytes 0 (encodeArray fmt rnd m (modeWidth mode)
        ((List.range (m * modeWidth mode)).map fun i => f32Val (words.getD i 0)) draws).1).kmem) ∧
  (∀ (sk d rows cols stride fmt pad : Nat) (z : Int) (x : EngCmd) (s : State), s.starts .sk sk 0x30 x = true → byteAt x.bytes 40 = 0 →
    byteAt x.bytes 41 ≤ 2 → d = modeDepth (byteAt x.bytes 41) → fmt = byteAt x.bytes 42 → operandFmt fmt = true → isMx fmt = false →
    bitOf (byteAt x.bytes 43) 0 = false → rows = fieldAt x.bytes 44 2 → 0 < rows → cols = fieldAt x.bytes 46 2 → 0 < cols → cols ≤ d →
    stride = fieldAt x.bytes 48 4 → z = signedOf (byteAt x.bytes 52) 8 → (fmt = 1 → -8 ≤ z ∧ z ≤ 7) →
    pad = (if isIntFmt fmt then (BitVec.ofInt 8 z).toNat % 2 ^ elemBits fmt else 0) →
    s.engChecks .sk sk x false false [(cmdHandle x.bytes 0, cmdOffset x.bytes 0, (rows - 1) * stride + arrBytes fmt cols, false),
      (cmdHandle x.bytes 1, cmdOffset x.bytes 1, actBytes fmt d rows false, true)] = St.ok →
    Does (.skew sk) s [.bus, .kmem, .eng] (skRegs sk) fun t => CmdStarted .sk sk x .whole s t ∧
      t.kmem = (s.opWrite x.bytes 1 (buildAct fmt d rows pad fun i k =>
        if i < rows ∧ k < cols then srcCode fmt stride (s.opRead x.bytes 0 ((rows - 1) * stride + arrBytes fmt cols)) i k else pad)).kmem) ∧
  (∀ (sk rows cols stride fmt pad : Nat) (tr : Bool) (z : Int) (src : Bytes) (x : EngCmd) (s : State), s.starts .sk sk 0x30 x = true →
    byteAt x.bytes 40 = 1 → byteAt x.bytes 41 ≤ 2 → fmt = byteAt x.bytes 42 → operandFmt fmt = true → isMx fmt = false →
    bitOf (byteAt x.bytes 43) 0 = false → tr = bitOf (byteAt x.bytes 43) 1 → rows = fieldAt x.bytes 44 2 → 0 < rows → rows ≤ modeDepth (byteAt x.bytes 41) →
    cols = fieldAt x.bytes 46 2 → 0 < cols → cols ≤ modeWidth (byteAt x.bytes 41) → stride = fieldAt x.bytes 48 4 →
    z = signedOf (byteAt x.bytes 52) 8 → (fmt = 1 → -8 ≤ z ∧ z ≤ 7) →
    pad = (if isIntFmt fmt then (BitVec.ofInt 8 z).toNat % 2 ^ elemBits fmt else 0) →
    src = s.opRead x.bytes 0 ((rows - 1) * stride + arrBytes fmt cols) →
    s.engChecks .sk sk x false false [(cmdHandle x.bytes 0, cmdOffset x.bytes 0, (rows - 1) * stride + arrBytes fmt cols, false),
      (cmdHandle x.bytes 1, cmdOffset x.bytes 1, weightBytes fmt (byteAt x.bytes 41) false, true)] = St.ok →
    Does (.skew sk) s [.bus, .kmem, .eng] (skRegs sk) fun t => CmdStarted .sk sk x .whole s t ∧
      t.kmem = (s.opWrite x.bytes 1 (buildWeight fmt (byteAt x.bytes 41) fun k j =>
        if k < (if tr then cols else rows) ∧ j < (if tr then rows else cols) then (if tr then srcCode fmt stride src j k else srcCode fmt stride src k j)
        else pad)).kmem)

/-- From R288, R309, R310, R313, R318. A vector command writes at its third operand, in its output format, what the operation computes of its widened
operands, and is then under way; OPT_STEP writes new weights and optimiser blocks. Where the spec leaves a point open, a clause holds the model's own
reading: log 6 and 22. -/
def Obligations.VectorCommandsComputeTheirResults : Prop :=
  (∀ (vu : Nat) (x : EngCmd) (s : State), s.vuTwoOk vu 0x20 x = true → Does (.add vu) s [.bus, .kmem, .eng] (vuRegs vu)
    (VuWrote vu x (((s.vuOperand x.bytes 0 (vuCmd x.bytes).inF).zip (s.vuOperand x.bytes 1 (vuCmd x.bytes).inF)).map fun p => fadd p.1 p.2) s)) ∧
  (∀ (vu : Nat) (x : EngCmd) (s : State), s.vuTwoOk vu 0x21 x = true → Does (.mul vu) s [.bus, .kmem, .eng] (vuRegs vu)
    (VuWrote vu x (((s.vuOperand x.bytes 0 (vuCmd x.bytes).inF).zip (s.vuOperand x.bytes 1 (vuCmd x.bytes).inF)).map fun p => fmul p.1 p.2) s)) ∧
  (∀ (vu : Nat) (x : EngCmd) (s : State), s.vuTwoOk vu 0x22 x = true → Does (.mac vu) s [.bus, .kmem, .eng] (vuRegs vu)
    (VuWrote vu x (((s.vuOperand x.bytes 0 (vuCmd x.bytes).inF).zip ((s.vuOperand x.bytes 1 (vuCmd x.bytes).inF).zip
      (s.vuOperand x.bytes 2 (vuCmd x.bytes).outF))).map fun p => ffma p.1 p.2.1 p.2.2) s)) ∧
  (∀ (vu : Nat) (x : EngCmd) (s : State), s.vuTwoOk vu 0x23 x = true → Does (.max vu) s [.bus, .kmem, .eng] (vuRegs vu)
    (VuWrote vu x (((s.vuOperand x.bytes 0 (vuCmd x.bytes).inF).zip (s.vuOperand x.bytes 1 (vuCmd x.bytes).inF)).map fun p => fmax p.1 p.2) s)) ∧
  (∀ (vu : Nat) (x : EngCmd) (s : State), s.vuOneOk vu 0x24 x (vuSize x.bytes (vuCmd x.bytes).outF) = true → (vuCmd x.bytes).fn ≤ 5 →
    Does (.act vu) s [.bus, .kmem, .eng] (vuRegs vu) (VuWrote vu x ((s.vuOperand x.bytes 0 (vuCmd x.bytes).inF).map
      ([frelu, fgelu, fsilu, fexp, frecip, frsqrt].getD (vuCmd x.bytes).fn id)) s)) ∧
  (∀ (vu : Nat) (x : EngCmd) (s : State), s.vuOneOk vu 0x25 x (vuSize x.bytes (vuCmd x.bytes).outF) = true → vuRows x.bytes = true →
    Does (.softmaxRow vu) s [.bus, .kmem, .eng] (vuRegs vu) (VuWrote vu x ((chunks (vuCmd x.bytes).row ((vuCmd x.bytes).count / (vuCmd x.bytes).row)
      (s.vuOperand x.bytes 0 (vuCmd x.bytes).inF)).flatMap softmaxOf) s)) ∧
  (∀ (vu : Nat) (x : EngCmd) (s : State), s.vuOneOk vu 0x26 x (vuSize x.bytes (vuCmd x.bytes).outF) = true → vuRows x.bytes = true →
    (vuCmd x.bytes).fn = 2 → Does (.normRow vu) s [.bus, .kmem, .eng] (vuRegs vu) (VuWrote vu x
      ((chunks (vuCmd x.bytes).row ((vuCmd x.bytes).count / (vuCmd x.bytes).row) (s.vuOperand x.bytes 0 (vuCmd x.bytes).inF)).flatMap fun r =>
        if feq (r.foldl (fun a v => fadd a (fmul v v)) 0) 0 then r.map fun _ => 0
        else r.map fun v => fmul v (frsqrt (r.foldl (fun a v => fadd a (fmul v v)) 0))) s)) ∧
  (∀ (vu : Nat) (x : EngCmd) (s : State), s.vuOneOk vu 0x26 x (vuSize x.bytes (vuCmd x.bytes).outF) = true → vuRows x.bytes = true →
    (vuCmd x.bytes).fn ≤ 1 → cmdHandle x.bytes 1 = 0 → Does (.normRow vu) s [.bus, .kmem, .eng] (vuRegs vu) (VuWrote vu x
      ((chunks (vuCmd x.bytes).row ((vuCmd x.bytes).count / (vuCmd x.bytes).row) (s.vuOperand x.bytes 0 (vuCmd x.bytes).inF)).flatMap
        (normOf (vuCmd x.bytes).fn (vuCmd x.bytes).param (List.replicate (vuCmd x.bytes).row 0x3F800000) (List.replicate (vuCmd x.bytes).row 0))) s)) ∧
  (∀ (vu : Nat) (x : EngCmd) (s : State), s.vuWithOk vu 0x26 x (8 * (vuCmd x.bytes).row) = true → vuRows x.bytes = true →
    (vuCmd x.bytes).fn ≤ 1 → cmdHandle x.bytes 1 ≠ 0 → Does (.normRow vu) s [.bus, .kmem, .eng] (vuRegs vu) (VuWrote vu x
      ((chunks (vuCmd x.bytes).row ((vuCmd x.bytes).count / (vuCmd x.bytes).row) (s.vuOperand x.bytes 0 (vuCmd x.bytes).inF)).flatMap
        (normOf (vuCmd x.bytes).fn (vuCmd x.bytes).param ((s.vuFloats x.bytes (2 * (vuCmd x.bytes).row)).take (vuCmd x.bytes).row)
          ((s.vuFloats x.bytes (2 * (vuCmd x.bytes).row)).drop (vuCmd x.bytes).row))) s)) ∧
  (∀ (vu : Nat) (x : EngCmd) (s : State), s.vuOneOk vu 0x27 x (arrayBytes (vuCmd x.bytes).outF 1 (vuCmd x.bytes).shape.1) = true →
    vuRows x.bytes = true → (vuCmd x.bytes).fn ≤ 1 → Does (.reduceRow vu) s [.bus, .kmem, .eng] (vuRegs vu) (VuWrote vu x
      ((chunks (vuCmd x.bytes).row ((vuCmd x.bytes).count / (vuCmd x.bytes).row) (s.vuOperand x.bytes 0 (vuCmd x.bytes).inF)).map fun r =>
        if (vuCmd x.bytes).fn = 0 then fsum r else r.foldl fmax 0xFF800000) s)) ∧
  (∀ (vu : Nat) (x : EngCmd) (s : State), s.vuOneOk vu 0x28 x (vuSize x.bytes (vuCmd x.bytes).outF) = true → vuRows x.bytes = true →
    (vuCmd x.bytes).fn = 1 → Does (.distFinish vu) s [.bus, .kmem, .eng] (vuRegs vu)
      (VuWrote vu x ((s.vuOperand x.bytes 0 (vuCmd x.bytes).inF).map fneg) s)) ∧
  (∀ (vu : Nat) (x : EngCmd) (s : State), s.vuOneOk vu 0x28 x (vuSize x.bytes (vuCmd x.bytes).outF) = true → vuRows x.bytes = true →
    (vuCmd x.bytes).fn = 3 → (vuCmd x.bytes).inF = 12 → Does (.distFinish vu) s [.bus, .kmem, .eng] (vuRegs vu)
      (VuWrote vu x (s.vuOperand x.bytes 0 12) s)) ∧
  (∀ (vu rows : Nat) (v : List W32) (x : EngCmd) (s : State), rows = (vuCmd x.bytes).count / (vuCmd x.bytes).row →
    v = s.vuFloats x.bytes (rows + (vuCmd x.bytes).row) → s.vuWithOk vu 0x28 x (4 * (rows + (vuCmd x.bytes).row)) = true → vuRows x.bytes = true →
    (vuCmd x.bytes).fn = 0 → Does (.distFinish vu) s [.bus, .kmem, .eng] (vuRegs vu)
      (VuWrote vu x (((s.vuOperand x.bytes 0 (vuCmd x.bytes).inF).zipIdx).map fun p => fmax 0 (ffma 0xC0000000 p.1
        (fadd (v.getD (p.2 / (vuCmd x.bytes).row) 0) (v.getD (rows + p.2 % (vuCmd x.bytes).row) 0)))) s)) ∧
  (∀ (vu : Nat) (x : EngCmd) (s : State), s.vuOneOk vu 0x2A x (vuSize x.bytes (vuCmd x.bytes).outF) = true →
    Does (.convert vu) s [.bus, .kmem, .eng] (vuRegs vu) (VuWrote vu x (s.vuOperand x.bytes 0 (vuCmd x.bytes).inF) s)) ∧
  (∀ (vu n : Nat) (x : EngCmd) (res : List OptBlock × W64) (blk : Bytes) (s : State), s.starts .vu vu 0x29 x = true → n = (vuCmd x.bytes).count → n ≠ 0 →
    n % 32 = 0 → (vuCmd x.bytes).row = n → (vuCmd x.bytes).fn ≤ 1 → (vuCmd x.bytes).inF = 6 ∨ (vuCmd x.bytes).inF = 7 → (vuCmd x.bytes).outF = 4 →
    s.engChecks .vu vu x false false [(cmdHandle x.bytes 0, cmdOffset x.bytes 0, mxBytes (vuCmd x.bytes).inF 1 n, false),
      (cmdHandle x.bytes 1, cmdOffset x.bytes 1, 64 + 64 * ((mxBytes 11 1 n + 63) / 64) + mxBytes 11 1 n, true),
      (cmdHandle x.bytes 2, cmdOffset x.bytes 2, 2 * n, true)] = St.ok → (optHead (s.opRead x.bytes 1 64)).ok (vuCmd x.bytes).fn = true →
    blk = s.opRead x.bytes 1 (64 + 64 * ((mxBytes 11 1 n + 63) / 64) + mxBytes 11 1 n) →
    res = optBlocks (vuCmd x.bytes).fn (vuCmd x.bytes).inF (optHead (s.opRead x.bytes 1 64)) (s.opRead x.bytes 0 (mxBytes (vuCmd x.bytes).inF 1 n))
      (s.opRead x.bytes 2 (2 * n)) (sliceAt blk 64 (mxBytes 11 1 n)) (sliceAt blk (64 + 64 * ((mxBytes 11 1 n + 63) / 64)) (mxBytes 11 1 n)) n (n / 32) 0
      (s.engine .vu vu).rng →
    Does (.optStep vu) s [.bus, .kmem, .eng] (vuRegs vu) fun t => CmdStarted .vu vu x .whole s t ∧ (t.engine .vu vu).rng = res.2 ∧
      t.kmem = ((s.opWrite x.bytes 2 (res.1.flatMap fun k => k.w.flatMap (leBytes 2))).opWrite x.bytes 1
        (patch (patch blk 64 (mxRow n (res.1.map OptBlock.m))) (64 + 64 * ((mxBytes 11 1 n + 63) / 64)) (mxRow n (res.1.map OptBlock.r)))).kmem)

/-- From R290 to R292. A sequencer that is assigned runs its program for its owner with its group's counters at 0; one that halts leaves no command of
its own in a queue; a unit that is cleared belongs to its new owner, its tiles and banks empty. Where the spec leaves a point open, a clause holds the
model's own reading: log 20. -/
def Obligations.SequencersAndUnitsChangeHands : Prop :=
  (∀ (die sq : Nat) (o : Owner) (program : Bytes) (s : State), s.isRunning = true → die < 8 → sq < 8 → (∀ n, o ≠ .tenant n) →
    s.isRetired 10 (8 * die + sq) = false →
    Does (.sequencerAssign die sq o program) s [.eng] ((Reg.CD_SQ_STATE + 0x80000 * ((8 * die + sq) / 8) + 0x40 * ((8 * die + sq) % 8)) ::
        (Reg.CD_SQ_OWNER + 0x80000 * die + 0x40 * sq) :: (List.range 8).map fun i => syncOff die (8 * sq + i)) fun t =>
      t.eng.seqs = s.eng.seqs.put (8 * die + sq) { (s.seqCore (8 * die + sq)) with state := 2, owner := o, program := program, cpu := rvReset } ∧ t.eng.units = s.eng.units ∧
      (∀ i, i < 8 → t.reg (syncOff die (8 * sq + i)) = 0) ∧ t.reg (Reg.CD_SQ_OWNER + 0x80000 * die + 0x40 * sq) = w32 (ownerKey o)) ∧
  (∀ (die sq : Nat) (s : State), s.calm = true → s.isRunning = true → die < 8 → sq < 8 → (s.seqCore (8 * die + sq)).state = 2 →
    Does (.sequencerHalt die sq false) s [.eng, .out, .reg .cd, .reg .stack] [] fun t => t.out = .firmwareNotice 4 (8 * die + sq) :: s.out ∧
      t.seqCore (8 * die + sq) = { (s.seqCore (8 * die + sq)) with state := 4 } ∧ ∀ c u, u < clsPerDie c →
        ∀ x ∈ (t.engine c (clsPerDie c * die + u)).queue, x.sq ≠ 8 * die + sq) ∧
  (∀ (c : UnitClass) (n : Nat) (o : Owner) (s : State), (s.engine c n).clearing = some o → (s.engine c n).stalled = [] →
    Does (.unitClearDone c n) s [.eng, .free] [engReg c n Reg.CD_ME_STATUS Reg.CD_VU_STATUS Reg.CD_SK_STATUS Reg.STACK_GE_STATUS,
        engReg c n Reg.CD_ME_OWNER Reg.CD_VU_OWNER 0 Reg.STACK_GE_OWNER] fun t => (t.engine c n).owner = o ∧ (t.engine c n).clearing = none ∧
      (t.engine c n).shadow = none ∧ (t.engine c n).active = none ∧ (t.engine c n).banks = [⟨none, []⟩, ⟨none, []⟩] ∧
      (t.engine c n).queue = (s.engine c n).queue ∧ ∀ k, k ≠ engKey c n → t.eng.units.get k = s.eng.units.get k)

/-- From R324, R334, R342. CREATE registers a descriptor that passes its checks under the lowest free number, FREE removes one that nothing names,
TREE_CREATE allocates a tree's region, TREE_FREE waits for nodes in use and then gives the region back. Where the spec leaves a point open, a clause
holds the model's own reading: log 25. -/
def Obligations.PlacementAndTreeCommands : Prop :=
  (∀ (slot n : Nat) (a0 a1 : W32) (d : PlaceDesc) (b s : State), s.calm = true → s.slotIdle .pcmd slot = true →
    b = s.begun .pcmd slot 1 [(0, a0), (1, a1)] none → b.pdCheck (fld a0 31 16) (64 * a1.toNat) = (St.ok, d) → s.pds.lowestFree 1 65535 = some n →
    Does (.create slot a0 a1) s [.slots, .kitty, .pds] (Reg.STACK_PD_LIVE :: slotRegs .pcmd slot) fun t => SelfTraffic s t ∧
      t.pds = s.pds.put n d ∧ SlotDone .pcmd slot 1 (65536 * n) t ∧ t.reg Reg.STACK_PD_LIVE = w32 t.pds.length) ∧
  (∀ (slot : Nat) (a0 : W32) (b s : State), s.calm = true → s.slotIdle .pcmd slot = true → b = s.begun .pcmd slot 2 [(0, a0)] none →
    s.pds.has (a0.toNat % 65536) = true → b.pdNamed (a0.toNat % 65536) = false → idxNames (a0.toNat % 65536) b = false →
    Does (.pdFree slot a0) s [.slots, .pds] (Reg.STACK_PD_LIVE :: slotRegs .pcmd slot) fun t =>
      t.pds = s.pds.del (a0.toNat % 65536) ∧ SlotDone .pcmd slot 2 St.ok t ∧ t.reg Reg.STACK_PD_LIVE = w32 t.pds.length) ∧
  (∀ (slot num tn cap l ns units : Nat) (a0 a2 a3 : W32) (rg : Region) (s : State), s.calm = true → s.slotIdle .pcmd slot = true →
    num = a0.toNat % 4096 → cap = fld a2 31 16 → l = fld a2 8 0 → s.kitty.regions.get num = some rg → rg.spill = true → 0 < cap → 0 < l → l ≤ 256 →
    0 < fld a3 30 24 → fld a3 30 24 ≤ 64 → 16 ≤ fld a3 16 8 → fld a3 16 8 ≤ 256 → fld a3 16 8 % 16 = 0 → 2 ≤ fld a3 3 0 → fld a3 3 0 ≤ 4 →
    ns = (128 * fld a3 30 24 * fld a3 16 8 * (if fld a3 3 0 = 4 then 2 else 1) + 65535) / 65536 → ns ≤ 16 →
    units = (64 * 8 * 66 + (cap + 1) * recBytes l + unitBytes - 1) / unitBytes → s.quotaAdmits rg.owner 0 (s.unitUse rg.owner) units = true →
    units ≤ (s.offer (List.range 24)).length → s.freeNumber = some tn → s.kv.has num = false →
    Does (.treeCreate slot a0 a2 a3) s [.slots, .kitty, .kv] (Reg.STACK_KV_TREES :: slotRegs .pcmd slot) fun t => ∃ r, t.kitty.regions.get tn = some r ∧
      r.owner = rg.owner ∧ r.cls = 3 ∧ r.spill = false ∧ r.units = (s.offer (List.range 24)).take units ∧
      (∀ k, k ≠ tn → t.kitty.regions.get k = s.kitty.regions.get k) ∧
      t.kv = s.kv.put num ⟨rg.handle num, r.handle tn, cap, l, ns, [], 0, List.replicate 8 0, none⟩ ∧ SlotDone .pcmd slot 3 (65536 * r.handle tn) t) ∧
  (∀ (slot : Nat) (a0 : W32) (tr : KvTree) (s : State), s.calm = true → s.slotIdle .pcmd slot = true → s.kv.get (a0.toNat % 4096) = some tr → tr.live = [] →
    Does (.treeFree slot a0) s [.slots, .kitty, .bus, .kv] (Reg.STACK_KV_TREES :: slotRegs .pcmd slot) fun t => t.kv.get (a0.toNat % 4096) = none ∧
      t.kitty.regions = s.kitty.regions.del (tr.handle % 4096) ∧ SlotDone .pcmd slot 4 St.ok t ∧
      ∀ r, s.region tr.handle = some r → ∀ u, u < 2304 → t.kitty.units.get u = if u ∈ r.units then some .scrub else s.kitty.units.get u) ∧
  (∀ (slot i : Nat) (a0 : W32) (tr : KvTree) (s : State), s.calm = true → s.slotIdle .pcmd slot = true → s.kv.get (a0.toNat % 4096) = some tr →
    i ∈ tr.live → s.nodeRefs tr i ≠ 0 →
    Does (.treeFree slot a0) s [.slots, .kv] (slotRegs .pcmd slot) fun t => t.kv = s.kv.put (a0.toNat % 4096) { tr with freeSlot := some slot } ∧
      SlotUnderWay .pcmd slot 4 (.other 3 (a0.toNat % 4096) 0) t)

/-- From R337 to R342. The KV service notes what each ring of a tree holds and serves one request at a time, from the rings in turn: LOOKUP counts the
blocks it matched, INSERT takes the lowest free node, UNREF lowers a node's REFS. Each writes in the tree's region and the region the request names
alone, and signals the counter it names. Where the spec leaves a point open, a clause holds the model's own reading: log 25. -/
def Obligations.KvServiceServesRequests : Prop :=
  (∀ (n : Nat) (tr tr' : KvTree) (s : State), s.isRunning = true → s.kv.get n = some tr →
    tr' = { tr with seen := (List.range 8).map fun c => s.kvIndex tr c 0 } →
    (∀ c, s.kvNext tr' = some c → 1 ≤ byteAt (s.treeRead tr' (s.kvEntryAt tr' c) 64) 0 ∧ byteAt (s.treeRead tr' (s.kvEntryAt tr' c) 64) 0 ≤ 3) →
    Does (.kvRingPoll n) s [.kv] [] fun t => t.kv = s.kv.put n tr') ∧
  (∀ (n c count : Nat) (tr : KvTree) (b src : Bytes) (s : State), s.kvAsks n 1 c tr b = true → count = fieldAt b 12 4 → count ≤ 1024 →
    r21 (s.kvChecks tr b (256 * count) (some (4 * count, true))) = St.ok → s.handleRead (fieldAt b 16 2) (64 * fieldAt b 20 4) (256 * count) = some src →
    Does (.lookup n) s [.kitty, .kmem, .kv] [Reg.STACK_KV_LOOKUPS, Reg.STACK_KV_HIT_BLOCKS, Reg.STACK_KV_HASH_MISMATCH, syncOff (byteAt b 4) (byteAt b 5 % 64)]
      fun t => t.kv = s.kv.put n { tr with next := (c + 1) % 8 } ∧ t.kitty = { s.kitty with classes := t.kitty.classes } ∧
      t.reg (syncOff (byteAt b 4) (byteAt b 5 % 64)) = s.reg (syncOff (byteAt b 4) (byteAt b 5 % 64)) + 1 ∧
      (∀ x, outside (s.region tr.handle) x → outside (s.region (fieldAt b 24 2)) x → Mem.read t.kmem x = Mem.read s.kmem x) ∧
      (t.reg Reg.STACK_KV_LOOKUPS).toNat = min 0xFFFFFFFF ((s.reg Reg.STACK_KV_LOOKUPS).toNat + 1) ∧
      (t.reg Reg.STACK_KV_HIT_BLOCKS).toNat = min 0xFFFFFFFF ((s.reg Reg.STACK_KV_HIT_BLOCKS).toNat +
        (kvWalk tr ((List.range count).map fun i => sliceAt src (256 * i) 256) 0 s).1.length)) ∧
  (∀ (n c i : Nat) (tr : KvTree) (b tokens refs : Bytes) (s : State), s.kvAsks n 2 c tr b = true → fieldAt b 12 4 = 1 →
    (fieldAt b 8 4 = 0 ∨ fieldAt b 8 4 ∈ tr.live) →
    r21 (s.kvChecks tr b 256 (some (8 * tr.layers, false))) = St.ok →
    s.handleRead (fieldAt b 16 2) (64 * fieldAt b 20 4) 256 = some tokens →
    s.handleRead (fieldAt b 24 2) (64 * fieldAt b 28 4) (8 * tr.layers) = some refs →
    (∀ l, l < tr.layers → refOk tr (sliceAt refs (8 * l) 8) = true) → s.findNode tr (fieldAt b 8 4) tokens = none → tr.live.length < tr.cap →
    (((List.range tr.cap).map (· + 1)).find? fun i => !tr.live.contains i) = some i →
    Does (.insert n) s [.kitty, .kmem, .kv] [Reg.STACK_KV_INSERTS, syncOff (byteAt b 4) (byteAt b 5 % 64)] fun t =>
      t.kv = s.kv.put n { tr with live := i :: tr.live, next := (c + 1) % 8 } ∧ t.kitty = { s.kitty with classes := t.kitty.classes } ∧
      t.reg (syncOff (byteAt b 4) (byteAt b 5 % 64)) = s.reg (syncOff (byteAt b 4) (byteAt b 5 % 64)) + 1 ∧
      (∀ x, outside (s.region tr.handle) x → Mem.read t.kmem x = Mem.read s.kmem x) ∧
      (t.reg Reg.STACK_KV_INSERTS).toNat = min 0xFFFFFFFF ((s.reg Reg.STACK_KV_INSERTS).toNat + 1)) ∧
  (∀ (n c i : Nat) (tr : KvTree) (b src : Bytes) (s : State), s.calm = true → s.kvAsks n 3 c tr b = true → tr.freeSlot = none → fieldAt b 12 4 = 1 →
    r21 (s.kvChecks tr b 4 none) = St.ok → s.handleRead (fieldAt b 16 2) (64 * fieldAt b 20 4) 4 = some src →
    i = fieldAt src 0 4 → i ∈ tr.live → s.nodeRefs tr i ≠ 0 →
    Does (.unref n) s [.kitty, .kmem, .kv] [syncOff (byteAt b 4) (byteAt b 5 % 64)] fun t => t.kv = s.kv.put n { tr with next := (c + 1) % 8 } ∧
      t.kmem = ((s.nodeSet tr i 12 4 (s.nodeRefs tr i - 1)).kvComplete n c b St.ok 0 0).kmem ∧
      t.kitty = { s.kitty with classes := t.kitty.classes } ∧
      t.reg (syncOff (byteAt b 4) (byteAt b 5 % 64)) = s.reg (syncOff (byteAt b 4) (byteAt b 5 % 64)) + 1)

/-- From R354, R358, R361, R362, R366. GATHER pins the table's milepost and issues a read for a row; SCATTER writes a row's bytes at its place and the
result area, and ends; a read that is done writes its position; a hold that lasts IDX_UPD_WAIT codes its position FAULT; a window that ends is
published. Where the spec leaves a point open, a clause holds the model's own reading: log 24. -/
def Obligations.GatherEnginesReadAndWriteRows : Prop :=
  (∀ (ge row : Nat) (x : EngCmd) (tb : EmbTable) (s : State), s.calm = true → s.gatherFits false ge x tb = true → fieldAt x.bytes 44 4 = 1 →
    row = s.firstRow x → row < tb.rows → row ≠ (if bitOf (byteAt x.bytes 42) 0 then 2 ^ 64 - 1 else 2 ^ 32 - 1) →
    (∀ seat, s.rowKind (fieldAt x.bytes 40 2) row (tb.pinAt s.cycle) ≠ some (.away seat)) →
    Does (.gather ge) s [.bus, .eng, .emb, .med, .reg .media] ((Reg.STACK_GE_STATUS + 0x40 * ge) :: kvReadRegs) fun t => CmdStarted .ge ge x .whole s t ∧ ∃ r, t.emb.runs.get ge = some r ∧
      r.pin = tb.pinAt s.cycle ∧ r.next = 1 ∧ r.codes = [] ∧
      r.reads = [⟨s.emb.nextRead, row, s.rowKind (fieldAt x.bytes 40 2) row (tb.pinAt s.cycle), [0], false⟩]) ∧
  (∀ (ge row o : Nat) (x : EngCmd) (tb : EmbTable) (d : PlaceDesc) (s : State), s.calm = true → ge < 16 → s.gatherFits true ge x tb = true →
    tb.pinAt s.cycle = tb.milepost → fieldAt x.bytes 44 4 = 1 → row = s.firstRow x → row < tb.rows → row ≠ (if bitOf (byteAt x.bytes 42) 0 then 2 ^ 64 - 1 else 2 ^ 32 - 1) →
    (∀ seat, s.rowKind (fieldAt x.bytes 40 2) row tb.milepost ≠ some (.away seat)) →
    (∀ seat, (s.reloc (fieldAt x.bytes 40 2) row).map Reloc.kind ≠ some (.away seat)) → s.rowMoving (fieldAt x.bytes 40 2) row = none →
    s.rowPlace tb row (s.rowKind (fieldAt x.bytes 40 2) row tb.milepost) = some (d, o) → d.lost = false → d.tier ≠ 2 → tb.dropSlot = none →
    Does (.scatter ge) s [.bus, .kmem, .smem, .eng, .emb] (geRegs ge ++ kvReadRegs) fun t => t.emb.runs.get ge = none ∧
      t.smem = d.store o (s.opRead x.bytes 1 tb.rowBytes) s.smem ∧
      t.kmem = (s.opWrite x.bytes 2 (leBytes 4 1 ++ List.replicate 20 0 ++ leBytes 8 tb.milepost ++ List.replicate 33 0)).kmem ∧
      (t.reg (geReg ge Reg.STACK_GE_WRITES)).toNat = min 0xFFFFFFFF ((s.reg (geReg ge Reg.STACK_GE_WRITES)).toNat + 1)) ∧
  (∀ (ge id i : Nat) (r : GatherRun) (d : RowRead) (tb : EmbTable) (g : Region) (row : Bytes) (s : State), s.calm = true → s.emb.runs.get ge = some r →
    r.reads = [d] → d.id = id → d.positions = [i] → r.next = r.count → r.codes.length + 1 < r.count → r.scatter = false → r.remote = none →
    s.emb.tables.get r.table = some tb → s.rowRead r.table tb d.row d.kind = some row → s.region (cmdHandle r.cmd.bytes 1) = some g →
    Does (.rowReadDone ge id ⟨true, 0⟩) s [.bus, .kmem, .emb] [] fun t => t.emb.runs.get ge = some { r with reads := [], codes := r.codes.put i 0 } ∧
      t.kmem = g.store (cmdOffset r.cmd.bytes 1 + i * r.stride) row s.kmem) ∧
  (∀ (ge id i : Nat) (r : GatherRun) (d : RowRead) (tb : EmbTable) (g : Region) (s : State), s.calm = true → s.emb.runs.get ge = some r →
    r.reads = [d] → d.id = id → d.positions = [i] → r.next = r.count → r.codes.length + 1 < r.count → r.scatter = false → r.remote = none →
    s.emb.tables.get r.table = some tb → s.region (cmdHandle r.cmd.bytes 1) = some g →
    Does (.rowReadDone ge id ⟨false, 0⟩) s [.bus, .kmem, .emb] [] fun t => t.emb.runs.get ge = some { r with reads := [], codes := r.codes.put i 4 } ∧
      t.kmem = g.store (cmdOffset r.cmd.bytes 1 + i * r.stride) (List.replicate tb.rowBytes 0) s.kmem) ∧
  (∀ (ge k : Nat) (m : RowMove) (h : HeldWrite) (r : GatherRun) (s : State), s.calm = true → s.emb.moves = [(k, m)] → m.held = [h] → h.ge = ge →
    s.past (h.since + (s.reg Reg.IDX_UPD_WAIT).toNat) = true → s.emb.runs.get ge = some r → r.scatter = true → r.remote = none → r.codes.length + 1 < r.count →
    Does (.rowHoldTimeout ge) s [.emb] [] fun t => t.emb.moves = [(k, { m with held := [] })] ∧
      t.emb.runs.get ge = some { r with codes := r.codes.put h.pos 4 }) ∧
  (∀ (s : State), s.isRunning = true → s.emb.windowStart + (s.reg Reg.STACK_EMB_SKEW_WIN).toNat ≤ s.now →
    Does .embSkewWindowClose s [.emb] [] fun t => t.emb.shardLast = s.emb.shardNow ∧ t.emb.shardNow = [] ∧ t.emb.hotNow = [] ∧
      t.emb.windowStart = s.now ∧ t.emb.tables = s.emb.tables ∧ t.emb.runs = s.emb.runs ∧
      ∀ q, t.emb.hotLast.get q = (s.emb.hotNow.get q).map hotRank)

/-- From R349, R364, R365, R367, R368. EMB_CREATE makes a table LIVE at milepost 1, EMB_DROP frees one that nothing runs on; a move to a stack copies
rows into spare slots and commits them at the next milepost; a move to a seat sends its rows and waits; a cancelled move leaves the rows where they
are. Where the spec leaves a point open, a clause holds the model's own reading: log 24. -/
def Obligations.EmbeddingTablesAndRowMoves : Prop :=
  (∀ (slot id rows : Nat) (a0 a1 : W32) (d : Bytes) (pr : PlaceDesc) (s : State), s.calm = true → s.slotFree .emb slot = true → id = fld a0 9 0 →
    s.handleRead (fld a0 31 16) (64 * a1.toNat) 64 = some d → fieldAt d 0 2 = id → s.pds.get (fieldAt d 16 4) = some pr → pr.kind = 4 →
    (fieldAt d 20 4 = 0 ∨ ∃ q, s.pds.get (fieldAt d 20 4) = some q ∧ q.kind = 4 ∧ q.tier = 1) →
    16 ≤ fieldAt d 2 2 → fieldAt d 2 2 ≤ 4096 → fieldAt d 2 2 % 16 = 0 → 10 ≤ byteAt d 4 → byteAt d 4 ≤ 30 → rows = fieldAt d 8 8 → 0 < rows → rows ≤ 2 ^ 36 →
    (rows + 2 ^ byteAt d 4 - 1) / 2 ^ byteAt d 4 ≤ 65536 → rowsSpan (pr.tier == 2) (fieldAt d 2 2) rows ≤ pr.length → s.emb.tables.has id = false →
    s.embNamed slot id = false →
    Does (.embCreate slot a0 a1) s [.slots, .kitty, .emb] (Reg.STACK_EMB_RELOC_USED :: Reg.STACK_EMB_TABLES_LIVE :: slotRegs .emb slot) fun t => SelfTraffic s t ∧
      t.emb = { s.emb with tables := s.emb.tables.put id ⟨1, fieldAt d 2 2, byteAt d 4, rows, fieldAt d 16 4, fieldAt d 20 4, 1, 0, 0, 0, 0, none, none⟩ } ∧
      SlotDone .emb slot 1 St.ok t) ∧
  (∀ (slot id : Nat) (a0 : W32) (tb : EmbTable) (s : State), s.calm = true → s.slotFree .emb slot = true → id = fld a0 9 0 → s.emb.tables.get id = some tb →
    tb.state = 1 → s.embNamed slot id = false → (∀ r ∈ s.emb.runs, r.2.table ≠ id) →
    Does (.embDrop slot a0) s [.slots, .emb] (Reg.STACK_EMB_RELOC_USED :: Reg.STACK_EMB_TABLES_LIVE :: slotRegs .emb slot) fun t =>
      t.emb.tables.get id = none ∧ (∀ k, k ≠ id → t.emb.tables.get k = s.emb.tables.get k) ∧ (∀ r ∈ t.emb.relocs, r.table ≠ id) ∧
      SlotDone .emb slot 2 St.ok t) ∧
  (∀ (slot id row i k : Nat) (a0 a1 a2 : W32) (tb : EmbTable) (dsp : PlaceDesc) (rest : List Nat) (d : Bytes) (s : State), s.calm = true →
    s.slotFree .emb slot = true → id = fld a0 9 0 → fld a2 12 0 = 1 → s.handleRead (fld a0 31 16) (64 * a1.toNat) 8 = some d → row = fieldAt d 0 8 →
    s.movable slot id tb [row] = true → s.freeSlots id tb = i :: rest → s.emb.moves.lowestFree 0 256 = some k → s.pds.get tb.pdSpare = some dsp →
    dsp.tier ≠ 2 → dsp.lost = false →
    Does (.rowMoveStack slot a0 a1 a2) s [.slots, .kitty, .smem, .emb] (slotRegs .emb slot) fun t => SelfTraffic s t ∧ (∃ m, t.emb.moves.get k = some m ∧ m.table = id ∧
      m.rows = [row] ∧ m.slots = [i] ∧ m.seat = none ∧ m.phase = .copy ∧ m.held = [] ∧ m.cmdSlot = some slot) ∧
      t.smem = dsp.store (i * tb.rowBytes) ((s.rowRead id tb row none).getD (List.replicate tb.rowBytes 0)) s.smem ∧
      t.emb.relocs = s.emb.relocs ∧ SlotUnderWay .emb slot 3 (.other 2 k 0) t) ∧
  (∀ (k slot : Nat) (m : RowMove) (tb : EmbTable) (s : State), s.calm = true → s.emb.moves.get k = some m → m.seat = none → m.committed = none → m.held = [] →
    m.cmdSlot = some slot → s.slotHas .emb slot 3 (.other 2 k 0) = true → s.emb.tables.get m.table = some tb →
    Does (.rowMoveCommit k) s [.slots, .emb] (Reg.STACK_EMB_RELOC_USED :: Reg.STACK_EMB_TABLES_LIVE :: slotReg .emb slot 5 :: slotRegs .emb slot) fun t =>
      t.emb.moves.get k = none ∧ t.emb.tables.get m.table = some { tb with milepost := tb.milepost + 1, before := some (s.cycle, tb.pinAt s.cycle) } ∧
      (∀ x ∈ m.rows.zip m.slots, ∃ r ∈ t.emb.relocs, r.table = m.table ∧ r.row = x.1 ∧ r.kind = .hot x.2 ∧ r.milepost = tb.milepost + 1) ∧
      SlotDone .emb slot 3 (65536 * k) t ∧ t.reg (slotReg .emb slot 5) = w32 (tb.milepost + 1)) ∧
  (∀ (slot id k seat : Nat) (a0 a1 a2 : W32) (tb : EmbTable) (rows : List Nat) (d : Bytes) (b s : State), s.calm = true → s.slotFree .emb slot = true →
    id = fld a0 9 0 → s.handleRead (fld a0 31 16) (64 * a1.toNat) (8 * fld a2 12 0) = some d → fld a2 12 0 ≤ 4096 →
    rows = (List.range (fld a2 12 0)).map (fun i => fieldAt d (8 * i) 8) → s.movable slot id tb rows = true → seat = fld a2 31 24 →
    b = s.begun .emb slot 4 [(0, a0), (1, a1), (2, a2)] none → b.seatOther seat = true → s.emb.moves.lowestFree 0 256 = some k →
    Does (.rowMoveSeat slot a0 a1 a2) s ([.kitty, .emb] ++ sendParts) (slotRegs .emb slot) fun t => SelfTraffic s t ∧ (∃ m, t.emb.moves.get k = some m ∧ m.rows = rows ∧
      m.seat = some seat ∧ m.dest = false ∧ m.phase = .copy ∧ m.unacked.length = 1 ∧ m.cmdSlot = some slot) ∧ t.emb.relocs = s.emb.relocs ∧
      SlotUnderWay .emb slot 4 (.other 2 k 0) t) ∧
  (∀ (slot slot' k : Nat) (a2 : W32) (m : RowMove) (s : State), s.calm = true → s.slotFree .emb slot = true → k = fld a2 23 16 →
    s.emb.moves.get k = some m → m.seat = none → m.dest = false → m.committed = none → m.phase = .copy → m.held = [] → m.cmdSlot = some slot' →
    s.slotHas .emb slot' 3 (.other 2 k 0) = true →
    Does (.rowMoveCancel slot a2) s [.slots, .emb] (slotReg .emb slot' 5 :: slotRegs .emb slot ++ slotRegs .emb slot') fun t =>
      t.emb = { s.emb with moves := s.emb.moves.del k } ∧ SlotDone .emb slot' 3 (65536 * k + St.aborted) t ∧ SlotDone .emb slot 5 St.ok t)

/-- From R347, R370. A write to a selector of the stacks shows the selected descriptor, tree, embedding table, shard, hot row or owner; what does not
exist reads 0. Where the spec leaves a point open, a clause holds the model's own reading: log 24 and 25. -/
def Obligations.StackSelectorsShowTheSelected : Prop :=
  (∀ (v : W32) (s : State), s.isRunning = true →
    Does (.stackPdSel v) s [] [Reg.STACK_PD_SEL, Reg.STACK_PD_INFO, Reg.STACK_PD_OWNER, Reg.STACK_PD_LEN_LO, Reg.STACK_PD_LEN_LO + 4] fun t =>
      t.reg Reg.STACK_PD_SEL = w32 (v.toNat % 65536) ∧
      (∀ d, s.pds.get (v.toNat % 65536) = some d → t.reg Reg.STACK_PD_INFO = w32 (2 ^ 31 + 2 ^ 28 * d.kind + 2 ^ 26 * d.tier + 2 ^ 25 * b1 d.readOnly +
          2 ^ 24 * b1 d.coded + 2 ^ 22 * d.width + 2 ^ 21 * b1 d.interleave + d.extents.length) ∧ t.reg Reg.STACK_PD_OWNER = w32 (ownerKey d.owner) ∧ t.pair Reg.STACK_PD_LEN_LO = d.length % 2 ^ 64) ∧
      (s.pds.get (v.toNat % 65536) = none → t.reg Reg.STACK_PD_INFO = 0 ∧ t.reg Reg.STACK_PD_OWNER = 0 ∧ t.pair Reg.STACK_PD_LEN_LO = 0)) ∧
  (∀ (v : W32) (s : State), s.isRunning = true →
    Does (.stackTreeSel v) s [] [Reg.STACK_TREE_SEL, Reg.STACK_TREE_INFO, Reg.STACK_TREE_USE] fun t => t.reg Reg.STACK_TREE_SEL = w32 (v.toNat % 4096) ∧
      (∀ x, s.kv.get (v.toNat % 4096) = some x → t.reg Reg.STACK_TREE_INFO = w32 (65536 * x.cap + x.layers) ∧
        t.reg Reg.STACK_TREE_USE = w32 (65536 * x.live.length + (x.live.filter fun i => s.nodeRefs x i != 0).length)) ∧
      (s.kv.get (v.toNat % 4096) = none → t.reg Reg.STACK_TREE_INFO = 0 ∧ t.reg Reg.STACK_TREE_USE = 0)) ∧
  (∀ (v : W32) (s : State), s.isRunning = true →
    Does (.stackEmbTblSel v) s [] [Reg.STACK_EMB_TBL_SEL, Reg.STACK_EMB_TBL_INFO, Reg.STACK_EMB_TBL_ROWS_LO, Reg.STACK_EMB_TBL_ROWS_LO + 4,
        Reg.STACK_EMB_TBL_MP_LO, Reg.STACK_EMB_TBL_MP_LO + 4, Reg.STACK_EMB_TBL_DROP_RANGE, Reg.STACK_EMB_TBL_DROP_MISSING, Reg.STACK_EMB_TBL_MOVED,
        Reg.STACK_EMB_TBL_RELOC] fun t => t.reg Reg.STACK_EMB_TBL_SEL = w32 (v.toNat % 1024) ∧
      (∀ x, s.emb.tables.get (v.toNat % 1024) = some x → t.pair Reg.STACK_EMB_TBL_ROWS_LO = x.rows % 2 ^ 64 ∧
        t.pair Reg.STACK_EMB_TBL_MP_LO = x.milepost % 2 ^ 64 ∧ t.reg Reg.STACK_EMB_TBL_DROP_RANGE = x.dropRange ∧ t.reg Reg.STACK_EMB_TBL_DROP_MISSING = x.dropMissing ∧
        t.reg Reg.STACK_EMB_TBL_MOVED = x.moved ∧ t.reg Reg.STACK_EMB_TBL_INFO = w32 (2 ^ 30 * x.state + 2 ^ 24 * x.shardBits + x.rowBytes) ∧
        t.reg Reg.STACK_EMB_TBL_RELOC = w32 (s.emb.relocs.filter fun r => r.table == v.toNat % 1024 && r.kind != .base).length) ∧
      (s.emb.tables.get (v.toNat % 1024) = none → t.reg Reg.STACK_EMB_TBL_INFO = 0 ∧ t.pair Reg.STACK_EMB_TBL_ROWS_LO = 0 ∧
        t.pair Reg.STACK_EMB_TBL_MP_LO = 0 ∧ t.reg Reg.STACK_EMB_TBL_DROP_RANGE = 0 ∧ t.reg Reg.STACK_EMB_TBL_DROP_MISSING = 0 ∧
        t.reg Reg.STACK_EMB_TBL_MOVED = 0)) ∧
  (∀ (v : W32) (s : State), s.isRunning = true →
    Does (.stackEmbShardSel v) s [] [Reg.STACK_EMB_SHARD_SEL, Reg.STACK_EMB_SHARD_READS, Reg.STACK_EMB_SHARD_WRITES] fun t =>
      t.reg Reg.STACK_EMB_SHARD_SEL = w32 (v.toNat % 2 ^ 26) ∧ (s.emb.tables.has (v.toNat % 2 ^ 26 / 65536) = true →
        t.reg Reg.STACK_EMB_SHARD_READS = w32 (min (2 ^ 32 - 1) (s.emb.shardLast.getD (v.toNat % 2 ^ 26) (0, 0)).1) ∧
        t.reg Reg.STACK_EMB_SHARD_WRITES = w32 (min (2 ^ 32 - 1) (s.emb.shardLast.getD (v.toNat % 2 ^ 26) (0, 0)).2)) ∧
      (s.emb.tables.has (v.toNat % 2 ^ 26 / 65536) = false → t.reg Reg.STACK_EMB_SHARD_READS = 0 ∧ t.reg Reg.STACK_EMB_SHARD_WRITES = 0)) ∧
  (∀ (v : W32) (s : State), s.isRunning = true →
    Does (.stackEmbHotSel v) s [] [Reg.STACK_EMB_HOT_SEL, Reg.STACK_EMB_HOT_TABLE, Reg.STACK_EMB_HOT_ROW_LO, Reg.STACK_EMB_HOT_ROW_LO + 4,
        Reg.STACK_EMB_HOT_COUNT] fun t => t.reg Reg.STACK_EMB_HOT_SEL = v &&& 0x33F ∧
      (∀ e, (s.emb.hotLast.getD (fld v 9 8) [])[fld v 5 0]? = some e → t.reg Reg.STACK_EMB_HOT_TABLE = w32 e.table ∧
        t.pair Reg.STACK_EMB_HOT_ROW_LO = e.row % 2 ^ 64 ∧ t.reg Reg.STACK_EMB_HOT_COUNT = w32 e.count) ∧
      ((s.emb.hotLast.getD (fld v 9 8) [])[fld v 5 0]? = none → t.reg Reg.STACK_EMB_HOT_COUNT = 0 ∧ t.reg Reg.STACK_EMB_HOT_TABLE = 0 ∧
        t.pair Reg.STACK_EMB_HOT_ROW_LO = 0)) ∧
  (∀ (v : W32) (s : State), s.isRunning = true →
    Does (.stackEmbOwnSel v) s [] [Reg.STACK_EMB_OWN_SEL, Reg.STACK_EMB_OWN_DROP_RANGE, Reg.STACK_EMB_OWN_DROP_MISSING, Reg.STACK_EMB_OWN_MOVED] fun t =>
      t.reg Reg.STACK_EMB_OWN_SEL = v &&& 0xC000FFFF ∧
      t.reg Reg.STACK_EMB_OWN_DROP_RANGE = w32 ((s.emb.owners.getD (v &&& 0xC000FFFF).toNat [0, 0, 0, 0]).getD 0 0) ∧
      t.reg Reg.STACK_EMB_OWN_DROP_MISSING = w32 ((s.emb.owners.getD (v &&& 0xC000FFFF).toNat [0, 0, 0, 0]).getD 1 0) ∧
      t.reg Reg.STACK_EMB_OWN_MOVED = w32 ((s.emb.owners.getD (v &&& 0xC000FFFF).toNat [0, 0, 0, 0]).getD 2 0))

/-- From R383 to R388, R390, R396. A request of length 1 that passes its checks is accepted from its ring: READ and SCAN start the read of its block,
WRITE the program of its map unit, TRIM unmaps its unit and starts a trim record; one that fails a check is refused and counted; a request that waited
IDX_UPD_WAIT for a superblock completes. Where the spec leaves a point open, a clause holds the model's own reading: log 23. -/
def Obligations.FlashRequestsAreAccepted : Prop :=
  (∀ (quadrant ring p : Nat) (r : MediaRing) (e : Bytes) (s : State), s.calm = true → s.ringHas (64 * quadrant + ring) 1 r e = true →
    s.med.fwd.get (s.reqAddr e (reqOff e) / 65536) = some p →
    Does (.read quadrant ring) s [.kitty, .med] [Reg.MEDIA_READS_LO, Reg.MEDIA_READS_LO + 4] fun t => ReqTaken s t (64 * quadrant + ring) r e ∧
      t.med.reads.get (s.med.nextId + 1) =
        some ⟨s.med.nextId, 0, s.reqAddr e (reqOff e) / 65536, p, s.reqAddr e (reqOff e) / 4096 % 16⟩ ∧ t.med.fwd = s.med.fwd ∧
      t.pair Reg.MEDIA_READS_LO = min (2 ^ 64 - 1) (s.pair Reg.MEDIA_READS_LO + 1) ∧ SelfTraffic s t) ∧
  (∀ (quadrant ring p : Nat) (r : MediaRing) (e : Bytes) (s : State), s.calm = true → s.ringHas (64 * quadrant + ring) 4 r e = true →
    s.med.fwd.get (s.reqAddr e (reqOff e) / 65536) = some p →
    Does (.scan quadrant ring) s [.kitty, .med] [Reg.MEDIA_READS_LO, Reg.MEDIA_READS_LO + 4] fun t => ReqTaken s t (64 * quadrant + ring) r e ∧
      t.med.reads.get (s.med.nextId + 1) =
        some ⟨s.med.nextId, 0, s.reqAddr e (reqOff e) / 65536, p, s.reqAddr e (reqOff e) / 4096 % 16⟩ ∧ t.med.fwd = s.med.fwd ∧
      t.pair Reg.MEDIA_READS_LO = min (2 ^ 64 - 1) (s.pair Reg.MEDIA_READS_LO + 1) ∧ SelfTraffic s t ∧
      ∃ q, t.med.reqs.get s.med.nextId = some q ∧ q.schema = (s.med.schemas.get (byteAt e 6)).getD [] ∧
        q.program = (s.handleRead (fieldAt e 26 2) (64 * fieldAt e 32 4) (fieldAt e 36 2)).getD []) ∧
  (∀ (quadrant ring ppa : Nat) (u : State) (g : Region) (r : MediaRing) (e : Bytes) (s : State), s.calm = true →
    s.ringHas (64 * quadrant + ring) 2 r e = true → s.noneWaits none = true → s.takePage = some (ppa, u) → s.region (reqHandle e) = some g →
    Does (.write quadrant ring) s [.kitty, .med] mediaCountRegs fun t => ReqTaken s t (64 * quadrant + ring) r e ∧ t.med.fwd = s.med.fwd ∧ SelfTraffic s t ∧
      ∃ e' ∈ t.med.programs, e'.2 = ⟨ppa, pageFor ppa (s.reqAddr e (reqOff e) / 65536) (s.med.seq + 1)
        (.data (Mem.writeBytes [] 0 (s.rgnRead g (reqLine e) 65536))), some s.med.nextId, false⟩) ∧
  (∀ (quadrant ring ppa : Nat) (u : State) (r : MediaRing) (e : Bytes) (s : State), s.calm = true → s.ringHas (64 * quadrant + ring) 3 r e = true →
    s.noneWaits none = true → s.takePage = some (ppa, u) →
    Does (.trim quadrant ring) s [.kitty, .med] mediaCountRegs fun t => ReqTaken s t (64 * quadrant + ring) r e ∧ SelfTraffic s t ∧
      t.med.fwd = s.med.fwd.del (s.reqAddr e (reqOff e) / 65536) ∧ t.med.trims.get (s.reqAddr e (reqOff e) / 65536) = some (s.med.seq + 1) ∧
      ∃ e' ∈ t.med.programs, e'.2 = ⟨ppa, pageFor ppa noLmu (s.med.seq + 1) (.trims [(s.reqAddr e (reqOff e) / 65536, s.med.seq + 1)]),
        some s.med.nextId, true⟩) ∧
  (∀ (quadrant ring op : Nat) (i : Instr) (r : MediaRing) (e : Bytes) (s : State), s.calm = true →
    (i, op) ∈ [(Instr.read quadrant ring, 1), (.write quadrant ring, 2), (.trim quadrant ring, 3), (.scan quadrant ring, 4)] →
    s.ringFront (64 * quadrant + ring) r e = true → (if reqOpc e = 0 ∨ 4 < reqOpc e then 1 else reqOpc e) = op → s.reqStatus (s.ringDomain r) e ≠ St.ok →
    Does i s [.kitty, .kmem, .med] [Reg.MEDIA_REQ_ERR, syncOff (byteAt e 4) (byteAt e 5 % 64)] fun t =>
      t.kitty = { s.kitty with classes := t.kitty.classes } ∧ (∀ x, outside (s.region r.handle) x → Mem.read t.kmem x = Mem.read s.kmem x) ∧
      (t.reg Reg.MEDIA_REQ_ERR).toNat = min 0xFFFFFFFF ((s.reg Reg.MEDIA_REQ_ERR).toNat + 1) ∧ t.med.reqs = s.med.reqs ∧ t.med.fwd = s.med.fwd ∧
      t.med.programs = s.med.programs ∧ t.med.reads = s.med.reads ∧
      ∃ r', t.med.rings.get (64 * quadrant + ring) = some r' ∧ r'.accepted = r.accepted + 1) ∧
  (∀ (id since : Nat) (q : MediaReq) (r : MediaRing) (s : State), s.calm = true → s.med.reqs.get id = some q → q.waitSince = some since →
    s.past (since + (s.reg Reg.IDX_UPD_WAIT).toNat) = true → q.outstanding = 0 → reqOpc q.entry = 2 ∨ reqOpc q.entry = 3 →
    s.med.rings.get q.ring = some r → r.detach = none → s.noneWaits (some id) = true →
    Does (.mediaWaitTimeout id) s [.kitty, .kmem, .med] (syncOff (byteAt q.entry 4) (byteAt q.entry 5 % 64) :: mediaCountRegs) fun t =>
      t.kitty = { s.kitty with classes := t.kitty.classes } ∧
      t.med.reqs.get id = none ∧ (∀ k, k ≠ id → t.med.reqs.get k = s.med.reqs.get k) ∧ t.med.fwd = s.med.fwd ∧
      (∀ x, outside (s.region r.handle) x → Mem.read t.kmem x = Mem.read s.kmem x) ∧ (byteAt q.entry 4 < 8 →
        t.reg (syncOff (byteAt q.entry 4) (byteAt q.entry 5 % 64)) = s.reg (syncOff (byteAt q.entry 4) (byteAt q.entry 5 % 64)) +
          (if s.holdsCtr (s.ringDomain r) (byteAt q.entry 4) (byteAt q.entry 5 % 64) then 1 else 0)))

/-- From R375, R377, R380, R385, R387, R389, R391, R392, R401. A codeword that is read is delivered at its place in the region, and the last one
completes its request; a programmed page is in NAND and its map unit maps to it; an erased superblock holds no page, a spare block stands for each of
its bad members, and it is free; a relocated page takes its unit's entry only from the old page; a rebuilt page is reconstructed and relocated; a
journal flush programs the pending entries and a flush record. Where the spec leaves a point open, a clause holds the model's own reading: log 23. -/
def Obligations.FlashOperationsComplete : Prop :=
  (∀ (id : Nat) (peers : Bool) (o : CwOutcome) (x : NandRead) (q : MediaReq) (g : Region) (pg : FlashPage) (s : State), s.calm = true →
    s.med.reads.get id = some x → s.med.reqs.get x.req = some q → reqOpc q.entry = 1 → 2 ≤ q.outstanding → s.region (reqHandle q.entry) = some g →
    s.nand.pages.get x.ppa = some pg → pg.good x.ppa = true → pg.lmu = x.lmu → o ≠ .fail → s.isRetired 15 (nandInst x.ppa) = false →
    s.noneWaits none = true →
    Does (.nandReadDone id o peers) s [.kitty, .kmem, .med] mediaCountRegs fun t => t.med.reads = s.med.reads.del id ∧
      t.kitty = { s.kitty with classes := t.kitty.classes } ∧
      t.kmem = g.store (reqLine q.entry + 4096 * x.idx) (pg.block x.cw) (s.mediaBuffer 4 (q.ring / 64) (pg.block x.cw)).kmem ∧
      t.med.reqs.get x.req = some { q with outstanding := q.outstanding - 1, done := q.done + 1 } ∧
      t.med.chans.getD (ppaCh x.ppa) chanZero = (s.med.chans.getD (ppaCh x.ppa) chanZero).after o) ∧
  (∀ (id : Nat) (peers : Bool) (o : CwOutcome) (x : NandRead) (q : MediaReq) (r : MediaRing) (pg : FlashPage) (s : State), s.calm = true →
    s.med.reads.get id = some x → s.med.reqs.get x.req = some q → reqOpc q.entry = 1 → q.outstanding = 1 → q.todo = [] →
    s.med.rings.get q.ring = some r → r.detach = none →
    s.nand.pages.get x.ppa = some pg → pg.good x.ppa = true → pg.lmu = x.lmu → o ≠ .fail → s.isRetired 15 (nandInst x.ppa) = false →
    s.noneWaits none = true →
    Does (.nandReadDone id o peers) s [.kitty, .kmem, .med] (syncOff (byteAt q.entry 4) (byteAt q.entry 5 % 64) :: mediaCountRegs) fun t =>
      t.med.reads = s.med.reads.del id ∧ t.med.reqs.get x.req = none ∧ (∀ k, k ≠ x.req → t.med.reqs.get k = s.med.reqs.get k) ∧
      t.kitty = { s.kitty with classes := t.kitty.classes } ∧
      (∀ a, outside (s.region (reqHandle q.entry)) a → outside (s.region r.handle) a → outside (s.service 4) a →
        Mem.read t.kmem a = Mem.read s.kmem a) ∧ (byteAt q.entry 4 < 8 →
        t.reg (syncOff (byteAt q.entry 4) (byteAt q.entry 5 % 64)) = s.reg (syncOff (byteAt q.entry 4) (byteAt q.entry 5 % 64)) +
          (if s.holdsCtr (s.ringDomain r) (byteAt q.entry 4) (byteAt q.entry 5 % 64) then 1 else 0))) ∧
  (∀ (id req : Nat) (p : Program) (q : MediaReq) (m : Mem) (s : State), s.calm = true → s.med.programs.get id = some p → p.page.body = .data m →
    p.req = some req → p.trim = false → s.med.reqs.get req = some q → 2 ≤ q.outstanding → s.noFlush = true → s.lmuSeq p.page.lmu < p.page.seq →
    s.noneWaits none = true →
    Does (.nandProgramDone id true) s [.kitty, .kmem, .nand, .med] (Reg.MEDIA_WRITES_LO :: (Reg.MEDIA_WRITES_LO + 4) :: mediaCountRegs) fun t =>
      t.nand = { s.nand with pages := s.nand.pages.put p.ppa p.page } ∧ SelfTraffic s t ∧ t.med.fwd = s.med.fwd.put p.page.lmu p.ppa ∧
      t.med.trims = s.med.trims.del p.page.lmu ∧
      t.med.pendingJ = (if s.mapMode = 0 then s.med.pendingJ ++ [⟨p.page.lmu, some p.ppa, p.page.seq⟩] else s.med.pendingJ) ∧
      (∀ k, k ≠ s.med.nextId → t.med.programs.get k = if k = id then none else s.med.programs.get k) ∧
      t.med.reqs.get req = some { q with outstanding := q.outstanding - 1, done := q.done + 1 } ∧
      t.pair Reg.MEDIA_WRITES_LO = min (2 ^ 64 - 1) (s.pair Reg.MEDIA_WRITES_LO + 1)) ∧
  (∀ (k : Nat) (wear : Bool) (s : State), s.calm = true → s.med.sbs.get k = some (.erasing wear) → s.noneWaits none = true →
    Does (.nandEraseDone k []) s [.nand, .med] (Reg.MEDIA_WL_MOVES :: mediaCountRegs) fun t =>
      t.nand.erases.getD k 0 = s.nand.erases.getD k 0 + 1 ∧
      (∀ e ∈ t.nand.pages, e ∈ s.nand.pages ∧ ∀ m, m < 16 → e.1 / 1024 ≠ s.sbPage k m 0 / 1024) ∧
      (∀ e ∈ s.nand.pages, (∀ m, m < 16 → e.1 / 1024 ≠ s.sbPage k m 0 / 1024) → e ∈ t.nand.pages) ∧ t.med.eraseLtc.get k = some s.now ∧
      (∀ m, m < 16 → s.sbPage k m 0 / 1024 ∈ s.nand.bad → ∃ x ∈ t.nand.subst, x.1 = k ∧ x.2.1 = m) ∧
      t.med.fwd = s.med.fwd ∧ (s.sbsRest k = true → t.med.sbs.get k = none)) ∧
  (∀ (id : Nat) (x : Relocation) (m : Mem) (s : State), s.med.relocs.get id = some x → x.page.body = .data m → x.rebuild = false → x.counted = true →
    s.noneWaits none = true → s.noFlush = true →
    Does (.relocationDone id) s [.kitty, .kmem, .nand, .med] (Reg.MEDIA_GC_MOVES :: mediaCountRegs) fun t =>
      t.nand = { s.nand with pages := s.nand.pages.put x.dst (pageFor x.dst x.page.lmu x.page.seq x.page.body) } ∧ SelfTraffic s t ∧
      (id < s.med.nextId → t.med.relocs.get id = none) ∧
      t.med.fwd = (if s.med.fwd.get x.page.lmu = some x.src then s.med.fwd.put x.page.lmu x.dst else s.med.fwd) ∧
      (t.reg Reg.MEDIA_GC_MOVES).toNat = min 0xFFFFFFFF ((s.reg Reg.MEDIA_GC_MOVES).toNat + 1)) ∧
  (∀ (ppa dst : Nat) (pg : FlashPage) (u : State) (s : State), s.isRunning = true → s.nand.pages.get ppa = some pg → s.isRetired 15 (nandInst ppa) = true →
    s.pageLive ppa pg = true → s.peersGood ppa = true → (∀ e ∈ s.med.relocs, e.2.src ≠ ppa) → s.takePage = some (dst, u) →
    Does (.rebuildPage ppa) s [.med] [Reg.MEDIA_PARITY_RECON] fun t => t.med.relocs.get s.med.nextId = some ⟨ppa, dst, pg, true, false⟩ ∧
      t.med.fwd = s.med.fwd ∧ (t.reg Reg.MEDIA_PARITY_RECON).toNat = min 0xFFFFFFFF ((s.reg Reg.MEDIA_PARITY_RECON).toNat + 16)) ∧
  (∀ (k n p p' : Nat) (s : State), s.isRunning = true → s.mediaState = 3 → s.mapMode = 0 →
    s.past (s.med.lastFlush + (s.reg Reg.MEDIA_JOURNAL_INTERVAL).toNat) = true → s.med.pendingJ ≠ [] → s.med.pendingJ.length ≤ 4096 → s.sysSbs ≠ [] →
    k = s.sysSbs.getD (s.med.sysAt / 15360 % s.sysSbs.length) 0 → n = s.med.sysAt % 15360 → n % 15 < 13 → p = s.dataPage k n → p' = s.dataPage k (n + 1) →
    (∀ a, a ∈ p :: p' :: s.nand.pages.map Prod.fst → s.sbOf a ≠ s.sysSbs.getD ((s.med.sysAt / 15360 + 1) % s.sysSbs.length) 0) →
    Does .journalFlushTimer s [.kitty, .kmem, .nand, .med] [] fun t => SelfTraffic s t ∧
      t.nand = { s.nand with pages := t.nand.pages } ∧
      t.nand.pages = (s.nand.pages.put p (pageFor p noLmu s.med.seq (.journal s.med.journalAt s.med.pendingJ))).put p'
        (pageFor p' noLmu s.med.seq (.flush (s.med.journalAt + 1) s.flushRecord)) ∧
      t.med.pendingJ = [] ∧ t.med.sinceFlush = 0 ∧ t.med.lastFlush = s.med.lastFlush + (s.reg Reg.MEDIA_JOURNAL_INTERVAL).toNat ∧ t.med.fwd = s.med.fwd)

/-- From R372, R381, R383, R393, R399, R405, R406, R408. Enumeration publishes the capacity found and starts recovery; recovery ends READY, or without
an anchor unformatted; FORMAT empties the media and fixes the logical space; schemas and rings are set, a ring is detached once its requests are done,
and a channel's counters are shown. Where the spec leaves a point open, a clause holds the model's own reading: log 23. -/
def Obligations.MediaComesUpAndIsCommanded : Prop :=
  (∀ (k : Nat) (s : State), s.mediaState = 1 → s.med.enumerated = false →
    Does (.mediaEnumerationDone [(k, .die2Tb)]) s [.pds, .nand, .med, .free]
      (Reg.NODE_CAP_FLASH :: Reg.MEDIA_STATE :: Reg.MEDIA_MAP_PD :: Reg.STACK_PD_LIVE :: mediaCountRegs)
      fun t => t.nand.blocks.get k = some 4096 ∧ t.nand.pages = s.nand.pages ∧ t.reg Reg.NODE_CAP_FLASH = 256 ∧ t.mediaState = 2 ∧ t.med.enumerated = true) ∧
  (∀ (s : State), s.mediaState = 1 → s.med.enumerated = false →
    Does (.mediaEnumerationDone []) s [.nand, .med] [Reg.NODE_CAP_FLASH, Reg.MEDIA_STATE] fun t => t.mediaState = 0 ∧ t.reg Reg.NODE_CAP_FLASH = 0) ∧
  (∀ (unreadable : List Nat) (s : State), s.calm = true → s.mediaState = 2 → s.nand.anchors = [] →
    Does (.mapRecoveryDone ⟨true, unreadable⟩) s [.med] [Reg.MEDIA_REC_LTC, Reg.MEDIA_STATE] fun t => t.mediaState = 4 ∧ t.med.logical = 0) ∧
  (∀ (unreadable : List Nat) (a : Anchor) (rest : List Anchor) (s : State), s.calm = true → s.mediaState = 2 → s.nand.anchors = a :: rest →
    a.logical < 2 ^ 64 →
    Does (.mapRecoveryDone ⟨true, unreadable⟩) s [.kitty, .kmem, .nand, .med, .reg .media] [] fun t => t.mediaState = 3 ∧ t.med.logical = a.logical ∧
      t.pair Reg.MEDIA_LOGICAL_MU_LO = a.logical ∧ t.med.fwd = ((s.recoverMap a).map.filterMap fun e => e.2.map fun p => (e.1, p)) ∧ SelfTraffic s t) ∧
  (∀ (slot : Nat) (s : State), s.calm = true → s.slotIdle .media slot = true → s.med.rings = [] → 3 ≤ s.mediaState →
    Does (.format slot) s [.slots, .kitty, .kmem, .pds, .nand, .med, .free, .reg .media] [Reg.STACK_PD_LIVE] fun t => t.mediaState = 3 ∧
      (∀ e ∈ t.nand.pages, e.2.lmu = noLmu) ∧ t.med.fwd = [] ∧ t.nand.eraseAll = s.nand.eraseAll + 1 ∧ SlotDone .media slot 1 St.ok t ∧ SelfTraffic s t ∧
      ∃ a, t.nand.anchors.head? = some a ∧ a.logical = t.med.logical ∧ a.system = s.systemChoice ∧ a.mode = (s.reg Reg.MEDIA_MAP_MODE).toNat % 2) ∧
  (∀ (slot n : Nat) (a0 a1 : W32) (body : Bytes) (s : State), s.calm = true → s.slotIdle .media slot = true →
    s.handleRead (fld a0 31 16) (64 * a1.toNat) (16 + 16 * n) = some body → n = byteAt body 0 → 0 < n → n ≤ 64 →
    (∀ c ∈ schemaCols body, c.typ ≤ 11) → ((schemaCols body).map Column.width).foldl (· + ·) 0 = fieldAt body 2 2 →
    Does (.schemaSet slot a0 a1) s [.slots, .kitty, .med] (slotRegs .media slot) fun t => SelfTraffic s t ∧
      t.med = { s.med with schemas := s.med.schemas.put (fld a0 7 0) body } ∧ SlotDone .media slot 2 St.ok t) ∧
  (∀ (slot k : Nat) (a0 a1 : W32) (r : Region) (s : State), s.calm = true → s.slotIdle .media slot = true → s.region (fld a0 31 16) = some r →
    64 * (a1.toNat + 66) ≤ r.size → s.med.rings.lowestFree (64 * fld a0 9 8) 64 = some k →
    Does (.ringAttach slot a0 a1) s [.slots, .med] (slotRegs .media slot) fun t =>
      t.med = { s.med with rings := s.med.rings.put k ⟨fld a0 31 16, a1.toNat, r.owner, fieldAt (s.rgnRead r (64 * (a1.toNat + 1)) 4) 0 4, [], none⟩ } ∧
      SlotDone .media slot 3 (256 * (k % 64)) t) ∧
  (∀ (slot k : Nat) (a0 : W32) (r : MediaRing) (s : State), s.calm = true → s.slotIdle .media slot = true → fld a0 7 0 < 64 →
    k = 64 * fld a0 9 8 + fld a0 7 0 → s.med.rings.get k = some r → (∀ q ∈ s.med.reqs, q.2.ring ≠ k) →
    Does (.ringDetach slot a0) s [.slots, .med] (slotRegs .media slot) fun t => t.med.rings.get k = none ∧ SlotDone .media slot 4 St.ok t ∧
      ∀ j, j ≠ k → t.med.rings.get j = s.med.rings.get j) ∧
  (∀ (v : W32) (c : ChanCount) (die : Nat) (s : State), s.isRunning = true → c = s.med.chans.getD (fld v 6 0) chanZero → die = 16 * fld v 6 0 + fld v 11 8 →
    Does (.mediaChSel v) s [] [Reg.MEDIA_CH_SEL, Reg.MEDIA_CH_TSTATE, Reg.MEDIA_CH_READS_LO, Reg.MEDIA_CH_READS_LO + 4, Reg.MEDIA_CH_PROGRAMS,
        Reg.MEDIA_CH_ERASES, Reg.MEDIA_CH_RETRIES, Reg.MEDIA_CH_SOFT, Reg.MEDIA_CH_UNCORR, Reg.MEDIA_CH_BAD_BLOCKS] fun t =>
      t.reg Reg.MEDIA_CH_SEL = v &&& 0xF7F ∧ t.pair Reg.MEDIA_CH_READS_LO = c.reads.toNat ∧ t.reg Reg.MEDIA_CH_PROGRAMS = c.programs ∧
      t.reg Reg.MEDIA_CH_ERASES = c.erases ∧ t.reg Reg.MEDIA_CH_RETRIES = c.retries ∧ t.reg Reg.MEDIA_CH_SOFT = c.soft ∧
      t.reg Reg.MEDIA_CH_UNCORR = c.uncorr ∧
      t.reg Reg.MEDIA_CH_TSTATE = w32 (if s.isRetired 15 die then 3 else s.nand.kinds.getD die 0) ∧
      t.reg Reg.MEDIA_CH_BAD_BLOCKS = w32 (s.nand.bad.filter fun b => b / 8192 == die).length)

/-- From R411 to R416, R431, R457. A good flit acknowledges and credits; a data flit in order is taken and at END its packet has arrived; a flit whose
CHECK fails is counted, logged and asked for again once; unacknowledged flits are sent again; a packet of one flit leaves its queue; a keepalive is
sent. Where the spec leaves a point open, a clause holds the model's own reading: log 12 and 32. -/
def Obligations.FlitsAreReceivedReplayedAndSent : Prop :=
  (∀ (l : Nat) (b : Bytes) (s : State), s.calm = true → s.linkOk l = true → (s.port l).live = true → flitOk b = true → byteAt b 0 = 1 ∨ byteAt b 0 = 2 →
    Does (.flitReceive l b) s [.link] [] fun t => PortNow l (({ s.port l with lastGood := s.now } : LinkPort).applied b) s t) ∧
  (∀ (l : Nat) (b : Bytes) (s : State), s.calm = true → s.linkOk l = true → (s.port l).live = true → flitOk b = true → byteAt b 0 = 0 →
    fieldAt b 2 2 % 4096 = (match (s.port l).rxLast with | some n => (n + 1) % 4096 | none => 0) → bitOf (byteAt b 1) 3 = true →
    bitOf (byteAt b 1) 4 = true → (s.port l).partials = [] →
    Does (.flitReceive l b) s [.link, .out] (rxFlits l) fun t => (t.port l).rxLast = some (fieldAt b 2 2 % 4096) ∧ (t.port l).asked = false ∧
      (t.port l).arrived = (s.port l).arrived ++ [(byteAt b 1 % 8, (b.drop 8).take 240)] ∧ (t.port l).lastGood = s.now ∧
      t.pair (linkReg l Reg.LINK_L_RX_FLITS_LO) = min (2 ^ 64 - 1) (s.pair (linkReg l Reg.LINK_L_RX_FLITS_LO) + 1) ∧
      ∀ k, k ≠ l → t.port k = s.port k) ∧
  (∀ (l : Nat) (b : Bytes) (s : State), s.calm = true → s.linkOk l = true → (s.port l).live = true → flitOk b = false → (s.port l).asked = false →
    s.uncrossed 0x0050 14 l = true →
    Does (.flitReceive l b) s [.host, .link, .flt, .out] [linkReg l Reg.LINK_L_CRC_ERR, Reg.FLT_IRQ_STATUS, Reg.FLT_LOG_LOST] fun t =>
      PortNow l { s.port l with asked := true } s t ∧ t.out.head? = some (.flit l (flitBytes 3 0 0 (s.port l).ackField 0 [])) ∧
      (t.reg (linkReg l Reg.LINK_L_CRC_ERR)).toNat = min 0xFFFFFFFF ((s.reg (linkReg l Reg.LINK_L_CRC_ERR)).toNat + 1)) ∧
  (∀ (l : Nat) (f : SentFlit) (rest : List SentFlit) (s : State), s.calm = true → s.linkOk l = true → (s.port l).replay = f :: rest →
    s.past (f.sent + (s.reg Reg.LINK_REPLAY_TO).toNat) = true → (s.port l).resends < 7 →
    Does (.replayTimeout l) s [.link, .out] [linkReg l Reg.LINK_L_REPLAYS] fun t =>
      PortNow l { s.port l with replay := (f :: rest).map fun f => { f with sent := s.now }, resends := (s.port l).resends + 1 } s t ∧
      t.out = ((f :: rest).map fun f => Output.flit l (flitBytes 0 f.vc f.seq (s.port l).ackField 0 f.payload)).reverse ++ s.out ∧
      (t.reg (linkReg l Reg.LINK_L_REPLAYS)).toNat = min 0xFFFFFFFF ((s.reg (linkReg l Reg.LINK_L_REPLAYS)).toNat + 1)) ∧
  (∀ (l vc n : Nat) (s : State), s.linkOk l = true → (s.port l).live = true → vc ≤ 7 → 0 < n → n ≤ (s.port l).inGen.getD vc 0 →
    Does (.creditReturn l vc false n) s [.link, .out] [] fun t => (t.port l).inGen.getD vc 0 = (s.port l).inGen.getD vc 0 - n ∧
      (∀ v, v ≠ vc → (t.port l).inGen.getD v 0 = (s.port l).inGen.getD v 0) ∧ (t.port l).inRel = (s.port l).inRel ∧
      ∀ k, k ≠ l → t.port k = s.port k) ∧
  (∀ (l vc n : Nat) (s : State), s.linkOk l = true → (s.port l).live = true → vc ≤ 7 → 0 < n → n ≤ (s.port l).inRel.getD vc 0 →
    Does (.creditReturn l vc true n) s [.link, .out] [] fun t => (t.port l).inRel.getD vc 0 = (s.port l).inRel.getD vc 0 - n ∧
      (t.port l).inGen = (s.port l).inGen ∧ ∀ k, k ≠ l → t.port k = s.port k) ∧
  (∀ (l v : Nat) (b : Bytes) (rest : List Bytes) (s : State), s.linkOk l = true → (s.port l).maySend = true → s.egressPick l = some v →
    (s.port l).queue v = b :: rest → b.length ≤ 240 → (s.port l).hasCredit v (headRelay b) = true →
    Does (.egressSelect l) s [.sched, .link, .out] (txFlits l) fun t => (t.port l).queue v = rest ∧ (t.port l).sending = none ∧
      (t.port l).replay = (s.port l).replay ++ [⟨(s.port l).txSeq, v + 8 + 16, sliceAt b 0 240, s.now⟩] ∧
      (t.port l).txSeq = ((s.port l).txSeq + 1) % 4096 ∧ (∀ k, k ≠ l → t.port k = s.port k) ∧
      t.pair (linkReg l Reg.LINK_L_TX_FLITS_LO) = min (2 ^ 64 - 1) (s.pair (linkReg l Reg.LINK_L_TX_FLITS_LO) + 1)) ∧
  (∀ (l : Nat) (s : State), s.linkOk l = true → (s.port l).live = true → (s.port l).lastKa + (s.reg Reg.LINK_KA_INTERVAL).toNat ≤ s.now →
    Does (.keepaliveSend l) s [.link, .out] [] fun t =>
      PortNow l ({ s.port l with lastKa := s.now } : LinkPort).creditField.2 s t ∧
      t.out = .flit l (flitBytes 2 0 0 (s.port l).ackField (s.port l).creditField.1 []) :: s.out)

/-- From R418, R420, R424, R628. A packet for the node that passes its checks is delivered whole; one for another node waits at the link its header
names, on its second link; a message that lacks its last packet after LINK_REASM_TO is discarded and counted. Where the spec leaves a point open, a
clause holds the model's own reading: log 33. -/
def Obligations.PacketsAreDeliveredRelayedOrDiscarded : Prop :=
  (∀ (l vc : Nat) (b e : Bytes) (s : State), s.calm = true → s.packetIn l vc b e = true → pDst e / 65536 = s.myNode → s.ton.held = none →
    pSegmented e = false → s.ownLength (pType e) (pData e) ≤ pBody e →
    Does (.packetReceive l vc) s [.link] [] fun t => t.port l = (s.port l).taken vc ∧ (∀ k, k ≠ l → t.port k = s.port k) ∧
      t.link.reasm = s.link.reasm ∧ t.link.inbox = s.link.inbox ++
        [⟨l, pType e, BitVec.ofNat 8 (byteAt e 1 % 16), w32 (pSrc e), byteAt e 15, w64 (pMp e), pTon e, pData e⟩]) ∧
  (∀ (l vc r : Nat) (b e w : Bytes) (s : State), s.calm = true → s.packetIn l vc b e = true → pDst e / 65536 ≠ s.myNode →
    w = e.take (32 + pBody e) → pHop w = 0 → pRelay w = r → r < 96 → r ≠ l → (s.port r).state = 4 → (s.port r).carries w = true →
    tonOk (pType w) (pTon w) ((s.port r).partner.elim 0 Partner.ton) = true → s.link.mute = false →
    Does (.packetReceive l vc) s [.link] [] fun t => t.port l = (s.port l).taken vc ∧ (t.port r).queue vc = (s.port r).queue vc ++ [patch w 12 [1]] ∧
      t.link.inbox = s.link.inbox ∧ ∀ k, k ≠ l → k ≠ r → t.port k = s.port k) ∧
  (∀ (l vc : Nat) (b : Bytes) (s : State), s.calm = true → s.linkOk l = true → (s.port l).live = true →
    ((s.port l).arrived.find? fun a => a.1 == vc) = some (vc, b) → b.length < 32 ∨ 16384 < pBody b ∨ b.length ≠ 240 * ((32 + pBody b + 239) / 240) →
    Does (.packetReceive l vc) s [.link] [linkReg l Reg.LINK_L_LEN_DISCARD] fun t => PortNow l ((s.port l).taken vc) s t ∧
      (t.reg (linkReg l Reg.LINK_L_LEN_DISCARD)).toNat = min 0xFFFFFFFF ((s.reg (linkReg l Reg.LINK_L_LEN_DISCARD)).toNat + 1)) ∧
  (∀ (src : W32) (id : Nat) (r : Reasm) (s : State), s.isRunning = true → s.reasm src id = some r → r.link < 96 →
    s.past (r.first + (s.reg Reg.LINK_REASM_TO).toNat) = true →
    Does (.reassemblyTimeout src id) s [.link] [linkReg r.link Reg.LINK_L_REASM_DISCARD] fun t => t.reasm src id = none ∧
      (∀ x ∈ s.link.reasm, x.src ≠ src ∨ x.msgId ≠ id → x ∈ t.link.reasm) ∧ t.link.ports = s.link.ports ∧ t.link.inbox = s.link.inbox ∧
      (t.reg (linkReg r.link Reg.LINK_L_REASM_DISCARD)).toNat = min 0xFFFFFFFF ((s.reg (linkReg r.link Reg.LINK_L_REASM_DISCARD)).toNat + 1))

/-- From R426 to R433. Carrier begins training, a trained PHY sends HELLO, a HELLO is settled, a matching HELLO_ACK brings the link up and reports
JOIN; timers send HELLO again or end training; a lost carrier or partner takes the link down and reports LEAVE; the dealer records where a link leads.
Where the spec leaves a point open, a clause holds the model's own reading: log 32 and 34. -/
def Obligations.LinksTrainSettleAndGoDown : Prop :=
  (∀ (l : Nat) (s : State), s.linkOk l = true → (s.port l).state = 0 → s.isRetired 14 l = false →
    Does (.carrierDetect l) s [.link] (portRegs l) fun t => PortNow l { s.port l with state := 1, trainAt := s.now } s t ∧
      (t.reg (linkReg l Reg.LINK_L_STATE)).toNat % 16 = 1) ∧
  (∀ (l : Nat) (s : State), s.linkOk l = true → (s.port l).state = 1 →
    Does (.phyTrained l) s [.link, .out] (portRegs l ++ txFlits l) (HelloSent l s)) ∧
  (∀ (l : Nat) (s : State), s.calm = true → s.linkOk l = true → (s.port l).state = 1 → s.past ((s.port l).trainAt + (s.reg Reg.LINK_TRAIN_TO).toNat) = true →
    Does (.linkTrainTimeout l) s [.link] (downRegs l) fun t => (t.port l).state = 0 ∧ (∀ k, k ≠ l → t.port k = s.port k) ∧
      (t.reg (linkReg l Reg.LINK_L_DOWN_EVENTS)).toNat = min 0xFFFFFFFF ((s.reg (linkReg l Reg.LINK_L_DOWN_EVENTS)).toNat + 1)) ∧
  (∀ (l : Nat) (b : Bytes) (s : State), s.calm = true → s.linkOk l = true → (s.port l).state = 2 → 128 ≤ b.length →
    Does (.hello l b) s [.link, .out] (portRegs l ++ txFlits l ++ rxFlits l) fun t => (t.port l).state = 3 ∧
      (t.port l).own = some (settle (readPartner b)) ∧ (t.port l).partner = some (readPartner b) ∧ (t.port l).node = some (readPartner b).node ∧
      (∀ k, k ≠ l → t.port k = s.port k) ∧ ∃ p, t.out = .hello l p :: s.out ∧ pType p = 2) ∧
  (∀ (l : Nat) (b : Bytes) (x : Settled) (r : Partner) (s : State), s.calm = true → s.linkOk l = true → (s.port l).state = 3 → 16 ≤ b.length →
    fieldAt b 0 4 = (s.port l).helloNo → (s.port l).own = some x → x = ⟨byteAt b 4, byteAt b 5, fieldAt b 8 8⟩ → (s.port l).partner = some r →
    s.ton.cur = none → s.mySeat ≠ some 0 →
    Does (.helloAck l b) s [.link, .ton] (Reg.LINK_EVENT_LOST :: portRegs l ++ rxFlits l) fun t =>
      (t.port l).state = (if x.major = 0 then 5 else 4) ∧ (t.port l).own = some x ∧ (t.port l).partner = some r ∧ (t.port l).txSeq = 0 ∧
      (t.port l).rxLast = none ∧ (t.port l).credGen = (r.credits.map fun u => 4 * u - 4 * u / 4) ∧
      (t.port l).credRel = (r.credits.map fun u => 4 * u / 4) ∧ (t.port l).lastGood = s.now ∧
      ∃ e, t.ton.events = [e] ∧ e.leave = false ∧ e.link = l ∧ e.nodeId = r.node ∧ e.partnerSeat = r.seat) ∧
  (∀ (l : Nat) (s : State), s.linkOk l = true → (s.port l).state = 2 ∨ (s.port l).state = 3 →
    s.past ((s.port l).helloAt + (s.reg Reg.LINK_HELLO_RETRY).toNat) = true →
    Does (.helloTimerExpiry l) s [.link, .out] (portRegs l ++ txFlits l) (HelloSent l s)) ∧
  (∀ (l : Nat) (s : State), s.calm = true → s.linkAlone l = true →
    Does (.carrierLost l) s [.host, .link, .ton, .flt, .out] ([Reg.FLT_IRQ_STATUS, Reg.FLT_LOG_LOST, Reg.LINK_EVENT_LOST] ++ downRegs l) (LinkFell l s)) ∧
  (∀ (l : Nat) (s : State), s.calm = true → s.linkAlone l = true →
    s.past ((s.port l).lastGood + (s.reg Reg.LINK_KA_INTERVAL).toNat * (s.reg Reg.LINK_KA_MISS).toNat) = true →
    Does (.keepaliveLoss l) s [.host, .link, .ton, .flt, .out]
      ([linkReg l Reg.LINK_L_KA_LOSS, Reg.FLT_IRQ_STATUS, Reg.FLT_LOG_LOST, Reg.LINK_EVENT_LOST] ++ downRegs l) fun t => LinkFell l s t ∧
        (t.reg (linkReg l Reg.LINK_L_KA_LOSS)).toNat = min 0xFFFFFFFF ((s.reg (linkReg l Reg.LINK_L_KA_LOSS)).toNat + 1)) ∧
  (∀ (e : LinkEventRec) (s : State), s.calm = true → s.isRunning = true → s.isDealer = true → e.seat ≤ 63 → e.link ≤ 95 → e.leave = false → e.kind = 0 →
    e.partnerSeat < 64 →
    Does (.linkEvent e) s [.link, .ton] [] fun t => t.ton.wires.get (128 * e.seat + e.link) = some e.partnerSeat ∧
      (∀ k, k ≠ 128 * e.seat + e.link → t.ton.wires.get k = s.ton.wires.get k) ∧ t.ton.cur = s.ton.cur ∧ t.ton.change = s.ton.change ∧
      t.link.ports = s.link.ports)

/-- From R436 to R438. The dealer proposes a map that passes its checks; a seat holds the map it received; acknowledgements are counted and with a
quorum the map is installed; a seat installs it on MAP_COMMIT; without a quorum the change is abandoned with BUSY. Where the spec leaves a point open,
a clause holds the model's own reading: log 34. -/
def Obligations.MapsAreProposedAcknowledgedAndInstalled : Prop :=
  (∀ (slot : Nat) (a0 a1 : W32) (m : Bytes) (s : State), s.calm = true → s.slotIdle .link slot = true → s.mapReady a0 a1 m = true →
    3 ≤ mapSeats (s.ton.cur.getD m) →
    Does (.mapSet slot a0 a1) s (.kitty :: .ton :: sendParts) [] fun t => SelfTraffic s t ∧ t.ton = { s.ton with change := some ⟨m, s.mySeat.toList, s.now, some slot, false⟩ } ∧
      SlotUnderWay .link slot 1 (.other 4 0 0) t) ∧
  (∀ (m : Msg) (h : Bytes) (s : State), s.calm = true → s.isRunning = true → fieldAt m.body 8 4 = 0 → h = m.body.drop 16 → fieldAt m.body 12 4 ≤ h.length →
    s.mapNow < fieldAt m.body 0 8 → (∀ x, s.ton.held = some x → mapMp x ≤ fieldAt m.body 0 8) → mapMp h = fieldAt m.body 0 8 →
    mapFieldsOk h s.myTon = true →
    Does (.mapPart m) s (.ton :: sendParts) [] fun t => t.ton = { s.ton with held := some h, parts := none }) ∧
  (∀ (seat : Nat) (mp : W64) (c : MapChange) (s : State), s.calm = true → s.isRunning = true → s.ton.change = some c → mapMp c.map = mp.toNat →
    seat < mapSeats (s.quorumMap c) → seat ∉ c.acks → 2 * (c.acks.length + 1) < mapSeats (s.quorumMap c) →
    Does (.mapAck seat mp) s [.link, .ton] [] fun t => t.ton = { s.ton with change := some { c with acks := seat :: c.acks } } ∧
      t.link.ports = s.link.ports) ∧
  (∀ (seat k : Nat) (mp : W64) (c : MapChange) (s : State), s.calm = true → s.isRunning = true → s.ton.change = some c → mapMp c.map = mp.toNat →
    seat < mapSeats (s.quorumMap c) → seat ∉ c.acks → c.takeover = false → c.slot = some k → s.slotHas .link k 1 (.other 4 0 0) = true →
    s.installsAlone c.map = true →
    mapSeats (s.quorumMap c) < 2 * (c.acks.length + 1) ∨
      (mapSeats (s.quorumMap c) = 2 * (c.acks.length + 1) ∧ mapStandby (s.quorumMap c) ∈ seat :: c.acks) →
    Does (.mapAck seat mp) s (.ton :: sendParts) [] fun t => MapCurrent c.map s t ∧ SlotDone .link k 1 St.ok t ∧
      (t.reg Reg.LINK_TON_MAP_CHANGES).toNat = min 0xFFFFFFFF ((s.reg Reg.LINK_TON_MAP_CHANGES).toNat + 1)) ∧
  (∀ (m : Msg) (h : Bytes) (s : State), s.calm = true → s.isRunning = true → s.ton.held = some h → mapMp h = fieldAt m.body 0 8 → s.ton.change = none →
    s.installsAlone h = true →
    Does (.mapCommit m) s [.link, .ton] (mapRegs ++ markRegs) fun t => MapCurrent h s t ∧ t.ton.held = none ∧ t.link.ports = s.link.ports) ∧
  (∀ (k : Nat) (c : MapChange) (s : State), s.calm = true → s.ton.change = some c → s.past (c.start + (s.reg Reg.LINK_MAP_ACK_TO).toNat) = true →
    c.slot = some k → s.slotHas .link k 1 (.other 4 0 0) = true → s.ton.edits = [] →
    Does .mapAckTimeout s [.slots, .ton] (Reg.LINK_TON_NO_QUORUM :: mapRegs ++ slotRegs .link k) fun t => t.ton = { s.ton with change := none } ∧
      SlotDone .link k 1 St.busy t ∧
      (t.reg Reg.LINK_TON_NO_QUORUM).toNat = min 0xFFFFFFFF ((s.reg Reg.LINK_TON_NO_QUORUM).toNat + 1))

/-- From R421, R422, R357, R452, R572. Windows open at the lowest number and close, a TILE writes its lines into its window's region; a link is reset;
a row request runs at the receiving node, and its reply goes to the requester; an attestation request is answered. Where the spec leaves a point open,
a clause holds the model's own reading: log 14, 24 and 33. -/
def Obligations.WindowsTilesAndRowRequests : Prop :=
  (∀ (slot n : Nat) (a0 a1 : W32) (s : State), s.calm = true → s.slotIdle .link slot = true → (s.region (fld a0 31 16)).isSome = true →
    s.link.windows.lowestFree 0 4096 = some n →
    Does (.windowOpen slot a0 a1) s [.slots, .link] (slotRegs .link slot) fun t =>
      t.link = { s.link with windows := s.link.windows.put n ⟨fld a0 31 16, a1⟩ } ∧ SlotDone .link slot 2 (65536 * n) t) ∧
  (∀ (slot n : Nat) (a0 : W32) (s : State), s.calm = true → s.slotIdle .link slot = true → n = fld a0 31 16 → n ≤ 4095 → s.link.windows.has n = true →
    Does (.windowClose slot a0) s [.slots, .link] (slotRegs .link slot) fun t => t.link.windows.has n = false ∧
      (∀ k, k ≠ n → t.link.windows.get k = s.link.windows.get k) ∧ t.link.ports = s.link.ports ∧ SlotDone .link slot 3 St.ok t) ∧
  (∀ (slot l : Nat) (a0 : W32) (s : State), s.calm = true → s.slotIdle .link slot = true → l = a0.toNat % 128 → l < 96 → (s.port l).live = false →
    Does (.linkReset slot a0) s [.slots, .link, .flt] (slotRegs .link slot ++ downRegs l) fun t => (t.port l).state = 0 ∧
      (∀ k, k ≠ l → t.port k = s.port k) ∧ t.isRetired 14 l = false ∧ t.flt.counters.get (fltKey 14 l) = none ∧ SlotDone .link slot 4 St.ok t) ∧
  (∀ (m : Msg) (w : Window) (r : Region) (s : State), s.isRunning = true → s.link.windows.get (fieldAt m.body 0 2) = some w → s.region w.handle = some r →
    16 + 64 * fieldAt m.body 8 4 ≤ m.body.length → w.endpoint = m.src → 64 * fieldAt m.body 4 4 + 64 * fieldAt m.body 8 4 ≤ r.size →
    r.readOnly = false ∨ r.owner = .system → (r.pageChecks (64 * fieldAt m.body 4 4) (64 * fieldAt m.body 8 4) true).any Prod.fst = false →
    Does (.tile m) s [.kitty, .kmem, .link] [] fun t => t.kitty = { s.kitty with classes := t.kitty.classes } ∧
      t.kmem = r.store (64 * fieldAt m.body 4 4) ((m.body.drop 16).take (64 * fieldAt m.body 8 4)) s.kmem ∧ t.link.ports = s.link.ports ∧
      t.link.windows = s.link.windows ∧ t.link.inbox = removeFirst (fun x => x == m) s.link.inbox) ∧
  (∀ (m : Msg) (s : State), s.isRunning = true → m.link < 96 → s.link.windows.get (fieldAt m.body 0 2) = none →
    Does (.tile m) s [.link] [linkReg m.link Reg.LINK_L_TYPE_DISCARD] fun t => t.link.ports = s.link.ports ∧ t.link.windows = s.link.windows ∧
      t.link.inbox = removeFirst (fun x => x == m) s.link.inbox ∧
      (t.reg (linkReg m.link Reg.LINK_L_TYPE_DISCARD)).toNat = min 0xFFFFFFFF ((s.reg (linkReg m.link Reg.LINK_L_TYPE_DISCARD)).toNat + 1)) ∧
  (∀ (m : Msg) (k row : Nat) (tb : EmbTable) (s : State), s.calm = true → s.rowAsk false m tb row = true → s.emb.runs.lowestFree 16 65536 = some k →
    Does (.rowGet m) s [.link, .emb] [] fun t => (∃ r, t.emb.runs.get k = some r ∧ r.pin = tb.pinAt s.cycle ∧
      r.reads = [⟨s.emb.nextRead, row, s.rowKind (fieldAt m.body 0 2) row (tb.pinAt s.cycle), [0], false⟩] ∧
      r.remote.any (fun x => x.dest == m.src && x.tag == fieldAt m.body 12 4) = true) ∧ t.emb.tables = s.emb.tables ∧ t.link.ports = s.link.ports) ∧
  (∀ (m : Msg) (k row o : Nat) (tb : EmbTable) (d : PlaceDesc) (s : State), s.calm = true → s.rowAsk true m tb row = true →
    s.emb.runs.lowestFree 16 65536 = some k → tb.pinAt s.cycle = tb.milepost → s.rowMoving (fieldAt m.body 0 2) row = none →
    s.rowPlace tb row (s.rowKind (fieldAt m.body 0 2) row tb.milepost) = some (d, o) → d.lost = false → d.tier ≠ 2 →
    Does (.rowPut m) s ([.smem, .emb] ++ sendParts) (geRegs k) fun t => t.emb.runs.get k = none ∧
      t.smem = d.store o (sliceAt (m.body.drop (16 + idxBytes m)) 0 tb.rowBytes) s.smem) ∧
  (∀ (m : Msg) (request : Bytes) (s : State), s.calm = true → s.isRunning = true → 68 ≤ m.body.length →
    Does (.rowData m request true) s [.link, .out] [] fun t => t.out = .rowData (fieldAt m.body 0 4) m.body :: s.out ∧ t.link.ports = s.link.ports ∧
      t.link.inbox = removeFirst (fun x => x == m) s.link.inbox) ∧
  (∀ (m : Msg) (s : State), s.calm = true → s.isRunning = true → byteAt m.body 0 = 0x20 → 36 ≤ m.body.length → m.src ≠ 0xFFFFFFFF →
    m.src.toNat / 65536 = s.myNode →
    Does (.mgmtAttest m) s sendParts [] fun t => ∃ a, t.link.inbox = removeFirst (fun x => x == m) s.link.inbox ++ [a] ∧ a.typ = 0x0D ∧
      a.src = s.myEndpoint ∧ a.body = [0x21, 0, 0, 0] ++ s.attestReport (sliceAt m.body 4 32))

/-- From R443 to R445. The dealer sends a query to the seat of its share with the fewest outstanding, and an update to the seat of its share; a seat's
answer is kept until all have come, and a part that did not answer has TIMEOUT. Where the spec leaves a point open, a clause holds the model's own
reading: log 35. -/
def Obligations.DealerSplitsQueriesAndUpdates : Prop :=
  (∀ (m : Msg) (x : Share) (n : Nat) (s : State), s.calm = true → s.isRunning = true → m.flags.getLsbD 0 = true → 64 ≤ m.body.length → s.isDealer = true →
    s.tonWindow = true → (s.ton.cur.elim [] fun k => mapShares k (qTable (dealtDesc m))) = [x] → x.lo ≤ 65535 →
    qPinGiven (dealtDesc m) = false → (s.took m).queryStatus true (dealtDesc m) .served none = St.ok → s.pickSeat x = some n →
    s.reaches (.seat n) 0x10 = true →
    Does (.dealerQuery m) s (.ton :: sendParts) [] fun t => t.ton.nextTag = s.ton.nextTag + 1 ∧
      t.ton.queries.get s.ton.nextTag = some ⟨m.src, dealtDesc m, s.now,
        s.now + (if qDeadline (dealtDesc m) = 0 then s.tntDeadline (qTenant (dealtDesc m)) else qDeadline (dealtDesc m)),
        [⟨n, [(x.lo, x.hi)], s.now, false, none, false⟩], false⟩ ∧
      t.seat n = { s.seat n with outstanding := (s.seat n).outstanding + 1, sent := (s.seat n).sent + 1 } ∧ ∀ k, k ≠ n → t.seat k = s.seat k) ∧
  (∀ (m : Msg) (x : Share) (k : Nat) (rs : List Bytes) (s : State), s.calm = true → s.isRunning = true → m.flags.getLsbD 0 = true → 64 ≤ m.body.length →
    s.isDealer = true → (s.ton.cur.elim [] fun j => mapShares j (fieldAt m.body 2 2)) = [x] → (List.range 64).filter x.has = [k] →
    State.updChecks { s with idx := { s.idx with tables := [] } } m.body = (St.ok, rs) → rs ≠ [] → (∀ r ∈ rs, opShare [x] r = some x) →
    s.reaches (.seat k) 0x18 = true →
    Does (.dealerUpdate m) s (.ton :: sendParts) [] fun t => t.ton.nextTag = s.ton.nextTag + 2 ∧ t.ton.updates.get s.ton.nextTag =
      some ⟨m.src, dealtHeader m, rs, s.now, [⟨s.ton.nextTag + 1, k, List.range rs.length, s.now, false, none, none, []⟩]⟩) ∧
  (∀ (seat n : Nat) (m : Msg) (u : DealUpdate) (p q : DealPart) (s : State), s.calm = true → s.isRunning = true → 64 ≤ m.body.length →
    s.ton.updates.find? (fun e => e.2.parts.any fun p => p.tag == fieldAt m.body 16 8 && p.seat == seat && !p.done) = some (n, u) →
    (u.parts.map (DealPart.answered m.body)).find? (fun p => p.tag == fieldAt m.body 16 8) = some p → p.ops.all (fun i => p.opStatus i != some St.moved) = true →
    q ∈ u.parts → q.tag ≠ fieldAt m.body 16 8 → q.done = false →
    Does (.updateAnswer seat m) s [.link, .ton] [] fun t =>
      t.ton = { s.ton with updates := s.ton.updates.put n { u with parts := u.parts.map (DealPart.answered m.body) } } ∧ t.link.ports = s.link.ports) ∧
  (∀ (seat n : Nat) (m : Msg) (u : DealUpdate) (p : DealPart) (s : State), s.calm = true → s.isRunning = true → 64 ≤ m.body.length →
    s.ton.updates.find? (fun e => e.2.parts.any fun p => p.tag == fieldAt m.body 16 8 && p.seat == seat && !p.done) = some (n, u) →
    u.parts = [p] → p.ops.all (fun i => (p.answered m.body).opStatus i != some St.moved) = true →
    Does (.updateAnswer seat m) s (.ton :: sendParts) [] fun t => t.ton.updates.get n = none ∧
      ∀ k, k ≠ n → t.ton.updates.get k = s.ton.updates.get k) ∧
  (∀ (n seat w : Nat) (u : DealUpdate) (q : DealPart) (s : State), s.calm = true → s.isRunning = true → s.ton.updates.get n = some u →
    w = (s.reg Reg.IDX_UPD_WAIT).toNat → u.parts.any (DealPart.isLate seat w s.now) = true → q ∈ u.parts → q.done = false →
    q.isLate seat w s.now = false →
    Does (.dealerUpdateTimeout n seat) s [.ton] [] fun t =>
      t.ton = { s.ton with updates := s.ton.updates.put n { u with parts := u.parts.map (DealPart.timed seat w s.now) } })

/-- From R446, R447, R449, R450, R453, R524. The dealer sends beats and notes a seat's; a seat that is lost leaves the map; the standby proposes
itself; waymarks go to the dealer, that keeps them and marks silent seats; a stack's loss leads to a new map; the dealer shows a selected seat. Where
the spec leaves a point open, a clause holds the model's own reading: log 34. -/
def Obligations.SeatsBeatAndShowWaymarks : Prop :=
  (∀ (m : Bytes) (s : State), s.calm = true → s.isRunning = true → s.ton.cur = some m → s.isDealer = true →
    s.ton.beatSent + (s.reg Reg.LINK_BEAT).toNat ≤ s.now →
    Does .beatSend s (.ton :: sendParts) [] fun t => t.ton = { s.ton with beatSent := s.now }) ∧
  (∀ (seat : Nat) (s : State), s.calm = true → s.isRunning = true → s.isDealer = true → seat < 64 → s.mySeat ≠ some seat →
    Does (.beat seat) s [.link, .ton] [] fun t => t.seat seat = { s.seat seat with beat := s.now } ∧ (∀ k, k ≠ seat → t.seat k = s.seat k) ∧
      t.ton.cur = s.ton.cur ∧ t.ton.change = s.ton.change ∧ t.link.ports = s.link.ports) ∧
  (∀ (seat : Nat) (s : State), s.calm = true → s.isRunning = true → s.isDealer = false → s.dealerSeat = some seat → s.mySeat ≠ some seat →
    Does (.beat seat) s (.ton :: sendParts) [] fun t => t.ton = { s.ton with dealerBeat := s.now }) ∧
  (∀ (seat : Nat) (m : Bytes) (c : MapChange) (s : State), s.calm = true → s.isRunning = true → s.isDealer = true → s.ton.cur = some m →
    s.mySeat ≠ some seat → mapLive m seat = true → s.past ((s.seat seat).beat + (s.reg Reg.LINK_SEAT_LOSS).toNat) = true → s.ton.change = some c →
    mapLive c.map seat = true → .loseSeat seat ∉ s.ton.edits →
    Does (.seatLoss seat) s [.host, .ton, .flt, .out] [Reg.FLT_IRQ_STATUS, Reg.FLT_LOG_LOST] fun t =>
      t.ton = { s.ton with edits := s.ton.edits ++ [.loseSeat seat] } ∧ ∃ r, t.flt.log.head? = some r ∧ r.code = 0x0070) ∧
  (∀ (seat : Nat) (m k : Bytes) (s : State), s.calm = true → s.isRunning = true → s.isDealer = true → s.ton.cur = some m →
    s.mySeat ≠ some seat → mapLive m seat = true → s.past ((s.seat seat).beat + (s.reg Reg.LINK_SEAT_LOSS).toNat) = true → s.ton.change = none →
    s.ton.edits = [] → 3 ≤ mapSeats m → unmaskMap seat (fun _ _ => true) (unlive seat m) ≠ m →
    k = nextMap (fun x => unmaskMap seat (fun _ _ => true) (unlive seat x)) m →
    Does (.seatLoss seat) s ([.ton, .flt] ++ sendParts) [Reg.FLT_IRQ_STATUS, Reg.FLT_LOG_LOST] fun t =>
      t.ton = { s.ton with change := some ⟨k, s.mySeat.toList, s.now, none, false⟩ }) ∧
  (∀ (m : Bytes) (me sb : Nat) (s : State), s.calm = true → s.isRunning = true → s.ton.cur = some m → s.mySeat = some me → s.isStandby = true →
    s.ton.change = none → s.past (s.ton.dealerBeat + (s.reg Reg.LINK_DEALER_LOSS).toNat) = true → 3 ≤ mapSeats m →
    (List.range (mapSeats m)).find? (fun i => mapLive m i && i != me) = some sb →
    Does .dealerLoss s (.ton :: sendParts) [] fun t =>
      t.ton = { s.ton with change := some ⟨nextMap (fun m => patch m 5 (leBytes 1 me ++ leBytes 1 sb)) m, [me], s.now, none, true⟩ }) ∧
  (∀ (d : Nat) (s : State), s.calm = true → s.isRunning = true → s.dealerSeat = some d →
    s.ton.wmSent + (s.reg Reg.LINK_WM_INTERVAL).toNat ≤ s.now ∨ s.ton.wmMilepost ≠ s.cfg.milepost →
    Does .waymarkSend s (.ton :: sendParts) [] fun t => t.ton.wmSent = s.now ∧ t.ton.wmMilepost = s.cfg.milepost ∧ t.ton.cur = s.ton.cur ∧
      (s.mySeat = some d → (t.seat d).waymark = sliceAt s.cfg.waymark 0 64)) ∧
  (∀ (seat : Nat) (mp : W64) (w : Bytes) (s : State), s.isRunning = true → s.isDealer = true → seat < 64 →
    Does (.waymark seat mp w) s [.link, .ton] markRegs fun t => (t.seat seat).waymark = sliceAt w 0 64 ∧ (t.seat seat).milepost = mp.toNat ∧
      (t.seat seat).wmLtc = s.now ∧ bitOf (t.pair Reg.LINK_TON_SILENT_LO) seat = false ∧ (∀ k, k ≠ seat → t.seat k = s.seat k) ∧
      t.link.ports = s.link.ports) ∧
  (∀ (seat : Nat) (m : Bytes) (s : State), s.isRunning = true → s.isDealer = true → s.ton.cur = some m → seat < mapSeats m → seat < 64 →
    s.past ((s.seat seat).wmLtc + 2 ^ 31) = true →
    Does (.waymarkSilent seat) s [] [Reg.LINK_TON_SILENT_LO, Reg.LINK_TON_SILENT_LO + 4] fun t => bitOf (t.pair Reg.LINK_TON_SILENT_LO) seat = true ∧
      ∀ k, k ≠ seat → k < 64 → bitOf (t.pair Reg.LINK_TON_SILENT_LO) k = bitOf (s.pair Reg.LINK_TON_SILENT_LO) k) ∧
  (∀ (seat : Nat) (b : Bytes) (c : MapChange) (ts : List Nat) (s : State), s.calm = true → s.isRunning = true → s.isDealer = true → byteAt b 0 = 0x10 →
    seat < 64 → s.ton.change = some c → ts = (List.range (fieldAt b 2 2)).map (fun i => fieldAt b (8 + 2 * i) 2) → .loseTables seat ts ∉ s.ton.edits →
    Does (.faultNotice seat b) s [.link, .ton] [] fun t => t.ton = { s.ton with edits := s.ton.edits ++ [.loseTables seat ts] } ∧
      t.link.ports = s.link.ports) ∧
  (∀ (v : W32) (n : Nat) (s : State), s.isRunning = true → n = v.toNat % 64 →
    Does (.linkTonSeatSel v) s [.ton] seatRegs fun t => t.ton = s.rollTon.ton ∧ t.reg Reg.LINK_TON_SEAT_SEL = w32 n ∧
      t.reg Reg.LINK_TON_SEAT_QSENT = s.seatShown n (t.seat n).lastSent ∧ t.reg Reg.LINK_TON_SEAT_QMISSING = s.seatShown n (t.seat n).lastMissing ∧
      t.reg Reg.LINK_TON_SEAT_LAT = s.seatShown n (t.seat n).lastLat ∧ t.reg Reg.LINK_TON_SEAT_MOVED = s.seatShown n (t.seat n).moved.toNat ∧
      ∀ m, s.ton.cur = some m → (t.reg Reg.LINK_TON_SEAT_STATE).toNat % 16 = (s.seatShown n (mapRole m n % 16)).toNat)

/-- From R461 to R465. At a refill time every shaped bucket gains RATE up to BURST and a pending shaper is in force; a gate entry that has held for
its DURATION gives way to the next; a pending gate list takes over at its start. Where the spec leaves a point open, a clause holds the model's own
reading: log 39. -/
def Obligations.BucketsRefillAndGatesTurn : Prop :=
  (∀ (p : Point) (s : State), s.isRunning = true → s.pointOk p = true → s.now % refillPeriod p = 0 → (s.point p).lastRefill ≠ s.now + 1 →
    Does (.bucketRefill p) s [.sched] [Reg.SCHED_CLIPS] fun t => (t.point p).lastRefill = s.now + 1 ∧ (t.point p).gates = (s.point p).gates ∧
      (t.point p).queues.length = (s.point p).queues.length ∧ (∀ r, pointKey r ≠ pointKey p → t.point r = s.point r) ∧
      ∀ (q : Nat) (x : SchedQueue), (s.point p).queues[q]? = some x →
        (x.change = none → x.rate = unshaped → (t.point p).queues[q]? = some x) ∧
        (x.change = none → x.rate ≠ unshaped →
          (t.point p).queues[q]? = some { x with level := min (x.level + (x.rate : Int)) (256 * (x.burst : Int)) }) ∧
        ∀ r b w, x.change = some (r, b, w) →
          ∃ y : SchedQueue, (t.point p).queues[q]? = some y ∧ y.rate = r ∧ y.burst = b ∧ y.weight = w ∧ y.change = none ∧
            (r ≠ unshaped → y.level = min ((if x.rate = unshaped then 0 else x.level) + (r : Int)) (256 * (b : Int))) ∧ (r = unshaped → y.level = 0)) ∧
  (∀ (p : Point) (g : Nat × Nat) (s : State), s.isRunning = true → (s.point p).gates[(s.point p).entry]? = some g → (s.point p).entryStart + g.1 ≤ s.now →
    Does (.gateEntryChange p) s [.sched] [] (PointNow p ((s.point p).nextEntry g.1) s)) ∧
  (∀ (p : Point) (start : Nat) (l : List (Nat × Nat)) (s : State), s.isRunning = true → (s.point p).nextGates = some (start, l) → start ≤ s.now →
    Does (.gateTakeover p) s [.sched] [Reg.SCHED_GATE_TAKEOVERS] fun t =>
      PointNow p { (s.point p).gatesChange start with gates := l, entry := 0, entryStart := start, nextGates := none } s t ∧
      (t.reg Reg.SCHED_GATE_TAKEOVERS).toNat = min 0xFFFFFFFF ((s.reg Reg.SCHED_GATE_TAKEOVERS).toNat + 1))

/-- From R460 to R462, R465, R472, R476. SET_SHAPER takes effect at the next refill or, accepted on the LTC value of one, at that one; SET_GATES makes
a list pending, CANCEL_GATES discards it and SET_QUOTA sets a limit; each is a live change of the configuration. Where the spec leaves a point open, a
clause holds the model's own reading: log 39. -/
def Obligations.SchedulingCommandsChangeThePoint : Prop :=
  (∀ (slot q : Nat) (p : Point) (a0 a1 a2 : W32) (s : State), s.calm = true → s.slotIdle .sched slot = true → pointOf a0.toNat = (p, q) →
    s.pointOk p = true → (s.point p).lastRefill ≠ s.now + 1 → 2 ≤ q → 0 < fld a2 15 0 → 0 < fld a2 23 16 →
    Does (.setShaper slot a0 a1 a2) s [.cfg, .slots, .sched] (slotRegs .sched slot) fun t => 
      PointNow p ((s.point p).withChange q (a1.toNat, fld a2 15 0, fld a2 23 16)) s t ∧
      ChangeAccepted s t ∧ SlotDone .sched slot 1 St.ok t) ∧
  (∀ (slot q : Nat) (p : Point) (a0 a1 a2 : W32) (s : State), s.calm = true → s.slotIdle .sched slot = true → pointOf a0.toNat = (p, q) →
    s.pointOk p = true → (s.point p).lastRefill ≠ s.now + 1 → q < 2 → 0 < fld a2 15 0 → 0 < ((s.point p).queue q).weight →
    (match p with | .link _ => a1.toNat ≠ unshaped ∧ a1.toNat + ((s.point p).queue (1 - q)).planned ≤ 75000 | .tenant _ => True) →
    Does (.setShaper slot a0 a1 a2) s [.cfg, .slots, .sched] (slotRegs .sched slot) fun t => 
      PointNow p ((s.point p).withChange q (a1.toNat, fld a2 15 0, ((s.point p).queue q).weight)) s t ∧
      ChangeAccepted s t ∧ SlotDone .sched slot 1 St.ok t) ∧
  (∀ (slot q : Nat) (p : Point) (x : SchedQueue) (a0 a1 a2 : W32) (s : State), s.calm = true → s.slotIdle .sched slot = true →
    pointOf a0.toNat = (p, q) → s.pointOk p = true → (s.point p).lastRefill = s.now + 1 → 2 ≤ q → 0 < fld a2 15 0 → 0 < fld a2 23 16 →
    (s.point p).queues[q]? = some x → x.rate ≠ unshaped → a1.toNat ≠ unshaped →
    Does (.setShaper slot a0 a1 a2) s [.cfg, .slots, .sched] (Reg.SCHED_CLIPS :: slotRegs .sched slot) fun t =>
      (∃ y : SchedQueue, (t.point p).queues[q]? = some y ∧ y.rate = a1.toNat ∧ y.burst = fld a2 15 0 ∧ y.weight = fld a2 23 16 ∧ y.change = none ∧
        y.level = min ((s.point p).before.getD q 0 + (a1.toNat : Int)) (256 * (fld a2 15 0 : Int))
          - (min ((s.point p).before.getD q 0 + (x.rate : Int)) (256 * (x.burst : Int)) - x.level)) ∧
      (∀ k, k ≠ q → (t.point p).queues[k]? = (s.point p).queues[k]?) ∧ (t.point p).lastRefill = (s.point p).lastRefill ∧
      (∀ r, pointKey r ≠ pointKey p → t.point r = s.point r) ∧ ChangeAccepted s t ∧ SlotDone .sched slot 1 St.ok t) ∧
  (∀ (slot q n start : Nat) (p : Point) (b : Bytes) (a0 a1 a2 a3 a4 : W32) (s : State), s.calm = true → s.slotIdle .sched slot = true →
    pointOf a0.toNat = (p, q) → s.pointOk p = true → n = fld a1 6 0 → n ≤ 64 → start = a2.toNat + 2 ^ 32 * a3.toNat → s.now < start → start ≤ s.now + 2 ^ 42 →
    n = 0 ∨ s.handleRead (fld a1 31 16) (64 * a4.toNat) (8 * n) = some b → (∀ g ∈ readGates n b, g.1 ≠ 0) →
    Does (.setGates slot a0 a1 a2 a3 a4) s [.cfg, .slots, .kitty, .sched] (Reg.SCHED_GATE_SUPERSEDED :: slotRegs .sched slot) fun t =>
      SelfTraffic s t ∧ PointNow p { s.point p with nextGates := some (start, readGates n b) } s t ∧ ChangeAccepted s t ∧ SlotDone .sched slot 2 St.ok t ∧
      (t.reg Reg.SCHED_GATE_SUPERSEDED).toNat =
        min 0xFFFFFFFF ((s.reg Reg.SCHED_GATE_SUPERSEDED).toNat + if (s.point p).nextGates.isSome then 1 else 0)) ∧
  (∀ (slot q n : Nat) (p : Point) (b : Bytes) (a0 a1 a2 a3 a4 : W32) (s : State), s.calm = true → s.slotIdle .sched slot = true →
    pointOf a0.toNat = (p, q) → s.pointOk p = true → n = fld a1 6 0 → n ≤ 64 → a2.toNat + 2 ^ 32 * a3.toNat = s.now →
    n = 0 ∨ s.handleRead (fld a1 31 16) (64 * a4.toNat) (8 * n) = some b → (∀ g ∈ readGates n b, g.1 ≠ 0) →
    Does (.setGates slot a0 a1 a2 a3 a4) s [.cfg, .slots, .kitty, .sched] (Reg.SCHED_GATE_SUPERSEDED :: Reg.SCHED_GATE_TAKEOVERS :: slotRegs .sched slot) fun t =>
      SelfTraffic s t ∧ PointNow p { (s.point p).gatesChange s.now with gates := readGates n b, entry := 0, entryStart := s.now, nextGates := none } s t ∧ ChangeAccepted s t ∧
      SlotDone .sched slot 2 St.ok t) ∧
  (∀ (slot q : Nat) (p : Point) (a0 : W32) (s : State), s.calm = true → s.slotIdle .sched slot = true → pointOf a0.toNat = (p, q) → s.pointOk p = true →
    Does (.cancelGates slot a0) s [.cfg, .slots, .sched] (slotRegs .sched slot) fun t =>
      PointNow p { s.point p with nextGates := none } s t ∧ ChangeAccepted s t ∧ SlotDone .sched slot 3 St.ok t) ∧
  (∀ (slot q : Nat) (o : Owner) (a0 a1 a2 : W32) (s : State), s.calm = true → s.slotIdle .sched slot = true → ownerOf a0.toNat = some o →
    s.holderOk o = true → fld a0 19 16 ≤ 4 → q = a1.toNat + 2 ^ 32 * a2.toNat → q ≤ quotaMax (fld a0 19 16) →
    Does (.setQuota slot a0 a1 a2) s [.cfg, .slots, .quota] (slotRegs .sched slot) fun t =>
      t.quota = { s.quota with limits := s.quota.limits.put (quotaKey o (fld a0 19 16)) q, before := s.quota.before.put (quotaKey o (fld a0 19 16)) (s.cycle, s.quotaChecked o (fld a0 19 16)) } ∧ ChangeAccepted s t ∧ SlotDone .sched slot 4 St.ok t)

/-- From R482 to R485, R500. FORM and CHANGE check a descriptor, move units, sequencers and quotas and wait until every unit is cleared; then the
composition is live and the command completes; RECLAIM halts it and returns it, its regions freed. Where the spec leaves a point open, a clause holds
the model's own reading: log 36. -/
def Obligations.CompositionsFormChangeAndAreReclaimed : Prop :=
  (∀ (slot id : Nat) (a0 a1 : W32) (d : Bytes) (s : State), s.calm = true → s.slotIdle .lend slot = true → s.formable a0 a1 d = true → id = fieldAt d 2 2 →
    Does (.form slot a0 a1) s movesParts [] fun t => (∃ h, t.comp id = some (newComp d h slot) ∧ ∃ r, t.region h = some r ∧ r.owner = .comp id) ∧
      SlotUnderWay .lend slot 1 (.other 1 id 0) t ∧ QuotasOf id d t ∧ (∀ k, k ≠ id → t.comp k = s.comp k) ∧
      (∀ u ∈ dUnits d, (t.engine u.1 u.2).clearing = some (.comp id)) ∧ ∀ q ∈ dSeqs d, (t.seqCore q).owner = .comp id) ∧
  (∀ (slot id : Nat) (a0 a1 : W32) (d : Bytes) (c : Comp) (s : State), s.calm = true → s.slotIdle .lend slot = true → s.changeable a0 a1 d c = true →
    id = fieldAt d 2 2 →
    Does (.change slot a0 a1) s movesParts [] fun t => (∃ x, t.comp id = some x ∧ x.desc = d ∧ x.state = 2 ∧ x.slot = some slot ∧ x.begun = c.begun ∧
      x.items = c.items ∧ x.keeper = c.keeper ∧ x.lose = c.lose) ∧ SlotUnderWay .lend slot 2 (.other 2 id 0) t ∧ QuotasOf id d t ∧
      (∀ k, k ≠ id → t.comp k = s.comp k) ∧ ∀ u ∈ dUnits d, u ∉ dUnits c.desc → (t.engine u.1 u.2).clearing = some (.comp id)) ∧
  (∀ (id k : Nat) (c : Comp) (r : Region) (s : State), s.calm = true → s.comp id = some c → c.state = 2 → s.clearing id = false → c.slot = some k →
    s.slotHas .lend k 1 (.other 1 id 0) = true → s.region c.region = some r →
    Does (.compositionNotice id) s [.slots, .kitty, .kmem, .lend] (Reg.LEND_FORMED :: slotRegs .lend k ++ syncNamed (byteAt c.desc 84) (byteAt c.desc 85)) fun t =>
      t.kitty = { s.kitty with classes := t.kitty.classes } ∧ (byteAt c.desc 84 < 8 → t.reg (syncOff (byteAt c.desc 84) (byteAt c.desc 85 % 64)) =
        s.signalled (.comp id) (byteAt c.desc 84) (byteAt c.desc 85 % 64)) ∧
      t.comp id = some { c with state := 1, slot := none } ∧ t.kmem = r.store (64 * 66) ({ c with state := 1 } : Comp).status s.kmem ∧
      SlotDone .lend k 1 (c.region * 65536) t ∧ (t.reg Reg.LEND_FORMED).toNat = min 0xFFFFFFFF ((s.reg Reg.LEND_FORMED).toNat + 1)) ∧
  (∀ (id k : Nat) (c : Comp) (r : Region) (s : State), s.calm = true → s.comp id = some c → c.state = 2 → s.clearing id = false → c.slot = some k →
    s.slotHas .lend k 2 (.other 2 id 0) = true → s.region c.region = some r →
    Does (.compositionNotice id) s [.slots, .kitty, .kmem, .lend] (slotRegs .lend k ++ syncNamed (byteAt c.desc 84) (byteAt c.desc 85)) fun t =>
      t.kitty = { s.kitty with classes := t.kitty.classes } ∧ (byteAt c.desc 84 < 8 → t.reg (syncOff (byteAt c.desc 84) (byteAt c.desc 85 % 64)) =
        s.signalled (.comp id) (byteAt c.desc 84) (byteAt c.desc 85 % 64)) ∧
      t.kmem = r.store (64 * 66) ({ c with state := 1, changes := c.changes + 1 } : Comp).status s.kmem ∧
      t.comp id = some { c with state := 1, changes := c.changes + 1, slot := none } ∧ SlotDone .lend k 2 St.ok t) ∧
  (∀ (slot id ms : Nat) (a0 a2 : W32) (c : Comp) (s : State), s.calm = true → s.slotIdle .lend slot = true → id = a0.toNat % 65536 → s.comp id = some c →
    c.state = 1 → c.training = false → c.slot = none → c.items = [] → c.detour = false → s.qry.queries = [] → ms = fld a2 15 0 → ms ≤ 60000 →
    Does (.reclaim slot a0 a2) s [.slots, .bus, .eng, .emb, .lend, .reg .cd, .reg .lend, .reg .stack] [] fun t =>
      SlotUnderWay .lend slot 3 (.other 3 id 0) t ∧ (∃ x, t.comp id = some x ∧ x.state = 3 ∧ x.reason = 1 ∧ x.reclaimFrom = s.now ∧
        x.deadline = s.now + 100000 * (if ms = 0 then (s.reg Reg.LEND_RECLAIM_DL).toNat else ms) ∧ x.closed = true) ∧
      ∀ u ∈ dUnits c.desc, (s.engine u.1 u.2).owner = .comp id → (t.engine u.1 u.2).clearing = some .system) ∧
  (∀ (id : Nat) (c : Comp) (s : State), s.calm = true → s.comp id = some c → c.state = 3 → c.closed = false → s.past c.deadline = true →
    Does (.reclaimDeadline id) s ([.bus, .eng, .emb, .lend, .reg .cd, .reg .stack] ++ sendParts) [] fun t => t.comp id = some { c with closed := true } ∧
      (∀ k, k ≠ id → t.comp k = s.comp k) ∧
      ∀ u ∈ dUnits c.desc, (s.engine u.1 u.2).owner = .comp id → (t.engine u.1 u.2).clearing = some .system) ∧
  (∀ (id k : Nat) (c : Comp) (s : State), s.calm = true → s.comp id = some c → c.state = 3 → c.closed = true → s.clearing id = false → c.slot = some k →
    s.slotHas .lend k 3 (.other 3 id 0) = true →
    Does (.reclaimDone id) s [.slots, .kitty, .bus, .quota, .sched, .lend, .reg .lend] [] fun t => SlotDone .lend k 3 St.ok t ∧
      (∃ x, t.comp id = some x ∧ x.state = 4 ∧ x.items = []) ∧ (∀ e ∈ t.kitty.regions, e ∈ s.kitty.regions ∧ e.2.owner ≠ .comp id) ∧
      t.quota.limits.get (quotaKey (.comp id) 0) = some 0 ∧ t.quota.limits.get (quotaKey (.comp id) 1) = some 0 ∧
      t.quota.limits.get (quotaKey (.comp id) 2) = some 0)

/-- From R486 to R489. STEP_BEGIN opens the next step where the gate lets it, or waits for it; PUSH copies an object into the push buffer; STEP_END
closes the step with the count of its objects. Where the spec leaves a point open, a clause holds the model's own reading: log 37. -/
def Obligations.PushRingsServeSteps : Prop :=
  (∀ (id : Nat) (c : Comp) (b : Bytes) (s : State), s.ringAsks id 1 c b = true → fieldAt b 8 8 = c.begun + 1 → c.begun + 1 ≤ c.secured + dLose c.desc →
    Does (.stepBegin id) s [.kitty, .kmem, .lend] (syncNamed (byteAt b 4) (byteAt b 5)) fun t => t.kitty = { s.kitty with classes := t.kitty.classes } ∧
      (∀ a, outside (s.region c.region) a → Mem.read t.kmem a = Mem.read s.kmem a) ∧ ∃ x, t.comp id = some x ∧ x.begun = c.begun + 1 ∧
      x.openStep = true ∧ x.objects = [] ∧ x.formed = true ∧ x.waiting = none ∧ x.keeper = dKeeper c.desc ∧ x.lose = dLose c.desc ∧
      x.pdDetour = dDetour c.desc ∧ x.items = c.items) ∧
  (∀ (id at_ : Nat) (c : Comp) (r : Region) (b : Bytes) (s : State), s.isRunning = true → s.comp id = some c → c.state = 1 → c.training = true →
    c.waiting = none → s.ringEntry c = some (r, at_, b) → byteAt b 0 = 1 → s.ctrRefused (.comp id) (byteAt b 4) (byteAt b 5 % 64) = true →
    Does (.stepBegin id) s [.kitty, .kmem] [] fun t => t.kitty = { s.kitty with classes := t.kitty.classes } ∧
      ∀ a, outside (s.region c.region) a → Mem.read t.kmem a = Mem.read s.kmem a) ∧
  (∀ (id : Nat) (c : Comp) (b : Bytes) (s : State), s.ringAsks id 1 c b = true → fieldAt b 8 8 = c.begun + 1 → c.secured + dLose c.desc < c.begun + 1 →
    Does (.stepBegin id) s [.kitty, .lend] [] fun t => t.kitty = { s.kitty with classes := t.kitty.classes } ∧ ∃ x, t.comp id = some x ∧ x.begun = c.begun ∧ x.openStep = c.openStep ∧ x.waiting = some s.now ∧
      x.items = c.items) ∧
  (∀ (id w at_ : Nat) (c : Comp) (r : Region) (b : Bytes) (s : State), s.isRunning = true → s.comp id = some c → c.waiting = some w →
    c.begun + 1 ≤ c.secured + c.lose → s.ringEntry c = some (r, at_, b) →
    Does (.stepBeginRelease id) s [.kitty, .kmem, .lend] (syncNamed (byteAt b 4) (byteAt b 5)) fun t => t.kitty = { s.kitty with classes := t.kitty.classes } ∧
      (∀ a, outside (s.region c.region) a → Mem.read t.kmem a = Mem.read s.kmem a) ∧ ∃ x, t.comp id = some x ∧ x.begun = c.begun + 1 ∧
      x.openStep = true ∧ x.objects = [] ∧ x.waiting = none ∧ x.gateStall = satAdd32 c.gateStall (s.now - w) ∧ x.items = c.items) ∧
  (∀ (id a : Nat) (c : Comp) (b : Bytes) (p : PlaceDesc) (g : Region) (s : State), s.calm = true → s.ringAsks id 2 c b = true → s.pushable id c b a p = true →
    c.direct = true → s.region (fieldAt b 18 2) = some g →
    Does (.push id) s ([.kitty, .kmem, .smem, .lend] ++ sendParts) (syncNamed (byteAt b 4) (byteAt b 5)) fun t => t.kitty = { s.kitty with classes := t.kitty.classes } ∧
      (∀ a, outside (s.region c.region) a → outside (s.service 6) a → Mem.read t.kmem a = Mem.read s.kmem a) ∧
      t.smem = p.store a (s.rgnRead g (64 * fieldAt b 20 4) (fieldAt b 32 8)) s.smem ∧ ∃ x, t.comp id = some x ∧
      x.objects = c.objects ++ [fieldAt b 16 2] ∧ x.openStep = true ∧ ∃ i ∈ x.items, i.stepRec = false ∧ i.object = fieldAt b 16 2 ∧ i.step = c.begun ∧
        i.place = a ∧ i.bytes = fieldAt b 32 8 ∧ i.acked = false) ∧
  (∀ (id : Nat) (c : Comp) (b : Bytes) (s : State), s.calm = true → s.ringAsks id 3 c b = true → c.openStep = true → fieldAt b 8 8 = c.begun →
    c.direct = true →
    Does (.stepEnd id) s ([.kitty, .kmem, .lend] ++ sendParts) (syncNamed (byteAt b 4) (byteAt b 5)) fun t => t.kitty = { s.kitty with classes := t.kitty.classes } ∧
      (∀ a, outside (s.region c.region) a → Mem.read t.kmem a = Mem.read s.kmem a) ∧ ∃ x, t.comp id = some x ∧ x.openStep = false ∧
      x.begun = c.begun ∧ ∃ i ∈ x.items, i.stepRec = true ∧ i.step = c.begun ∧ i.bytes = c.objects.length ∧ i.acked = false)

/-- From R492 to R496, R498, R506. Keeps open at the lowest number and close; a keep's step is restored; a pushed object is written with its directory
entry, a STEP record secures its step; an acknowledgement releases the shadow it outranks and secures a step; an overdue item is offered again; the
keeper is probed; the selectors show the selected. Where the spec leaves a point open, a clause holds the model's own reading: log 37. -/
def Obligations.KeepsHoldAndAcknowledgeItems : Prop :=
  (∀ (slot n : Nat) (a0 a1 : W32) (b : Bytes) (p : PlaceDesc) (s : State), s.calm = true → s.slotIdle .lend slot = true →
    s.handleRead (fld a0 31 16) (64 * a1.toNat) 64 = some b → 0 < fieldAt b 12 4 → fieldAt b 12 4 ≤ 4096 → 0 < fieldAt b 16 8 → fieldAt b 16 8 % 4096 = 0 →
    fieldAt b 4 2 ≠ 0 → s.pds.get (fieldAt b 8 4) = some p → p.kind = 5 → 2 * fieldAt b 12 4 * fieldAt b 16 8 + 64 * fieldAt b 12 4 ≤ p.length →
    s.lend.keeps.lowestFree 0 64 = some n →
    Does (.keepOpen slot a0 a1) s [.slots, .kitty, .lend] (slotRegs .lend slot) fun t => SelfTraffic s t ∧
      t.lend = { s.lend with keeps := s.lend.keeps.put n (openedKeep b) } ∧ SlotDone .lend slot 4 (65536 * n) t) ∧
  (∀ (slot n : Nat) (a0 : W32) (s : State), s.calm = true → s.slotIdle .lend slot = true → n = a0.toNat % 65536 → n ≤ 63 → s.lend.keeps.has n = true →
    Does (.keepClose slot a0) s [.slots, .lend] (slotRegs .lend slot) fun t => t.keep n = none ∧ (∀ k, k ≠ n → t.keep k = s.keep k) ∧
      t.lend.comps = s.lend.comps ∧ (∀ r ∈ t.lend.restores, r.keep ≠ n) ∧ SlotDone .lend slot 5 St.ok t) ∧
  (∀ (slot n : Nat) (a0 a1 : W32) (k : Keep) (s : State), s.calm = true → s.slotIdle .lend slot = true → n = a0.toNat % 65536 → n ≤ 63 → s.keep n = some k →
    Does (.restore slot a0 a1) s (.lend :: sendParts) (slotRegs .lend slot) fun t => SlotDone .lend slot 6 St.ok t ∧ t.lend.keeps = s.lend.keeps ∧
      t.lend.comps = s.lend.comps ∧ ∃ r, t.lend.restores = s.lend.restores ++ [r] ∧ r.keep = n ∧ r.comp = k.comp ∧ r.dest = a1 ∧ r.secured = k.secured) ∧
  (∀ (n j : Nat) (m : Msg) (k : Keep) (p : PlaceDesc) (s : State), s.calm = true → s.isRunning = true → s.keepFor m = some (n, k) → s.keepable m k = true →
    s.pds.get k.pd = some p → p.tier ≠ 2 → j = s.freeSlotOf k (fieldAt m.body 4 4) →
    Does (.statePush m) s ([.smem, .lend] ++ sendParts) [] fun t =>
      t.keep n = some { k with partials := k.partials.del (fieldAt m.body 4 4) } ∧ t.lend.comps = s.lend.comps ∧
      t.smem = p.store (k.dirAt (fieldAt m.body 4 4) j)
        (dirEntry (fieldAt m.body 8 8) (fieldAt m.body 16 8) (fieldAt m.body 32 4) (fieldAt m.body 40 4))
        (p.store ((2 * fieldAt m.body 4 4 + j) * k.slotBytes) (sliceAt m.body 64 (fieldAt m.body 32 4)) s.smem)) ∧
  (∀ (n : Nat) (m : Msg) (k : Keep) (p : PlaceDesc) (s : State), s.calm = true → s.isRunning = true → s.keepFor m = some (n, k) → byteAt m.body 0 = 1 →
    fieldAt m.body 8 8 = k.secured + 1 → s.pds.get k.pd = some p → p.tier ≠ 2 →
    fieldAt m.body 36 4 ≤ ((List.range k.objects).filter fun i => (s.keptAt k i (k.secured + 1)).isSome).length →
    Does (.statePush m) s ([.smem, .lend] ++ sendParts) [] fun t => t.keep n = some { k with secured := k.secured + 1 } ∧
      t.lend.comps = s.lend.comps) ∧
  (∀ (m : Msg) (s : State), s.calm = true → s.isRunning = true → s.keepFor m = none →
    Does (.statePush m) s [.link] [Reg.LEND_K_DISCARDS] fun t => t.link.inbox = removeFirst (fun x => x == m) s.link.inbox ∧
      (t.reg Reg.LEND_K_DISCARDS).toNat = min 0xFFFFFFFF ((s.reg Reg.LEND_K_DISCARDS).toNat + 1)) ∧
  (∀ (id : Nat) (m : Msg) (c : Comp) (x : PushItem) (s : State), s.calm = true → s.isRunning = true → s.lend.restores = [] → id = fieldAt m.body 2 2 →
    s.comp id = some c → c.state = 1 → c.keeper = m.src → c.closed = false → c.direct = true → c.items = [x] → byteAt m.body 0 = St.ok →
    x.offered ≤ fieldAt m.body 16 8 → ackFor m.body x = true → x.stepRec = false →
    Does (.stateAck m) s [.link, .lend] [] fun t => t.comp id = some { c with items := [x.released] } ∧ t.lend.keeps = s.lend.keeps) ∧
  (∀ (id : Nat) (m : Msg) (c : Comp) (x : PushItem) (s : State), s.calm = true → s.isRunning = true → s.lend.restores = [] → id = fieldAt m.body 2 2 →
    s.comp id = some c → c.state = 1 → c.keeper = m.src → c.closed = false → c.direct = true → c.items = [x] → byteAt m.body 0 = St.ok →
    x.offered ≤ fieldAt m.body 16 8 → ackFor m.body x = true → x.stepRec = true →
    Does (.stateAck m) s [.link, .lend] [] fun t => t.comp id = some { c with items := [], secKeeper := x.step } ∧ t.lend.keeps = s.lend.keeps) ∧
  (∀ (id : Nat) (c : Comp) (x : PushItem) (s : State), s.calm = true → s.isRunning = true → s.lend.restores = [] → s.comp id = some c → c.state = 1 →
    c.closed = false → c.direct = true → c.items = [x] → x.logged = false → c.ownSeq ≠ 0 → x.overdue (s.reg Reg.LEND_HANDOFF_TO).toNat s.now = true →
    Does (.handoffTimeout id) s (.lend :: sendParts) [] fun t => ∃ y, t.comp id = some y ∧ y.repush = satAdd32 c.repush 1 ∧ y.ownSeq = c.ownSeq + 1 ∧
      y.items = [{ x with offered := c.ownSeq, sent := s.now, again := x.again + 1 }] ∧ y.begun = c.begun ∧ y.secKeeper = c.secKeeper) ∧
  (∀ (id : Nat) (c : Comp) (s : State), s.calm = true → s.isRunning = true → s.comp id = some c → c.live = true → c.closed = false → c.detour = true →
    c.probed + (s.reg Reg.LEND_PROBE).toNat ≤ s.now →
    Does (.keeperProbe id) s (.lend :: sendParts) [] fun t => t.lend = { s.lend with comps := s.lend.comps.put id { c with probed := s.now } }) ∧
  (∀ (v : W32) (id : Nat) (s : State), s.isRunning = true → id = v.toNat % 65536 →
    Does (.lendCSel v) s [] lendCRegs fun t => t.reg Reg.LEND_C_SEL = w32 id ∧ (t.reg Reg.LEND_C_STATE).toNat % 256 = s.compField id Comp.state % 256 ∧
      t.reg Reg.LEND_C_REASON = w32 (s.compField id Comp.reason) ∧ t.pair Reg.LEND_C_BEGUN_LO = s.compField id Comp.begun % 2 ^ 64 ∧
      t.pair Reg.LEND_C_SEC_KEEPER_LO = s.compField id Comp.secKeeper % 2 ^ 64 ∧ t.pair Reg.LEND_C_SEC_LOCAL_LO = s.compField id Comp.secLocal % 2 ^ 64 ∧
      t.pair Reg.LEND_C_OWN_SEQ_LO = s.compField id Comp.ownSeq % 2 ^ 64 ∧
      t.pair Reg.LEND_C_PUSH_BYTES_LO = s.compField id (fun c => c.pushBytes.toNat) ∧ t.reg Reg.LEND_C_ME_MASK = w32 (s.compField id fun c => fieldAt c.desc 8 4) ∧
      t.reg Reg.LEND_C_REPUSH = w32 (s.compField id fun c => c.repush.toNat) ∧ t.reg Reg.LEND_C_DETOURS = w32 (s.compField id fun c => c.detours.toNat) ∧
      t.reg Reg.LEND_C_ACK_STALE = w32 (s.compField id fun c => c.ackStale.toNat) ∧ t.reg Reg.LEND_C_RECLAIM_LTC = w32 (s.compField id Comp.reclaimLtc) ∧
      t.reg Reg.LEND_C_GATE_STALL = w32 (s.compField id fun c => (satAdd32 c.gateStall (c.waiting.elim 0 fun w => s.now - w)).toNat)) ∧
  (∀ (v : W32) (n : Nat) (s : State), s.isRunning = true → n = v.toNat % 64 →
    Does (.lendKSel v) s [] [Reg.LEND_K_SEL, Reg.LEND_K_STATE, Reg.LEND_K_SECURED_LO, Reg.LEND_K_SECURED_LO + 4] fun t => t.reg Reg.LEND_K_SEL = w32 n ∧
      t.reg Reg.LEND_K_STATE = w32 ((s.keep n).elim 0 fun k => 2 ^ 31 + k.comp) ∧
      t.pair Reg.LEND_K_SECURED_LO = ((s.keep n).elim 0 Keep.secured) % 2 ^ 64)

/-- From R507, R511, R514, R515, R520, R521, R525, R536. Counters leak; a spare takes its bank's place; a failed core's services move to the next live
core of its die and a failed steward's to another; RETIRE runs the class action; a failed store die stops what the node sends. Where the spec leaves a
point open, a clause holds the model's own reading: log 18 and 38. -/
def Obligations.FaultsLeakRetireAndFailOver : Prop :=
  (∀ (cls inst p : Nat) (s : State), p = s.leakPeriod cls → p ≠ 0 → s.now % p = 0 → 0 < s.flt.counters.getD (fltKey cls inst) 0 →
    s.flt.lastEvent.get (fltKey cls inst) ≠ some s.now →
    Does (.faultCounterLeak cls inst) s [.flt] [] fun t => t.flt.counters.getD (fltKey cls inst) 0 = s.flt.counters.getD (fltKey cls inst) 0 - 1 ∧
      (∀ k, k ≠ fltKey cls inst → t.flt.counters.get k = s.flt.counters.get k) ∧ t.flt.log = s.flt.log ∧ t.flt.retired = s.flt.retired) ∧
  (∀ (bank : Nat) (c : SpareCopy) (s : State), s.start.phase = .running → s.flt.copying.find? (fun c => c.bank == bank) = some c →
    Does (.bankSpareSwitch bank) s (.kitty :: logParts) logRegs fun t => SelfTraffic s t ∧ t.physBank bank = c.spare ∧ t.isRetired 0 (s.physBank bank) = true ∧
      (∀ x ∈ t.flt.copying, x.bank ≠ bank) ∧ t.flt.counters = s.flt.counters ∧ Logged 0x0003 t) ∧
  (∀ (c d : Nat) (s : State), s.calm = true → s.isRunning = true → (s.core c).live = true → s.isRetired 12 c = false → d ≠ c → d / 8 = c / 8 →
    (s.core d).live = true → s.slots.runs = [] → (s.core c).quiet = true → s.uncrossed 0x0042 13 (c / 8) = true →
    Does (.coreWatchdog c) s (.start :: logParts) ((Reg.FLT_CLS_CROSSED + 0xC0) :: logRegs) fun t => (t.core c).live = false ∧ t.isRetired 12 c = true ∧
      (∀ k, k ≠ c → t.core k = s.core k) ∧ Logged 0x0042 t ∧
      (s.host.service = c → s.host.serviceLive = true → (t.core t.host.service).live = true ∧ t.host.service / 8 = c / 8 ∧ t.start.stageOwner = none)) ∧
  (∀ (q p : Nat) (s : State), s.calm = true → s.isRunning = true → q ∈ s.liveStewards → q < 4 → s.slots.runs = [] → p ∈ s.liveStewards → p ≠ q →
    (∀ i, i < 8 → (s.core (8 * q + i)).quiet = true) → (∀ x ∈ s.liveStewards, x < 4 ∧ (s.core (8 * x + 1)).live = true) →
    Does (.stewardHeartbeatLoss q) s (.start :: logParts) ((Reg.FLT_CLS_CROSSED + 0xD0) :: logRegs) fun t => q ∉ t.liveStewards ∧ t.flt.stopped = false ∧
      (∀ i, i < 8 → (t.core (8 * q + i)).live = false) ∧ Logged 0x0044 t ∧
      (s.host.service / 8 = q → t.host.serviceLive = true ∧ (t.core t.host.service).live = true ∧ t.host.service / 8 ∈ t.liveStewards)) ∧
  (∀ (slot i sp bank : Nat) (a0 : W32) (s : State), s.calm = true → s.slotIdle .flt slot = true → fld a0 20 16 = 0 → i = fld a0 15 0 → i < 2352 →
    s.isRetired 0 i = false → s.bankServedBy i = some bank → (∀ c ∈ s.flt.copying, c.bank ≠ bank) → s.freeSpare (bank / 96) = some sp →
    Does (.retire slot a0) s [.slots, .flt] (Reg.FLT_CLS_CROSSED :: slotRegs .flt slot) fun t => SlotDone .flt slot 3 St.ok t ∧
      t.flt.copying = ⟨bank, sp, s.now⟩ :: s.flt.copying ∧ t.flt.sparesUsed = sp :: s.flt.sparesUsed ∧
      (t.reg Reg.FLT_CLS_CROSSED).toNat = min 0xFFFFFFFF ((s.reg Reg.FLT_CLS_CROSSED).toNat + 1)) ∧
  (∀ (slot l : Nat) (a0 : W32) (s : State), s.calm = true → s.slotIdle .flt slot = true → fld a0 20 16 = 14 → l = fld a0 15 0 → l < 96 →
    s.isRetired 14 l = false → (s.port l).state = 0 →
    Does (.retire slot a0) s (.slots :: logParts) ((Reg.FLT_CLS_CROSSED + 0xE0) :: logRegs ++ slotRegs .flt slot) fun t =>
      SlotDone .flt slot 3 St.ok t ∧ t.isRetired 14 l = true ∧ Logged 0x0052 t) ∧
  (∀ (sd : Nat) (s : State), s.calm = true → s.isRunning = true → sd < 24 →
    Does (.dieFault (.sdFail sd)) s (.link :: logParts) logRegs fun t => t.link = { s.link with mute := true } ∧ t.flt.unrecovered = true ∧ Logged 0x0080 t) ∧
  (∀ (ld : Nat) (s : State), s.calm = true → s.isRunning = true → ld < 12 → (∀ i, i < 8 → (s.port (8 * ld + i)).state = 0 ∧ s.isRetired 14 (8 * ld + i) = false) →
    Does (.dieFault (.ldFail ld)) s logParts ((Reg.FLT_CLS_CROSSED + 0xE0) :: logRegs) fun t => ∀ i, i < 8 → t.isRetired 14 (8 * ld + i) = true)

/-- From R510, R529 to R537. A drill that falls due waits while one runs, or starts at its point's next instance; its end is counted and kept;
SET_DRILLS replaces the schedule and DRILL_NOW queues one; the fault selectors show the record, retirement map, counter and drill point selected.
Where the spec leaves a point open, a clause holds the model's own reading: log 1 and 18. -/
def Obligations.DrillsRunAndFaultSelectorsShow : Prop :=
  (∀ (i : Nat) (e : DrillEntry) (d : Drill) (s : State), s.isRunning = true → s.flt.schedule[i]? = some e → e.enabled = true →
    s.past (s.flt.acceptLtc + (e.fired + 1) * e.interval) = true → s.flt.running = some d → (∀ x ∈ s.flt.queue, x.interval = 0 ∨ s.now < x.due + x.interval) →
    Does (.drillDue i) s [.flt] [] fun t => t.flt.running = some d ∧ t.flt.queue.length = s.flt.queue.length + 1 ∧ (∃ x ∈ t.flt.queue, x.point = e.nextPoint) ∧
      t.flt.schedule[i]? = some { e with nextPoint := if e.last ≤ e.nextPoint then e.first else e.nextPoint + 1, fired := e.fired + 1 }) ∧
  (∀ (i : Nat) (e : DrillEntry) (s : State), s.isRunning = true → s.flt.schedule[i]? = some e → e.enabled = true →
    s.past (s.flt.acceptLtc + (e.fired + 1) * e.interval) = true → s.now < s.flt.acceptLtc + (e.fired + 2) * e.interval → s.drillable e.nextPoint = true →
    Does (.drillDue i) s logParts logRegs (DrillRuns e.nextPoint s)) ∧
  (∀ (r : DrillResult) (d : Drill) (s : State), s.start.phase = .running → s.flt.running = some d → s.flt.queue = [] →
    Does (.drillEnd r) s logParts (drillCounter (drillOutcome d.point r) :: logRegs) fun t => t.flt.running = none ∧ Logged 0x0090 t ∧
      (t.reg (drillCounter (drillOutcome d.point r))).toNat = min 0xFFFFFFFF ((s.reg (drillCounter (drillOutcome d.point r))).toNat + 1) ∧
      ∃ x, t.flt.points.get d.point = some x ∧ x.outcome = drillOutcome d.point r) ∧
  (∀ (slot n : Nat) (a0 a1 : W32) (b : Bytes) (s : State), s.calm = true → s.slotIdle .flt slot = true → n = fld a0 6 0 → 0 < n → n ≤ 64 →
    s.handleRead (fld a0 31 16) (64 * a1.toNat) (16 * n) = some b →
    (∀ i, i < n → fieldAt (sliceAt b (16 * i) 16) 0 2 ≤ fieldAt (sliceAt b (16 * i) 16) 2 2 ∧ fieldAt (sliceAt b (16 * i) 16) 2 2 < 200 ∧
      100000000 ≤ fieldAt (sliceAt b (16 * i) 16) 8 8 ∧ fieldAt (sliceAt b (16 * i) 16) 8 8 ≤ 2 ^ 48) →
    Does (.setDrills slot a0 a1) s [.cfg, .slots, .kitty, .flt] (slotRegs .flt slot) fun t => SelfTraffic s t ∧
      t.flt = { s.flt with schedule := readDrills ((List.range n).map fun i => sliceAt b (16 * i) 16).flatten, acceptLtc := s.now } ∧
      ChangeAccepted s t ∧ SlotDone .flt slot 1 St.ok t) ∧
  (∀ (slot : Nat) (a0 a1 : W32) (s : State), s.calm = true → s.slotIdle .flt slot = true → fld a0 6 0 = 0 →
    Does (.setDrills slot a0 a1) s [.slots, .kitty] (slotRegs .flt slot) fun t => SelfTraffic s t ∧ SlotDone .flt slot 1 St.ok t) ∧
  (∀ (slot p : Nat) (a0 : W32) (d : Drill) (s : State), s.calm = true → s.slotIdle .flt slot = true → p = fld a0 7 0 → p < 200 → s.flt.running = some d →
    Does (.drillNow slot a0) s [.slots, .flt] (slotRegs .flt slot) fun t => t.flt.running = some d ∧ t.flt.queue.length = s.flt.queue.length + 1 ∧
      (∃ x ∈ t.flt.queue, x.point = p ∧ x.due = s.now) ∧ SlotDone .flt slot 2 St.ok t) ∧
  (∀ (slot p : Nat) (a0 : W32) (s : State), s.calm = true → s.slotIdle .flt slot = true → p = fld a0 7 0 → p < 200 → s.drillable p = true →
    Does (.drillNow slot a0) s (.slots :: logParts) (logRegs ++ slotRegs .flt slot) fun t => DrillRuns p s t ∧ SlotDone .flt slot 2 St.ok t) ∧
  (∀ (v : W32) (s : State), s.isRunning = true → Does (.fltLogRead v) s [] [Reg.FLT_LOG_READ] fun t => t.reg Reg.FLT_LOG_READ = v) ∧
  (∀ (v : W32) (b : Bytes) (s : State), s.isRunning = true → b = ((s.flt.log.find? fun r => r.seq % 2 ^ 32 == v.toNat).map FltRec.bytes).getD [] →
    Does (.fltLogSel v) s [] (Reg.FLT_LOG_SEL :: (List.range 8).map fun i => Reg.FLT_LOG_REC + 4 * i) fun t => t.reg Reg.FLT_LOG_SEL = v ∧
      ∀ i, i < 8 → (t.reg (Reg.FLT_LOG_REC + 4 * i)).toNat = fieldAt b (4 * i) 4) ∧
  (∀ (v : W32) (s : State), s.isRunning = true →
    Does (.fltRetSel v) s [] [Reg.FLT_RET_SEL, Reg.FLT_RET_MAP, Reg.FLT_RET_COUNT] fun t => t.reg Reg.FLT_RET_SEL = v &&& 0x1F007F ∧
      t.reg Reg.FLT_RET_COUNT = w32 (s.retiredOf (fld v 20 16)).length ∧
      ∀ k, k < 32 → ((t.reg Reg.FLT_RET_MAP).getLsbD k = true ↔ s.isRetired (fld v 20 16) (32 * fld v 6 0 + k) = true)) ∧
  (∀ (v : W32) (c i : Nat) (s : State), s.isRunning = true → c = fld v 20 16 → i = fld v 15 0 →
    Does (.fltCntSel v) s [] [Reg.FLT_CNT_SEL, Reg.FLT_CNT_VALUE] fun t => t.reg Reg.FLT_CNT_SEL = v &&& 0x1FFFFF ∧
      (instanceOk c i = true → s.fltThreshold c ≠ 0 → t.reg Reg.FLT_CNT_VALUE =
        w32 (b1 (s.isRetired c i) * 2 ^ 31 + b1 (decide ((c, i) ∈ s.flt.degraded)) * 2 ^ 30 + s.flt.counters.getD (fltKey c i) 0)) ∧
      (instanceOk c i = false ∨ s.fltThreshold c = 0 → t.reg Reg.FLT_CNT_VALUE = 0)) ∧
  (∀ (v : W32) (x : DrillPoint) (s : State), s.isRunning = true → x = s.flt.points.getD (fld v 7 0) ⟨0, 0, 0, 0⟩ →
    Does (.fltDrillPtSel v) s [] [Reg.FLT_DRILL_PT_SEL, Reg.FLT_DRILL_PT_LAST, Reg.FLT_DRILL_PT_RUNS] fun t => t.reg Reg.FLT_DRILL_PT_SEL = w32 (fld v 7 0) ∧
      t.reg Reg.FLT_DRILL_PT_LAST = w32 (x.outcome * 2 ^ 29 + x.duration) ∧ t.reg Reg.FLT_DRILL_PT_RUNS = x.runs)

/-- From R581 to R589. A post that covers word 15 reaches the target core or is rejected; cores post, ring and pop; the host pops, rings and resets a
mailbox; the counts that a read clears; a receiver's empty mailbox. Where the spec leaves a point open, a clause holds the model's own reading: log 1
and 38. -/
def Obligations.MailboxesPostPopRingAndReset : Prop :=
  (∀ (h first : Nat) (words : List W32) (c : Nat) (s : State), h < 16 → first ≤ 15 → 16 ≤ first + words.length → c = s.targetCore h → (s.core c).live = true →
    (s.core c).fromHost.msgs.length < 4 →
    Does (.mailboxPost h first words) s [.host, .out] [] fun t => t.out = .coreIrq c :: s.out ∧ (t.box h).tx = List.replicate 16 0 ∧
      (t.box h).fifo = (s.box h).fifo ∧ (t.core c).irqMsg = true ∧ ∃ x, (t.core c).fromHost.msgs = (s.core c).fromHost.msgs ++ [x] ∧ x.sender = h ∧
        x.words.drop 1 = (txAfter (s.box h) first words).drop 1) ∧
  (∀ (h first : Nat) (words : List W32) (c : Nat) (s : State), h < 16 → first ≤ 15 → 16 ≤ first + words.length → c = s.targetCore h →
    (s.core c).live = false ∨ 4 ≤ (s.core c).fromHost.msgs.length →
    Does (.mailboxPost h first words) s [.host, .out] [mboxReg Reg.MBX_H_REJECTS h] fun t => t.host.cores = s.host.cores ∧
      t.out = .completerAbort (mboxReg Reg.MBX_H_TX h) :: s.out ∧
      (t.reg (mboxReg Reg.MBX_H_REJECTS h)).toNat = min 0xFFFFFFFF ((s.reg (mboxReg Reg.MBX_H_REJECTS h)).toNat + 1)) ∧
  (∀ (h first : Nat) (words : List W32) (s : State), h < 16 → first + words.length < 16 →
    Does (.mailboxPost h first words) s [.host] [] fun t => (t.box h).tx = txAfter (s.box h) first words ∧ t.host.cores = s.host.cores ∧
      (t.box h).fifo = (s.box h).fifo) ∧
  (∀ (c h : Nat) (words : List W32) (s : State), (s.core c).live = true → h < 16 → (s.box h).fifo.msgs.length < 4 →
    Does (.coreMailboxPost c (.hostMsg h words)) s [.host, .out] [mboxReg Reg.MBX_H_IRQ_STATUS h] fun t =>
      (t.reg (mboxReg Reg.MBX_H_IRQ_STATUS h)).getLsbD 0 = true ∧ t.host.cores = s.host.cores ∧
      ∃ x, (t.box h).fifo.msgs = (s.box h).fifo.msgs ++ [x] ∧ x.words = w32 (0x40000000 + c) :: (List.range 15).map fun i => words.getD (i + 1) 0) ∧
  (∀ (c d : Nat) (words : List W32) (s : State), (s.core c).live = true → (s.core d).live = true → (s.core d).fromCores.msgs.length < 4 →
    Does (.coreMailboxPost c (.coreMsg d words)) s [.host, .out] [] fun t => t.out = .coreIrq d :: s.out ∧ (t.core d).irqMsg = true ∧
      (∀ k, k ≠ d → t.core k = s.core k) ∧ ∃ x, (t.core d).fromCores.msgs = (s.core d).fromCores.msgs ++ [x] ∧
        x.words = w32 (0x40000000 + c) :: (List.range 15).map fun i => words.getD (i + 1) 0) ∧
  (∀ (c d : Nat) (bits : W32) (s : State), (s.core c).live = true → d < 32 →
    Does (.coreMailboxPost c (.coreDoorbells d bits)) s [.host, .out] [] fun t => (t.core d).doorbells = (s.core d).doorbells ||| bits ∧
      (∀ k, k ≠ d → t.core k = s.core k) ∧ t.out = .coreIrq d :: s.out) ∧
  (∀ (c h : Nat) (bits : W32) (s : State), (s.core c).live = true → h < 16 →
    Does (.coreMailboxPost c (.hostDoorbells h bits)) s [.host, .out] [mboxReg Reg.MBX_H_DB h, mboxReg Reg.MBX_H_IRQ_STATUS h] fun t =>
      t.reg (mboxReg Reg.MBX_H_DB h) = s.reg (mboxReg Reg.MBX_H_DB h) ||| bits ∧ t.host.cores = s.host.cores ∧ t.host.boxes = s.host.boxes ∧
      (bits &&& s.reg (mboxReg Reg.MBX_H_DB_MASK h) ≠ 0 → (t.reg (mboxReg Reg.MBX_H_IRQ_STATUS h)).getLsbD 1 = true)) ∧
  (∀ (c : Nat) (s : State), s.calm = true → (s.core c).live = true →
    Does (.coreMailboxPop c ⟨true, false⟩) s [.host] [] fun t => t.core c = { s.core c with fromHost := (s.core c).fromHost.popped } ∧
      t.host.boxes = s.host.boxes ∧ ∀ k, k ≠ c → t.core k = s.core k) ∧
  (∀ (c : Nat) (s : State), s.calm = true → (s.core c).live = true →
    Does (.coreMailboxPop c ⟨false, false⟩) s [.host] [] fun t => t.core c = { s.core c with fromCores := (s.core c).fromCores.popped } ∧
      t.host.boxes = s.host.boxes ∧ ∀ k, k ≠ c → t.core k = s.core k) ∧
  (∀ (c : Nat) (s : State), s.calm = true → s.isRunning = true → (s.core c).live = true → s.uncrossed 0x0040 12 c = true →
    Does (.coreMailboxPop c ⟨true, true⟩) s logParts logRegs fun t => t.core c = { s.core c with fromHost := (s.core c).fromHost.popped } ∧
      Logged 0x0040 t ∧ ∀ k, k ≠ c → t.core k = s.core k) ∧
  (∀ (h : Nat) (v : W32) (s : State), h < 16 → v.getLsbD 0 = true → s.noneHeld h = true →
    Does (.mbxHPop h v) s [.host] [] fun t => t.box h = { s.box h with fifo := (s.box h).fifo.popped } ∧ (∀ k, k ≠ h → t.box k = s.box k) ∧
      t.host.cores = s.host.cores) ∧
  (∀ (h : Nat) (v : W32) (r : HeldReply) (s : State), h < 16 → v.getLsbD 0 = true → s.host.held.find? (fun r => r.mailbox == h) = some r →
    (s.box h).fifo.msgs.length = 4 →
    Does (.mbxHPop h v) s [.host, .out] [mboxReg Reg.MBX_H_IRQ_STATUS h] fun t => t.host.held = removeFirst (fun x => x.mailbox == h) s.host.held ∧
      (t.reg (mboxReg Reg.MBX_H_IRQ_STATUS h)).getLsbD 0 = true ∧ (∀ k, k ≠ h → t.box k = s.box k) ∧ t.host.cores = s.host.cores ∧
      ∃ x, (t.box h).fifo.msgs = (s.box h).fifo.msgs.drop 1 ++ [x] ∧ x.words.drop 1 = (List.range 15).map fun i => r.words.getD (i + 1) 0) ∧
  (∀ (h c : Nat) (v : W32) (s : State), h < 16 → c = s.targetCore h →
    Does (.mbxHRing h v) s [.host, .out] [] fun t => (t.core c).doorbells = (s.core c).doorbells ||| v ∧ (∀ k, k ≠ c → t.core k = s.core k) ∧
      t.out = .coreIrq c :: s.out) ∧
  (∀ (h : Nat) (v : W32) (s : State), h < 16 → v.getLsbD 0 = true → (s.box h).fifo.msgs = [] → s.noneHeld h = true →
    Does (.mbxHCtlReset h v) s [.host] [mboxReg Reg.MBX_H_DB h, mboxReg Reg.MBX_H_IRQ_STATUS h] fun t => (t.box h).fifo = fifoReset ∧
      t.reg (mboxReg Reg.MBX_H_DB h) = 0 ∧ t.reg (mboxReg Reg.MBX_H_IRQ_STATUS h) = 0 ∧ t.host.cores = s.host.cores) ∧
  (∀ (h : Nat) (s : State), h < 16 →
    Does (.mbxHRejects h) s [.out] [mboxReg Reg.MBX_H_REJECTS h] fun t => t.reg (mboxReg Reg.MBX_H_REJECTS h) = 0 ∧
      t.out = .hostRead (s.reg (mboxReg Reg.MBX_H_REJECTS h)) :: s.out) ∧
  (∀ (h : Nat) (s : State), h < 16 →
    Does (.mbxHAbortInfo h) s [.out] [mboxReg Reg.MBX_H_ABORT_INFO h] fun t => t.reg (mboxReg Reg.MBX_H_ABORT_INFO h) = 0 ∧
      t.out = .hostRead (s.reg (mboxReg Reg.MBX_H_ABORT_INFO h)) :: s.out)

/-- From R576, R577, R581, R592 to R597, R602, R607. The host service answers ECHO, runs a block command in its slot and writes an attestation report;
interrupt registers, MSI-X vectors, function resets, and the reads and selections of NODE registers. Where the spec leaves a point open, a clause
holds the model's own reading: log 4, 38 and 39. -/
def Obligations.HostServiceAnswersAndInterruptsAreSent : Prop :=
  (∀ (c : Nat) (w : List W32) (s : State), s.hostAsks c 1 w = true →
    Does (.echo c) s [.host, .out, .reg .mbx] [] fun t => Popped c s t ∧ Replied w St.ok s t ∧
      ∃ x ∈ (t.box (reqBox w)).fifo.msgs, ∀ i, i < 14 → x.words.getD (2 + i) 0 = w.getD (2 + i) 0) ∧
  (∀ (c q : Nat) (p : Point) (w : List W32) (s : State), s.calm = true → s.hostAsks c 2 w = true → s.slotIdle .sched (c / 8) = true →
    (w.getD 2 0).toNat = Family.base .sched → fld (w.getD 3 0) 7 0 = 3 → pointOf (w.getD 4 0).toNat = (p, q) → s.pointOk p = true →
    Does (.blockCmd c) s [.cfg, .host, .slots, .sched, .out, .reg .mbx, .reg .sched] [] fun t => PointNow p { s.point p with nextGates := none } s t ∧
      ChangeAccepted s t ∧ Popped c s t ∧ Replied w St.ok s t) ∧
  (∀ (c : Nat) (f : Family) (w : List W32) (s : State), s.calm = true → s.hostAsks c 2 w = true → blockFamily w = some f → c < 32 →
    s.slotBusy f (c / 8) = true →
    Does (.blockCmd c) s [.host, .out, .reg .mbx] [] fun t => t.host.blockWait = [(slotKey f (c / 8), w, true)] ∧ Popped c s t) ∧
  (∀ (c k : Nat) (w : List W32) (s : State), s.hostAsks c 0x20 w = true → s.isRunning = true → k = (w.getD 10 0).toNat → k ≤ 6 →
    Does (.attest c) s [.host, .out, .reg .mbx] [] fun t => Popped c s t ∧ Replied w St.ok s t ∧
      ∀ i, i < (s.attestReport ((List.range 8).flatMap fun i => leBytes 4 (w.getD (2 + i) 0).toNat)).length →
        t.host.xfer.get (4096 * k + i) = some ((s.attestReport ((List.range 8).flatMap fun i => leBytes 4 (w.getD (2 + i) 0).toNat)).getD i 0)) ∧
  (∀ (r : IrqReg) (v : W32) (s : State), s.irqServed r = true → irqIsStatus r = true →
    Does (.irqStatusWrite r v) s [.host, .out] [(irqSource r).1] fun t => t.reg (irqSource r).1 = s.reg (irqSource r).1 &&& (~~~v ||| s.setBits (irqSource r).1)) ∧
  (∀ (r : IrqReg) (v : W32) (s : State), s.irqServed r = true → irqIsStatus r = false →
    Does (.irqStatusWrite r v) s [.host, .out] [(irqSource r).2.1] fun t => t.reg (irqSource r).2.1 = v &&& irqMaskBits r) ∧
  (∀ (v : Nat) (s : State), v < 64 → v ∉ s.host.pba →
    Does (.msixUnmask v) s [] [Reg.MSIX_CTRL + 0x10 * v] fun t => t.reg (Reg.MSIX_CTRL + 0x10 * v) = s.reg (Reg.MSIX_CTRL + 0x10 * v) &&& ~~~1) ∧
  (∀ (v : Nat) (r : IrqReg) (s : State), v < 64 → v ∈ s.host.pba → vectorSource v = some r → s.asserted r = true → s.host.msixEnable = true →
    s.host.funcMask = false → s.host.busMaster = true →
    Does (.msixUnmask v) s [.host, .out] [Reg.MSIX_CTRL + 0x10 * v] fun t => v ∉ t.host.pba ∧
      t.out = .msix v (w64 (s.pair (Reg.MSIX_ADDR_LO + 0x10 * v))) (s.reg (Reg.MSIX_DATA + 0x10 * v)) :: s.out) ∧
  (∀ (s : State), Does .nodeLtcLo s [.out] [Reg.NODE_LTC_LO, Reg.NODE_LTC_HI] fun t => t.out = .hostRead (w32 s.now) :: s.out ∧
    t.reg Reg.NODE_LTC_HI = w32 (s.now / 2 ^ 32)) ∧
  (∀ (v : W32) (s : State),
    Does (.nodeDieSel v) s [] (Reg.NODE_DIE_SEL :: Reg.NODE_DIE_CHECK :: (List.range 8).map fun k => Reg.NODE_DIE_REC + 4 * k) fun t =>
      t.reg Reg.NODE_DIE_SEL = w32 (fld v 5 0) ∧ t.reg Reg.NODE_DIE_CHECK = w32 (s.dieCheck (fld v 5 0)) ∧
      ∀ k, k < 8 → t.reg (Reg.NODE_DIE_REC + 4 * k) = w32 (fieldAt (s.dieRecord (fld v 5 0)) (4 * k) 4)) ∧
  (∀ (k : PcieReset) (s : State),
    Does (.pcieReset k) s [.host, .out, .reg .node, .reg .mbx] [] fun t => t.host.msixEnable = false ∧ t.host.busMaster = false ∧ t.host.pba = [] ∧
      t.host.xfer = s.host.xfer ∧ (∀ h, h < 16 → s.host.held.find? (fun r => r.mailbox == h) = none → (t.box h).fifo = fifoReset) ∧
      (∀ h r, h < 16 → s.host.held.find? (fun r => r.mailbox == h) = some r → (t.box h).fifo.msgs.length = 1) ∧ (k = .linkLoss → t.host.pcie = ⟨false, 0, 0, false⟩) ∧
      (k ≠ .linkLoss → t.host.pcie = s.host.pcie) ∧
      ∀ off, off < 0x8000 → blockOf off = some .node → t.reg off = s.reg off)

/-- From R538 to R545, R551, R560, R601, R614, R629. Power on enters ROM; the ROM's end fixes lead and package and enters IMAGE; the first candidate
whose signatures verify is loaded; sections that hold start the cores, the configuration is published at milepost 1, and bring-up ends in RUNNING; a
failed attempt keeps its outcome. Where the spec leaves a point open, a clause holds the model's own reading: log 19. -/
def Obligations.StartGoesThroughItsPhases : Prop :=
  (∀ (s : State), Does .pwrokAssert s [.clk] [] fun t => t.clk = { s.clk with pwrok := true }) ∧
  (∀ (s : State), s.clk.pwrok = true → s.clk.porN = false → Does (.porRelease true) s allParts [] (RomBegun s)) ∧
  (∀ (s : State), s.clk.pwrok = true → s.clk.porN = false →
    Does (.porRelease false) s [.clk] [] fun t => t.clk = { s.clk with porN := true, refclk := false, workStopped := false }) ∧
  (∀ (s : State), s.clk.porN = true → s.clk.ticking = false → s.start.phase = .reset → Does .refclkStable s allParts [] (RomBegun s)) ∧
  (∀ (n : Nat) (rest passed : List Nat) (mv : Nat) (s : State), s.start.phase = .rom → s.start.restarting = false →
    ([0, 1, 2, 3].filter fun n => n ∈ passed) = n :: rest →
    Does (.romDone passed mv) s [.start, .ident, .host, .out] [Reg.NODE_IRQ_STATUS, Reg.NODE_SERIAL_LO, Reg.NODE_SERIAL_HI, Reg.CLK_AX_VID] fun t =>
      t.start.phase = .image ∧ t.start.phaseLtc = s.now ∧ t.start.stewards = n :: rest ∧ t.start.lead = n ∧
      t.ident.recordsRead = true ∧ t.host.service = 8 * n + 1 ∧ (t.core (8 * n + 1)).live = true ∧ t.start.flashA = s.start.flashA ∧
      t.pair Reg.NODE_SERIAL_LO = fieldAt t.ident.packageInUse 0 8 ∧ t.reg Reg.CLK_AX_VID = w32 (max 680 (min 800 (mv / 5 * 5)))) ∧
  (∀ (passed : List Nat) (mv : Nat) (s : State), s.start.phase = .rom → s.start.restarting = false → ([0, 1, 2, 3].filter fun n => n ∈ passed) = [] →
    Does (.romDone passed mv) s allParts [] fun t => t.start.phase = .standStill ∧ t.host.serviceLive = false ∧ t.cfg.milepost = 0 ∧ t.now = s.now ∧
      t.start.flashA = s.start.flashA ∧ t.start.flashB = s.start.flashB) ∧
  (∀ (ea eb : Bool) (s : State), s.start.phase = .image →
    Does (.imageCheck ea eb) s (if (s.verified ea eb).isSome then [.start, .host, .out] else allParts.erase .ident) [Reg.NODE_IRQ_STATUS] fun t =>
      t.now = s.now ∧ t.start.flashA = s.start.flashA ∧ t.start.flashB = s.start.flashB ∧ (match s.verified ea eb with
        | some b => t.start.phase = .load ∧ t.start.trying = some b ∧ t.start.loadLtc = s.now ∧ t.start.attempts = s.start.attempts + 1
        | none => t.start.phase = .standStill ∧ t.start.trying = none)) ∧
  (∀ (b : Bool) (passed : List Nat) (s : State), s.start.phase = .load → s.start.trying = some b → (checkDigests (s.start.flash b)).isNone = true →
    s.start.lead ∈ passed →
    Does (.sectionsLoaded passed false) s [.start, .ident, .host, .flt, .out] [Reg.NODE_IRQ_STATUS] fun t => t.start.phase = .config ∧
      t.start.stewards = (s.start.stewards.filter fun n => n ∈ passed) ∧ t.start.imageSeq = imgSeq (s.start.flash b) ∧
      t.start.imageDigest = imageDigest (s.start.flash b) ∧ t.host.service = 8 * s.start.lead + 1 ∧
      ∀ n, n < 4 → n ∈ t.start.stewards → ∀ i, i < 8 → (t.core (8 * n + i)).live = true) ∧
  (∀ (b readError : Bool) (passed : List Nat) (s : State), s.start.phase = .load → s.start.trying = some b →
    readError = true ∨ (checkDigests (s.start.flash b)).isSome = true ∨ s.start.lead ∉ passed →
    Does (.sectionsLoaded passed readError) s (allParts.erase .ident) [] (AttemptFailed b (if readError then 3 else 10) (if readError then St.fault else St.denied) s)) ∧
  (∀ (b : Bool) (s : State), s.start.phase = .config → s.start.trying = some b →
    Does .configDone s servedParts [] fun t => t.start.phase = .bringUp ∧ t.cfg.milepost = 1 ∧ t.cfg.accepted = 0 ∧ t.cfg.rptLtc = s.now ∧
      t.reg Reg.MEDIA_STATE = 1 ∧ t.start.trying = some b) ∧
  (∀ (b : Bool) (s : State), s.calm = true → s.start.phase = .bringUp → s.start.trying = some b → s.cfg.deny = [] →
    Does .bringUpDone s [.start, .host, .xp, .kitty, .sched, .idx, .ton, .emb, .flt, .out, .reg .node, .reg .cd, .reg .qry, .reg .kitty] [] fun t =>
      t.start.phase = .running ∧ t.start.accepted = some b ∧ (t.start.copy b).reason = 0 ∧
      (∀ k, k ∈ allModules → (t.module k).state = .active) ∧ (∀ n, n < 8 → t.reg (Reg.CD_STATE + 0x80000 * n) = 2) ∧
      (t.reg Reg.NODE_IRQ_STATUS).getLsbD 1 = true) ∧
  (∀ (b : Bool) (s : State), s.start.phase.attempting = true → s.start.trying = some b → s.past (s.start.loadLtc + 6000000000) = true →
    Does .startTimeout s (allParts.erase .ident) [] (AttemptFailed b 12 St.timeout s)) ∧
  (∀ (b : Bool) (s : State), s.start.phase.attempting = true → s.start.trying = some b →
    Does .startFailed s (allParts.erase .ident) [] (AttemptFailed b 11 St.fault s))

/-- From R554 to R556, R565, R601, R607. Staging erases, writes and commits the target copy for its sender or is closed; a publication covers the
accepted live changes; a read of CFG_MP_LO latches milepost and waymark; the restart key asks for a restart. Where the spec leaves a point open, a
clause holds the model's own reading: log 19 and 38. -/
def Obligations.StagingAndPublication : Prop :=
  (∀ (x : Sender) (s : State), s.stagingServed = true → s.start.restarting = false → x ≠ .other → s.start.stageOwner = none →
    Does (.stageBegin x) s stageParts [] fun t => t.start.stageOwner = some x ∧ t.start.stageTarget = s.stageTarget ∧ t.start.stageBlocks = [] ∧
      t.start.stageStatus = St.ok ∧ t.start.flash s.stageTarget = [] ∧ t.start.flash (!s.stageTarget) = s.start.flash (!s.stageTarget)) ∧
  (∀ (x : Sender) (s : State), s.stagingServed = true → s.start.restarting = false → x ≠ .other → s.start.stageOwner.isSome = true →
    Does (.stageBegin x) s stageParts [] fun t => t.start = { s.start with stageStatus := St.busy }) ∧
  (∀ (x : Sender) (off : W64) (k : Nat) (s : State), s.stagingServed = true → s.start.restarting = false → s.start.stageOwner = some x → off.toNat < s.start.capacity → off.toNat % 4096 = 0 →
    off.toNat / 4096 ∉ s.start.stageBlocks → k ≤ 7 →
    Does (.stageWrite x off k) s stageParts [] fun t => t.start.stageBlocks = off.toNat / 4096 :: s.start.stageBlocks ∧ t.start.stageStatus = St.ok ∧
      t.start.flash s.start.stageTarget =
        Mem.writeBytes (s.start.flash s.start.stageTarget) off.toNat ((List.range 4096).map fun i => s.xferByte (4096 * k + i)) ∧
      t.start.flash (!s.start.stageTarget) = s.start.flash (!s.start.stageTarget) ∧ t.start.stageOwner = some x) ∧
  (∀ (x : Sender) (m : Mem) (s : State), s.stagingServed = true → s.start.restarting = false → s.start.stageOwner = some x → m = s.start.flash s.start.stageTarget →
    Does (.stageCommit x) s stageParts [] fun t =>
      (s.stagedOk = true → t.start.stageOwner = none ∧ t.start.stageStatus = St.ok ∧
        t.start.flash s.start.stageTarget = Mem.writeBytes m (imgTrailerAt m) (trailerOf m)) ∧
      (s.stagedOk = false → t.start.stageOwner = some x ∧ t.start.stageStatus ≠ St.ok ∧ t.start.flash s.start.stageTarget = m) ∧
      t.start.flash (!s.start.stageTarget) = s.start.flash (!s.start.stageTarget)) ∧
  (∀ (x : Sender) (s : State), s.stagingServed = true → s.start.restarting = false → s.start.stageOwner = some x →
    Does (.stageAbort x) s stageParts [] fun t => t.start = { s.start with stageOwner := none, stageStatus := St.ok }) ∧
  (∀ (s : State), s.isRunning = true → s.cfg.accepted ≠ 0 →
    Does .configPublish s [.cfg, .host, .out] [Reg.NODE_IRQ_STATUS] fun t => t.cfg.milepost = s.cfg.milepost + s.cfg.accepted ∧ t.cfg.accepted = 0 ∧
      t.cfg.waymark = s.computeWaymark ∧ (t.reg Reg.NODE_IRQ_STATUS).getLsbD 3 = true) ∧
  (∀ (s : State), s.start.phase = .running ∨ s.start.phase = .bringUp →
    Does .cfgMpLo s [.out] ([Reg.CFG_MP_LO, Reg.CFG_MP_LO + 4] ++ (List.range 16).map fun i => Reg.CFG_WAYMARK + 4 * i) fun t =>
      t.out = .hostRead (w32 s.cfg.milepost) :: s.out ∧ t.pair Reg.CFG_MP_LO = s.cfg.milepost % 2 ^ 64 ∧
      ∀ i, i < 16 → t.reg (Reg.CFG_WAYMARK + 4 * i) = w32 (fieldAt s.cfg.waymark (4 * i) 4)) ∧
  (∀ (s : State), s.start.restarting = false → s.start.phase ≠ .reset → s.start.phase ≠ .refLost →
    Does (.nodeRestart 0x54455352) s [.start] [] fun t => t.start.restarting = true ∧ t.start.stageOwner = none ∧ t.start.phase = s.start.phase ∧
      t.start.flashA = s.start.flashA ∧ t.start.flashB = s.start.flashB) ∧
  (∀ (v : W32) (s : State), v ≠ 0x54455352 → Does (.nodeRestart v) s [] [] fun _ => True)

/-- From R613, R615, R616, R618, R620, R621, R625, R627. Losing PWROK stops work; a rail fault is counted and signalled; losing REFCLK stops the LTC;
a sample keeps every duty in its range and throttles to 4 when asked; power telemetry is averaged; SMBus reads and the sensor selector; POR keeps the
flash and the identity. Where the spec leaves a point open, a clause holds the model's own reading: log 1 and 2. -/
def Obligations.PowerClocksAndTemperatures : Prop :=
  (∀ (s : State), Does .pwrokDeassert s [.clk] [] fun t => t.clk = { s.clk with pwrok := false, workStopped := s.clk.porN }) ∧
  (∀ (die : Nat) (s : State), s.calm = true → s.clk.pwrok = true → 8 ≤ die → die < 60 →
    Does (.railFault die) s [.clk, .host, .out] [Reg.CLK_RAIL_FAULTS, Reg.CLK_IRQ_STATUS] fun t => t.clk = { s.clk with railFault := true } ∧
      (t.reg Reg.CLK_IRQ_STATUS).getLsbD 4 = true ∧
      (t.reg Reg.CLK_RAIL_FAULTS).toNat = min 0xFFFFFFFF ((s.reg Reg.CLK_RAIL_FAULTS).toNat + 1)) ∧
  (∀ (s : State), s.clk.pllLocked = true →
    Does .refclkLoss s (allParts.filter fun p => p != .ident && p != .cfg) [] fun t => t.start.phase = .refLost ∧ t.clk.ticking = false ∧ t.clk.pllLocked = false ∧ t.clk.refclk = false ∧
      t.host.cores = [] ∧ t.host.serviceLive = false ∧ t.now = s.now ∧ t.start.flashA = s.start.flashA ∧ t.start.flashB = s.start.flashB) ∧
  (∀ (readings : List (Nat × Int)) (throttleN flowOk : Bool) (s : State), s.calm = true → s.isRunning = true → s.now % 10000 = 0 → s.clk.hot105 = [] →
    (∀ d ∈ s.clk.duty, 4 ≤ d ∧ d ≤ 16) →
    Does (.thermalSample readings throttleN flowOk) s [.clk, .host, .out, .reg .clk] [] fun t => t.clk.duty.length = 8 ∧
      (∀ d ∈ t.clk.duty, 4 ≤ d ∧ d ≤ 16) ∧ (throttleN = false ∨ flowOk = false → t.clk.duty = List.replicate 8 4) ∧ t.clk.throttleN = throttleN ∧
      t.clk.flowOk = flowOk ∧ t.clk.ltc = s.clk.ltc) ∧
  (∀ (mv amps watts : Nat) (s : State), s.isRunning = true → s.now % 10000 = 0 → mv ≠ 0 →
    Does (.avsTelemetry mv amps watts) s [.clk] [Reg.CLK_AX_CURRENT, Reg.CLK_POWER] fun t =>
      t.clk = { s.clk with power := (watts :: s.clk.power).take 10 } ∧ t.reg Reg.CLK_AX_CURRENT = w32 amps ∧ t.reg Reg.CLK_POWER = w32 t.meanPower) ∧
  (∀ (off : Nat) (s : State), s.start.phase ≠ .reset →
    Does (.smbusRead off) s [.out] [] fun t => t.out = .smbus (if smbusShows off then s.liveReg off else 0) :: s.out) ∧
  (∀ (v : W32) (x : Sensor) (s : State), s.isRunning = true → fld v 3 0 < sensorCount (fld v 15 8) → s.clk.sensors.get (16 * fld v 15 8 + fld v 3 0) = some x →
    Does (.clkTsSel v) s [] tsRegs fun t => t.reg Reg.CLK_TS_SEL = v &&& 0xFF0F ∧ (t.reg Reg.CLK_TS_VALUE).getLsbD 31 = x.valid ∧
      (t.reg Reg.CLK_TS_VALUE).toNat % 65536 = (BitVec.ofInt 16 x.last).toNat ∧ t.reg Reg.CLK_TS_MAX = w32 (BitVec.ofInt 16 x.max).toNat) ∧
  (∀ (s : State),
    Does .porAssert s allParts [] fun t => t.start.phase = .reset ∧ t.clk.porN = false ∧ t.clk.ticking = false ∧ t.now = 0 ∧ t.kmem = [] ∧ t.smem = [] ∧
      t.regs = State.reset.regs ∧ t.start.flashA = s.start.flashA ∧ t.start.flashB = s.start.flashB ∧ t.ident.dieRecords = s.ident.dieRecords ∧
      t.ident.packages = s.ident.packages ∧ t.clk.pwrok = s.clk.pwrok)

/-- From R97, R98, R143, R249, R469, R477, R478. KITTY_RGN_SEL shows the selected region, KITTY_QUOTA_SEL an owner's quota and use, KITTY_CLS_SEL the
class counters of a store die or of all, each reading 0 where nothing is there; IDX_TBL_SEL and IDX_LST_SEL_LIST show every field of the selected
table and list, and read 0 where it is not there, IDX_HOT_SEL a hot list of the last window; a read of SCHED_LTC_LO latches the high half;
SCHED_PT_SEL and SCHED_QUOTA_SEL show the selected point and queue, and the selected quota. That a store die of 24 to 30 reads 0 is the model's choice
(log 4). Where the spec leaves a point open, a clause holds the model's own reading: log 39. -/
def Obligations.SelectorsShowTheSelected : Prop :=
  (∀ (v : W32) (r : Region) (s : State), s.isRunning = true → s.kitty.regions.get (v.toNat % 4096) = some r →
    Does (.kittyRgnSel v) s [] [Reg.KITTY_RGN_SEL, Reg.KITTY_RGN_INFO0, Reg.KITTY_RGN_INFO1, Reg.KITTY_RGN_INFO2] fun t =>
      t.reg Reg.KITTY_RGN_SEL = v &&& 0xFFF ∧
      t.reg Reg.KITTY_RGN_INFO0 = w32 (2 ^ 31 + r.gen * 2 ^ 27 + r.cls * 2 ^ 24 + b1 r.spill * 2 ^ 23 + b1 r.readOnly * 2 ^ 22 + r.unitCount) ∧
      t.reg Reg.KITTY_RGN_INFO1 = w32 (ownerKey r.owner) ∧
      t.reg Reg.KITTY_RGN_INFO2 = (if r.spill then w32 (r.spilledPages * 2 ^ 16 + r.sealedPages) else 0)) ∧
  (∀ (v : W32) (s : State), s.isRunning = true → s.kitty.regions.get (v.toNat % 4096) = none →
    Does (.kittyRgnSel v) s [] [Reg.KITTY_RGN_SEL, Reg.KITTY_RGN_INFO0, Reg.KITTY_RGN_INFO1, Reg.KITTY_RGN_INFO2] fun t =>
      t.reg Reg.KITTY_RGN_SEL = v &&& 0xFFF ∧ t.reg Reg.KITTY_RGN_INFO0 = 0 ∧ t.reg Reg.KITTY_RGN_INFO1 = 0 ∧ t.reg Reg.KITTY_RGN_INFO2 = 0) ∧
  (∀ (v : W32) (o : Option Owner) (s : State), s.isRunning = true → ownerOf (v &&& 0xC000FFFF).toNat = o →
    Does (.kittyQuotaSel v) s [] [Reg.KITTY_QUOTA_SEL, Reg.KITTY_QUOTA_LIMIT, Reg.KITTY_QUOTA_USE] fun t =>
      t.reg Reg.KITTY_QUOTA_SEL = v &&& 0xC000FFFF ∧
      (∀ a, o = some a → a ≠ .system → t.reg Reg.KITTY_QUOTA_LIMIT = w32 (s.quotaLimit a 0) ∧ t.reg Reg.KITTY_QUOTA_USE = w32 (s.unitUse a)) ∧
      (o = none ∨ o = some .system → t.reg Reg.KITTY_QUOTA_LIMIT = 0 ∧ t.reg Reg.KITTY_QUOTA_USE = 0)) ∧
  (∀ (v : W32) (sd c : Nat) (s : State), s.isRunning = true → sd = fld v 12 8 → c = fld v 2 0 →
    Does (.kittyClsSel v) s [] [Reg.KITTY_CLS_SEL, Reg.KITTY_CLS_GRANT_LO, Reg.KITTY_CLS_GRANT_LO + 4, Reg.KITTY_CLS_WAIT_LO,
        Reg.KITTY_CLS_WAIT_LO + 4] fun t =>
      t.reg Reg.KITTY_CLS_SEL = v &&& 0x1F07 ∧
      (sd < 24 → t.pair Reg.KITTY_CLS_GRANT_LO = (s.kitty.classes.getD (8 * sd + c) ⟨0, 0⟩).grants.toNat ∧
        t.pair Reg.KITTY_CLS_WAIT_LO = (s.kitty.classes.getD (8 * sd + c) ⟨0, 0⟩).waits.toNat) ∧
      (sd = 31 → t.pair Reg.KITTY_CLS_GRANT_LO =
          min (2 ^ 64 - 1) ((List.range 24).map fun d => (s.kitty.classes.getD (8 * d + c) ⟨0, 0⟩).grants.toNat).sum ∧
        t.pair Reg.KITTY_CLS_WAIT_LO = min (2 ^ 64 - 1) ((List.range 24).map fun d => (s.kitty.classes.getD (8 * d + c) ⟨0, 0⟩).waits.toNat).sum) ∧
      (24 ≤ sd → sd < 31 → t.pair Reg.KITTY_CLS_GRANT_LO = 0 ∧ t.pair Reg.KITTY_CLS_WAIT_LO = 0)) ∧
  (∀ (v : W32) (x : IdxTable) (s : State), s.isRunning = true → s.tbl (fld v 9 0) = some x →
    Does (.idxTblSel v) s [.reg .idx] [] fun t => t.reg Reg.IDX_TBL_SEL = w32 (fld v 9 0) ∧
      t.reg Reg.IDX_TBL_INFO0 = w32 (2 ^ 29 * x.state + 2 ^ 26 * x.gen.codeType + 2 ^ 24 * x.gen.metric + 2 ^ 16 * x.gen.pqM + x.gen.dim) ∧
      t.reg Reg.IDX_TBL_INFO1 =
        w32 (2 ^ 29 * x.gen.fvFormat + 2 ^ 28 * b1 x.gen.fvFlash + 2 ^ 27 * b1 x.gen.residual + 2 ^ 21 * x.gen.attrCols + x.gen.codeBytes) ∧
      t.reg Reg.IDX_TBL_LISTS = w32 x.gen.lists ∧ t.pair Reg.IDX_TBL_MP_LO = x.milepost % 2 ^ 64 ∧ t.pair Reg.IDX_TBL_KEYS_LO = x.keys % 2 ^ 64 ∧
      t.reg Reg.IDX_TBL_ROWS = w32 x.gen.rows ∧ t.reg Reg.IDX_TBL_PINS = w32 (s.pins (fld v 9 0)).length ∧
      t.pair Reg.IDX_TBL_OLDEST_LO = s.oldest (fld v 9 0) % 2 ^ 64 ∧
      t.pair Reg.IDX_TBL_FLOOR_LO = (if 3 ≤ x.state then x.floor % 2 ^ 64 else 0) ∧ t.pair Reg.IDX_TBL_BASE_LO = (if x.state = 5 then x.base % 2 ^ 64 else 0) ∧
      t.reg Reg.IDX_TBL_LOG_USED = w32 ((x.logUsed + 1023) / 1024) ∧ t.reg Reg.IDX_TBL_SPLITS = w32 x.splits.length) ∧
  (∀ (v : W32) (s : State), s.isRunning = true → s.tbl (fld v 9 0) = none →
    Does (.idxTblSel v) s [.reg .idx] [] fun t => t.reg Reg.IDX_TBL_SEL = w32 (fld v 9 0) ∧
      (∀ r ∈ [Reg.IDX_TBL_INFO0, Reg.IDX_TBL_INFO1, Reg.IDX_TBL_LISTS, Reg.IDX_TBL_ROWS, Reg.IDX_TBL_PINS, Reg.IDX_TBL_LOG_USED, Reg.IDX_TBL_SPLITS], t.reg r = 0) ∧
      ∀ r ∈ [Reg.IDX_TBL_MP_LO, Reg.IDX_TBL_KEYS_LO, Reg.IDX_TBL_OLDEST_LO, Reg.IDX_TBL_FLOOR_LO, Reg.IDX_TBL_BASE_LO], t.pair r = 0) ∧
  (∀ (v : W32) (x : IdxTable) (e : DirEntry) (s : State), s.isRunning = true → s.tbl (fld (s.reg Reg.IDX_LST_SEL_TABLE) 9 0) = some x → 3 ≤ x.state →
    fld v 23 0 < x.gen.lists → s.dirEntry x.gen (fld v 23 0) = e →
    Does (.idxLstSelList v) s [.reg .idx] [] fun t => t.reg Reg.IDX_LST_SEL_LIST = w32 (fld v 23 0) ∧
      t.reg Reg.IDX_LST_SEL_TABLE = s.reg Reg.IDX_LST_SEL_TABLE ∧ t.reg Reg.IDX_LST_STATE = w32 e.state ∧ t.reg Reg.IDX_LST_ENTRIES = w32 e.entries ∧
      t.reg Reg.IDX_LST_WAYSIDE = (if e.way = 0 then 0 else w32 (65536 * x.gen.wayCap + s.wayCount e.way)) ∧
      t.reg Reg.IDX_LST_TOMBS = (if e.image = 0 then 0 else w32 (65536 * x.gen.tsCap + s.tsCount e.image)) ∧
      t.pair Reg.IDX_LST_MP_LO = e.milepost % 2 ^ 64 ∧ t.pair Reg.IDX_LST_IMAGE_MP_LO = (if e.image = 0 then 0 else s.imgMp e.image % 2 ^ 64)) ∧
  (∀ (v : W32) (s : State), s.isRunning = true →
    (∀ x, s.tbl (fld (s.reg Reg.IDX_LST_SEL_TABLE) 9 0) = some x → x.state < 3 ∨ x.gen.lists ≤ fld v 23 0) →
    Does (.idxLstSelList v) s [.reg .idx] [] fun t => t.reg Reg.IDX_LST_SEL_LIST = w32 (fld v 23 0) ∧
      t.reg Reg.IDX_LST_SEL_TABLE = s.reg Reg.IDX_LST_SEL_TABLE ∧
      (∀ r ∈ [Reg.IDX_LST_STATE, Reg.IDX_LST_ENTRIES, Reg.IDX_LST_WAYSIDE, Reg.IDX_LST_TOMBS], t.reg r = 0) ∧
      ∀ r ∈ [Reg.IDX_LST_MP_LO, Reg.IDX_LST_IMAGE_MP_LO], t.pair r = 0) ∧
  (∀ (v : W32) (e : Option (Nat × Nat)) (s : State), s.isRunning = true → (s.idx.hotLast.getD (fld v 9 8) [])[fld v 5 0]? = e →
    Does (.idxHotSel v) s [] [Reg.IDX_HOT_SEL, Reg.IDX_HOT_TABLE, Reg.IDX_HOT_LIST, Reg.IDX_HOT_PAIRS] fun t =>
      t.reg Reg.IDX_HOT_SEL = v &&& 0x33F ∧ t.reg Reg.IDX_HOT_TABLE = w32 (e.elim 0 fun x => x.1 / 2 ^ 24) ∧
      t.reg Reg.IDX_HOT_LIST = w32 (e.elim 0 fun x => x.1 % 2 ^ 24) ∧ t.reg Reg.IDX_HOT_PAIRS = w32 (e.elim 0 fun x => min (2 ^ 32 - 1) x.2)) ∧
  (∀ (s : State), s.isRunning = true →
    Does .schedLtcLo s [.out] [Reg.SCHED_LTC_LO, Reg.SCHED_LTC_HI] fun t => t.out = .hostRead (w32 s.now) :: s.out ∧
      t.reg Reg.SCHED_LTC_LO = w32 s.now ∧ t.reg Reg.SCHED_LTC_HI = w32 (s.now / 2 ^ 32)) ∧
  (∀ (v : W32) (p : Point) (q : Nat) (s : State), s.isRunning = true → pointOf (v &&& 0x80070FFF).toNat = (p, q) → s.pointOk p = true →
    Does (.schedPtSel v) s [] ptRegs fun t => t.reg Reg.SCHED_PT_SEL = v &&& 0x80070FFF ∧
      t.reg Reg.SCHED_Q_CFG = w32 (b1 (((s.point p).queue q).rate != unshaped) * 2 ^ 31 + b1 ((s.point p).gateOpen q) * 2 ^ 30 +
        ((s.point p).queue q).weight * 2 ^ 16 + ((s.point p).queue q).burst) ∧
      t.reg Reg.SCHED_Q_RATE = w32 ((s.point p).queue q).rate ∧
      t.reg Reg.SCHED_Q_LEVEL = (if ((s.point p).queue q).rate = unshaped then 0 else w32 (levelWord ((s.point p).queue q).level)) ∧
      t.reg Reg.SCHED_Q_DEFICIT = (if q < 2 then 0 else w32 ((s.point p).queue q).deficit) ∧
      t.reg Reg.SCHED_Q_DEPTH = w32 (pointDepth p q s) ∧ t.pair Reg.SCHED_Q_SENT_LO = ((s.point p).queue q).sent.toNat ∧
      t.pair Reg.SCHED_Q_TOKENS_LO = ((s.point p).queue q).tokens.toNat ∧ t.reg Reg.SCHED_Q_GATE_WAIT = ((s.point p).queue q).gateWait ∧
      t.reg Reg.SCHED_Q_RATE_WAIT = ((s.point p).queue q).rateWait ∧
      t.reg Reg.SCHED_PT_GATES = w32 (b1 (s.point p).nextGates.isSome * 2 ^ 31 + (s.point p).gates.length * 2 ^ 16 +
        ((s.point p).nextGates.elim 0 fun x => x.2.length) * 2 ^ 8 + (s.point p).entry) ∧
      t.pair Reg.SCHED_PT_START_LO = ((s.point p).nextGates.elim 0 fun x => x.1) % 2 ^ 64) ∧
  (∀ (v : W32) (s : State), s.isRunning = true → s.pointOk (pointOf (v &&& 0x80070FFF).toNat).1 = false →
    Does (.schedPtSel v) s [] ptRegs fun t => t.reg Reg.SCHED_PT_SEL = v &&& 0x80070FFF ∧ ∀ r ∈ ptRegs, r ≠ Reg.SCHED_PT_SEL → t.reg r = 0) ∧
  (∀ (v : W32) (o : Owner) (code : Nat) (s : State), s.isRunning = true → ownerOf (v &&& 0xC00FFFFF).toNat = some o →
    code = fld v 19 16 → code ≤ 4 → s.quotaHolder o = true →
    Does (.schedQuotaSel v) s [] quotaRegs fun t => t.reg Reg.SCHED_QUOTA_SEL = v &&& 0xC00FFFFF ∧
      t.pair Reg.SCHED_QUOTA_LIMIT_LO = s.quotaLimit o code % 2 ^ 64 ∧ t.pair Reg.SCHED_QUOTA_USE_LO = resourceUse o code s % 2 ^ 64 ∧
      t.reg Reg.SCHED_QUOTA_DENIED = s.quota.denied.getD (quotaKey o code) 0) ∧
  (∀ (v : W32) (s : State), s.isRunning = true →
    (∀ o, ownerOf (v &&& 0xC00FFFFF).toNat = some o → 4 < fld v 19 16 ∨ s.quotaHolder o = false) →
    Does (.schedQuotaSel v) s [] quotaRegs fun t => t.reg Reg.SCHED_QUOTA_SEL = v &&& 0xC00FFFFF ∧ ∀ r ∈ quotaRegs, r ≠ Reg.SCHED_QUOTA_SEL → t.reg r = 0)

end
end

