-- ==== Sys2Proof/Laws/Mem.lean ====
section
/-! SUPPORT. Laws of tables and byte memories: reading after writing, and that every memory operation keeps the canonical form. -/

namespace Sys2Proof.Machine

/-! ## Tables -/

/-- A table's keys strictly rise. -/
def Tbl.Sorted {α : Type} (t : Tbl α) : Prop := (t.map Prod.fst).Pairwise (· < ·)

theorem Tbl.sorted_iff {α : Type} : ∀ t : Tbl α, Tbl.sorted t = true ↔ Tbl.Sorted t
  | [] => by simp [Tbl.sorted, Tbl.Sorted]
  | [_] => by simp [Tbl.sorted, Tbl.Sorted]
  | (k, v) :: (k', v') :: rest => by
    have ih := Tbl.sorted_iff ((k', v') :: rest)
    unfold Tbl.Sorted at *
    simp only [Tbl.sorted, Bool.and_eq_true, decide_eq_true_eq, ih, List.map_cons, List.pairwise_cons, List.mem_cons, forall_eq_or_imp]
    constructor
    · rintro ⟨h, h1, h2⟩
      exact ⟨⟨h, fun a ha => h.trans (h1 a ha)⟩, h1, h2⟩
    · rintro ⟨⟨h, _⟩, h1, h2⟩
      exact ⟨h, h1, h2⟩

/-- Keys of a table after `put`: the key written, and those it had. -/
theorem Tbl.mem_put {α : Type} (key : Nat) (v : α) : ∀ (t : Tbl α) (e : Nat × α), e ∈ Tbl.put t key v → e = (key, v) ∨ e ∈ t
  | [], e, h => by simpa [Tbl.put] using h
  | (k, w) :: rest, e, h => by
    have ih := Tbl.mem_put key v rest e
    unfold Tbl.put at h
    split at h
    · rcases List.mem_cons.1 h with h | h
      · exact .inl h
      · exact .inr (List.mem_cons_of_mem _ h)
    · split at h
      · rcases List.mem_cons.1 h with h | h
        · exact .inl h
        · exact .inr h
      · rcases List.mem_cons.1 h with h | h
        · exact .inr (h ▸ List.mem_cons_self)
        · rcases ih h with h | h
          · exact .inl h
          · exact .inr (List.mem_cons_of_mem _ h)

theorem Tbl.mem_del {α : Type} (key : Nat) : ∀ (t : Tbl α) (e : Nat × α), e ∈ Tbl.del t key → e ∈ t
  | [], e, h => by simp [Tbl.del] at h
  | (k, w) :: rest, e, h => by
    have ih := Tbl.mem_del key rest e
    unfold Tbl.del at h
    split at h
    · exact List.mem_cons_of_mem _ (ih h)
    · rcases List.mem_cons.1 h with h | h
      · exact h ▸ List.mem_cons_self
      · exact List.mem_cons_of_mem _ (ih h)

theorem Tbl.Sorted.put {α : Type} (key : Nat) (v : α) : ∀ {t : Tbl α}, Tbl.Sorted t → Tbl.Sorted (Tbl.put t key v)
  | [], _ => by simp [Tbl.put, Tbl.Sorted]
  | (k, w) :: rest, h => by
    obtain ⟨h1, h2⟩ := List.pairwise_cons.1 (show List.Pairwise (· < ·) (k :: rest.map Prod.fst) from h)
    unfold Tbl.put
    split
    · next e => subst e; exact List.pairwise_cons.2 ⟨h1, h2⟩
    · split
      · next e l =>
        refine List.pairwise_cons.2 ⟨fun a ha => ?_, h⟩
        rcases List.mem_cons.1 ha with ha | ha
        · exact ha ▸ l
        · exact l.trans (h1 a ha)
      · next e l =>
        refine List.pairwise_cons.2 ⟨fun a ha => ?_, Tbl.Sorted.put key v (t := rest) h2⟩
        obtain ⟨x, hx, rfl⟩ := List.mem_map.1 ha
        rcases Tbl.mem_put key v rest x hx with hx | hx
        · subst hx; simp only; omega
        · exact h1 _ (List.mem_map.2 ⟨x, hx, rfl⟩)

theorem Tbl.Sorted.del {α : Type} (key : Nat) : ∀ {t : Tbl α}, Tbl.Sorted t → Tbl.Sorted (Tbl.del t key)
  | [], _ => by simp [Tbl.del, Tbl.Sorted]
  | (k, w) :: rest, h => by
    obtain ⟨h1, h2⟩ := List.pairwise_cons.1 (show List.Pairwise (· < ·) (k :: rest.map Prod.fst) from h)
    unfold Tbl.del
    split
    · exact Tbl.Sorted.del key (t := rest) h2
    · refine List.pairwise_cons.2 ⟨fun a ha => ?_, Tbl.Sorted.del key (t := rest) h2⟩
      obtain ⟨x, hx, rfl⟩ := List.mem_map.1 ha
      exact h1 _ (List.mem_map.2 ⟨x, Tbl.mem_del key rest x hx, rfl⟩)

/-- Reading a table after writing it. -/
theorem Tbl.get_put {α : Type} (key : Nat) (v : α) : ∀ (t : Tbl α) (k' : Nat), Tbl.get (Tbl.put t key v) k' = if k' = key then some v else Tbl.get t k'
  | [], k' => by
    simp only [Tbl.put, Tbl.get]
    split_ifs <;> first | rfl | (exfalso; omega)
  | (k, w) :: rest, k' => by
    have ih := Tbl.get_put key v rest k'
    unfold Tbl.put
    split_ifs <;> simp only [Tbl.get, ih] <;> split_ifs <;> first | rfl | (exfalso; omega)

/-- Reading a table after an entry was removed. -/
theorem Tbl.get_del {α : Type} (key : Nat) : ∀ (t : Tbl α) (k' : Nat), Tbl.get (Tbl.del t key) k' = if k' = key then none else Tbl.get t k'
  | [], k' => by simp [Tbl.del, Tbl.get]
  | (k, w) :: rest, k' => by
    have ih := Tbl.get_del key rest k'
    unfold Tbl.del
    split_ifs <;> simp only [Tbl.get, ih] <;> split_ifs <;> first | rfl | (exfalso; omega)

@[simp] theorem Tbl.get_put_self {α : Type} (t : Tbl α) (k : Nat) (v : α) : Tbl.get (Tbl.put t k v) k = some v := by simp [Tbl.get_put]

@[simp] theorem Tbl.get_del_self {α : Type} (t : Tbl α) (k : Nat) : Tbl.get (Tbl.del t k) k = none := by simp [Tbl.get_del]

/-- Reading a table after one entry was changed. -/
theorem Tbl.get_modify {α : Type} (t : Tbl α) (k : Nat) (f : α → α) (k' : Nat) :
    Tbl.get (Tbl.modify t k f) k' = if k' = k then (Tbl.get t k).map f else Tbl.get t k' := by
  unfold Tbl.modify
  cases h : Tbl.get t k with
  | none =>
    split_ifs with e
    · rw [e, h]; rfl
    · rfl
  | some v => rw [Tbl.get_put]; rfl

/-! ## Byte memories -/

/-- The canonical form as a proposition. -/
def Mem.Canon (m : Mem) : Prop := Tbl.Sorted m ∧ ∀ e ∈ m, e.2 ≠ 0

theorem Mem.wf_iff (m : Mem) : Mem.wf m = true ↔ Mem.Canon m := by
  simp [Mem.wf, Mem.Canon, Tbl.sorted_iff]

theorem Mem.Canon.nil : Mem.Canon [] := by simp [Mem.Canon, Tbl.Sorted]

theorem Mem.Canon.write {m : Mem} (h : Mem.Canon m) (a : Nat) (b : Byte) : Mem.Canon (Mem.write m a b) := by
  unfold Mem.write
  split_ifs with hb
  · exact ⟨h.1.del a, fun e he => h.2 e (Tbl.mem_del a m e he)⟩
  · refine ⟨h.1.put a b, fun e he => ?_⟩
    rcases Tbl.mem_put a b m e he with rfl | he
    · exact hb
    · exact h.2 e he

theorem Mem.Canon.writeBytes : ∀ (b : Bytes) {m : Mem} (_ : Mem.Canon m) (a : Nat), Mem.Canon (Mem.writeBytes m a b)
  | [], _, h, _ => h
  | x :: rest, _, h, a => Mem.Canon.writeBytes rest (h.write a x) (a + 1)

theorem Mem.Canon.zero {m : Mem} (h : Mem.Canon m) (a n : Nat) : Mem.Canon (Mem.zero m a n) :=
  ⟨List.Pairwise.sublist (List.filter_sublist.map Prod.fst) h.1, fun e he => h.2 e (List.mem_of_mem_filter he)⟩

/-- A byte reads back as it was written; every other byte reads as before. -/
theorem Mem.read_write (m : Mem) (a : Nat) (b : Byte) (x : Nat) : Mem.read (Mem.write m a b) x = if x = a then b else Mem.read m x := by
  unfold Mem.read Mem.write Tbl.getD
  split_ifs with hb hx hx
  · rw [Tbl.get_del, if_pos hx]; exact hb.symm
  · rw [Tbl.get_del, if_neg hx]
  · rw [Tbl.get_put, if_pos hx]; rfl
  · rw [Tbl.get_put, if_neg hx]

/-- Bytes outside a written range read as before, bytes inside as they were written. -/
theorem Mem.read_writeBytes : ∀ (b : Bytes) (m : Mem) (a x : Nat),
    Mem.read (Mem.writeBytes m a b) x = if a ≤ x ∧ x < a + b.length then b.getD (x - a) 0 else Mem.read m x
  | [], m, a, x => by
    have : ¬(a ≤ x ∧ x < a + ([] : Bytes).length) := by simp
    rw [if_neg this]; rfl
  | y :: rest, m, a, x => by
    rw [Mem.writeBytes, Mem.read_writeBytes rest (m.write a y) (a + 1) x, Mem.read_write]
    by_cases e : x = a
    · subst e; simp
    · by_cases l : a + 1 ≤ x ∧ x < a + 1 + rest.length
      · have l' : a ≤ x ∧ x < a + (y :: rest).length := by simp only [List.length_cons]; omega
        rw [if_pos l, if_pos l']
        obtain ⟨d, rfl⟩ : ∃ d, x = a + 1 + d := ⟨x - (a + 1), by omega⟩
        have h1 : a + 1 + d - (a + 1) = d := by omega
        have h2 : a + 1 + d - a = d + 1 := by omega
        rw [h1, h2]; simp
      · have l' : ¬(a ≤ x ∧ x < a + (y :: rest).length) := by simp only [List.length_cons]; omega
        rw [if_neg l, if_neg l', if_neg e]

/-- A key's entry in a filtered table. -/
theorem Tbl.get_filter {α : Type} (p : Nat → Bool) : ∀ (t : Tbl α) (x : Nat),
    Tbl.get (t.filter fun e => p e.1) x = if p x then Tbl.get t x else none
  | [], x => by simp [Tbl.get]
  | (k, w) :: rest, x => by
    have ih := Tbl.get_filter p rest x
    by_cases hk : p k = true
    · rw [List.filter_cons_of_pos (by simpa using hk)]
      simp only [Tbl.get, ih]
      split_ifs with e hp hp <;> first | rfl | (subst e; contradiction)
    · rw [List.filter_cons_of_neg (by simpa using hk), ih]
      simp only [Tbl.get]
      split_ifs with hp e
      · subst e; contradiction
      · rfl
      · rfl

/-- Bytes of a cleared range read 0, the rest as before. -/
theorem Mem.read_zero (m : Mem) (a n x : Nat) : Mem.read (Mem.zero m a n) x = if a ≤ x ∧ x < a + n then 0 else Mem.read m x := by
  have := Tbl.get_filter (fun k => decide (k < a ∨ a + n ≤ k)) m x
  unfold Mem.read Mem.zero Tbl.getD
  rw [this]
  by_cases c : a ≤ x ∧ x < a + n
  · rw [if_pos c, if_neg (by simp; omega)]; rfl
  · rw [if_neg c, if_pos (by simp; omega)]

/-- A region's store keeps the canonical form. -/
theorem Mem.Canon.store (r : Region) : ∀ (b : Bytes) (o : Nat) {m : Mem} (_ : Mem.Canon m), Mem.Canon (r.store o b m)
  | [], o, m, h => by simpa [Region.store] using h
  | x :: rest, o, m, h => by
    unfold Region.store
    split
    · exact Mem.Canon.store r rest (o + 1) (h.write _ _)
    · exact Mem.Canon.store r rest (o + 1) h

/-- An object's store keeps the canonical form. -/
theorem Mem.Canon.place (d : PlaceDesc) : ∀ (b : Bytes) (o : Nat) {m : Mem} (_ : Mem.Canon m), Mem.Canon (d.store o b m)
  | [], o, m, h => by simpa [PlaceDesc.store] using h
  | x :: rest, o, m, h => by
    unfold PlaceDesc.store
    split
    · exact Mem.Canon.place d rest (o + 1) (h.write _ _)
    · exact Mem.Canon.place d rest (o + 1) h

end Sys2Proof.Machine
end

