-- ==== Sys2Proof/Laws/Regs.lean ====
section
/-! SUPPORT. Laws of the register operations: what a register reads after one was stored, and that storing one changes no other part. -/

namespace Sys2Proof.Machine

@[simp] theorem RegFile.table_setTable (r : RegFile) (b : Block) (t : Tbl W32) : (r.setTable b t).table b = t := by
  cases b <;> rfl

theorem RegFile.table_setTable_ne (r : RegFile) (b c : Block) (t : Tbl W32) (h : c ≠ b) : (r.setTable b t).table c = r.table c := by
  cases b <;> cases c <;> first | rfl | exact absurd rfl h

/-- A register reads back what was stored in it; every other register reads as before. -/
theorem State.reg_setReg (off : Nat) (v : W32) (s : State) (x : Nat) :
    (s.setReg off v).reg x = if x = off ∧ (blockOf off).isSome then v else s.reg x := by
  unfold State.setReg
  cases hb : blockOf off with
  | none => simp
  | some b =>
    unfold State.reg
    by_cases hx : x = off
    · subst hx
      simp only [hb, RegFile.table_setTable, Tbl.get_put]
      simp
    · cases hc : blockOf x with
      | none => simp [hx]
      | some c =>
        by_cases hbc : c = b
        · subst hbc
          simp only [RegFile.table_setTable, Tbl.get_put, hx]
          simp
        · simp only [RegFile.table_setTable_ne _ _ _ _ hbc]
          simp [hx]

theorem State.reg_setReg_ne (off : Nat) (v : W32) (s : State) (x : Nat) (h : x ≠ off) : (s.setReg off v).reg x = s.reg x := by
  rw [State.reg_setReg, if_neg (fun c => h c.1)]

theorem State.reg_setReg_self (off : Nat) (v : W32) (s : State) (h : (blockOf off).isSome) : (s.setReg off v).reg off = v := by
  rw [State.reg_setReg, if_pos ⟨rfl, h⟩]

/-- Registers depend on nothing but the register file. -/
theorem State.reg_congr {s t : State} (h : t.regs = s.regs) (x : Nat) : t.reg x = s.reg x := by
  unfold State.reg; rw [h]

variable (off : Nat) (v : W32) (n : Nat) (s : State)

@[simp] theorem State.setReg_clk : (s.setReg off v).clk = s.clk := by unfold State.setReg; split <;> rfl
@[simp] theorem State.setReg_start : (s.setReg off v).start = s.start := by unfold State.setReg; split <;> rfl
@[simp] theorem State.setReg_ident : (s.setReg off v).ident = s.ident := by unfold State.setReg; split <;> rfl
@[simp] theorem State.setReg_cfg : (s.setReg off v).cfg = s.cfg := by unfold State.setReg; split <;> rfl
@[simp] theorem State.setReg_host : (s.setReg off v).host = s.host := by unfold State.setReg; split <;> rfl
@[simp] theorem State.setReg_slots : (s.setReg off v).slots = s.slots := by unfold State.setReg; split <;> rfl
@[simp] theorem State.setReg_xp : (s.setReg off v).xp = s.xp := by unfold State.setReg; split <;> rfl
@[simp] theorem State.setReg_kitty : (s.setReg off v).kitty = s.kitty := by unfold State.setReg; split <;> rfl
@[simp] theorem State.setReg_bus : (s.setReg off v).bus = s.bus := by unfold State.setReg; split <;> rfl
@[simp] theorem State.setReg_kmem : (s.setReg off v).kmem = s.kmem := by unfold State.setReg; split <;> rfl
@[simp] theorem State.setReg_smem : (s.setReg off v).smem = s.smem := by unfold State.setReg; split <;> rfl
@[simp] theorem State.setReg_tiles : (s.setReg off v).tiles = s.tiles := by unfold State.setReg; split <;> rfl
@[simp] theorem State.setReg_pds : (s.setReg off v).pds = s.pds := by unfold State.setReg; split <;> rfl
@[simp] theorem State.setReg_quota : (s.setReg off v).quota = s.quota := by unfold State.setReg; split <;> rfl
@[simp] theorem State.setReg_sched : (s.setReg off v).sched = s.sched := by unfold State.setReg; split <;> rfl
@[simp] theorem State.setReg_idx : (s.setReg off v).idx = s.idx := by unfold State.setReg; split <;> rfl
@[simp] theorem State.setReg_qry : (s.setReg off v).qry = s.qry := by unfold State.setReg; split <;> rfl
@[simp] theorem State.setReg_link : (s.setReg off v).link = s.link := by unfold State.setReg; split <;> rfl
@[simp] theorem State.setReg_ton : (s.setReg off v).ton = s.ton := by unfold State.setReg; split <;> rfl
@[simp] theorem State.setReg_eng : (s.setReg off v).eng = s.eng := by unfold State.setReg; split <;> rfl
@[simp] theorem State.setReg_kv : (s.setReg off v).kv = s.kv := by unfold State.setReg; split <;> rfl
@[simp] theorem State.setReg_emb : (s.setReg off v).emb = s.emb := by unfold State.setReg; split <;> rfl
@[simp] theorem State.setReg_nand : (s.setReg off v).nand = s.nand := by unfold State.setReg; split <;> rfl
@[simp] theorem State.setReg_lend : (s.setReg off v).lend = s.lend := by unfold State.setReg; split <;> rfl
@[simp] theorem State.setReg_med : (s.setReg off v).med = s.med := by unfold State.setReg; split <;> rfl
@[simp] theorem State.setReg_post : (s.setReg off v).post = s.post := by unfold State.setReg; split <;> rfl
@[simp] theorem State.setReg_flt : (s.setReg off v).flt = s.flt := by unfold State.setReg; split <;> rfl
@[simp] theorem State.setReg_out : (s.setReg off v).out = s.out := by unfold State.setReg; split <;> rfl
@[simp] theorem State.setReg_free : (s.setReg off v).free = s.free := by unfold State.setReg; split <;> rfl
@[simp] theorem State.setReg_pending : (s.setReg off v).pending = s.pending := by unfold State.setReg; split <;> rfl
@[simp] theorem State.setNat_clk : (s.setNat off n).clk = s.clk := by simp [State.setNat]
@[simp] theorem State.setNat_start : (s.setNat off n).start = s.start := by simp [State.setNat]
@[simp] theorem State.setNat_ident : (s.setNat off n).ident = s.ident := by simp [State.setNat]
@[simp] theorem State.setNat_cfg : (s.setNat off n).cfg = s.cfg := by simp [State.setNat]
@[simp] theorem State.setNat_host : (s.setNat off n).host = s.host := by simp [State.setNat]
@[simp] theorem State.setNat_slots : (s.setNat off n).slots = s.slots := by simp [State.setNat]
@[simp] theorem State.setNat_xp : (s.setNat off n).xp = s.xp := by simp [State.setNat]
@[simp] theorem State.setNat_kitty : (s.setNat off n).kitty = s.kitty := by simp [State.setNat]
@[simp] theorem State.setNat_bus : (s.setNat off n).bus = s.bus := by simp [State.setNat]
@[simp] theorem State.setNat_kmem : (s.setNat off n).kmem = s.kmem := by simp [State.setNat]
@[simp] theorem State.setNat_smem : (s.setNat off n).smem = s.smem := by simp [State.setNat]
@[simp] theorem State.setNat_tiles : (s.setNat off n).tiles = s.tiles := by simp [State.setNat]
@[simp] theorem State.setNat_pds : (s.setNat off n).pds = s.pds := by simp [State.setNat]
@[simp] theorem State.setNat_quota : (s.setNat off n).quota = s.quota := by simp [State.setNat]
@[simp] theorem State.setNat_sched : (s.setNat off n).sched = s.sched := by simp [State.setNat]
@[simp] theorem State.setNat_idx : (s.setNat off n).idx = s.idx := by simp [State.setNat]
@[simp] theorem State.setNat_qry : (s.setNat off n).qry = s.qry := by simp [State.setNat]
@[simp] theorem State.setNat_link : (s.setNat off n).link = s.link := by simp [State.setNat]
@[simp] theorem State.setNat_ton : (s.setNat off n).ton = s.ton := by simp [State.setNat]
@[simp] theorem State.setNat_eng : (s.setNat off n).eng = s.eng := by simp [State.setNat]
@[simp] theorem State.setNat_kv : (s.setNat off n).kv = s.kv := by simp [State.setNat]
@[simp] theorem State.setNat_emb : (s.setNat off n).emb = s.emb := by simp [State.setNat]
@[simp] theorem State.setNat_nand : (s.setNat off n).nand = s.nand := by simp [State.setNat]
@[simp] theorem State.setNat_lend : (s.setNat off n).lend = s.lend := by simp [State.setNat]
@[simp] theorem State.setNat_med : (s.setNat off n).med = s.med := by simp [State.setNat]
@[simp] theorem State.setNat_post : (s.setNat off n).post = s.post := by simp [State.setNat]
@[simp] theorem State.setNat_flt : (s.setNat off n).flt = s.flt := by simp [State.setNat]
@[simp] theorem State.setNat_out : (s.setNat off n).out = s.out := by simp [State.setNat]
@[simp] theorem State.setNat_free : (s.setNat off n).free = s.free := by simp [State.setNat]
@[simp] theorem State.setNat_pending : (s.setNat off n).pending = s.pending := by simp [State.setNat]
@[simp] theorem State.setPair_clk : (s.setPair off n).clk = s.clk := by simp [State.setPair]
@[simp] theorem State.setPair_start : (s.setPair off n).start = s.start := by simp [State.setPair]
@[simp] theorem State.setPair_ident : (s.setPair off n).ident = s.ident := by simp [State.setPair]
@[simp] theorem State.setPair_cfg : (s.setPair off n).cfg = s.cfg := by simp [State.setPair]
@[simp] theorem State.setPair_host : (s.setPair off n).host = s.host := by simp [State.setPair]
@[simp] theorem State.setPair_slots : (s.setPair off n).slots = s.slots := by simp [State.setPair]
@[simp] theorem State.setPair_xp : (s.setPair off n).xp = s.xp := by simp [State.setPair]
@[simp] theorem State.setPair_kitty : (s.setPair off n).kitty = s.kitty := by simp [State.setPair]
@[simp] theorem State.setPair_bus : (s.setPair off n).bus = s.bus := by simp [State.setPair]
@[simp] theorem State.setPair_kmem : (s.setPair off n).kmem = s.kmem := by simp [State.setPair]
@[simp] theorem State.setPair_smem : (s.setPair off n).smem = s.smem := by simp [State.setPair]
@[simp] theorem State.setPair_tiles : (s.setPair off n).tiles = s.tiles := by simp [State.setPair]
@[simp] theorem State.setPair_pds : (s.setPair off n).pds = s.pds := by simp [State.setPair]
@[simp] theorem State.setPair_quota : (s.setPair off n).quota = s.quota := by simp [State.setPair]
@[simp] theorem State.setPair_sched : (s.setPair off n).sched = s.sched := by simp [State.setPair]
@[simp] theorem State.setPair_idx : (s.setPair off n).idx = s.idx := by simp [State.setPair]
@[simp] theorem State.setPair_qry : (s.setPair off n).qry = s.qry := by simp [State.setPair]
@[simp] theorem State.setPair_link : (s.setPair off n).link = s.link := by simp [State.setPair]
@[simp] theorem State.setPair_ton : (s.setPair off n).ton = s.ton := by simp [State.setPair]
@[simp] theorem State.setPair_eng : (s.setPair off n).eng = s.eng := by simp [State.setPair]
@[simp] theorem State.setPair_kv : (s.setPair off n).kv = s.kv := by simp [State.setPair]
@[simp] theorem State.setPair_emb : (s.setPair off n).emb = s.emb := by simp [State.setPair]
@[simp] theorem State.setPair_nand : (s.setPair off n).nand = s.nand := by simp [State.setPair]
@[simp] theorem State.setPair_lend : (s.setPair off n).lend = s.lend := by simp [State.setPair]
@[simp] theorem State.setPair_med : (s.setPair off n).med = s.med := by simp [State.setPair]
@[simp] theorem State.setPair_post : (s.setPair off n).post = s.post := by simp [State.setPair]
@[simp] theorem State.setPair_flt : (s.setPair off n).flt = s.flt := by simp [State.setPair]
@[simp] theorem State.setPair_out : (s.setPair off n).out = s.out := by simp [State.setPair]
@[simp] theorem State.setPair_free : (s.setPair off n).free = s.free := by simp [State.setPair]
@[simp] theorem State.setPair_pending : (s.setPair off n).pending = s.pending := by simp [State.setPair]
@[simp] theorem State.bumpBy_clk : (s.bumpBy off n).clk = s.clk := by simp [State.bumpBy]
@[simp] theorem State.bumpBy_start : (s.bumpBy off n).start = s.start := by simp [State.bumpBy]
@[simp] theorem State.bumpBy_ident : (s.bumpBy off n).ident = s.ident := by simp [State.bumpBy]
@[simp] theorem State.bumpBy_cfg : (s.bumpBy off n).cfg = s.cfg := by simp [State.bumpBy]
@[simp] theorem State.bumpBy_host : (s.bumpBy off n).host = s.host := by simp [State.bumpBy]
@[simp] theorem State.bumpBy_slots : (s.bumpBy off n).slots = s.slots := by simp [State.bumpBy]
@[simp] theorem State.bumpBy_xp : (s.bumpBy off n).xp = s.xp := by simp [State.bumpBy]
@[simp] theorem State.bumpBy_kitty : (s.bumpBy off n).kitty = s.kitty := by simp [State.bumpBy]
@[simp] theorem State.bumpBy_bus : (s.bumpBy off n).bus = s.bus := by simp [State.bumpBy]
@[simp] theorem State.bumpBy_kmem : (s.bumpBy off n).kmem = s.kmem := by simp [State.bumpBy]
@[simp] theorem State.bumpBy_smem : (s.bumpBy off n).smem = s.smem := by simp [State.bumpBy]
@[simp] theorem State.bumpBy_tiles : (s.bumpBy off n).tiles = s.tiles := by simp [State.bumpBy]
@[simp] theorem State.bumpBy_pds : (s.bumpBy off n).pds = s.pds := by simp [State.bumpBy]
@[simp] theorem State.bumpBy_quota : (s.bumpBy off n).quota = s.quota := by simp [State.bumpBy]
@[simp] theorem State.bumpBy_sched : (s.bumpBy off n).sched = s.sched := by simp [State.bumpBy]
@[simp] theorem State.bumpBy_idx : (s.bumpBy off n).idx = s.idx := by simp [State.bumpBy]
@[simp] theorem State.bumpBy_qry : (s.bumpBy off n).qry = s.qry := by simp [State.bumpBy]
@[simp] theorem State.bumpBy_link : (s.bumpBy off n).link = s.link := by simp [State.bumpBy]
@[simp] theorem State.bumpBy_ton : (s.bumpBy off n).ton = s.ton := by simp [State.bumpBy]
@[simp] theorem State.bumpBy_eng : (s.bumpBy off n).eng = s.eng := by simp [State.bumpBy]
@[simp] theorem State.bumpBy_kv : (s.bumpBy off n).kv = s.kv := by simp [State.bumpBy]
@[simp] theorem State.bumpBy_emb : (s.bumpBy off n).emb = s.emb := by simp [State.bumpBy]
@[simp] theorem State.bumpBy_nand : (s.bumpBy off n).nand = s.nand := by simp [State.bumpBy]
@[simp] theorem State.bumpBy_lend : (s.bumpBy off n).lend = s.lend := by simp [State.bumpBy]
@[simp] theorem State.bumpBy_med : (s.bumpBy off n).med = s.med := by simp [State.bumpBy]
@[simp] theorem State.bumpBy_post : (s.bumpBy off n).post = s.post := by simp [State.bumpBy]
@[simp] theorem State.bumpBy_flt : (s.bumpBy off n).flt = s.flt := by simp [State.bumpBy]
@[simp] theorem State.bumpBy_out : (s.bumpBy off n).out = s.out := by simp [State.bumpBy]
@[simp] theorem State.bumpBy_free : (s.bumpBy off n).free = s.free := by simp [State.bumpBy]
@[simp] theorem State.bumpBy_pending : (s.bumpBy off n).pending = s.pending := by simp [State.bumpBy]
@[simp] theorem State.bump_clk : (s.bump off).clk = s.clk := by simp [State.bump]
@[simp] theorem State.bump_start : (s.bump off).start = s.start := by simp [State.bump]
@[simp] theorem State.bump_ident : (s.bump off).ident = s.ident := by simp [State.bump]
@[simp] theorem State.bump_cfg : (s.bump off).cfg = s.cfg := by simp [State.bump]
@[simp] theorem State.bump_host : (s.bump off).host = s.host := by simp [State.bump]
@[simp] theorem State.bump_slots : (s.bump off).slots = s.slots := by simp [State.bump]
@[simp] theorem State.bump_xp : (s.bump off).xp = s.xp := by simp [State.bump]
@[simp] theorem State.bump_kitty : (s.bump off).kitty = s.kitty := by simp [State.bump]
@[simp] theorem State.bump_bus : (s.bump off).bus = s.bus := by simp [State.bump]
@[simp] theorem State.bump_kmem : (s.bump off).kmem = s.kmem := by simp [State.bump]
@[simp] theorem State.bump_smem : (s.bump off).smem = s.smem := by simp [State.bump]
@[simp] theorem State.bump_tiles : (s.bump off).tiles = s.tiles := by simp [State.bump]
@[simp] theorem State.bump_pds : (s.bump off).pds = s.pds := by simp [State.bump]
@[simp] theorem State.bump_quota : (s.bump off).quota = s.quota := by simp [State.bump]
@[simp] theorem State.bump_sched : (s.bump off).sched = s.sched := by simp [State.bump]
@[simp] theorem State.bump_idx : (s.bump off).idx = s.idx := by simp [State.bump]
@[simp] theorem State.bump_qry : (s.bump off).qry = s.qry := by simp [State.bump]
@[simp] theorem State.bump_link : (s.bump off).link = s.link := by simp [State.bump]
@[simp] theorem State.bump_ton : (s.bump off).ton = s.ton := by simp [State.bump]
@[simp] theorem State.bump_eng : (s.bump off).eng = s.eng := by simp [State.bump]
@[simp] theorem State.bump_kv : (s.bump off).kv = s.kv := by simp [State.bump]
@[simp] theorem State.bump_emb : (s.bump off).emb = s.emb := by simp [State.bump]
@[simp] theorem State.bump_nand : (s.bump off).nand = s.nand := by simp [State.bump]
@[simp] theorem State.bump_lend : (s.bump off).lend = s.lend := by simp [State.bump]
@[simp] theorem State.bump_med : (s.bump off).med = s.med := by simp [State.bump]
@[simp] theorem State.bump_post : (s.bump off).post = s.post := by simp [State.bump]
@[simp] theorem State.bump_flt : (s.bump off).flt = s.flt := by simp [State.bump]
@[simp] theorem State.bump_out : (s.bump off).out = s.out := by simp [State.bump]
@[simp] theorem State.bump_free : (s.bump off).free = s.free := by simp [State.bump]
@[simp] theorem State.bump_pending : (s.bump off).pending = s.pending := by simp [State.bump]
@[simp] theorem State.bump64_clk : (s.bump64 off n).clk = s.clk := by simp [State.bump64]
@[simp] theorem State.bump64_start : (s.bump64 off n).start = s.start := by simp [State.bump64]
@[simp] theorem State.bump64_ident : (s.bump64 off n).ident = s.ident := by simp [State.bump64]
@[simp] theorem State.bump64_cfg : (s.bump64 off n).cfg = s.cfg := by simp [State.bump64]
@[simp] theorem State.bump64_host : (s.bump64 off n).host = s.host := by simp [State.bump64]
@[simp] theorem State.bump64_slots : (s.bump64 off n).slots = s.slots := by simp [State.bump64]
@[simp] theorem State.bump64_xp : (s.bump64 off n).xp = s.xp := by simp [State.bump64]
@[simp] theorem State.bump64_kitty : (s.bump64 off n).kitty = s.kitty := by simp [State.bump64]
@[simp] theorem State.bump64_bus : (s.bump64 off n).bus = s.bus := by simp [State.bump64]
@[simp] theorem State.bump64_kmem : (s.bump64 off n).kmem = s.kmem := by simp [State.bump64]
@[simp] theorem State.bump64_smem : (s.bump64 off n).smem = s.smem := by simp [State.bump64]
@[simp] theorem State.bump64_tiles : (s.bump64 off n).tiles = s.tiles := by simp [State.bump64]
@[simp] theorem State.bump64_pds : (s.bump64 off n).pds = s.pds := by simp [State.bump64]
@[simp] theorem State.bump64_quota : (s.bump64 off n).quota = s.quota := by simp [State.bump64]
@[simp] theorem State.bump64_sched : (s.bump64 off n).sched = s.sched := by simp [State.bump64]
@[simp] theorem State.bump64_idx : (s.bump64 off n).idx = s.idx := by simp [State.bump64]
@[simp] theorem State.bump64_qry : (s.bump64 off n).qry = s.qry := by simp [State.bump64]
@[simp] theorem State.bump64_link : (s.bump64 off n).link = s.link := by simp [State.bump64]
@[simp] theorem State.bump64_ton : (s.bump64 off n).ton = s.ton := by simp [State.bump64]
@[simp] theorem State.bump64_eng : (s.bump64 off n).eng = s.eng := by simp [State.bump64]
@[simp] theorem State.bump64_kv : (s.bump64 off n).kv = s.kv := by simp [State.bump64]
@[simp] theorem State.bump64_emb : (s.bump64 off n).emb = s.emb := by simp [State.bump64]
@[simp] theorem State.bump64_nand : (s.bump64 off n).nand = s.nand := by simp [State.bump64]
@[simp] theorem State.bump64_lend : (s.bump64 off n).lend = s.lend := by simp [State.bump64]
@[simp] theorem State.bump64_med : (s.bump64 off n).med = s.med := by simp [State.bump64]
@[simp] theorem State.bump64_post : (s.bump64 off n).post = s.post := by simp [State.bump64]
@[simp] theorem State.bump64_flt : (s.bump64 off n).flt = s.flt := by simp [State.bump64]
@[simp] theorem State.bump64_out : (s.bump64 off n).out = s.out := by simp [State.bump64]
@[simp] theorem State.bump64_free : (s.bump64 off n).free = s.free := by simp [State.bump64]
@[simp] theorem State.bump64_pending : (s.bump64 off n).pending = s.pending := by simp [State.bump64]

end Sys2Proof.Machine
end

