-- ==== Sys2Proof/Laws/Fault.lean ====
section
/-! SUPPORT. What raising an interrupt and logging an event change: the log and its counters, the interrupt status, and the message or Pending Bit. -/

namespace Sys2Proof.Machine

theorem State.Same.refl (ps : List Part) (s : State) : State.Same ps s s := by constructor <;> intros <;> rfl

theorem State.Same.trans {ps : List Part} {s t u : State} (h : State.Same ps s t) (k : State.Same ps t u) : State.Same ps s u := by
  constructor
  · exact fun hp => (k.clk hp).trans (h.clk hp)
  · exact fun hp => (k.start hp).trans (h.start hp)
  · exact fun hp => (k.ident hp).trans (h.ident hp)
  · exact fun hp => (k.cfg hp).trans (h.cfg hp)
  · exact fun hp => (k.host hp).trans (h.host hp)
  · exact fun hp => (k.slots hp).trans (h.slots hp)
  · exact fun hp => (k.xp hp).trans (h.xp hp)
  · exact fun hp => (k.kitty hp).trans (h.kitty hp)
  · exact fun hp => (k.bus hp).trans (h.bus hp)
  · exact fun hp => (k.kmem hp).trans (h.kmem hp)
  · exact fun hp => (k.smem hp).trans (h.smem hp)
  · exact fun hp => (k.tiles hp).trans (h.tiles hp)
  · exact fun hp => (k.pds hp).trans (h.pds hp)
  · exact fun hp => (k.quota hp).trans (h.quota hp)
  · exact fun hp => (k.sched hp).trans (h.sched hp)
  · exact fun hp => (k.idx hp).trans (h.idx hp)
  · exact fun hp => (k.qry hp).trans (h.qry hp)
  · exact fun hp => (k.link hp).trans (h.link hp)
  · exact fun hp => (k.ton hp).trans (h.ton hp)
  · exact fun hp => (k.eng hp).trans (h.eng hp)
  · exact fun hp => (k.kv hp).trans (h.kv hp)
  · exact fun hp => (k.emb hp).trans (h.emb hp)
  · exact fun hp => (k.nand hp).trans (h.nand hp)
  · exact fun hp => (k.lend hp).trans (h.lend hp)
  · exact fun hp => (k.med hp).trans (h.med hp)
  · exact fun hp => (k.post hp).trans (h.post hp)
  · exact fun hp => (k.flt hp).trans (h.flt hp)
  · exact fun hp => (k.out hp).trans (h.out hp)
  · exact fun hp => (k.free hp).trans (h.free hp)
  · exact k.pending.trans h.pending

theorem State.setReg_same (ps : List Part) (off : Nat) (v : W32) (s : State) : State.Same ps s (s.setReg off v) := by
  unfold State.setReg; split <;> constructor <;> intros <;> rfl

/-- The parts that an event may change. -/
abbrev eventParts : List Part := [.host, .flt, .out]

@[simp] theorem State.emit_out (o : Output) (s : State) : (s.emit o).out = o :: s.out := rfl
@[simp] theorem State.emit_clk (o : Output) (s : State) : (s.emit o).clk = s.clk := rfl
@[simp] theorem State.emit_start (o : Output) (s : State) : (s.emit o).start = s.start := rfl
@[simp] theorem State.emit_ident (o : Output) (s : State) : (s.emit o).ident = s.ident := rfl
@[simp] theorem State.emit_cfg (o : Output) (s : State) : (s.emit o).cfg = s.cfg := rfl
@[simp] theorem State.emit_slots (o : Output) (s : State) : (s.emit o).slots = s.slots := rfl
@[simp] theorem State.emit_xp (o : Output) (s : State) : (s.emit o).xp = s.xp := rfl
@[simp] theorem State.emit_kitty (o : Output) (s : State) : (s.emit o).kitty = s.kitty := rfl
@[simp] theorem State.emit_bus (o : Output) (s : State) : (s.emit o).bus = s.bus := rfl
@[simp] theorem State.emit_kmem (o : Output) (s : State) : (s.emit o).kmem = s.kmem := rfl
@[simp] theorem State.emit_smem (o : Output) (s : State) : (s.emit o).smem = s.smem := rfl
@[simp] theorem State.emit_tiles (o : Output) (s : State) : (s.emit o).tiles = s.tiles := rfl
@[simp] theorem State.emit_pds (o : Output) (s : State) : (s.emit o).pds = s.pds := rfl
@[simp] theorem State.emit_quota (o : Output) (s : State) : (s.emit o).quota = s.quota := rfl
@[simp] theorem State.emit_sched (o : Output) (s : State) : (s.emit o).sched = s.sched := rfl
@[simp] theorem State.emit_idx (o : Output) (s : State) : (s.emit o).idx = s.idx := rfl
@[simp] theorem State.emit_qry (o : Output) (s : State) : (s.emit o).qry = s.qry := rfl
@[simp] theorem State.emit_link (o : Output) (s : State) : (s.emit o).link = s.link := rfl
@[simp] theorem State.emit_ton (o : Output) (s : State) : (s.emit o).ton = s.ton := rfl
@[simp] theorem State.emit_eng (o : Output) (s : State) : (s.emit o).eng = s.eng := rfl
@[simp] theorem State.emit_kv (o : Output) (s : State) : (s.emit o).kv = s.kv := rfl
@[simp] theorem State.emit_emb (o : Output) (s : State) : (s.emit o).emb = s.emb := rfl
@[simp] theorem State.emit_nand (o : Output) (s : State) : (s.emit o).nand = s.nand := rfl
@[simp] theorem State.emit_lend (o : Output) (s : State) : (s.emit o).lend = s.lend := rfl
@[simp] theorem State.emit_med (o : Output) (s : State) : (s.emit o).med = s.med := rfl
@[simp] theorem State.emit_post (o : Output) (s : State) : (s.emit o).post = s.post := rfl
@[simp] theorem State.emit_free (o : Output) (s : State) : (s.emit o).free = s.free := rfl
@[simp] theorem State.emit_pending (o : Output) (s : State) : (s.emit o).pending = s.pending := rfl
@[simp] theorem State.emit_host (o : Output) (s : State) : (s.emit o).host = s.host := rfl
@[simp] theorem State.emit_flt (o : Output) (s : State) : (s.emit o).flt = s.flt := rfl
@[simp] theorem State.emit_regs (o : Output) (s : State) : (s.emit o).regs = s.regs := rfl
@[simp] theorem State.emit_reg (o : Output) (s : State) (x : Nat) : (s.emit o).reg x = s.reg x := rfl

/-! ## MSI-X messages and interrupts -/

theorem State.sendMsix_same (v : Nat) (s : State) : State.Same eventParts s (s.sendMsix v) := by
  unfold State.sendMsix; split_ifs <;> constructor <;> first | rfl | (intro _; rfl) | (intro h; exact absurd (by decide) h)
@[simp] theorem State.sendMsix_flt (v : Nat) (s : State) : (s.sendMsix v).flt = s.flt := by unfold State.sendMsix; split_ifs <;> rfl
@[simp] theorem State.sendMsix_regs (v : Nat) (s : State) : (s.sendMsix v).regs = s.regs := by unfold State.sendMsix; split_ifs <;> rfl
@[simp] theorem State.sendMsix_reg (v : Nat) (s : State) (x : Nat) : (s.sendMsix v).reg x = s.reg x := State.reg_congr (by simp) x
@[simp] theorem State.sendMsix_blockWait (v : Nat) (s : State) : (s.sendMsix v).host.blockWait = s.host.blockWait := by unfold State.sendMsix; split_ifs <;> rfl

theorem State.host_same {s : State} (h : HostSt) : State.Same eventParts s { s with host := h } := by
  constructor <;> first | rfl | (intro _; rfl) | (intro h; exact absurd (by decide) h)

/-- Setting bits of a W1C register changes its value and the record of the bits set in this cycle. -/
theorem State.setOnes_same (off : Nat) (b : W32) (s : State) : State.Same eventParts s (s.setOnes off b) :=
  (State.setReg_same _ _ _ s).trans (State.host_same _)
@[simp] theorem State.setOnes_flt (off : Nat) (b : W32) (s : State) : (s.setOnes off b).flt = s.flt := State.setReg_flt ..
@[simp] theorem State.setOnes_blockWait (off : Nat) (b : W32) (s : State) : (s.setOnes off b).host.blockWait = s.host.blockWait := rfl
theorem State.setOnes_reg_ne (off : Nat) (b : W32) (s : State) (x : Nat) (h : x ≠ off) : (s.setOnes off b).reg x = s.reg x := by
  rw [show (s.setOnes off b).reg x = (s.setReg off (s.reg off ||| b)).reg x from State.reg_congr rfl x, State.reg_setReg_ne _ _ _ _ h]

theorem State.raise_same (r : IrqReg) (b : Nat) (s : State) : State.Same eventParts s (s.raise r b) := by
  unfold State.raise; simp only
  split_ifs
  · exact (State.setOnes_same _ _ s).trans (State.sendMsix_same _ _)
  · exact State.setOnes_same _ _ s
@[simp] theorem State.raise_flt (r : IrqReg) (b : Nat) (s : State) : (s.raise r b).flt = s.flt := by unfold State.raise; simp only; split_ifs <;> simp
@[simp] theorem State.raise_blockWait (r : IrqReg) (b : Nat) (s : State) : (s.raise r b).host.blockWait = s.host.blockWait := by unfold State.raise; simp only; split_ifs <;> simp
theorem State.raise_reg (r : IrqReg) (b : Nat) (s : State) (x : Nat) (h : x ≠ (irqSource r).1) : (s.raise r b).reg x = s.reg x := by
  unfold State.raise; simp only; split_ifs <;> simp [State.setOnes_reg_ne _ _ _ _ h]
@[simp] theorem State.raise_clk (r : IrqReg) (b : Nat) (s : State) : (s.raise r b).clk = s.clk := (State.raise_same r b s).clk (by decide)
@[simp] theorem State.raise_start (r : IrqReg) (b : Nat) (s : State) : (s.raise r b).start = s.start := (State.raise_same r b s).start (by decide)
@[simp] theorem State.raise_ident (r : IrqReg) (b : Nat) (s : State) : (s.raise r b).ident = s.ident := (State.raise_same r b s).ident (by decide)
@[simp] theorem State.raise_cfg (r : IrqReg) (b : Nat) (s : State) : (s.raise r b).cfg = s.cfg := (State.raise_same r b s).cfg (by decide)
@[simp] theorem State.raise_slots (r : IrqReg) (b : Nat) (s : State) : (s.raise r b).slots = s.slots := (State.raise_same r b s).slots (by decide)
@[simp] theorem State.raise_xp (r : IrqReg) (b : Nat) (s : State) : (s.raise r b).xp = s.xp := (State.raise_same r b s).xp (by decide)
@[simp] theorem State.raise_kitty (r : IrqReg) (b : Nat) (s : State) : (s.raise r b).kitty = s.kitty := (State.raise_same r b s).kitty (by decide)
@[simp] theorem State.raise_bus (r : IrqReg) (b : Nat) (s : State) : (s.raise r b).bus = s.bus := (State.raise_same r b s).bus (by decide)
@[simp] theorem State.raise_kmem (r : IrqReg) (b : Nat) (s : State) : (s.raise r b).kmem = s.kmem := (State.raise_same r b s).kmem (by decide)
@[simp] theorem State.raise_smem (r : IrqReg) (b : Nat) (s : State) : (s.raise r b).smem = s.smem := (State.raise_same r b s).smem (by decide)
@[simp] theorem State.raise_tiles (r : IrqReg) (b : Nat) (s : State) : (s.raise r b).tiles = s.tiles := (State.raise_same r b s).tiles (by decide)
@[simp] theorem State.raise_pds (r : IrqReg) (b : Nat) (s : State) : (s.raise r b).pds = s.pds := (State.raise_same r b s).pds (by decide)
@[simp] theorem State.raise_quota (r : IrqReg) (b : Nat) (s : State) : (s.raise r b).quota = s.quota := (State.raise_same r b s).quota (by decide)
@[simp] theorem State.raise_sched (r : IrqReg) (b : Nat) (s : State) : (s.raise r b).sched = s.sched := (State.raise_same r b s).sched (by decide)
@[simp] theorem State.raise_idx (r : IrqReg) (b : Nat) (s : State) : (s.raise r b).idx = s.idx := (State.raise_same r b s).idx (by decide)
@[simp] theorem State.raise_qry (r : IrqReg) (b : Nat) (s : State) : (s.raise r b).qry = s.qry := (State.raise_same r b s).qry (by decide)
@[simp] theorem State.raise_link (r : IrqReg) (b : Nat) (s : State) : (s.raise r b).link = s.link := (State.raise_same r b s).link (by decide)
@[simp] theorem State.raise_ton (r : IrqReg) (b : Nat) (s : State) : (s.raise r b).ton = s.ton := (State.raise_same r b s).ton (by decide)
@[simp] theorem State.raise_eng (r : IrqReg) (b : Nat) (s : State) : (s.raise r b).eng = s.eng := (State.raise_same r b s).eng (by decide)
@[simp] theorem State.raise_kv (r : IrqReg) (b : Nat) (s : State) : (s.raise r b).kv = s.kv := (State.raise_same r b s).kv (by decide)
@[simp] theorem State.raise_emb (r : IrqReg) (b : Nat) (s : State) : (s.raise r b).emb = s.emb := (State.raise_same r b s).emb (by decide)
@[simp] theorem State.raise_nand (r : IrqReg) (b : Nat) (s : State) : (s.raise r b).nand = s.nand := (State.raise_same r b s).nand (by decide)
@[simp] theorem State.raise_lend (r : IrqReg) (b : Nat) (s : State) : (s.raise r b).lend = s.lend := (State.raise_same r b s).lend (by decide)
@[simp] theorem State.raise_med (r : IrqReg) (b : Nat) (s : State) : (s.raise r b).med = s.med := (State.raise_same r b s).med (by decide)
@[simp] theorem State.raise_post (r : IrqReg) (b : Nat) (s : State) : (s.raise r b).post = s.post := (State.raise_same r b s).post (by decide)
@[simp] theorem State.raise_free (r : IrqReg) (b : Nat) (s : State) : (s.raise r b).free = s.free := (State.raise_same r b s).free (by decide)
@[simp] theorem State.raise_pending (r : IrqReg) (b : Nat) (s : State) : (s.raise r b).pending = s.pending := (State.raise_same r b s).pending

/-! ## The fault log -/

/-- Registers that an event may change where it does not cross. -/
theorem State.logEvent_reg (c v k i d : Nat) (a b : Bool) (s : State) (x : Nat) (h1 : x ≠ Reg.FLT_IRQ_STATUS) (h2 : x ≠ Reg.FLT_LOG_LOST) :
    (s.logEvent c v k i d a b).reg x = s.reg x := by
  unfold State.logEvent
  split <;> try rfl
  simp only [State.bumpIf]
  split_ifs <;> first
    | (rw [State.raise_reg _ _ _ _ (by simpa [irqSource] using h1)]; simp only [State.bump, State.bumpBy, State.setNat, State.reg_setReg_ne _ _ _ _ h2]; rfl)
    | (rw [State.raise_reg _ _ _ _ (by simpa [irqSource] using h1)]; rfl)
    | (simp only [State.bump, State.bumpBy, State.setNat, State.reg_setReg_ne _ _ _ _ h2]; rfl)
    | rfl

theorem State.Same.ite {ps : List Part} {s a b : State} {c : Prop} [Decidable c] (ha : State.Same ps s a) (hb : State.Same ps s b) :
    State.Same ps s (if c then a else b) := by split_ifs <;> assumption

theorem State.bumpIf_same (ps : List Part) (c : Bool) (off : Nat) (s : State) : State.Same ps s (s.bumpIf c off) :=
  State.Same.ite (State.setReg_same ps _ _ s) (State.Same.refl ps s)

theorem State.flt_same {s : State} (f : FltSt) : State.Same eventParts s { s with flt := f } := by
  constructor <;> first | rfl | (intro _; rfl) | (intro h; exact absurd (by decide) h)

theorem State.logEvent_same (c v k i d : Nat) (a b : Bool) (s : State) : State.Same eventParts s (s.logEvent c v k i d a b) := by
  unfold State.logEvent
  split <;> try exact State.Same.refl _ s
  refine State.Same.ite ?_ ?_
  · exact (State.flt_same _).trans (State.bumpIf_same _ _ _ _)
  · exact ((State.flt_same _).trans (State.bumpIf_same _ _ _ _)).trans (State.raise_same _ _ _)

/-- Of the fault part, an event of its own changes the log alone. -/
theorem State.logEvent_flt (c v k i d : Nat) (a b : Bool) (s : State) : ∃ l n u, (s.logEvent c v k i d a b).flt = { s.flt with log := l, nextSeq := n, unrecovered := u } := by
  unfold State.logEvent
  split <;> try exact ⟨_, _, _, rfl⟩
  simp only [State.bumpIf]; split_ifs <;> simp only [State.raise_flt, State.bump_flt] <;> exact ⟨_, _, _, rfl⟩

@[simp] theorem State.logEvent_blockWait (c v k i d : Nat) (a b : Bool) (s : State) : (s.logEvent c v k i d a b).host.blockWait = s.host.blockWait := by
  unfold State.logEvent; split <;> try rfl
  simp only [State.bumpIf]; split_ifs <;> simp
@[simp] theorem State.logEvent_clk (c v k i d : Nat) (a b : Bool) (s : State) : (s.logEvent c v k i d a b).clk = s.clk := (State.logEvent_same c v k i d a b s).clk (by decide)
@[simp] theorem State.logEvent_start (c v k i d : Nat) (a b : Bool) (s : State) : (s.logEvent c v k i d a b).start = s.start := (State.logEvent_same c v k i d a b s).start (by decide)
@[simp] theorem State.logEvent_ident (c v k i d : Nat) (a b : Bool) (s : State) : (s.logEvent c v k i d a b).ident = s.ident := (State.logEvent_same c v k i d a b s).ident (by decide)
@[simp] theorem State.logEvent_cfg (c v k i d : Nat) (a b : Bool) (s : State) : (s.logEvent c v k i d a b).cfg = s.cfg := (State.logEvent_same c v k i d a b s).cfg (by decide)
@[simp] theorem State.logEvent_slots (c v k i d : Nat) (a b : Bool) (s : State) : (s.logEvent c v k i d a b).slots = s.slots := (State.logEvent_same c v k i d a b s).slots (by decide)
@[simp] theorem State.logEvent_xp (c v k i d : Nat) (a b : Bool) (s : State) : (s.logEvent c v k i d a b).xp = s.xp := (State.logEvent_same c v k i d a b s).xp (by decide)
@[simp] theorem State.logEvent_kitty (c v k i d : Nat) (a b : Bool) (s : State) : (s.logEvent c v k i d a b).kitty = s.kitty := (State.logEvent_same c v k i d a b s).kitty (by decide)
@[simp] theorem State.logEvent_bus (c v k i d : Nat) (a b : Bool) (s : State) : (s.logEvent c v k i d a b).bus = s.bus := (State.logEvent_same c v k i d a b s).bus (by decide)
@[simp] theorem State.logEvent_kmem (c v k i d : Nat) (a b : Bool) (s : State) : (s.logEvent c v k i d a b).kmem = s.kmem := (State.logEvent_same c v k i d a b s).kmem (by decide)
@[simp] theorem State.logEvent_smem (c v k i d : Nat) (a b : Bool) (s : State) : (s.logEvent c v k i d a b).smem = s.smem := (State.logEvent_same c v k i d a b s).smem (by decide)
@[simp] theorem State.logEvent_tiles (c v k i d : Nat) (a b : Bool) (s : State) : (s.logEvent c v k i d a b).tiles = s.tiles := (State.logEvent_same c v k i d a b s).tiles (by decide)
@[simp] theorem State.logEvent_pds (c v k i d : Nat) (a b : Bool) (s : State) : (s.logEvent c v k i d a b).pds = s.pds := (State.logEvent_same c v k i d a b s).pds (by decide)
@[simp] theorem State.logEvent_quota (c v k i d : Nat) (a b : Bool) (s : State) : (s.logEvent c v k i d a b).quota = s.quota := (State.logEvent_same c v k i d a b s).quota (by decide)
@[simp] theorem State.logEvent_sched (c v k i d : Nat) (a b : Bool) (s : State) : (s.logEvent c v k i d a b).sched = s.sched := (State.logEvent_same c v k i d a b s).sched (by decide)
@[simp] theorem State.logEvent_idx (c v k i d : Nat) (a b : Bool) (s : State) : (s.logEvent c v k i d a b).idx = s.idx := (State.logEvent_same c v k i d a b s).idx (by decide)
@[simp] theorem State.logEvent_qry (c v k i d : Nat) (a b : Bool) (s : State) : (s.logEvent c v k i d a b).qry = s.qry := (State.logEvent_same c v k i d a b s).qry (by decide)
@[simp] theorem State.logEvent_link (c v k i d : Nat) (a b : Bool) (s : State) : (s.logEvent c v k i d a b).link = s.link := (State.logEvent_same c v k i d a b s).link (by decide)
@[simp] theorem State.logEvent_ton (c v k i d : Nat) (a b : Bool) (s : State) : (s.logEvent c v k i d a b).ton = s.ton := (State.logEvent_same c v k i d a b s).ton (by decide)
@[simp] theorem State.logEvent_eng (c v k i d : Nat) (a b : Bool) (s : State) : (s.logEvent c v k i d a b).eng = s.eng := (State.logEvent_same c v k i d a b s).eng (by decide)
@[simp] theorem State.logEvent_kv (c v k i d : Nat) (a b : Bool) (s : State) : (s.logEvent c v k i d a b).kv = s.kv := (State.logEvent_same c v k i d a b s).kv (by decide)
@[simp] theorem State.logEvent_emb (c v k i d : Nat) (a b : Bool) (s : State) : (s.logEvent c v k i d a b).emb = s.emb := (State.logEvent_same c v k i d a b s).emb (by decide)
@[simp] theorem State.logEvent_nand (c v k i d : Nat) (a b : Bool) (s : State) : (s.logEvent c v k i d a b).nand = s.nand := (State.logEvent_same c v k i d a b s).nand (by decide)
@[simp] theorem State.logEvent_lend (c v k i d : Nat) (a b : Bool) (s : State) : (s.logEvent c v k i d a b).lend = s.lend := (State.logEvent_same c v k i d a b s).lend (by decide)
@[simp] theorem State.logEvent_med (c v k i d : Nat) (a b : Bool) (s : State) : (s.logEvent c v k i d a b).med = s.med := (State.logEvent_same c v k i d a b s).med (by decide)
@[simp] theorem State.logEvent_post (c v k i d : Nat) (a b : Bool) (s : State) : (s.logEvent c v k i d a b).post = s.post := (State.logEvent_same c v k i d a b s).post (by decide)
@[simp] theorem State.logEvent_free (c v k i d : Nat) (a b : Bool) (s : State) : (s.logEvent c v k i d a b).free = s.free := (State.logEvent_same c v k i d a b s).free (by decide)
@[simp] theorem State.logEvent_pending (c v k i d : Nat) (a b : Bool) (s : State) : (s.logEvent c v k i d a b).pending = s.pending := (State.logEvent_same c v k i d a b s).pending
@[simp] theorem State.logEvent_flt_due (c v k i d : Nat) (a b : Bool) (s : State) : (s.logEvent c v k i d a b).flt.due = s.flt.due := by
  obtain ⟨l, n, u, h⟩ := State.logEvent_flt c v k i d a b s; rw [h]
@[simp] theorem State.logEvent_flt_counters (c v k i d : Nat) (a b : Bool) (s : State) : (s.logEvent c v k i d a b).flt.counters = s.flt.counters := by
  obtain ⟨l, n, u, h⟩ := State.logEvent_flt c v k i d a b s; rw [h]
@[simp] theorem State.logEvent_flt_lastEvent (c v k i d : Nat) (a b : Bool) (s : State) : (s.logEvent c v k i d a b).flt.lastEvent = s.flt.lastEvent := by
  obtain ⟨l, n, u, h⟩ := State.logEvent_flt c v k i d a b s; rw [h]
@[simp] theorem State.logEvent_flt_retired (c v k i d : Nat) (a b : Bool) (s : State) : (s.logEvent c v k i d a b).flt.retired = s.flt.retired := by
  obtain ⟨l, n, u, h⟩ := State.logEvent_flt c v k i d a b s; rw [h]
@[simp] theorem State.logEvent_flt_degraded (c v k i d : Nat) (a b : Bool) (s : State) : (s.logEvent c v k i d a b).flt.degraded = s.flt.degraded := by
  obtain ⟨l, n, u, h⟩ := State.logEvent_flt c v k i d a b s; rw [h]
@[simp] theorem State.logEvent_flt_spareOf (c v k i d : Nat) (a b : Bool) (s : State) : (s.logEvent c v k i d a b).flt.spareOf = s.flt.spareOf := by
  obtain ⟨l, n, u, h⟩ := State.logEvent_flt c v k i d a b s; rw [h]
@[simp] theorem State.logEvent_flt_recovering (c v k i d : Nat) (a b : Bool) (s : State) : (s.logEvent c v k i d a b).flt.recovering = s.flt.recovering := by
  obtain ⟨l, n, u, h⟩ := State.logEvent_flt c v k i d a b s; rw [h]
@[simp] theorem State.logEvent_flt_running (c v k i d : Nat) (a b : Bool) (s : State) : (s.logEvent c v k i d a b).flt.running = s.flt.running := by
  obtain ⟨l, n, u, h⟩ := State.logEvent_flt c v k i d a b s; rw [h]
@[simp] theorem State.logEvent_flt_queue (c v k i d : Nat) (a b : Bool) (s : State) : (s.logEvent c v k i d a b).flt.queue = s.flt.queue := by
  obtain ⟨l, n, u, h⟩ := State.logEvent_flt c v k i d a b s; rw [h]
@[simp] theorem State.logEvent_flt_stopped (c v k i d : Nat) (a b : Bool) (s : State) : (s.logEvent c v k i d a b).flt.stopped = s.flt.stopped := by
  obtain ⟨l, n, u, h⟩ := State.logEvent_flt c v k i d a b s; rw [h]
@[simp] theorem State.logEvent_flt_schedule (c v k i d : Nat) (a b : Bool) (s : State) : (s.logEvent c v k i d a b).flt.schedule = s.flt.schedule := by
  obtain ⟨l, n, u, h⟩ := State.logEvent_flt c v k i d a b s; rw [h]
@[simp] theorem State.logEvent_flt_sparesUsed (c v k i d : Nat) (a b : Bool) (s : State) : (s.logEvent c v k i d a b).flt.sparesUsed = s.flt.sparesUsed := by
  obtain ⟨l, n, u, h⟩ := State.logEvent_flt c v k i d a b s; rw [h]
@[simp] theorem State.logEvent_flt_noSpare (c v k i d : Nat) (a b : Bool) (s : State) : (s.logEvent c v k i d a b).flt.noSpare = s.flt.noSpare := by
  obtain ⟨l, n, u, h⟩ := State.logEvent_flt c v k i d a b s; rw [h]
@[simp] theorem State.logEvent_flt_copying (c v k i d : Nat) (a b : Bool) (s : State) : (s.logEvent c v k i d a b).flt.copying = s.flt.copying := by
  obtain ⟨l, n, u, h⟩ := State.logEvent_flt c v k i d a b s; rw [h]
@[simp] theorem State.logEvent_flt_points (c v k i d : Nat) (a b : Bool) (s : State) : (s.logEvent c v k i d a b).flt.points = s.flt.points := by
  obtain ⟨l, n, u, h⟩ := State.logEvent_flt c v k i d a b s; rw [h]
@[simp] theorem State.logEvent_flt_heartbeats (c v k i d : Nat) (a b : Bool) (s : State) : (s.logEvent c v k i d a b).flt.heartbeats = s.flt.heartbeats := by
  obtain ⟨l, n, u, h⟩ := State.logEvent_flt c v k i d a b s; rw [h]
@[simp] theorem State.logEvent_flt_lastLeak (c v k i d : Nat) (a b : Bool) (s : State) : (s.logEvent c v k i d a b).flt.lastLeak = s.flt.lastLeak := by
  obtain ⟨l, n, u, h⟩ := State.logEvent_flt c v k i d a b s; rw [h]
@[simp] theorem State.logEvent_flt_acceptLtc (c v k i d : Nat) (a b : Bool) (s : State) : (s.logEvent c v k i d a b).flt.acceptLtc = s.flt.acceptLtc := by
  obtain ⟨l, n, u, h⟩ := State.logEvent_flt c v k i d a b s; rw [h]

/-- The record of an event that the log takes (R507): the newest. -/
theorem State.logEvent_log (c v k i d : Nat) (a b : Bool) (s : State) (h : s.isRunning = true) :
    (s.logEvent c v k i d a b).flt.log.head? = some ⟨c, v, b, a, k, i, d, s.now, s.flt.nextSeq⟩ := by
  have hp : s.start.phase = .running := by simp [State.isRunning] at h; exact h.1.1
  unfold State.logEvent
  rw [hp]
  simp only [State.bumpIf]
  split_ifs <;> simp

theorem State.declareLasting_same (c i : Nat) (s : State) : State.Same eventParts s (s.declareLasting c i) := by
  unfold State.declareLasting
  split_ifs
  · exact State.Same.refl _ s
  · refine State.Same.trans (State.setReg_same _ (Reg.FLT_CLS_CROSSED + 0x10 * c) _ s) (t := s.bump (Reg.FLT_CLS_CROSSED + 0x10 * c)) ?_
    constructor <;> first | rfl | (intro _; rfl) | (intro h; exact absurd (by decide) h)
@[simp] theorem State.declareLasting_clk (c i : Nat) (s : State) : (s.declareLasting c i).clk = s.clk := (State.declareLasting_same c i s).clk (by decide)
@[simp] theorem State.declareLasting_start (c i : Nat) (s : State) : (s.declareLasting c i).start = s.start := (State.declareLasting_same c i s).start (by decide)
@[simp] theorem State.declareLasting_ident (c i : Nat) (s : State) : (s.declareLasting c i).ident = s.ident := (State.declareLasting_same c i s).ident (by decide)
@[simp] theorem State.declareLasting_cfg (c i : Nat) (s : State) : (s.declareLasting c i).cfg = s.cfg := (State.declareLasting_same c i s).cfg (by decide)
@[simp] theorem State.declareLasting_slots (c i : Nat) (s : State) : (s.declareLasting c i).slots = s.slots := (State.declareLasting_same c i s).slots (by decide)
@[simp] theorem State.declareLasting_xp (c i : Nat) (s : State) : (s.declareLasting c i).xp = s.xp := (State.declareLasting_same c i s).xp (by decide)
@[simp] theorem State.declareLasting_kitty (c i : Nat) (s : State) : (s.declareLasting c i).kitty = s.kitty := (State.declareLasting_same c i s).kitty (by decide)
@[simp] theorem State.declareLasting_bus (c i : Nat) (s : State) : (s.declareLasting c i).bus = s.bus := (State.declareLasting_same c i s).bus (by decide)
@[simp] theorem State.declareLasting_kmem (c i : Nat) (s : State) : (s.declareLasting c i).kmem = s.kmem := (State.declareLasting_same c i s).kmem (by decide)
@[simp] theorem State.declareLasting_smem (c i : Nat) (s : State) : (s.declareLasting c i).smem = s.smem := (State.declareLasting_same c i s).smem (by decide)
@[simp] theorem State.declareLasting_tiles (c i : Nat) (s : State) : (s.declareLasting c i).tiles = s.tiles := (State.declareLasting_same c i s).tiles (by decide)
@[simp] theorem State.declareLasting_pds (c i : Nat) (s : State) : (s.declareLasting c i).pds = s.pds := (State.declareLasting_same c i s).pds (by decide)
@[simp] theorem State.declareLasting_quota (c i : Nat) (s : State) : (s.declareLasting c i).quota = s.quota := (State.declareLasting_same c i s).quota (by decide)
@[simp] theorem State.declareLasting_sched (c i : Nat) (s : State) : (s.declareLasting c i).sched = s.sched := (State.declareLasting_same c i s).sched (by decide)
@[simp] theorem State.declareLasting_idx (c i : Nat) (s : State) : (s.declareLasting c i).idx = s.idx := (State.declareLasting_same c i s).idx (by decide)
@[simp] theorem State.declareLasting_qry (c i : Nat) (s : State) : (s.declareLasting c i).qry = s.qry := (State.declareLasting_same c i s).qry (by decide)
@[simp] theorem State.declareLasting_link (c i : Nat) (s : State) : (s.declareLasting c i).link = s.link := (State.declareLasting_same c i s).link (by decide)
@[simp] theorem State.declareLasting_ton (c i : Nat) (s : State) : (s.declareLasting c i).ton = s.ton := (State.declareLasting_same c i s).ton (by decide)
@[simp] theorem State.declareLasting_eng (c i : Nat) (s : State) : (s.declareLasting c i).eng = s.eng := (State.declareLasting_same c i s).eng (by decide)
@[simp] theorem State.declareLasting_kv (c i : Nat) (s : State) : (s.declareLasting c i).kv = s.kv := (State.declareLasting_same c i s).kv (by decide)
@[simp] theorem State.declareLasting_emb (c i : Nat) (s : State) : (s.declareLasting c i).emb = s.emb := (State.declareLasting_same c i s).emb (by decide)
@[simp] theorem State.declareLasting_nand (c i : Nat) (s : State) : (s.declareLasting c i).nand = s.nand := (State.declareLasting_same c i s).nand (by decide)
@[simp] theorem State.declareLasting_lend (c i : Nat) (s : State) : (s.declareLasting c i).lend = s.lend := (State.declareLasting_same c i s).lend (by decide)
@[simp] theorem State.declareLasting_med (c i : Nat) (s : State) : (s.declareLasting c i).med = s.med := (State.declareLasting_same c i s).med (by decide)
@[simp] theorem State.declareLasting_post (c i : Nat) (s : State) : (s.declareLasting c i).post = s.post := (State.declareLasting_same c i s).post (by decide)
@[simp] theorem State.declareLasting_free (c i : Nat) (s : State) : (s.declareLasting c i).free = s.free := (State.declareLasting_same c i s).free (by decide)
@[simp] theorem State.declareLasting_pending (c i : Nat) (s : State) : (s.declareLasting c i).pending = s.pending := (State.declareLasting_same c i s).pending
@[simp] theorem State.declareLasting_blockWait (c i : Nat) (s : State) : (s.declareLasting c i).host.blockWait = s.host.blockWait := by unfold State.declareLasting; split_ifs <;> simp

theorem State.faultOf_same (c k i d : Nat) (s : State) : State.Same eventParts s (s.faultOf c k i d) := by
  unfold State.faultOf
  refine State.Same.ite ?_ (State.Same.ite ?_ (State.Same.ite ?_ (State.Same.ite ?_ ?_)))
  · exact (State.logEvent_same ..).trans (State.declareLasting_same ..)
  · exact State.logEvent_same ..
  · exact State.logEvent_same ..
  · exact ((State.flt_same _).trans (State.logEvent_same ..)).trans (State.declareLasting_same ..)
  · exact (State.flt_same _).trans (State.logEvent_same ..)
@[simp] theorem State.faultOf_clk (c k i d : Nat) (s : State) : (s.faultOf c k i d).clk = s.clk := (State.faultOf_same c k i d s).clk (by decide)
@[simp] theorem State.faultOf_start (c k i d : Nat) (s : State) : (s.faultOf c k i d).start = s.start := (State.faultOf_same c k i d s).start (by decide)
@[simp] theorem State.faultOf_ident (c k i d : Nat) (s : State) : (s.faultOf c k i d).ident = s.ident := (State.faultOf_same c k i d s).ident (by decide)
@[simp] theorem State.faultOf_cfg (c k i d : Nat) (s : State) : (s.faultOf c k i d).cfg = s.cfg := (State.faultOf_same c k i d s).cfg (by decide)
@[simp] theorem State.faultOf_slots (c k i d : Nat) (s : State) : (s.faultOf c k i d).slots = s.slots := (State.faultOf_same c k i d s).slots (by decide)
@[simp] theorem State.faultOf_xp (c k i d : Nat) (s : State) : (s.faultOf c k i d).xp = s.xp := (State.faultOf_same c k i d s).xp (by decide)
@[simp] theorem State.faultOf_kitty (c k i d : Nat) (s : State) : (s.faultOf c k i d).kitty = s.kitty := (State.faultOf_same c k i d s).kitty (by decide)
@[simp] theorem State.faultOf_bus (c k i d : Nat) (s : State) : (s.faultOf c k i d).bus = s.bus := (State.faultOf_same c k i d s).bus (by decide)
@[simp] theorem State.faultOf_kmem (c k i d : Nat) (s : State) : (s.faultOf c k i d).kmem = s.kmem := (State.faultOf_same c k i d s).kmem (by decide)
@[simp] theorem State.faultOf_smem (c k i d : Nat) (s : State) : (s.faultOf c k i d).smem = s.smem := (State.faultOf_same c k i d s).smem (by decide)
@[simp] theorem State.faultOf_tiles (c k i d : Nat) (s : State) : (s.faultOf c k i d).tiles = s.tiles := (State.faultOf_same c k i d s).tiles (by decide)
@[simp] theorem State.faultOf_pds (c k i d : Nat) (s : State) : (s.faultOf c k i d).pds = s.pds := (State.faultOf_same c k i d s).pds (by decide)
@[simp] theorem State.faultOf_quota (c k i d : Nat) (s : State) : (s.faultOf c k i d).quota = s.quota := (State.faultOf_same c k i d s).quota (by decide)
@[simp] theorem State.faultOf_sched (c k i d : Nat) (s : State) : (s.faultOf c k i d).sched = s.sched := (State.faultOf_same c k i d s).sched (by decide)
@[simp] theorem State.faultOf_idx (c k i d : Nat) (s : State) : (s.faultOf c k i d).idx = s.idx := (State.faultOf_same c k i d s).idx (by decide)
@[simp] theorem State.faultOf_qry (c k i d : Nat) (s : State) : (s.faultOf c k i d).qry = s.qry := (State.faultOf_same c k i d s).qry (by decide)
@[simp] theorem State.faultOf_link (c k i d : Nat) (s : State) : (s.faultOf c k i d).link = s.link := (State.faultOf_same c k i d s).link (by decide)
@[simp] theorem State.faultOf_ton (c k i d : Nat) (s : State) : (s.faultOf c k i d).ton = s.ton := (State.faultOf_same c k i d s).ton (by decide)
@[simp] theorem State.faultOf_eng (c k i d : Nat) (s : State) : (s.faultOf c k i d).eng = s.eng := (State.faultOf_same c k i d s).eng (by decide)
@[simp] theorem State.faultOf_kv (c k i d : Nat) (s : State) : (s.faultOf c k i d).kv = s.kv := (State.faultOf_same c k i d s).kv (by decide)
@[simp] theorem State.faultOf_emb (c k i d : Nat) (s : State) : (s.faultOf c k i d).emb = s.emb := (State.faultOf_same c k i d s).emb (by decide)
@[simp] theorem State.faultOf_nand (c k i d : Nat) (s : State) : (s.faultOf c k i d).nand = s.nand := (State.faultOf_same c k i d s).nand (by decide)
@[simp] theorem State.faultOf_lend (c k i d : Nat) (s : State) : (s.faultOf c k i d).lend = s.lend := (State.faultOf_same c k i d s).lend (by decide)
@[simp] theorem State.faultOf_med (c k i d : Nat) (s : State) : (s.faultOf c k i d).med = s.med := (State.faultOf_same c k i d s).med (by decide)
@[simp] theorem State.faultOf_post (c k i d : Nat) (s : State) : (s.faultOf c k i d).post = s.post := (State.faultOf_same c k i d s).post (by decide)
@[simp] theorem State.faultOf_free (c k i d : Nat) (s : State) : (s.faultOf c k i d).free = s.free := (State.faultOf_same c k i d s).free (by decide)
@[simp] theorem State.faultOf_pending (c k i d : Nat) (s : State) : (s.faultOf c k i d).pending = s.pending := (State.faultOf_same c k i d s).pending
@[simp] theorem State.faultOf_blockWait (c k i d : Nat) (s : State) : (s.faultOf c k i d).host.blockWait = s.host.blockWait := by
  unfold State.faultOf; simp only; split_ifs <;> simp
theorem State.fault_same (c i d : Nat) (s : State) : State.Same eventParts s (s.fault c i d) := State.faultOf_same ..
@[simp] theorem State.fault_blockWait (c i d : Nat) (s : State) : (s.fault c i d).host.blockWait = s.host.blockWait := State.faultOf_blockWait ..
@[simp] theorem State.fault_clk (c i d : Nat) (s : State) : (s.fault c i d).clk = s.clk := (State.fault_same c i d s).clk (by decide)
@[simp] theorem State.fault_start (c i d : Nat) (s : State) : (s.fault c i d).start = s.start := (State.fault_same c i d s).start (by decide)
@[simp] theorem State.fault_ident (c i d : Nat) (s : State) : (s.fault c i d).ident = s.ident := (State.fault_same c i d s).ident (by decide)
@[simp] theorem State.fault_cfg (c i d : Nat) (s : State) : (s.fault c i d).cfg = s.cfg := (State.fault_same c i d s).cfg (by decide)
@[simp] theorem State.fault_slots (c i d : Nat) (s : State) : (s.fault c i d).slots = s.slots := (State.fault_same c i d s).slots (by decide)
@[simp] theorem State.fault_xp (c i d : Nat) (s : State) : (s.fault c i d).xp = s.xp := (State.fault_same c i d s).xp (by decide)
@[simp] theorem State.fault_kitty (c i d : Nat) (s : State) : (s.fault c i d).kitty = s.kitty := (State.fault_same c i d s).kitty (by decide)
@[simp] theorem State.fault_bus (c i d : Nat) (s : State) : (s.fault c i d).bus = s.bus := (State.fault_same c i d s).bus (by decide)
@[simp] theorem State.fault_kmem (c i d : Nat) (s : State) : (s.fault c i d).kmem = s.kmem := (State.fault_same c i d s).kmem (by decide)
@[simp] theorem State.fault_smem (c i d : Nat) (s : State) : (s.fault c i d).smem = s.smem := (State.fault_same c i d s).smem (by decide)
@[simp] theorem State.fault_tiles (c i d : Nat) (s : State) : (s.fault c i d).tiles = s.tiles := (State.fault_same c i d s).tiles (by decide)
@[simp] theorem State.fault_pds (c i d : Nat) (s : State) : (s.fault c i d).pds = s.pds := (State.fault_same c i d s).pds (by decide)
@[simp] theorem State.fault_quota (c i d : Nat) (s : State) : (s.fault c i d).quota = s.quota := (State.fault_same c i d s).quota (by decide)
@[simp] theorem State.fault_sched (c i d : Nat) (s : State) : (s.fault c i d).sched = s.sched := (State.fault_same c i d s).sched (by decide)
@[simp] theorem State.fault_idx (c i d : Nat) (s : State) : (s.fault c i d).idx = s.idx := (State.fault_same c i d s).idx (by decide)
@[simp] theorem State.fault_qry (c i d : Nat) (s : State) : (s.fault c i d).qry = s.qry := (State.fault_same c i d s).qry (by decide)
@[simp] theorem State.fault_link (c i d : Nat) (s : State) : (s.fault c i d).link = s.link := (State.fault_same c i d s).link (by decide)
@[simp] theorem State.fault_ton (c i d : Nat) (s : State) : (s.fault c i d).ton = s.ton := (State.fault_same c i d s).ton (by decide)
@[simp] theorem State.fault_eng (c i d : Nat) (s : State) : (s.fault c i d).eng = s.eng := (State.fault_same c i d s).eng (by decide)
@[simp] theorem State.fault_kv (c i d : Nat) (s : State) : (s.fault c i d).kv = s.kv := (State.fault_same c i d s).kv (by decide)
@[simp] theorem State.fault_emb (c i d : Nat) (s : State) : (s.fault c i d).emb = s.emb := (State.fault_same c i d s).emb (by decide)
@[simp] theorem State.fault_nand (c i d : Nat) (s : State) : (s.fault c i d).nand = s.nand := (State.fault_same c i d s).nand (by decide)
@[simp] theorem State.fault_lend (c i d : Nat) (s : State) : (s.fault c i d).lend = s.lend := (State.fault_same c i d s).lend (by decide)
@[simp] theorem State.fault_med (c i d : Nat) (s : State) : (s.fault c i d).med = s.med := (State.fault_same c i d s).med (by decide)
@[simp] theorem State.fault_post (c i d : Nat) (s : State) : (s.fault c i d).post = s.post := (State.fault_same c i d s).post (by decide)
@[simp] theorem State.fault_free (c i d : Nat) (s : State) : (s.fault c i d).free = s.free := (State.fault_same c i d s).free (by decide)
@[simp] theorem State.fault_pending (c i d : Nat) (s : State) : (s.fault c i d).pending = s.pending := (State.fault_same c i d s).pending

/-- An event that leaves its counter below THRESHOLD declares nothing. -/
theorem State.faultOf_due (c k i d : Nat) (s : State) (h : s.uncrossed c k i = true) : (s.faultOf c k i d).flt.due = s.flt.due := by
  unfold State.uncrossed at h
  simp only [Bool.and_eq_true, Bool.or_eq_true, decide_eq_true_eq] at h
  unfold State.faultOf
  simp only
  split_ifs <;> first | (exfalso; omega) | (simp; done) | (rcases h.2 with (h | h | h | h) | h <;> first | contradiction | (exfalso; simp only [decide_eq_true_eq] at *; omega))

theorem State.faultOf_reg (c k i d : Nat) (s : State) (h : s.uncrossed c k i = true) (x : Nat) (h1 : x ≠ Reg.FLT_IRQ_STATUS) (h2 : x ≠ Reg.FLT_LOG_LOST) :
    (s.faultOf c k i d).reg x = s.reg x := by
  unfold State.uncrossed at h
  simp only [Bool.and_eq_true, Bool.or_eq_true, decide_eq_true_eq] at h
  unfold State.faultOf
  simp only
  split_ifs <;> first | (exfalso; omega) | (simp only [State.logEvent_reg _ _ _ _ _ _ _ _ _ h1 h2]; done) | (simp only [State.logEvent_reg _ _ _ _ _ _ _ _ _ h1 h2]; rfl) | (rcases h.2 with (h | h | h | h) | h <;> first | contradiction | (exfalso; simp only [decide_eq_true_eq] at *; omega))

/-- The record that an event below THRESHOLD leaves in the log. -/
theorem State.faultOf_log (c k i d : Nat) (s : State) (h : s.uncrossed c k i = true) (hr : s.isRunning = true) :
    ∃ r, (s.faultOf c k i d).flt.log.head? = some r ∧ r.code = c ∧ r.cls = k ∧ r.inst = i ∧ r.detail = d ∧ r.ltc = s.now := by
  have hf : ∀ f : FltSt, f.stopped = s.flt.stopped → State.isRunning { s with flt := f } = true := fun f e => by
    simp only [State.isRunning] at *; simp_all
  unfold State.faultOf
  simp only
  split_ifs <;> first
    | exact ⟨_, State.logEvent_log _ _ _ _ _ _ _ _ hr, rfl, rfl, rfl, rfl, rfl⟩
    | exact ⟨_, State.logEvent_log _ _ _ _ _ _ _ _ (hf _ rfl), rfl, rfl, rfl, rfl, rfl⟩
    | (exfalso; simp_all [State.uncrossed]; done)
    | (simp only [State.uncrossed, Bool.and_eq_true, Bool.or_eq_true, decide_eq_true_eq] at h
       rcases h.2 with (h | h | h | h) | h <;> first | contradiction | (exfalso; simp only [decide_eq_true_eq] at *; omega))

end Sys2Proof.Machine
end

