-- ==== Sys2Proof/Laws/State.lean ====
section
/-! SUPPORT. What `State.adopt` leaves and takes, field by field, and the frame relation of meanings. -/

namespace Sys2Proof.Machine

variable (ps : List Part) (s t : State)

@[simp] theorem State.adopt_clk : (s.adopt ps t).clk = if .clk ∈ ps then t.clk else s.clk := rfl
@[simp] theorem State.adopt_start : (s.adopt ps t).start = if .start ∈ ps then t.start else s.start := rfl
@[simp] theorem State.adopt_ident : (s.adopt ps t).ident = if .ident ∈ ps then t.ident else s.ident := rfl
@[simp] theorem State.adopt_cfg : (s.adopt ps t).cfg = if .cfg ∈ ps then t.cfg else s.cfg := rfl
@[simp] theorem State.adopt_host : (s.adopt ps t).host = if .host ∈ ps then t.host else s.host := rfl
@[simp] theorem State.adopt_slots : (s.adopt ps t).slots = if .slots ∈ ps then t.slots else s.slots := rfl
@[simp] theorem State.adopt_xp : (s.adopt ps t).xp = if .xp ∈ ps then t.xp else s.xp := rfl
@[simp] theorem State.adopt_kitty : (s.adopt ps t).kitty = if .kitty ∈ ps then t.kitty else s.kitty := rfl
@[simp] theorem State.adopt_bus : (s.adopt ps t).bus = if .bus ∈ ps then t.bus else s.bus := rfl
@[simp] theorem State.adopt_kmem : (s.adopt ps t).kmem = if .kmem ∈ ps then t.kmem else s.kmem := rfl
@[simp] theorem State.adopt_smem : (s.adopt ps t).smem = if .smem ∈ ps then t.smem else s.smem := rfl
@[simp] theorem State.adopt_tiles : (s.adopt ps t).tiles = if .tiles ∈ ps then t.tiles else s.tiles := rfl
@[simp] theorem State.adopt_pds : (s.adopt ps t).pds = if .pds ∈ ps then t.pds else s.pds := rfl
@[simp] theorem State.adopt_quota : (s.adopt ps t).quota = if .quota ∈ ps then t.quota else s.quota := rfl
@[simp] theorem State.adopt_sched : (s.adopt ps t).sched = if .sched ∈ ps then t.sched else s.sched := rfl
@[simp] theorem State.adopt_idx : (s.adopt ps t).idx = if .idx ∈ ps then t.idx else s.idx := rfl
@[simp] theorem State.adopt_qry : (s.adopt ps t).qry = if .qry ∈ ps then t.qry else s.qry := rfl
@[simp] theorem State.adopt_link : (s.adopt ps t).link = if .link ∈ ps then t.link else s.link := rfl
@[simp] theorem State.adopt_ton : (s.adopt ps t).ton = if .ton ∈ ps then t.ton else s.ton := rfl
@[simp] theorem State.adopt_eng : (s.adopt ps t).eng = if .eng ∈ ps then t.eng else s.eng := rfl
@[simp] theorem State.adopt_kv : (s.adopt ps t).kv = if .kv ∈ ps then t.kv else s.kv := rfl
@[simp] theorem State.adopt_emb : (s.adopt ps t).emb = if .emb ∈ ps then t.emb else s.emb := rfl
@[simp] theorem State.adopt_nand : (s.adopt ps t).nand = if .nand ∈ ps then t.nand else s.nand := rfl
@[simp] theorem State.adopt_lend : (s.adopt ps t).lend = if .lend ∈ ps then t.lend else s.lend := rfl
@[simp] theorem State.adopt_med : (s.adopt ps t).med = if .med ∈ ps then t.med else s.med := rfl
@[simp] theorem State.adopt_post : (s.adopt ps t).post = if .post ∈ ps then t.post else s.post := rfl
@[simp] theorem State.adopt_flt : (s.adopt ps t).flt = if .flt ∈ ps then t.flt else s.flt := rfl
@[simp] theorem State.adopt_out : (s.adopt ps t).out = if .out ∈ ps then t.out else s.out := rfl
@[simp] theorem State.adopt_free : (s.adopt ps t).free = if .free ∈ ps then t.free else s.free := rfl
@[simp] theorem State.adopt_reg_node : (s.adopt ps t).regs.node = if .reg .node ∈ ps then t.regs.node else s.regs.node := rfl
@[simp] theorem State.adopt_reg_mbx : (s.adopt ps t).regs.mbx = if .reg .mbx ∈ ps then t.regs.mbx else s.regs.mbx := rfl
@[simp] theorem State.adopt_reg_cfg : (s.adopt ps t).regs.cfg = if .reg .cfg ∈ ps then t.regs.cfg else s.regs.cfg := rfl
@[simp] theorem State.adopt_reg_clk : (s.adopt ps t).regs.clk = if .reg .clk ∈ ps then t.regs.clk else s.regs.clk := rfl
@[simp] theorem State.adopt_reg_flt : (s.adopt ps t).regs.flt = if .reg .flt ∈ ps then t.regs.flt else s.regs.flt := rfl
@[simp] theorem State.adopt_reg_kitty : (s.adopt ps t).regs.kitty = if .reg .kitty ∈ ps then t.regs.kitty else s.regs.kitty := rfl
@[simp] theorem State.adopt_reg_qry : (s.adopt ps t).regs.qry = if .reg .qry ∈ ps then t.regs.qry else s.regs.qry := rfl
@[simp] theorem State.adopt_reg_idx : (s.adopt ps t).regs.idx = if .reg .idx ∈ ps then t.regs.idx else s.regs.idx := rfl
@[simp] theorem State.adopt_reg_cd : (s.adopt ps t).regs.cd = if .reg .cd ∈ ps then t.regs.cd else s.regs.cd := rfl
@[simp] theorem State.adopt_reg_media : (s.adopt ps t).regs.media = if .reg .media ∈ ps then t.regs.media else s.regs.media := rfl
@[simp] theorem State.adopt_reg_link : (s.adopt ps t).regs.link = if .reg .link ∈ ps then t.regs.link else s.regs.link := rfl
@[simp] theorem State.adopt_reg_sched : (s.adopt ps t).regs.sched = if .reg .sched ∈ ps then t.regs.sched else s.regs.sched := rfl
@[simp] theorem State.adopt_reg_lend : (s.adopt ps t).regs.lend = if .reg .lend ∈ ps then t.regs.lend else s.regs.lend := rfl
@[simp] theorem State.adopt_reg_stack : (s.adopt ps t).regs.stack = if .reg .stack ∈ ps then t.regs.stack else s.regs.stack := rfl
@[simp] theorem State.adopt_pending : (s.adopt ps t).pending = s.pending := rfl

/-- The parts that are not listed agree in the two states, and so does the queue. -/
structure State.AgreesOff (ps : List Part) (s t : State) : Prop where
  clk : .clk ∉ ps → t.clk = s.clk
  start : .start ∉ ps → t.start = s.start
  ident : .ident ∉ ps → t.ident = s.ident
  cfg : .cfg ∉ ps → t.cfg = s.cfg
  host : .host ∉ ps → t.host = s.host
  slots : .slots ∉ ps → t.slots = s.slots
  xp : .xp ∉ ps → t.xp = s.xp
  kitty : .kitty ∉ ps → t.kitty = s.kitty
  bus : .bus ∉ ps → t.bus = s.bus
  kmem : .kmem ∉ ps → t.kmem = s.kmem
  smem : .smem ∉ ps → t.smem = s.smem
  tiles : .tiles ∉ ps → t.tiles = s.tiles
  pds : .pds ∉ ps → t.pds = s.pds
  quota : .quota ∉ ps → t.quota = s.quota
  sched : .sched ∉ ps → t.sched = s.sched
  idx : .idx ∉ ps → t.idx = s.idx
  qry : .qry ∉ ps → t.qry = s.qry
  link : .link ∉ ps → t.link = s.link
  ton : .ton ∉ ps → t.ton = s.ton
  eng : .eng ∉ ps → t.eng = s.eng
  kv : .kv ∉ ps → t.kv = s.kv
  emb : .emb ∉ ps → t.emb = s.emb
  nand : .nand ∉ ps → t.nand = s.nand
  lend : .lend ∉ ps → t.lend = s.lend
  med : .med ∉ ps → t.med = s.med
  post : .post ∉ ps → t.post = s.post
  flt : .flt ∉ ps → t.flt = s.flt
  out : .out ∉ ps → t.out = s.out
  free : .free ∉ ps → t.free = s.free
  reg_node : .reg .node ∉ ps → t.regs.node = s.regs.node
  reg_mbx : .reg .mbx ∉ ps → t.regs.mbx = s.regs.mbx
  reg_cfg : .reg .cfg ∉ ps → t.regs.cfg = s.regs.cfg
  reg_clk : .reg .clk ∉ ps → t.regs.clk = s.regs.clk
  reg_flt : .reg .flt ∉ ps → t.regs.flt = s.regs.flt
  reg_kitty : .reg .kitty ∉ ps → t.regs.kitty = s.regs.kitty
  reg_qry : .reg .qry ∉ ps → t.regs.qry = s.regs.qry
  reg_idx : .reg .idx ∉ ps → t.regs.idx = s.regs.idx
  reg_cd : .reg .cd ∉ ps → t.regs.cd = s.regs.cd
  reg_media : .reg .media ∉ ps → t.regs.media = s.regs.media
  reg_link : .reg .link ∉ ps → t.regs.link = s.regs.link
  reg_sched : .reg .sched ∉ ps → t.regs.sched = s.regs.sched
  reg_lend : .reg .lend ∉ ps → t.regs.lend = s.regs.lend
  reg_stack : .reg .stack ∉ ps → t.regs.stack = s.regs.stack
  pending : t.pending = s.pending

/-- Adopting the listed parts changes nothing else: the frame of every meaning. -/
theorem State.adopt_agreesOff : State.AgreesOff ps s (s.adopt ps t) := by
  constructor <;> first | rfl | (intro h; simp [h])

end Sys2Proof.Machine
end

