-- ==== Sys2Proof/Laws/Frame.lean ====
section
/-! SUPPORT. What a meaning's end does: `adopt` takes the listed parts, and `finish` is `adopt` where nothing is left for the node to do of its own. -/

namespace Sys2Proof.Machine

variable {ps qs : List Part} {rs : List Nat} {off : Nat} {s t : State} {c : Instr} {P : State → Prop}

theorem State.reg_adopt (ps : List Part) (s t : State) (off : Nat) :
    (s.adopt ps t).reg off = match blockOf off with
      | none => 0
      | some b => if .reg b ∈ ps then t.reg off else s.reg off := by
  unfold State.reg
  cases blockOf off with
  | none => rfl
  | some b =>
    have e : (s.adopt ps t).regs.table b = if .reg b ∈ ps then t.regs.table b else s.regs.table b := by
      cases b <;> rfl
    simp only [e]
    split_ifs <;> rfl

/-- A register that a meaning leaves alone reads as before whichever parts are adopted. -/
theorem State.reg_adopt_same (h : t.reg off = s.reg off) : (s.adopt ps t).reg off = s.reg off := by
  rw [State.reg_adopt]
  cases hb : blockOf off with
  | none => simp only [State.reg, hb]
  | some b =>
    simp only
    split_ifs
    · exact h
    · rfl

/-- A register of an adopted block reads as the meaning leaves it. -/
theorem State.reg_adopt_of {b : Block} (hb : blockOf off = some b) (h : .reg b ∈ ps) : (s.adopt ps t).reg off = t.reg off := by
  rw [State.reg_adopt, hb]; simp [h]

/-- What a meaning leaves alone stays alone, whichever parts are adopted. -/
theorem State.Same.adopted (ps : List Part) (h : State.Same qs s t) : State.Same qs s (s.adopt ps t) := by
  constructor
  · intro hq; simp only [State.adopt_clk]; split_ifs <;> first | rfl | exact h.clk hq
  · intro hq; simp only [State.adopt_start]; split_ifs <;> first | rfl | exact h.start hq
  · intro hq; simp only [State.adopt_ident]; split_ifs <;> first | rfl | exact h.ident hq
  · intro hq; simp only [State.adopt_cfg]; split_ifs <;> first | rfl | exact h.cfg hq
  · intro hq; simp only [State.adopt_host]; split_ifs <;> first | rfl | exact h.host hq
  · intro hq; simp only [State.adopt_slots]; split_ifs <;> first | rfl | exact h.slots hq
  · intro hq; simp only [State.adopt_xp]; split_ifs <;> first | rfl | exact h.xp hq
  · intro hq; simp only [State.adopt_kitty]; split_ifs <;> first | rfl | exact h.kitty hq
  · intro hq; simp only [State.adopt_bus]; split_ifs <;> first | rfl | exact h.bus hq
  · intro hq; simp only [State.adopt_kmem]; split_ifs <;> first | rfl | exact h.kmem hq
  · intro hq; simp only [State.adopt_smem]; split_ifs <;> first | rfl | exact h.smem hq
  · intro hq; simp only [State.adopt_tiles]; split_ifs <;> first | rfl | exact h.tiles hq
  · intro hq; simp only [State.adopt_pds]; split_ifs <;> first | rfl | exact h.pds hq
  · intro hq; simp only [State.adopt_quota]; split_ifs <;> first | rfl | exact h.quota hq
  · intro hq; simp only [State.adopt_sched]; split_ifs <;> first | rfl | exact h.sched hq
  · intro hq; simp only [State.adopt_idx]; split_ifs <;> first | rfl | exact h.idx hq
  · intro hq; simp only [State.adopt_qry]; split_ifs <;> first | rfl | exact h.qry hq
  · intro hq; simp only [State.adopt_link]; split_ifs <;> first | rfl | exact h.link hq
  · intro hq; simp only [State.adopt_ton]; split_ifs <;> first | rfl | exact h.ton hq
  · intro hq; simp only [State.adopt_eng]; split_ifs <;> first | rfl | exact h.eng hq
  · intro hq; simp only [State.adopt_kv]; split_ifs <;> first | rfl | exact h.kv hq
  · intro hq; simp only [State.adopt_emb]; split_ifs <;> first | rfl | exact h.emb hq
  · intro hq; simp only [State.adopt_nand]; split_ifs <;> first | rfl | exact h.nand hq
  · intro hq; simp only [State.adopt_lend]; split_ifs <;> first | rfl | exact h.lend hq
  · intro hq; simp only [State.adopt_med]; split_ifs <;> first | rfl | exact h.med hq
  · intro hq; simp only [State.adopt_post]; split_ifs <;> first | rfl | exact h.post hq
  · intro hq; simp only [State.adopt_flt]; split_ifs <;> first | rfl | exact h.flt hq
  · intro hq; simp only [State.adopt_out]; split_ifs <;> first | rfl | exact h.out hq
  · intro hq; simp only [State.adopt_free]; split_ifs <;> first | rfl | exact h.free hq
  · rfl

/-- A command whose meaning adopts parts of `t`, by what `t` itself leaves alone. -/
theorem Does.of (h : exec c s = .next (s.adopt ps t)) (hs : State.Same qs s t) (hr : State.SameRegs qs rs s t) (hP : P (s.adopt ps t)) : Does c s qs rs P :=
  ⟨_, h, hs.adopted ps, fun off b hb hp ho => State.reg_adopt_same (hr off b hb hp ho), hP⟩

/-- Where nothing is left to do, `finish` is `adopt`. -/
theorem State.finish_calm (h : s.sendsOnly (s.adopt ps t) = true) (hp : (s.adopt ps t).post = []) (hr : (s.adopt ps t).slots.replies = []) :
    s.finish ps t = s.adopt ps t := by
  unfold State.finish
  simp only [h, hp, hr, List.isEmpty_nil, Bool.and_self, if_true]

theorem State.calm_iff : s.calm = true ↔ s.flt.due = [] ∧ s.ton.events = [] ∧ s.host.blockWait = [] ∧ (s.emb.waiting = [] ∧ s.med.stored = [] ∧
    ∀ e ∈ s.emb.tables, e.2.dropSlot = none) ∧ (∀ r ∈ s.slots.runs, r.2.wait.isSome) ∧
    (∀ f ∈ s.qry.formers, f.2.input = []) ∧ (∀ e ∈ s.link.ports, e.2.live = true → (s.port e.1).live = true) ∧ s.post = [] ∧ s.slots.replies = [] := by
  simp only [State.calm, State.sendsOnly, Bool.and_eq_true, List.isEmpty_iff, List.all_eq_true, Bool.or_eq_true, Bool.not_eq_true', Option.isNone_iff_eq_none]
  constructor
  · rintro ⟨⟨⟨⟨⟨⟨⟨⟨⟨⟨a, b⟩, c⟩, w⟩, m⟩, x⟩, d⟩, e⟩, f⟩, g⟩, h⟩
    exact ⟨a, b, c, ⟨w, m, x⟩, d, e, fun x hx hl => by rcases f x hx with k | k <;> simp_all, g, h⟩
  · rintro ⟨a, b, c, ⟨w, m, x⟩, d, e, f, g, h⟩
    refine ⟨⟨⟨⟨⟨⟨⟨⟨⟨⟨a, b⟩, c⟩, w⟩, m⟩, x⟩, d⟩, e⟩, fun x hx => ?_⟩, g⟩, h⟩
    cases hl : x.2.live
    · exact .inl rfl
    · exact .inr (f x hx hl)

/-- What a calm state's own work depends on. -/
structure State.KeepsCalm (s t : State) : Prop where
  due : s.flt.due = [] → t.flt.due = []
  events : t.ton.events = s.ton.events
  blockWait : t.host.blockWait = s.host.blockWait
  waiting : t.emb.waiting = s.emb.waiting
  stored : t.med.stored = s.med.stored
  drops : (∀ e ∈ s.emb.tables, e.2.dropSlot = none) → ∀ e ∈ t.emb.tables, e.2.dropSlot = none
  runs : (∀ r ∈ s.slots.runs, r.2.wait.isSome) → ∀ r ∈ t.slots.runs, r.2.wait.isSome
  formers : (∀ f ∈ s.qry.formers, f.2.input = []) → ∀ f ∈ t.qry.formers, f.2.input = []
  ports : ∀ k, (t.port k).live = (s.port k).live
  post : t.post = s.post
  replies : t.slots.replies = s.slots.replies

theorem State.KeepsCalm.adopt (ps : List Part) (h : State.KeepsCalm s t) : State.KeepsCalm s (s.adopt ps t) where
  due := by simp only [State.adopt_flt]; split_ifs <;> first | exact h.due | exact id
  events := by simp only [State.adopt_ton]; split_ifs <;> first | exact h.events | rfl
  blockWait := by simp only [State.adopt_host]; split_ifs <;> first | exact h.blockWait | rfl
  waiting := by simp only [State.adopt_emb]; split_ifs <;> first | exact h.waiting | rfl
  stored := by simp only [State.adopt_med]; split_ifs <;> first | exact h.stored | rfl
  drops := by simp only [State.adopt_emb]; split_ifs <;> first | exact h.drops | exact id
  runs := by simp only [State.adopt_slots]; split_ifs <;> first | exact h.runs | exact id
  formers := by simp only [State.adopt_qry]; split_ifs <;> first | exact h.formers | exact id
  ports := fun k => by
    have e : (s.adopt ps t).port k = if .link ∈ ps then t.port k else s.port k := by simp only [State.port, State.adopt_link]; split_ifs <;> rfl
    rw [e]; split_ifs <;> first | exact h.ports k | rfl
  post := by simp only [State.adopt_post]; split_ifs <;> first | exact h.post | rfl
  replies := by simp only [State.adopt_slots]; split_ifs <;> first | exact h.replies | rfl

/-- In a calm state a meaning that leaves nothing to do ends as `adopt`. -/
theorem State.finish_keepsCalm (hc : s.calm = true) (h : State.KeepsCalm s (s.adopt ps t)) : s.finish ps t = s.adopt ps t := by
  obtain ⟨a, b, c, ⟨w, m, x⟩, d, e, f, g, r⟩ := State.calm_iff.1 hc
  refine State.finish_calm ?_ (h.post.trans g) (h.replies.trans r)
  have hl : ∀ x ∈ s.link.ports, x.2.live = true → ((s.adopt ps t).port x.1).live = true := fun x hx hl => by rw [h.ports]; exact f x hx hl
  simp only [State.sendsOnly, Bool.and_eq_true, List.isEmpty_iff, List.all_eq_true, Bool.or_eq_true, Bool.not_eq_true', Option.isNone_iff_eq_none]
  refine ⟨⟨⟨⟨⟨⟨⟨⟨h.due a, h.events.trans b⟩, h.blockWait.trans c⟩, h.waiting.trans w⟩, h.stored.trans m⟩, h.drops x⟩, h.runs d⟩, h.formers e⟩, fun x hx => ?_⟩
  cases hv : x.2.live
  · exact .inl rfl
  · exact .inr (hl x hx hv)

/-- A command whose meaning finishes with nothing left to do, by what it itself leaves alone. -/
theorem Does.ofCalm (h : exec c s = .next (s.finish ps t)) (hc : s.calm = true) (hk : State.KeepsCalm s t)
    (hs : State.Same qs s t) (hr : State.SameRegs qs rs s t) (hP : P (s.adopt ps t)) : Does c s qs rs P :=
  Does.of (h.trans (congrArg _ (State.finish_keepsCalm hc (hk.adopt ps)))) hs hr hP

/-- What a calm state's own work depends on, but for messages and replies to send. -/
structure State.KeepsRest (s t : State) : Prop where
  due : s.flt.due = [] → t.flt.due = []
  events : t.ton.events = s.ton.events
  blockWait : t.host.blockWait = s.host.blockWait
  waiting : t.emb.waiting = s.emb.waiting
  stored : t.med.stored = s.med.stored
  drops : (∀ e ∈ s.emb.tables, e.2.dropSlot = none) → ∀ e ∈ t.emb.tables, e.2.dropSlot = none
  runs : (∀ r ∈ s.slots.runs, r.2.wait.isSome) → ∀ r ∈ t.slots.runs, r.2.wait.isSome
  formers : (∀ f ∈ s.qry.formers, f.2.input = []) → ∀ f ∈ t.qry.formers, f.2.input = []
  ports : ∀ k, (t.port k).live = (s.port k).live

/-- With no more than messages and replies to send, `finish` is `adopt` apart from the parts that sending changes. -/
theorem State.finish_sends (hc : s.calm = true) (h : State.KeepsRest s (s.adopt ps t)) :
    s.finish ps t = s.adopt ps t ∨ s.finish ps t = (s.adopt ps t).adopt sendParts (sendAll (s.adopt ps t)) := by
  obtain ⟨a, b, c, ⟨w, m, x⟩, d, e, f, g, r⟩ := State.calm_iff.1 hc
  have hs : s.sendsOnly (s.adopt ps t) = true := by
    have hl : ∀ x ∈ s.link.ports, x.2.live = true → ((s.adopt ps t).port x.1).live = true := fun x hx hl => by rw [h.ports]; exact f x hx hl
    simp only [State.sendsOnly, Bool.and_eq_true, List.isEmpty_iff, List.all_eq_true, Bool.or_eq_true, Bool.not_eq_true', Option.isNone_iff_eq_none]
    refine ⟨⟨⟨⟨⟨⟨⟨⟨h.due a, h.events.trans b⟩, h.blockWait.trans c⟩, h.waiting.trans w⟩, h.stored.trans m⟩, h.drops x⟩, h.runs d⟩, h.formers e⟩, fun x hx => ?_⟩
    cases hv : x.2.live
    · exact .inl rfl
    · exact .inr (hl x hx hv)
  unfold State.finish
  simp only [hs, if_true]
  split_ifs
  · exact .inl rfl
  · exact .inr rfl

/-- A command whose meaning leaves no more than messages and replies to send: what it does beside the parts that sending changes. -/
theorem Does.ofSends (h : exec c s = .next (s.finish ps t)) (hc : s.calm = true) (hk : State.KeepsRest s (s.adopt ps t)) (hq : ∀ p ∈ sendParts, p ∈ qs)
    (hs : State.Same qs s t) (hr : State.SameRegs qs rs s t) (hP : ∀ u, P (s.adopt ps t) ∧ P ((s.adopt ps t).adopt sendParts u)) : Does c s qs rs P := by
  have hb : ∀ b, .reg b ∉ qs → .reg b ∉ sendParts := fun b hb hm => hb (hq _ hm)
  rcases State.finish_sends hc hk with e | e
  · exact ⟨_, h.trans (congrArg _ e), hs.adopted ps, fun off b hb hp ho => State.reg_adopt_same (hr off b hb hp ho), (hP s).1⟩
  · refine ⟨_, h.trans (congrArg _ e), ?_, fun off b hb' hp ho => ?_, (hP _).2⟩
    · have h1 := hs.adopted ps
      constructor
      · intro hn; rw [State.adopt_clk, if_neg (fun hm => hn (hq _ hm))]; exact h1.clk hn
      · intro hn; rw [State.adopt_start, if_neg (fun hm => hn (hq _ hm))]; exact h1.start hn
      · intro hn; rw [State.adopt_ident, if_neg (fun hm => hn (hq _ hm))]; exact h1.ident hn
      · intro hn; rw [State.adopt_cfg, if_neg (fun hm => hn (hq _ hm))]; exact h1.cfg hn
      · intro hn; rw [State.adopt_host, if_neg (fun hm => hn (hq _ hm))]; exact h1.host hn
      · intro hn; rw [State.adopt_slots, if_neg (fun hm => hn (hq _ hm))]; exact h1.slots hn
      · intro hn; rw [State.adopt_xp, if_neg (fun hm => hn (hq _ hm))]; exact h1.xp hn
      · intro hn; rw [State.adopt_kitty, if_neg (fun hm => hn (hq _ hm))]; exact h1.kitty hn
      · intro hn; rw [State.adopt_bus, if_neg (fun hm => hn (hq _ hm))]; exact h1.bus hn
      · intro hn; rw [State.adopt_kmem, if_neg (fun hm => hn (hq _ hm))]; exact h1.kmem hn
      · intro hn; rw [State.adopt_smem, if_neg (fun hm => hn (hq _ hm))]; exact h1.smem hn
      · intro hn; rw [State.adopt_tiles, if_neg (fun hm => hn (hq _ hm))]; exact h1.tiles hn
      · intro hn; rw [State.adopt_pds, if_neg (fun hm => hn (hq _ hm))]; exact h1.pds hn
      · intro hn; rw [State.adopt_quota, if_neg (fun hm => hn (hq _ hm))]; exact h1.quota hn
      · intro hn; rw [State.adopt_sched, if_neg (fun hm => hn (hq _ hm))]; exact h1.sched hn
      · intro hn; rw [State.adopt_idx, if_neg (fun hm => hn (hq _ hm))]; exact h1.idx hn
      · intro hn; rw [State.adopt_qry, if_neg (fun hm => hn (hq _ hm))]; exact h1.qry hn
      · intro hn; rw [State.adopt_link, if_neg (fun hm => hn (hq _ hm))]; exact h1.link hn
      · intro hn; rw [State.adopt_ton, if_neg (fun hm => hn (hq _ hm))]; exact h1.ton hn
      · intro hn; rw [State.adopt_eng, if_neg (fun hm => hn (hq _ hm))]; exact h1.eng hn
      · intro hn; rw [State.adopt_kv, if_neg (fun hm => hn (hq _ hm))]; exact h1.kv hn
      · intro hn; rw [State.adopt_emb, if_neg (fun hm => hn (hq _ hm))]; exact h1.emb hn
      · intro hn; rw [State.adopt_nand, if_neg (fun hm => hn (hq _ hm))]; exact h1.nand hn
      · intro hn; rw [State.adopt_lend, if_neg (fun hm => hn (hq _ hm))]; exact h1.lend hn
      · intro hn; rw [State.adopt_med, if_neg (fun hm => hn (hq _ hm))]; exact h1.med hn
      · intro hn; rw [State.adopt_post, if_neg (fun hm => hn (hq _ hm))]; exact h1.post hn
      · intro hn; rw [State.adopt_flt, if_neg (fun hm => hn (hq _ hm))]; exact h1.flt hn
      · intro hn; rw [State.adopt_out, if_neg (fun hm => hn (hq _ hm))]; exact h1.out hn
      · intro hn; rw [State.adopt_free, if_neg (fun hm => hn (hq _ hm))]; exact h1.free hn
      · rfl
    · rw [State.reg_adopt, hb']
      simp only [if_neg (hb b hp)]
      exact State.reg_adopt_same (hr off b hb' hp ho)

/-- Nothing is left to do where the parts that such work depends on are as before. -/
theorem State.KeepsCalm.of (h1 : s.flt.due = [] → t.flt.due = []) (h2 : t.ton = s.ton) (h3 : t.host.blockWait = s.host.blockWait) (h4 : t.slots = s.slots)
    (h5 : t.qry = s.qry) (h6 : t.link = s.link) (h7 : t.post = s.post) (h8 : t.emb = s.emb) (h9 : t.med = s.med) : State.KeepsCalm s t where
  due := h1
  events := by rw [h2]
  blockWait := h3
  waiting := by rw [h8]
  stored := by rw [h9]
  drops := by rw [h8]; exact id
  runs := by rw [h4]; exact id
  formers := by rw [h5]; exact id
  ports := fun k => by unfold State.port; rw [h6]
  post := h7
  replies := by rw [h4]

end Sys2Proof.Machine
end

