-- ==== Sys2Proof/Laws/Slots.lean ====
section
/-! SUPPORT. What starting and completing a slot's command do (R69), and when a serial family's turn ends. -/

namespace Sys2Proof.Machine

/-- A slot's argument registers and GO lie in BAR0. -/
theorem State.begun_same (f : Family) (slot op : Nat) (args : List (Nat × W32)) (r : Option (List W32)) (s : State) :
    State.Same [.slots] s (s.begun f slot op args r) := by
  have ha : State.Same [.slots] s (s.setArgs f slot args) := by
    unfold State.setArgs
    induction args generalizing s with
    | nil => exact State.Same.refl _ s
    | cons a rest ih =>
      rw [List.foldl_cons]
      refine State.Same.trans ?_ (ih _)
      dsimp only
      split
      · exact State.setReg_same _ _ _ s
      · exact State.Same.refl _ s
  have hg : State.Same [.slots] (s.setArgs f slot args) ((s.setArgs f slot args).slotGo f slot op) := by
    unfold State.slotGo
    refine State.Same.ite (State.setReg_same _ _ _ _) (State.Same.trans (State.setReg_same _ (slotReg f slot 0) (w32 (0x80000000 + op)) _) ?_)
    constructor <;> first | rfl | (intro _; rfl) | (intro h; exact absurd (by decide) h)
  refine (ha.trans hg).trans ?_
  constructor <;> first | rfl | (intro _; rfl) | (intro h; exact absurd (by decide) h)

theorem State.slotDone_same (f : Family) (slot r : Nat) (s : State) : State.Same [.slots] s (s.slotDone f slot r) := by
  unfold State.slotDone
  constructor <;> first | (intro h; exact absurd (by decide) h) | (intro _; simp) | simp

theorem State.slotWaits_same (f : Family) (slot : Nat) (w : SlotWait) (s : State) : State.Same [.slots] s (s.slotWaits f slot w) := by
  constructor <;> first | rfl | (intro _; rfl) | (intro h; exact absurd (by decide) h)

/-- A serial family whose slots hold no command that waits its turn has nothing to start. -/
theorem serialTurn_done (f : Family) (run : Nat → Nat → State → State) (n : Nat) (s : State)
    (h : ∀ k, k < 4 → s.slots.runs.get (slotKey f k) = none ∨ ∃ r, s.slots.runs.get (slotKey f k) = some r ∧ r.wait.isSome = true) :
    serialTurn f run n s = s := by
  cases n with
  | zero => rfl
  | succ n =>
    unfold serialTurn
    split_ifs with ha
    · rfl
    · have : s.nextWaiting f = none := by
        unfold State.nextWaiting
        dsimp only
        split
        · rename_i k hk
          have hs := List.find?_some hk
          have hk4 : k < 4 := by
            obtain ⟨i, _, rfl⟩ := List.mem_map.1 (List.mem_of_find?_eq_some hk)
            exact Nat.mod_lt _ (by decide)
          rcases h k hk4 with hn | ⟨r, hr, hw⟩
          · simp [hn] at hs
          · simp [hr, Option.isSome_iff_ne_none.1 hw] at hs
        · rfl
      rw [this]

/-- A completed command leaves its slot; its answer is due only where a host request waits for it. -/
theorem State.slotDone_slots (f : Family) (slot r : Nat) (s : State) (h : (s.slots.runs.get (slotKey f slot)).bind SlotRun.reply = none) :
    (s.slotDone f slot r).slots = ⟨s.slots.runs.del (slotKey f slot), s.slots.last.put f.num slot, s.slots.replies⟩ := by
  unfold State.slotDone
  rw [h]
  simp

end Sys2Proof.Machine
end

