-- ==== Sys2Proof/WellFormed.lean ====
section
/-! DEFINITION. Which commands are well formed: operands that name something lie in the ranges the manual numbers them in, and byte strings of a fixed
size have it. A command that is not well formed stands for nothing outside the node can do; the meanings give it no effect or the error their chapter
names. -/

namespace Sys2Proof

/-- A command slot (R69): one a steward die. -/
def wfSlot (slot : Nat) : Bool := decide (slot < 4)
/-- A source port of a die (R37, R57). -/
def wfDie (die : Nat) : Bool := decide (die < 64)
/-- A quadrant (R163). -/
def wfQuadrant (q : Nat) : Bool := decide (q < 4)
/-- A link (R409). -/
def wfLink (l : Nat) : Bool := decide (l < 96)
/-- A virtual channel (R411). -/
def wfVc (vc : Nat) : Bool := decide (vc < 8)
/-- A seat of a table of nodes (R434). -/
def wfSeat (n : Nat) : Bool := decide (n < 64)
/-- A host mailbox (R582). -/
def wfMbox (h : Nat) : Bool := decide (h < 16)
/-- A control core (R598). -/
def wfCore (c : Nat) : Bool := decide (c < 32)
/-- A unit of a class (R263, R287, R352). -/
def wfUnit : UnitClass → Nat → Bool
  | .me, n | .vu, n => decide (n < 32)
  | .sk, n => decide (n < 64)
  | .ge, n => decide (n < 16)
/-- A sequencer of a die (R289). -/
def wfSeq (die sq : Nat) : Bool := decide (die < 8 ∧ sq < 8)
/-- A tile descriptor as its row posts it (R80, R81, Table 2.5): its OP is the row's or none of the five, and it goes to the queue of the store die that carries
its stack, where that exists; COPY to any. -/
def TileDesc.wf (op queue : Nat) (d : TileDesc) : Bool :=
  let stack := d.stackAddr.toNat / 2 ^ 36 % 32
  decide ((d.op.toNat = op ∨ d.op.toNat = 0 ∨ 5 < d.op.toNat) ∧ queue < 20 ∧ (op = 3 ∨ stack = queue ∨ 20 ≤ stack))
/-- A scheduling point that exists (R454). -/
def Point.wf : Point → Bool
  | .link l => wfLink l
  | .tenant t => decide (t < 4096)
/-- A write of at most 64 bytes that stays in one line (R57). -/
def Access.wf (a : Access) : Bool :=
  wfDie a.die && decide (a.len ≤ 64 ∧ a.offset % 64 + a.len ≤ 64) && match a.write with | some b => b.length == a.len | none => true

/-- A command is well formed. -/
def Instr.wf : Instr → Bool
  | .registerWrite _ off b => decide (off < 0x4000000 ∧ 1 ≤ b.length ∧ b.length ≤ 4096)
  | .xpMessageIssue die _ | .moduleSetChange die _ _ | .moduleSetResume die _ => wfDie die
  | .regionAccess a => a.wf
  | .bankArbitration bank | .bankSpareSwitch bank => decide (bank < 2304)
  | .alloc s _ _ _ | .free s _ | .transfer s _ _ | .resize s _ _ | .rcmdComplete s | .load s _ _ _ | .tableLoadDone s | .build s _ _ _ _ _ | .buildDone s
  | .drop s _ | .merge s _ _ | .moveStack s _ _ _ | .moveSeat s _ _ _ | .splitSeat s _ _ _ | .replaceBegin s _ _ | .replaceCommit s _ _ _
  | .replaceCancel s _ | .create s _ _ | .pdFree s _ | .treeCreate s _ _ _ | .treeFree s _ | .embCreate s _ _ | .embDrop s _ | .rowMoveStack s _ _ _
  | .rowMoveSeat s _ _ _ | .rowMoveCancel s _ | .format s | .schemaSet s _ _ | .ringAttach s _ _ | .ringDetach s _ | .mapSet s _ _ | .windowOpen s _ _
  | .windowClose s _ | .linkReset s _ | .setShaper s _ _ _ | .setGates s _ _ _ _ _ | .cancelGates s _ | .setQuota s _ _ _ | .form s _ _ | .change s _ _
  | .reclaim s _ _ | .keepOpen s _ _ | .keepClose s _ | .restore s _ _ | .setDrills s _ _ | .drillNow s _ | .retire s _ | .replaceLoadDone s => wfSlot s
  | .unitScrubDone u => decide (u < 2304)
  | .expand q _ d _ => d.wf 1 q
  | .compress q _ d => d.wf 2 q
  | .copy q _ d => d.wf 3 q
  | .fetchRaw q _ d _ => d.wf 4 q
  | .storeRaw q _ d => d.wf 5 q
  | .tileTransferComplete q _ => decide (q < 20)
  | .pairArrival q _ _ | .trickDeadline q _ | .trickIdleLaunch q | .launchQueueSpace q | .skewWindowClose q | .read q _ | .write q _ | .trim q _
  | .scan q _ => wfQuadrant q
  | .scanStrip e | .scanWayside e | .trickScanDone e | .scanEngineFail e => decide (e < 128)
  | .answer seat _ | .updateAnswer seat _ | .mapAck seat _ | .beat seat | .seatLoss seat | .waymark seat _ _ | .waymarkSilent seat | .faultNotice seat _
  | .shuffle seat _ _ _ | .dealerUpdateTimeout _ seat => wfSeat seat
  | .commandPost die sq cls unit ⟨b, _⟩ =>
    wfSeq die sq && b.length == 64 && decide (unit < (match cls with | .me | .vu => 4 | .sk => 8 | .ge => 2))
  | .loadWeights n => wfUnit .me n
  | .stream n _ => wfUnit .me n
  | .drain n => wfUnit .me n
  | .add n | .mul n | .mac n | .max n | .act n | .softmaxRow n | .normRow n | .reduceRow n | .distFinish n | .optStep n | .convert n => wfUnit .vu n
  | .skew n => wfUnit .sk n
  | .gather n | .scatter n | .rowReadDone n _ _ | .rowHoldTimeout n => wfUnit .ge n
  | .unitCommandComplete c ⟨n, _, _⟩ | .cdWaitTimeout c n | .unitClearDone c n => wfUnit c n
  | .completionQueueSpace die sq | .sequencerHalt die sq _ | .sequencerAssign die sq _ _ => wfSeq die sq
  | .syncCounterAccess die sq ctr _ => wfSeq die sq && decide (ctr < 64)
  | .kvRingPoll r | .lookup r | .insert r | .unref r => decide (r < 4096)
  | .nandEraseDone _ failed => decide (failed.length ≤ 16)
  | .flitReceive l b => wfLink l && b.length == 256
  | .replayTimeout l | .egressSelect l | .carrierDetect l | .phyTrained l | .linkTrainTimeout l | .hello l _ | .helloAck l _ | .helloTimerExpiry l
  | .carrierLost l | .keepaliveSend l | .keepaliveLoss l => wfLink l
  | .creditReturn l vc _ n => wfLink l && wfVc vc && decide (n ≤ 255)
  | .packetReceive l vc => wfLink l && wfVc vc
  | .bucketRefill p | .gateEntryChange p | .gateTakeover p => p.wf
  | .coreWatchdog c | .echo c | .blockCmd c | .attest c | .coreMailboxPop c _ => wfCore c
  | .coreMailboxPost c _ => wfCore c
  | .stewardHeartbeatLoss q => decide (q < 4)
  | .stageWrite _ _ k => decide (k < 8)
  | .mailboxPost h first words => wfMbox h && decide (first + words.length ≤ 16)
  | .mbxHPop h _ | .mbxHRing h _ | .mbxHCtlReset h _ | .mbxHRejects h | .mbxHAbortInfo h => wfMbox h
  | .msixUnmask v => decide (v < 64)
  | .railFault d => wfDie d
  | .faultCounterLeak cls _ => decide (cls < 17)
  | .xpWriteAck _ | .xpReadResponse _ | .e2eTimeout _ | .kittyXpSel _ | .kittyXpSnap | .kittyXpClear | .kittyXpClearAll | .quotaEvict _ | .pageOpen _ _ _
  | .pageSeal _ _ _ | .pageRecall _ _ _ | .pageRecallDone _ _ | .pageRelease _ _ _ | .pageSpillDone _ _ | .kittyRgnSel _ | .kittyQuotaSel _
  | .kittyClsSel _ | .dropFree _ | .idxTblSel _ | .idxLstSelList _ | .query _ | .queryRelease _ | .probeBatchDeadline _ | .probeDone _ | .listsRanked _
  | .entryArrival _ | .stagingAgeFlush _ | .handThresholdUpdate _ | .stageEnd _ | .rerankFetchDone _ _ _ | .rerankScored _ | .finalSelect _
  | .exactEntryScored _ _ _ | .queryDeadline _ | .qryTfSel _ | .qryTntSel _ | .mergeCloseDeadline _ | .update _ | .updateIntakeEntry _ _ _
  | .commitGroupDeadline _ | .groupCommit _ | .groupPublish _ | .updateWaitTimeout _ | .mergeStart _ _ | .mergeCommit _ _ | .milepostReclaim _
  | .shuffleResend _ | .shuffleOverlapEnd _ _ | .idxHotSel _ | .stackPdSel _ | .stackTreeSel _ | .embSkewWindowClose | .rowMoveCommit _
  | .stackEmbTblSel _ | .stackEmbShardSel _ | .stackEmbHotSel _ | .stackEmbOwnSel _ | .nandReadDone _ _ _ | .nandProgramDone _ _ | .relocationDone _
  | .mediaWaitTimeout _ | .journalFlushTimer | .rebuildPage _ | .mediaEnumerationDone _ | .mapRecoveryDone _ | .mediaChSel _ | .reassemblyTimeout _ _
  | .linkEvent _ | .mapPart _ | .mapCommit _ | .mapAckTimeout | .tile _ | .dealerQuery _ | .dealerUpdate _ | .rowGet _ | .rowPut _ | .rowData _ _ _
  | .beatSend | .dealerLoss | .waymarkSend | .mgmtAttest _ | .linkTonSeatSel _ | .schedLtcLo | .schedPtSel _ | .schedQuotaSel _ | .compositionNotice _
  | .reclaimDeadline _ | .reclaimDone _ | .stepBegin _ | .stepBeginRelease _ | .push _ | .stepEnd _ | .statePush _ | .stateAck _ | .handoffTimeout _
  | .keeperProbe _ | .lendCSel _ | .lendKSel _ | .drillDue _ | .drillEnd _ | .fltLogRead _ | .fltLogSel _ | .fltRetSel _ | .fltCntSel _
  | .fltDrillPtSel _ | .pwrokAssert | .porRelease _ | .refclkStable | .romDone _ _ | .imageCheck _ _ | .sectionsLoaded _ _ | .configDone | .bringUpDone
  | .startTimeout | .startFailed | .configPublish | .cfgMpLo | .stageBegin _ | .stageCommit _ | .stageAbort _ | .irqStatusWrite _ _ | .nodeRestart _
  | .nodeLtcLo | .nodeDieSel _ | .pcieReset _ | .pwrokDeassert | .refclkLoss | .thermalSample _ _ _ | .avsTelemetry _ _ _ | .smbusRead _ | .clkTsSel _
  | .porAssert | .dieFault _ | .moveCancel _ => true

end Sys2Proof
end

