-- ==== Sys2Proof/Tests/Slice0.lean ====
section
/-! SUPPORT. Tests: commands that are not well formed, the manual's worked examples, and for every statement of Certificates/Slice0/Obligations.lean that
has hypotheses a state and operands that meet them, clause by clause. -/

namespace Sys2Proof.Tests

open Sys2Proof Sys2Proof.Machine

set_option Elab.async false
set_option synthInstance.maxSize 2000
set_option synthInstance.maxHeartbeats 400000
set_option maxRecDepth 10000

/-- A region of the node's own. -/
def svc0 (cls : Nat) (us : List Nat) : Region := ⟨0, .system, cls, false, false, us, 0, []⟩
/-- The hand pool and the regions of the node's own transfers. -/
def kitty0 : KittySt :=
  { State.reset.kitty with
    regions := [(4090, svc0 1 [400, 401, 402, 403, 404, 405, 406, 407, 408]), (4092, svc0 7 [572, 1148, 1724, 2300]), (4093, svc0 6 [573, 1149, 1725, 2301]),
      (4094, svc0 4 [574, 1150, 1726, 2302]), (4095, svc0 1 [575, 1151, 1727, 2303, 571, 1147, 1723, 2299])]
    service := [(0, 4090), (1, 4095), (4, 4094), (6, 4093), (7, 4092)] }
/-- A node in RUNNING with nothing in it but its own regions, at LTC 100,000. -/
def run0 : State :=
  { State.reset with
    kitty := kitty0
    start := { startReset with phase := .running, lead := 0, stewards := [0] }
    clk := { clkReset with ltc := 100000, ticking := true, pwrok := true, porN := true, refclk := true, pllLocked := true } }
/-- A 16-bit field of a number. -/
def w16 (n : Nat) : W16 := BitVec.ofNat 16 n
/-- A base address in stack 1. -/
def sb : Nat := 2 ^ 36
/-- A placement descriptor of the system in stacked memory. -/
def pd (addr len : Nat) : PlaceDesc := ⟨0, 1, false, false, 2, false, .system, len, [⟨addr, len⟩], false⟩
def zeros (n : Nat) : Bytes := List.replicate n 0
/-- A table descriptor: HAMMING, 64 dimensions, no attributes and no full vectors; its placement descriptors start at `p`. -/
def tdesc (id lists rows p : Nat) : Bytes :=
  let a := leBytes 2 id ++ [0, 3] ++ leBytes 2 64 ++ [3, 0] ++ leBytes 2 8 ++ [0, 0] ++ leBytes 4 lists ++ leBytes 2 0 ++ leBytes 2 0 ++ leBytes 2 64 ++ leBytes 2 64
  let b := zeros 8 ++ leBytes 8 0 ++ leBytes 4 rows ++ [10] ++ zeros 3
  let c := leBytes 4 (p + 1) ++ leBytes 4 0 ++ leBytes 4 (p + 3) ++ leBytes 4 4 ++ zeros 8 ++ leBytes 4 (p + 7) ++ zeros 48
  a ++ b ++ c ++ leBytes 4 (crc32c (a ++ patch b 0 (zeros 20) ++ c)).toNat
def tgen (p : Nat) : TableGen := genOf (tdesc 5 2 8 p) []
/-- Table 5: LIVE at milepost 7. -/
def tbl0 : IdxTable := ⟨3, tgen 0, [], 7, 1, 1, [], [], [], none, none, [], none, [], none, none, none, 0, 0, 0, 0, [], 0⟩
def tblPds : Tbl PlaceDesc :=
  [(1, pd (sb + 0x10000) 0x10000), (3, pd (sb + 0x20000) 0x10000), (4, pd (sb + 0x100000) 0x100000), (7, pd (sb + 0x200000) 0x10000),
   (11, pd (sb + 0x30000) 0x10000), (13, pd (sb + 0x40000) 0x10000), (17, pd (sb + 0x210000) 0x10000)]
/-- Where list 1's image lies, and its wayside list. -/
def img0 : Nat := sb + 0x100000
/-- List 1: an image of milepost 3 with the entry of key 42 in row 0. -/
def tblMem : Mem :=
  let m := Mem.writeBytes [] (sb + 0x20020) (leBytes 8 img0 ++ leBytes 8 (img0 + 2432) ++ leBytes 8 3 ++ leBytes 4 1)
  let m := Mem.writeBytes m img0 ([0, 1] ++ leBytes 2 5 ++ leBytes 4 1 ++ leBytes 8 3 ++ leBytes 4 1 ++ leBytes 4 1)
  let m := Mem.writeBytes m (img0 + 64) [0x5A, 1, 2, 3, 4, 5, 6, 7]
  let m := Mem.writeBytes m (img0 + 64 + 512) [42]
  Mem.writeBytes m (sb + 0x200000 + 64 * homeBucket (tgen 0) 42) (leBytes 8 42 ++ leBytes 4 1 ++ [1])
/-- The node with a table 5. -/
def withTbl (x : IdxTable) : State :=
  { run0 with
    idx := { State.reset.idx with tables := [(5, x)], pool := [(img0, (tgen 0).imageBytes 1)] }
    pds := tblPds
    smem := tblMem
    cfg := { State.reset.cfg with tenantTables := [(7, [0x20])] } }
/-- An insert of a key into list 1, its code given. -/
def ins (key : Nat) : Bytes := [1, 3] ++ leBytes 2 32 ++ leBytes 4 1 ++ leBytes 8 key ++ [9, 8, 7, 6, 5, 4, 3, 2] ++ zeros 8
/-- An update of table 5 by tenant 7. -/
def updBody (r : Bytes) : Bytes := [0, 1] ++ leBytes 2 5 ++ leBytes 4 (64 + r.length) ++ leBytes 2 7 ++ leBytes 2 1 ++ [0, 3] ++ zeros 50 ++ r
def msg (typ : Nat) (b : Bytes) : Msg := ⟨0, typ, 0, 0x10002, 0, 0, 0, b⟩
/-- A slot's command that waits. -/
def withRun (f : Family) (slot op : Nat) (w : SlotWait) (s : State) : State :=
  { s with slots := { s.slots with runs := s.slots.runs.put (slotKey f slot) ⟨op, 0, [5], some w, none, false⟩ } }
/-- A table image's section. -/
def sec (typ off : Nat) (b : Bytes) : Bytes := [BitVec.ofNat 8 typ] ++ zeros 7 ++ leBytes 8 off ++ leBytes 8 b.length ++ leBytes 4 (crc32c b).toNat ++ zeros 4
/-- A table image of sections at offsets. -/
def image (l : List (Nat × Nat × Bytes)) : Mem :=
  let t := l.flatMap fun x => sec x.1 x.2.1 x.2.2
  let h := [0, 1] ++ leBytes 2 l.length ++ zeros 4 ++ leBytes 8 0x1000 ++ zeros 44
  let m := Mem.writeBytes [] (sb + 0x300000) (h ++ leBytes 4 (crc32c (h ++ t)).toNat ++ t)
  l.foldl (fun m x => Mem.writeBytes m (sb + 0x300000 + x.2.1) x.2.2) m
/-- An image to load, of one empty list. -/
def ldImg (p : Nat) : Mem := image [(1, 256, tdesc 5 1 8 p), (2, 384, zeros 132), (4, 576, zeros 32), (5, 640, zeros 64)]
/-- An image to build, of one vector. -/
def bdImg : Mem := image [(1, 256, tdesc 5 1 8 0), (7, 384, [1, 2, 3, 4, 5, 6, 7, 8]), (9, 448, leBytes 8 77)]
def noTbl (m : Mem) : State := { run0 with pds := tblPds, smem := m }
def ld0 (build : Bool) (p : Nat) : Loading := ⟨0, false, sb + 0x300000, tdesc 5 1 8 p, [], [img0], b1 build, build, 2 ^ 24, 1⟩
def loading0 (build : Bool) : IdxTable :=
  { tbl0 with state := if build then 2 else 1, gen := genOf (tdesc 5 1 8 0) [], milepost := 0, keys := 0, loading := some (ld0 build 0) }

/-! ### Commands that are not well formed (Sys2Proof/WellFormed.lean) -/

/-- Each names something beyond what the manual numbers. -/
theorem test_wf_refuses_numbers_out_of_range : ([.alloc 4 0 0 0, .retire 4 0, .xpMessageIssue 64 ⟨0, []⟩, .bankArbitration 2304, .unitScrubDone 2304, .pairArrival 4 0 0,
    .trickIdleLaunch 4, .trim 4 0, .scanStrip 128, .beat 64, .shuffle 64 (.list 0 0) 0 .abort, .loadWeights 32, .add 32, .skew 64, .gather 16, .unitCommandComplete .sk ⟨64, 0, 0⟩,
    .sequencerHalt 8 0 false, .sequencerHalt 0 8 false, .syncCounterAccess 0 0 64 none, .lookup 4096, .replayTimeout 96, .creditReturn 0 8 false 1,
    .creditReturn 0 0 false 256, .packetReceive 96 0, .bucketRefill (.link 96), .bucketRefill (.tenant 4096), .coreWatchdog 32, .stewardHeartbeatLoss 4,
    .stageWrite .other 0 8, .mbxHRejects 16, .msixUnmask 64, .railFault 64, .faultCounterLeak 17 0, .tileTransferComplete 20 0] : List Instr).all
    (fun c => !c.wf) = true := by decide
/-- Each carries bytes or fields that do not fit. -/
theorem test_wf_refuses_misfitting_data : ([.registerWrite false 0x4000000 [0], .registerWrite false 0 [], .regionAccess ⟨64, 0, .system, 0, 0, 4, none, false, .clean⟩,
    .regionAccess ⟨0, 0, .system, 0, 0, 65, none, false, .clean⟩, .regionAccess ⟨0, 0, .system, 0, 60, 8, none, false, .clean⟩,
    .regionAccess ⟨0, 0, .system, 0, 0, 4, some [1], false, .clean⟩, .expand 20 .system ⟨1, 0, 0, 0, 0, 0, 0, 1, 0⟩ .clean,
    .expand 0 .system ⟨2, 0, 0, 0, 0, 0, 0, 1, 0⟩ .clean, .expand 0 .system ⟨1, 0, 0, 0, w64 (3 * 2 ^ 36), 0, 0, 1, 0⟩ .clean,
    .commandPost 0 0 .ge 2 ⟨List.replicate 64 0, false⟩,
    .commandPost 0 0 .ge 1 ⟨List.replicate 63 0, false⟩, .nandEraseDone 0 (List.range 17), .flitReceive 0 [], .mailboxPost 0 15 [1, 2]] : List Instr).all
    (fun c => !c.wf) = true := by decide
theorem test_wf_allows_commands_in_range : ([.alloc 3 0 0 0, .xpMessageIssue 63 ⟨0, []⟩, .loadWeights 31, .copy 0 .system ⟨3, 0, 0, 0, w64 (3 * 2 ^ 36), 0, 0, 1, 0⟩, .regionAccess ⟨63, 0, .system, 0, 60, 4, some [1, 2, 3, 4], false, .clean⟩,
    .mailboxPost 15 14 [1, 2], .stageWrite .other 0 7] : List Instr).all Instr.wf = true := by decide

/-! ### Worked examples of the manual -/

/-- The worked example after R61: offset 0x0041_2345 of the region lies in unit 1,921 at byte 74,565, in bank 1,933. -/
theorem test_worked_region_translation : let r : Region := ⟨0, .system, 2, false, false, [1790, 1847, 1921], 0, []⟩
    r.addr 0x00412345 = some (1921 * unitBytes + 74565) ∧ bankOf 1921 74565 = 1933 := by decide +kernel
/-- Table 7.8: three accumulators rescaled by 0.75 with Z_Y = -3. -/
theorem test_worked_rescale : [rescale 9 0x60000000 31 (-3) 0 0 0, rescale 14 0x60000000 31 (-3) 0 0 0, rescale 14 0x60000000 31 (-3) 1 0 0,
    rescale 200 0x60000000 31 (-3) 0 0 0] = [(4, false), (8, false), (7, false), (127, true)] := by decide +kernel
/-- Table 8.2: values of a block for MXFP4 under ROUND 1 and ROUND 0; 63/8, 21/4, 5/2, -5/4, 11/16 and 3/16 stand for the table's decimals. -/
theorem test_worked_mxfp4_block : let vs : List FVal := [.fin false 63 (-3), .fin false 21 (-2), .fin false 5 (-1), .fin true 5 (-2), .fin false 11 (-4), .fin false 3 (-4)]
    encodeBlock 10 1 vs [] = (0x7F, [7, 7, 4, 0xA, 1, 0], 0) ∧ (encodeBlock 10 0 vs []).2.1 = [7, 7, 5, 0xB, 1, 0] := by decide +kernel
/-- Table 13.3: the refill at 5,001,000 takes the shaper that is waiting and loses 19 tokens; the refill at 5,002,000 adds 5. -/
theorem test_worked_refill : let q : SchedQueue := ⟨2560, 40, 1, 30 * 256, 0, true, some (1280, 16, 1), 0, 0, 0, 0⟩
    q.refill = (⟨1280, 16, 1, 16 * 256, 0, true, none, 0, 0, 0, 0⟩, true) ∧ (⟨1280, 16, 1, 0, 0, true, none, 0, 0, 0, 0⟩ : SchedQueue).refill =
      (⟨1280, 16, 1, 5 * 256, 0, true, none, 0, 0, 0, 0⟩, false) := by decide +kernel
/-- The worked examples of chapters 3 and 9: row 5,000,001 of 1,536 bytes in flash, and a node record of 24 layers. -/
theorem test_worked_sizes : rowOffset true 1536 5000001 = 10240001536 ∧ recBytes 24 = 512 := by decide
/-- Table 18.8: at 95.2 °C compute die 3 goes from duty 16 to 15; at 93.4 °C it stays. -/
theorem test_worked_throttling : let s (t : Int) : State := { State.reset with clk := { State.reset.clk with sensors := [(3 * 16, ⟨t, t, true, 0⟩)] } }
    (((s 1523).newDuty 3 false).1, ((s 1494).newDuty 3 false).1) = (15, 16) := by decide +kernel
/-- R585, Table 17.3: a fifth post to a FIFO that holds four is rejected and counted. -/
theorem test_worked_mailbox_reject : let m : MboxMsg := ⟨[], 3⟩
    let s0 : State := { run0 with host := { run0.host with cores := [(5, { coreReset with live := true, fromHost := ⟨[m, m, m, m], [3], false⟩ })], service := 1, serviceLive := true } }
    let s := s0.setReg (mboxReg Reg.MBX_H_TARGET 3) 5
    (match exec (.mailboxPost 3 15 [9]) s with
      | .next t => (t.core 5).fromHost.msgs.length == 4 && t.reg (mboxReg Reg.MBX_H_REJECTS 3) == 1
      | _ => false) = true := by decide +kernel

/-! ### States and operands that meet the hypotheses of the statements -/

namespace W16


theorem test_witness_StepTakesTheFrontCommand :
    (∃ (c : Instr) (rest : List Instr) (s : State), s.pending = c :: rest) ∧
    (∃ (s : State), s.pending = [] ∧ s.start.restarting = false ∧ s.clk.ticking = true ∧ s.clk.sub < 17) ∧
    (∃ (s : State), s.pending = [] ∧ s.start.restarting = false ∧ s.clk.ticking = true ∧ 17 ≤ s.clk.sub) ∧
    (∃ (s : State), s.pending = [] ∧ s.start.restarting = false ∧ s.clk.ticking = false) ∧
    (∃ (s : State), s.pending = [] ∧ s.start.restarting = true) :=
  ⟨⟨.pwrokAssert, [.echo 3], { run0 with pending := [.pwrokAssert, .echo 3] }, by decide +kernel⟩,
   ⟨{ run0 with clk := { run0.clk with sub := 16 } }, by decide +kernel⟩,
   ⟨{ run0 with clk := { run0.clk with sub := 17 } }, by decide +kernel⟩,
   ⟨State.reset, by decide +kernel⟩,
   ⟨{ run0 with start := { run0.start with restarting := true } }, by decide +kernel⟩⟩

theorem test_witness_ResetLeavesWhatTheSpecStates :
    (∃ (l : Nat), l < 96) ∧
    (∃ (l : Nat), l < 96) :=
  ⟨⟨95, by decide +kernel⟩,
   ⟨95, by decide +kernel⟩⟩

theorem test_witness_EveryStepKeepsTheClocksLegal :
    (∃ (s t : State), s.clockLegal ∧ step s = .next t) :=
  ⟨State.reset, idleCycle State.reset, by unfold State.clockLegal; decide +kernel, rfl⟩

theorem test_witness_OnlyPowerOnResetSetsTheLtc :
    (∃ (c : Instr) (s t : State), exec c s = .next t) ∧
    (∃ (c : Instr) (s t : State), exec c s = .next t ∧ s.clk.ticking = false ∧ t.clk.ticking = true) ∧
    (∃ (s t : State), s.pending = [] ∧ step s = .next t) ∧
    (∃ (c : Instr) (s t : State), exec c s = .next t) :=
  ⟨⟨.pwrokAssert, State.reset, pwrokAssert State.reset, rfl⟩,
   ⟨.porRelease true, { State.reset with clk := { clkReset with pwrok := true } }, State.reset.adopt allParts (porRelease true { State.reset with clk := { clkReset with pwrok := true } }), rfl, rfl, rfl⟩,
   ⟨run0, idleCycle run0, rfl, rfl⟩,
   ⟨.porAssert, run0, run0.adopt allParts (porAssert run0), rfl⟩⟩

end W16

namespace W01

/-- A message of die 8 for the first line of unit 0. -/
def msg0 : XpMsg := ⟨8, 0, 0, 0, 64, none, 0, 5, [], [], [], 0, false, false, .waiting, .clean⟩
def wmsg0 : XpMsg := { msg0 with len := 2, write := some [1, 2], stage := .atBank 0 }
/-- A message of die 0, which enters the mesh at store die 0 (die index 8). -/
def fmsg0 : XpMsg := { msg0 with die := 0 }
def mod1 (st : ModState) : XpModule := ⟨st, 0, noCounts, 0, noCounts⟩
def xpm (m : XpMsg) (b : Tbl Nat) : State := { run0 with xp := ⟨[], [(3, m)], 4, [], b, []⟩ }
/-- Modules 0 and 1 of die 0 and their far ends carry traffic. -/
def mods (ms : List Nat) : Tbl XpModule := sortBy (fun a b => decide (a.1 < b.1)) (ms.flatMap fun k => [(k, mod1 .active), (peerKey k, mod1 .active)])
def xpf (m : XpMsg) (ms : List Nat) (chs : Tbl Bool) : State := { run0 with xp := ⟨mods ms, [(3, m)], 4, [], [], chs⟩ }
def chg (b : Bool) : State := { run0 with xp := ⟨[(512, ⟨.active, 0, ⟨1, 2, 3, 4, 5, 6⟩, 7, ⟨1, 0, 0, 0, 0, 0⟩⟩)], [], 0, [], [], (Tbl.put [] 512 b).put (peerKey 512) b⟩ }
theorem pick_one (a l : Nat) : pickModule [a] l = some a := by simp [pickModule, Nat.mod_one]
/-- With module 0 alone in use, a message of die 0 takes it. -/
theorem route_one (c : Tbl Bool) : (xpf fmsg0 [0] c).route [] 0 0 fmsg0.line = some [⟨0, modulePeer 0 0, false⟩] := by
  have h : (xpf fmsg0 [0] c).usableTo [] 0 (8 + 0) = [0] := rfl
  have e : entryDies 0 0 = 0 :: (entryDies 0 0).tail := by decide +kernel
  simp only [State.route]
  rw [e]
  simp only [firstSome, h, pick_one]
  rfl
theorem waits_one : (xpf fmsg0 [0] [(0, true)]).mustWait fmsg0 [⟨0, modulePeer 0 0, false⟩] = true := by
  have h : (xpf fmsg0 [0] [(0, true)]).usableTo [] 0 (modulePeer 0 0 / 64) = [0] := by decide +kernel
  have h' : (xpf fmsg0 [0] [(0, true)]).nextSet 0 (modulePeer 0 0 / 64) = [] := by decide +kernel
  simp [State.mustWait, State.lineMoves, h, h', pickModule, Nat.mod_one]
/-- A message of die 0 on its way over module 0, with modules 0 and 1 in use. -/
def late0 : XpMsg := { fmsg0 with stage := .atBank 0, path := [⟨0, modulePeer 0 0, false⟩] }
theorem route_other : (xpf late0 [0, 1] []).route [0] 0 0 fmsg0.line = some [⟨1, modulePeer 0 1, false⟩] := by
  have h : (xpf late0 [0, 1] []).usableTo [0] 0 (8 + 0) = [1] := by decide +kernel
  have e : entryDies 0 0 = 0 :: (entryDies 0 0).tail := by decide +kernel
  simp only [State.route]
  rw [e]
  simp only [firstSome, h, pick_one]
  rfl
theorem avoid_first : (avoidSets (late0.path.map XpHop.src)).find? (fun a => ((xpf late0 [0, 1] []).route a 0 (unitDie late0.unit) late0.line).isSome) = some [0] := by
  have h : ((xpf late0 [0, 1] []).route [0] 0 (unitDie late0.unit) late0.line).isSome = true := congrArg Option.isSome route_other
  simp only [avoidSets, late0, List.map_cons, List.cons_append, List.nil_append] at h ⊢
  exact List.find?_cons_of_pos h
theorem free_other : (xpf late0 [0, 1] []).mustWait late0 [⟨1, modulePeer 0 1, false⟩] = false := by
  have h : (xpf late0 [0, 1] []).nextSet 0 (modulePeer 0 1 / 64) = (xpf late0 [0, 1] []).usableTo [] 0 (modulePeer 0 1 / 64) := by decide +kernel
  have f : ((xpf late0 [0, 1] []).inFlight.filter fun m => (1, XpHop.channel ⟨1, modulePeer 0 1, false⟩ late0.vc) ∈ m.credits).length = 0 := by decide +kernel
  simp [State.mustWait, State.lineMoves, h, State.hopFull, f]

theorem test_witness_RegisterWriteHoldsWritableBits :
    (∃ (off : Nat) (d : RegDef) (b : Block) (s : State), s.calm = true ∧ off % 4 = 0 ∧ (off < 0x10000 ∨ 0x20000 ≤ off) ∧ blockOf off = some b ∧ s.served b = true ∧ regDef off = some d ∧ d.acc = .rw ∧ d.base ∉ commandRegs) ∧
    (∃ (off : Nat) (d : RegDef) (s : State), s.calm = true ∧ off % 4 = 0 ∧ (off < 0x18000 ∨ 0x20000 ≤ off) ∧ regDef off = some d ∧ (d.acc = .ro ∨ d.acc = .rc ∨ d.acc = .fw)) ∧
    (∃ (off : Nat) (bs : Bytes) (s : State), s.calm = true ∧ requestAccepted off bs.length = false) :=
  ⟨⟨Reg.IDX_LST_SEL_TABLE, (regDef Reg.IDX_LST_SEL_TABLE).getD ⟨0, [], .ro, 0, 0⟩, .idx, run0, by decide +kernel⟩,
   ⟨0x100, (regDef 0x100).getD ⟨0, [], .ro, 0, 0⟩, run0, by decide +kernel⟩,
   ⟨0x102, [1,2,3,4], run0, by decide +kernel⟩⟩

theorem test_witness_TransportMessagesComplete :
    (∃ (die port id : Nat) (m : XpMsg) (path : List XpHop) (s : State), s.calm = true ∧ (s.xp.msgs.find? (fun e => e.2.die == die && e.2.port == port && e.2.stage == .waiting) = some (id, m)) ∧ s.route m.avoid m.die (unitDie m.unit) m.line = some path ∧ s.mustWait m path = false) ∧
    (∃ (die port id : Nat) (m : XpMsg) (path : List XpHop) (s : State), s.calm = true ∧ s.xp.msgs.get id = some m ∧ (s.xp.msgs.find? (fun e => e.2.die == die && e.2.port == port && e.2.stage == .waiting) = some (id, m)) ∧ s.route m.avoid m.die (unitDie m.unit) m.line = some path ∧ s.mustWait m path = true) ∧
    (∃ (die port id : Nat) (m : XpMsg) (s : State), s.calm = true ∧ m.die < 64 ∧ (s.xp.msgs.find? (fun e => e.2.die == die && e.2.port == port && e.2.stage == .waiting) = some (id, m)) ∧ s.route m.avoid m.die (unitDie m.unit) m.line = none) ∧
    (∃ (id : Nat) (m : XpMsg) (d : Bytes) (s : State), s.calm = true ∧ s.xp.msgs.get id = some m ∧ m.write.isSome = true ∧ m.stage = .answering d ∧ m.ecc ≠ .uncorrectable) ∧
    (∃ (id : Nat) (m : XpMsg) (d : Bytes) (s : State), s.calm = true ∧ s.xp.msgs.get id = some m ∧ m.write = none ∧ m.stage = .answering d ∧ m.ecc ≠ .uncorrectable) ∧
    (∃ (id a : Nat) (m : XpMsg) (b : Bytes) (back : List XpHop) (s : State), s.calm = true ∧ s.xp.msgs = [(id, m)] ∧ s.bus = [] ∧ m.write = some b ∧ m.cls < 8 ∧ m.die * 1024 + m.port + 1 < 2 ^ 20 ∧ m.stage = .atBank a ∧ m.ecc = .clean ∧ m.reissued = false ∧ s.routeBack m.die (unitDie m.unit) m.line = some back) ∧
    (∃ (id a : Nat) (m : XpMsg) (b : Bytes) (back : List XpHop) (s : State), s.calm = true ∧ s.xp.msgs = [(id, m)] ∧ s.bus = [] ∧ m.write = some b ∧ m.cls < 8 ∧ m.die * 1024 + m.port + 1 < 2 ^ 20 ∧ m.stage = .atBank a ∧ m.ecc = .clean ∧ m.reissued = true ∧ s.xp.bankSeq.get (bankOf m.unit m.offset * 2 ^ 20 + m.die * 2 ^ 10 + m.port) = some m.seq ∧ s.routeBack m.die (unitDie m.unit) m.line = some back) ∧
    (∃ (id a : Nat) (m : XpMsg) (back : List XpHop) (s : State), s.calm = true ∧ s.xp.msgs = [(id, m)] ∧ s.bus = [] ∧ m.write = none ∧ m.cls < 8 ∧ m.die * 1024 + m.port + 1 < 2 ^ 20 ∧ m.stage = .atBank a ∧ m.ecc = .clean ∧ s.routeBack m.die (unitDie m.unit) m.line = some back) :=
  ⟨⟨8, 0, 3, msg0, [], xpm msg0 [], by decide +kernel⟩,
   ⟨0, 0, 3, fmsg0, [⟨0, modulePeer 0 0, false⟩], xpf fmsg0 [0] [(0, true)], by decide +kernel, by decide +kernel, by decide +kernel, route_one _, waits_one⟩,
   ⟨0, 0, 3, fmsg0, xpf fmsg0 [] [], by decide +kernel⟩,
   ⟨3, { wmsg0 with stage := .answering [] }, [], xpm { wmsg0 with stage := .answering [] } [], by decide +kernel⟩,
   ⟨3, { msg0 with stage := .answering [7] }, [7], xpm { msg0 with stage := .answering [7] } [], by decide +kernel⟩,
   ⟨3, 0, wmsg0, [1,2], [], xpm wmsg0 [(bankOf 0 0 * 2 ^ 20 + 8 * 2 ^ 10, 4)], by decide +kernel⟩,
   ⟨3, 0, { wmsg0 with reissued := true }, [1,2], [], xpm { wmsg0 with reissued := true } [(bankOf 0 0 * 2 ^ 20 + 8 * 2 ^ 10, 5)], by decide +kernel⟩,
   ⟨3, 0, { msg0 with stage := .atBank 0 }, [], xpm { msg0 with stage := .atBank 0 } [], by decide +kernel⟩⟩

theorem test_witness_TransportTimeoutsAndSets :
    (∃ (id : Nat) (m : XpMsg) (avoid : List Nat) (path : List XpHop) (s : State), s.calm = true ∧ s.isRunning = true ∧ s.xp.msgs.get id = some m ∧ m.stage ≠ .waiting ∧ s.past (m.issued + 2000) = true ∧ m.reissued = false ∧ s.uncrossed 0x0011 1 ((m.path.head?.map XpHop.src).getD (64 * m.die)) = true ∧ (((avoidSets (m.path.map XpHop.src)).find? fun a => (s.route a m.die (unitDie m.unit) m.line).isSome) = some avoid) ∧ s.route avoid m.die (unitDie m.unit) m.line = some path ∧ s.mustWait m path = false) ∧
    (∃ (id : Nat) (m : XpMsg) (s : State), s.calm = true ∧ s.isRunning = true ∧ s.xp.msgs.get id = some m ∧ m.stage ≠ .waiting ∧ s.past (m.issued + 2000) = true ∧ m.reissued = true ∧ m.die < 64 ∧ s.uncrossed 0x0011 1 ((m.path.head?.map XpHop.src).getD (64 * m.die)) = true) ∧
    (∃ (die mo : Nat) (s : State), (moduleReach die mo).isSome = true ∧ s.xp.changing.has (64 * die + mo) = false ∧ (s.module (64 * die + mo)).usable = true) ∧
    (∃ (die mo : Nat) (s : State), (moduleReach die mo).isSome = true ∧ s.xp.changing.has (64 * die + mo) = false ∧ (s.module (64 * die + mo)).usable = false ∧ (s.module (64 * die + mo)).state ≠ .retired) ∧
    (∃ (die mo : Nat) (s : State), s.calm = true ∧ s.xp.changing.get (64 * die + mo) = some false ∧ s.lineOutstanding die (peerKey (64 * die + mo) / 64) = false) ∧
    (∃ (die mo : Nat) (s : State), s.calm = true ∧ s.isRunning = true ∧ s.xp.changing.get (64 * die + mo) = some true ∧ s.lineOutstanding die (peerKey (64 * die + mo) / 64) = false) :=
  ⟨⟨3, late0, [0], [⟨1, modulePeer 0 1, false⟩], xpf late0 [0, 1] [], by decide +kernel, by decide +kernel, by decide +kernel, by decide +kernel, by decide +kernel, by decide +kernel, by decide +kernel, avoid_first, route_other, free_other⟩,
   ⟨3, { wmsg0 with reissued := true, path := [⟨512, 600, false⟩] }, xpm { wmsg0 with reissued := true, path := [⟨512, 600, false⟩] } [], by decide +kernel⟩,
   ⟨8, 0, { chg false with xp := { (chg false).xp with changing := [] } }, by decide +kernel⟩,
   ⟨8, 1, { chg false with xp := { (chg false).xp with changing := [] } }, by decide +kernel⟩,
   ⟨8, 0, chg false, by decide +kernel⟩,
   ⟨8, 0, chg true, by decide +kernel⟩⟩

theorem test_witness_TransportCountersLatchAndClear :
    (∃ (s : State), s.isRunning = true) ∧
    (∃ (s : State), s.isRunning = true) ∧
    (∃ (s : State), s.isRunning = true ∧ (moduleReach (fld (s.reg Reg.KITTY_XP_SEL) 13 8) (fld (s.reg Reg.KITTY_XP_SEL) 5 0)).isSome = true) ∧
    (∃ (s : State), s.isRunning = true) :=
  ⟨⟨chg false, by decide +kernel⟩,
   ⟨(chg false).setReg Reg.KITTY_XP_SEL 0x800, by decide +kernel⟩,
   ⟨(chg false).setReg Reg.KITTY_XP_SEL 0x800, by decide +kernel⟩,
   ⟨chg false, by decide +kernel⟩⟩

end W01

namespace W02

/-- A region of two units of tenant 7, number 9, generation 3, and its handle. -/
def rgn0 : Region := ⟨3, .tenant 7, 2, false, false, [5, 6], 0, []⟩
def hnd0 : Nat := 3 * 4096 + 9
def kit (r : Region) : State :=
  { run0 with
    kitty := { run0.kitty with regions := [(9, r)] ++ run0.kitty.regions, lastGen := [(9, 3)], units := [(5, .allocated), (6, .allocated), (8, .scrub)] }
    quota := ⟨[(quotaKey (.tenant 7) 0, 4), (quotaKey (.tenant 7) 1, 4)], [], []⟩ }
def acc0 (w : Option Bytes) (d : Owner) : Access := ⟨8, 1, d, w16 hnd0, 0x200005, 128, w, false, .clean⟩
/-- The state with messages of the transport. -/
def withMsgs (ms : Tbl XpMsg) (s : State) : State := { s with xp := { s.xp with msgs := ms } }
def rm (cls : Nat) : XpMsg := ⟨8, 0, 5, 64, 32, none, cls, 1, [], [], [], 0, false, false, .atBank 3, .clean⟩
def bu0 : BusUse := ⟨2 ^ 17 + 9, 7, 5, 1, 64, []⟩
def spl (p : PageSt) : Region := { rgn0 with spill := true, detour := 4, pages := [(3, p)] }
def det0 : PlaceDesc := ⟨3, 1, false, false, 2, false, .tenant 7, 256 * slotBytes, [⟨2 ^ 36, 256 * slotBytes⟩], false⟩
def kits (p : PageSt) : State := { kit (spl p) with pds := [(4, det0)] }
/-- The first bytes of a tile of one block of zeros, kept raw at line 3; the rest of it is zeros. -/
def tile0 : Bytes := [1, 0, 0] ++ zeros 61 ++ [3] ++ zeros 127 ++ [0, 16, 0x80, 0, 0x89, 0x41, 0xF9, 0x98]
def td0 : TileDesc := ⟨1, 1, w16 hnd0, 3, w64 (2 ^ 36), w16 hnd0, 100, 1, 77⟩
def kitt : State := { kit rgn0 with smem := Mem.writeBytes [] (2 ^ 36) tile0, kmem := [(5 * unitBytes + 6400, 9)] }
theorem readyAny (n : Nat) : kitt.tileReady .system td0 (kitt.stackMay .system (tileAddr td0) n true)
    [(td0.srcHandle, tileSrcOff td0, 4096 * td0.length.toNat, false)] = true := rfl
/-- The CRC-32C register after `n` bytes of zeros. -/
def crcZeros (c : W32) (n : Nat) : W32 := (List.replicate n (0 : Byte)).foldl (fun c x => crc32cStep 8 (c ^^^ BitVec.setWidth 32 x)) c
theorem crcZeros_add (c : W32) (m n : Nat) : crcZeros c (m + n) = crcZeros (crcZeros c m) n := by
  simp [crcZeros, ← List.replicate_append_replicate, List.foldl_append]
/-- The register's values after every 256 bytes. -/
def crcPath : W32 → List W32 → Bool
  | _, [] => true
  | c, x :: l => crcZeros c 256 == x && crcPath x l
theorem crcPath_end : ∀ (l : List W32) (c : W32), crcPath c l = true → crcZeros c (256 * l.length) = l.getLastD c
  | [], _, _ => rfl
  | x :: l, c, h => by
    simp only [crcPath, Bool.and_eq_true, beq_iff_eq] at h
    rw [List.length_cons, Nat.mul_add, Nat.mul_one, Nat.add_comm, crcZeros_add, h.1, crcPath_end l x h.2]
    cases l <;> rfl
theorem crc_zeros : crc32c (List.replicate 4096 0) = 0x98F94189#32 := by
  have h := crcPath_end [0x478d4e6f, 0xcf03123f, 0xc5c4c2f9, 0x11512183, 0x72802fed, 0xa6fd2d2, 0x5bcb999c, 0x5b767cb0, 0x13ca39cb, 0x4df00a81,
    0x24571252, 0xdf52be5c, 0xa82160e, 0xf76f41ea, 0x142ac051, 0x6706be76] 0xFFFFFFFF#32 (by decide +kernel)
  exact congrArg (· ^^^ 0xFFFFFFFF#32) h
/-- A tile of one raw block decodes to it. -/
theorem rawTile (rd : Nat → Nat → Bytes) (w : Nat) (l : List Nat) (z : Bytes) (k : Nat) (hz : (crc32c z).toNat = k) (h : (w = 0 ∧ l = [3] ∧
    fieldAt (rd 192 4104) 0 2 = 4096 ∧ bitOf (byteAt (rd 192 4104) 2) 7 = true ∧ fieldAt (rd 192 4104) 4 4 = k) ∧
      (sliceAt (rd 192 4104) 8 4096).beq z = true) : decodeTile rd w l = (z, true) := by
  obtain ⟨⟨rfl, rfl, h1, h2, h3⟩, h4⟩ := h
  have h5 : sliceAt (rd 192 4104) 8 4096 = z := eq_of_beq (α := List Byte) h4
  simp [decodeTile, decodeBlock, widthBytes, h1, h2, h3, h5, hz]
theorem rawSlot (s : State) (d : PlaceDesc) (p : Nat) (z : Bytes) (h0 : fieldAt (s.objRead d (p * slotBytes) 192) 0 2 = 1)
    (h : decodeTile (fun o k => s.objRead d (p * slotBytes + o) k) (byteAt (s.objRead d (p * slotBytes) 192) 2)
      ((List.range 1).map fun i => fieldAt (s.objRead d (p * slotBytes) 192) (64 + 2 * i) 2) = (z, true)) : s.slotTile d p = (z, true) := by
  simp only [State.slotTile, h0]; exact h
/-- The state with one region command that waits. -/
def kslot (slot : Nat) (x : SlotRun) : State := { kit rgn0 with slots := ⟨[(slotKey .kitty slot, x)], [], []⟩ }
/-- A spill region of tenant 7 with a page in each of its two units, over its quota of one. -/
def evr : Region := { rgn0 with spill := true, detour := 4, pages := [(3, .sealed 0 50), (4, .opened 32)] }
def evs : State := { (kit evr).setReg Reg.KITTY_EVICT_RATE 16 with quota := ⟨[(quotaKey (.tenant 7) 0, 1)], [], []⟩, pds := [(4, det0)] }
/-- A spill region of which every frame holds a page, sealed in order. -/
def full : Region := { rgn0 with spill := true, detour := 4, pages := (List.range 64).map fun i => (i, .sealed i i) }
def fulls (n : Nat) : State := { kit full with quota := ⟨[(quotaKey (.tenant 7) 0, n), (quotaKey (.tenant 7) 1, 100)], [], []⟩, pds := [(4, { det0 with length := 384 * slotBytes })] }
def fullUnit (s : State) : Nat := ((s.offer (List.range 24)).head?).getD 0
/-- A region with a page on its way out of a unit, and one that stays beside it. -/
def spw : Region := { rgn0 with spill := true, detour := 4, pages := [(3, .spilling 0 50 0 true none), (4, .opened 1), (5, .opened 32)] }

theorem test_witness_RegionAccessTranslatesOrRefuses :
    (∃ (a : Access) (r : Region) (u b : Nat) (s : State), s.calm = true ∧ s.region a.handle.toNat = some r ∧ mayReach a.domain r.owner = true ∧ ((a.write.isSome = true → r.readOnly = true → a.domain = .system)) ∧ ((a.write.isSome = true ∨ a.ecc = .clean)) ∧ a.offset < r.size ∧ ((r.spill = true → pageStatus a.write.isSome (r.pages.get (a.offset / pageBytes)) = St.ok)) ∧ r.addr a.offset = some (u * unitBytes + b) ∧ b < unitBytes) ∧
    (∃ (a : Access) (r : Region) (u b : Nat) (s : State), s.calm = true ∧ s.region a.handle.toNat = some r ∧ mayReach a.domain r.owner = true ∧ a.write = none ∧ a.ecc = .corrected ∧ s.uncrossed 0x0001 0 (s.physBank (bankOf u b)) = true ∧ a.offset < r.size ∧ ((r.spill = true → pageStatus false (r.pages.get (a.offset / pageBytes)) = St.ok)) ∧ r.addr a.offset = some (u * unitBytes + b) ∧ b < unitBytes) ∧
    (∃ (a : Access) (r : Region) (s : State), s.calm = true ∧ s.region a.handle.toNat = some r ∧ (mayReach a.domain r.owner = false ∨ (a.write.isSome = true ∧ r.readOnly = true ∧ a.domain ≠ .system))) ∧
    (∃ (a : Access) (r : Region) (s : State), s.calm = true ∧ s.region a.handle.toNat = some r ∧ mayReach a.domain r.owner = true ∧ ((a.write.isSome = true → r.readOnly = true → a.domain = .system)) ∧ (r.size ≤ a.offset ∨ (r.spill = true ∧ r.pages.get (a.offset / pageBytes) = none))) ∧
    (∃ (a : Access) (s : State), s.calm = true ∧ s.region a.handle.toNat = none) ∧
    (∃ (a : Access) (r : Region) (sealed : Nat) (s : State), s.calm = true ∧ s.region a.handle.toNat = some r ∧ mayReach a.domain r.owner = true ∧ a.write = none ∧ a.offset < r.size ∧ r.spill = true ∧ r.pages.get (a.offset / pageBytes) = some (.spilled sealed)) :=
  ⟨⟨acc0 (some [1,2]) (.tenant 7), rgn0, 6, 5, kit rgn0, by decide +kernel⟩,
   ⟨{ acc0 none (.tenant 7) with ecc := .corrected }, rgn0, 6, 5, kit rgn0, by decide +kernel⟩,
   ⟨acc0 none (.tenant 8), rgn0, kit rgn0, by decide +kernel⟩,
   ⟨{ acc0 none (.tenant 7) with offset := 2 * unitBytes }, rgn0, kit rgn0, by decide +kernel⟩,
   ⟨{ acc0 (some [1,2]) (.tenant 7) with handle := 5 }, kit rgn0, by decide +kernel⟩,
   ⟨{ acc0 none (.tenant 7) with offset := 3 * pageBytes + 65 }, spl (.spilled 60), 60, kits (.spilled 60), by decide +kernel⟩⟩

theorem test_witness_BankServesOneAccessACycle :
    (∃ (bank id a : Nat) (m : XpMsg) (s : State), s.calm = true ∧ m.cls < 8 ∧ s.xp.msgs.get id = some m ∧ m.stage = .atBank a ∧ m.write = none ∧ (s.routeBack m.die (unitDie m.unit) m.line).isSome = true ∧ ((∀ c, c < 8 → s.bankWaiting bank c = if c = m.cls then [⟨m.die * 1024 + m.port + 1, a, some id, 0⟩] else []))) ∧
    (∃ (bank id a : Nat) (m : XpMsg) (b : Bytes) (s : State), s.calm = true ∧ m.cls < 8 ∧ s.xp.msgs.get id = some m ∧ m.stage = .atBank a ∧ m.write = some b ∧ m.reissued = false ∧ (s.routeBack m.die (unitDie m.unit) m.line).isSome = true ∧ ((∀ c, c < 8 → s.bankWaiting bank c = if c = m.cls then [⟨m.die * 1024 + m.port + 1, a, some id, 0⟩] else []))) ∧
    (∃ (bank place : Nat) (u : BusUse) (s : State), s.calm = true ∧ u.cls < 8 ∧ s.bus[place]? = some u ∧ ({ u with served := u.served.put (bank % 32) (u.served.getD (bank % 32) 0 + 1) } : BusUse).rest ≠ 0 ∧ ((∀ c, c < 8 → s.bankWaiting bank c = if c = u.cls then [⟨u.port, place, none, place⟩] else []))) ∧
    (∃ (bank : Nat) (s : State), s.calm = true ∧ ((∀ c, c < 8 → s.bankWaiting bank c = []))) ∧
    (∃ (bank id j a d : Nat) (m x : XpMsg) (s : State), s.calm = true ∧ m.cls = 0 ∧ 1 ≤ x.cls ∧ x.cls < 8 ∧ (if (s.kitty.banks.getD bank bankReset).cycle = 0 then 0 else (s.kitty.banks.getD bank bankReset).t0Used) < fld (s.reg Reg.KITTY_ARB_CAPS) 7 0 ∧ ((∀ c, c < 8 → s.bankWaiting bank c = if c = 0 then [⟨m.die * 1024 + m.port + 1, a, some id, 0⟩] else if c = x.cls then [⟨x.die * 1024 + x.port + 1, d, some j, 0⟩] else [])) ∧ s.xp.msgs.get j = some x ∧ s.xp.msgs.get id = some m ∧ id ≠ j ∧ m.stage = .atBank a ∧ m.write = none ∧ (s.routeBack m.die (unitDie m.unit) m.line).isSome = true) :=
  ⟨⟨bankOf 5 64, 3, 3, rm 4, withMsgs [(3, rm 4)] run0, by decide +kernel⟩,
   ⟨bankOf 5 64, 3, 3, { rm 4 with write := some [7, 8] }, [7, 8], withMsgs [(3, { rm 4 with write := some [7, 8] })] run0, by decide +kernel⟩,
   ⟨bankOf 5 64, 0, bu0, { run0 with bus := [bu0] }, by decide +kernel⟩,
   ⟨bankOf 5 64, run0, by decide +kernel⟩,
   ⟨bankOf 5 64, 3, 4, 3, 3, rm 0, rm 7, withMsgs [(3, rm 0), (4, rm 7)] run0, by decide +kernel⟩⟩

theorem test_witness_RegionCommandsChangeTheMap :
    (∃ (slot num : Nat) (a0 a1 a2 : W32) (o : Owner) (s : State), s.calm = true ∧ s.slotIdle .kitty slot = true ∧ ownerOf a1.toNat = some o ∧ 0 < fld a0 11 0 ∧ fld a0 11 0 ≤ 2304 ∧ ((a0.getLsbD 24 = true → fld a0 11 0 ≤ 256 ∧ ∃ d, s.pds.get a2.toNat = some d ∧ d.kind = 3 ∧ d.tier = 1 ∧ d.owner = o ∧ 128 * fld a0 11 0 ≤ d.spillSlots)) ∧ ((fld a0 15 12 = 0 ∨ (fld a0 15 12 = 1 ∧ fld a0 20 16 < 4) ∨ (fld a0 15 12 = 2 ∧ fld a0 20 16 < 24))) ∧ s.quotaAdmits o 0 (s.unitUse o) (fld a0 11 0) = true ∧ fld a0 11 0 ≤ (s.offer (placementDies (fld a0 15 12) (fld a0 20 16))).length ∧ s.freeNumber = some num) ∧
    (∃ (slot : Nat) (a2 : W32) (r : Region) (s : State), s.calm = true ∧ s.slotIdle .kitty slot = true ∧ s.region (a2.toNat % 65536) = some r) ∧
    (∃ (slot : Nat) (a1 a2 : W32) (o : Owner) (r : Region) (s : State), s.calm = true ∧ s.slotIdle .kitty slot = true ∧ ownerOf a1.toNat = some o ∧ s.region (a2.toNat % 65536) = some r ∧ (r.owner = o ∨ s.quotaAdmits o 0 (s.unitUse o) r.unitCount = true)) ∧
    (∃ (slot : Nat) (a0 a2 : W32) (r : Region) (s : State), s.calm = true ∧ s.slotIdle .kitty slot = true ∧ s.region (a2.toNat % 65536) = some r ∧ r.unitCount < fld a0 11 0 ∧ fld a0 11 0 ≤ 2304 ∧ ((r.spill = true → fld a0 11 0 ≤ 256 ∧ ∃ d, s.pds.get r.detour = some d ∧ 128 * fld a0 11 0 ≤ d.spillSlots)) ∧ ((fld a0 15 12 = 0 ∨ (fld a0 15 12 = 1 ∧ fld a0 20 16 < 4) ∨ (fld a0 15 12 = 2 ∧ fld a0 20 16 < 24))) ∧ s.quotaAdmits r.owner 0 (s.unitUse r.owner) (fld a0 11 0 - r.unitCount) = true ∧ fld a0 11 0 - r.unitCount ≤ (s.offer (placementDies (fld a0 15 12) (fld a0 20 16))).length) ∧
    (∃ (slot : Nat) (a0 a2 : W32) (r : Region) (s : State), s.calm = true ∧ s.slotIdle .kitty slot = true ∧ s.region (a2.toNat % 65536) = some r ∧ r.spill = false ∧ noUnit ∉ r.units ∧ r.pages = [] ∧ 0 < fld a0 11 0 ∧ fld a0 11 0 ≤ r.units.length) ∧
    (∃ (slot : Nat) (a0 a2 : W32) (r : Region) (s : State), s.calm = true ∧ s.slotIdle .kitty slot = true ∧ s.region (a2.toNat % 65536) = some r ∧ r.spill = true ∧ 0 < fld a0 11 0 ∧ fld a0 11 0 ≤ r.unitCount ∧ ((∀ e ∈ r.pages, e.1 < 128 * fld a0 11 0)) ∧ ((∀ e ∈ r.pages, ∀ f, e.2.holds = some f → f / 32 ∈ r.places.take (fld a0 11 0)))) :=
  ⟨⟨3, 1, w32 (2 + 2 * 4096 + 23 * 2 ^ 16 + 5 * 2 ^ 21 + 2 ^ 25), 0x40000007, 0, .tenant 7, kit rgn0, by decide +kernel⟩,
   ⟨0, w32 hnd0, rgn0, kit rgn0, by decide +kernel⟩,
   ⟨0, 0x40000007, w32 hnd0, .tenant 7, { rgn0 with owner := .system }, kit { rgn0 with owner := .system }, by decide +kernel⟩,
   ⟨1, 4, w32 hnd0, rgn0, kit rgn0, by decide +kernel⟩,
   ⟨1, 1, w32 hnd0, rgn0, kit rgn0, by decide +kernel⟩,
   ⟨1, 1, w32 hnd0, spl (.sealed 31 50), kits (.sealed 31 50), by decide +kernel⟩⟩

theorem test_witness_RegionUnitsDrainScrubAndEvict :
    (∃ (slot op num : Nat) (r : Region) (s : State), s.calm = true ∧ s.slotAwaits .kitty slot op (.mapNew num r) = true) ∧
    (∃ (slot op h : Nat) (o : Owner) (r : Region) (s : State), s.calm = true ∧ s.slotAwaits .kitty slot op (.mapOwner h o) = true ∧ s.region h = some r) ∧
    (∃ (slot op h : Nat) (us : List Nat) (r : Region) (s : State), s.calm = true ∧ s.slotAwaits .kitty slot op (.mapGrow h us) = true ∧ s.region h = some r ∧ noUnit ∉ r.units) ∧
    (∃ (slot op h : Nat) (us : List Nat) (s : State), s.calm = true ∧ s.slotAwaits .kitty slot op (.mapDrop us h) = true ∧ ((∀ u ∈ us, s.accessInFlight (u * unitBytes) unitBytes = false))) ∧
    (∃ (u : Nat) (s : State), s.kitty.units.get u = some .scrub ∧ s.accessInFlight (u * unitBytes) unitBytes = false) ∧
    (∃ (o : Owner) (num p f sealed : Nat) (r : Region) (s : State), s.overQuota o = true ∧ s.noneEmptied o none = true ∧ ((s.kitty.evict.get (ownerKey o)).elim true (fun e => decide (e.1 ≠ s.now / 10000)) = true) ∧ 0 < (s.reg Reg.KITTY_EVICT_RATE).toNat ∧ s.oldestOf o = some (num, p, f, sealed) ∧ s.kitty.regions.get num = some r ∧ r.pages.get p = some (.sealed f sealed) ∧ r.owner = o ∧ r.spill = true) ∧
    (∃ (o : Owner) (s : State), s.overQuota o = true ∧ s.noneEmptied o none = true ∧ s.sealedLeft o = false ∧ ownerKey o ∉ s.kitty.stuck) ∧
    (∃ (o : Owner) (s : State), s.overQuota o = false ∧ ((∀ e ∈ s.kitty.regions, ∀ r, s.kitty.regions.get e.1 = some r → e.2.owner = o → r.owner = o))) :=
  ⟨⟨2, 1, 10, { rgn0 with units := [7] }, kslot 2 ⟨1, 0, [], some (.mapNew 10 { rgn0 with units := [7] }), none, false⟩, by decide +kernel⟩,
   ⟨2, 3, hnd0, .tenant 8, rgn0, kslot 2 ⟨3, 0, [], some (.mapOwner hnd0 (.tenant 8)), none, false⟩, by decide +kernel⟩,
   ⟨2, 4, hnd0, [7, 9], rgn0, kslot 2 ⟨4, 0, [], some (.mapGrow hnd0 [7, 9]), none, false⟩, by decide +kernel⟩,
   ⟨2, 2, hnd0, [5, 6], kslot 2 ⟨2, 0, [0, 0, w32 hnd0], some (.mapDrop [5, 6] hnd0), none, false⟩, by decide +kernel⟩,
   ⟨8, { kit rgn0 with kmem := [(8 * unitBytes, 1), (9 * unitBytes - 1, 2), (9 * unitBytes, 3)], bus := [⟨scrubPort 0, 7, 8, 0, 32768, []⟩, ⟨scrubPort 0, 7, 9, 0, 32768, []⟩] }, by decide +kernel⟩,
   ⟨.tenant 7, 9, 3, 0, 50, evr, evs, by decide +kernel⟩,
   ⟨.tenant 7, { evs with kitty := { evs.kitty with regions := [(9, { evr with pages := [(3, .opened 0), (4, .opened 32)] })] } }, by decide +kernel⟩,
   ⟨.tenant 7, { kits (.sealed 0 50) with kitty := { (kits (.sealed 0 50)).kitty with stuck := [ownerKey (.tenant 7)] } }, by decide +kernel⟩⟩

theorem test_witness_TileTransfersMoveTheirBytes :
    (∃ (dom : Owner) (d : TileDesc) (r : Region) (x : Bytes) (s : State), s.calm = true ∧ s.region d.dstHandle.toNat = some r ∧ s.tileReady dom d (s.tileMay dom (tileAddr d)) [(d.dstHandle, tileDstOff d, 4096 * fieldAt (Mem.readBytes s.smem (tileAddr d) 192) 0 2, true)] = true ∧ 0 < fieldAt (Mem.readBytes s.smem (tileAddr d) 192) 0 2 ∧ fieldAt (Mem.readBytes s.smem (tileAddr d) 192) 0 2 ≤ 64 ∧ (decodeTile (fun o k => Mem.readBytes s.smem (tileAddr d + o) k) (byteAt (Mem.readBytes s.smem (tileAddr d) 192) 2) ((List.range (fieldAt (Mem.readBytes s.smem (tileAddr d) 192) 0 2)).map fun i => fieldAt (Mem.readBytes s.smem (tileAddr d) 192) (64 + 2 * i) 2) = (x, true))) ∧
    (∃ (dom : Owner) (d : TileDesc) (s : State), s.calm = true ∧ s.tileReady dom d (s.tileMay dom (tileAddr d)) [(d.dstHandle, tileDstOff d, 4096 * fieldAt (Mem.readBytes s.smem (tileAddr d) 192) 0 2, true)] = true ∧ (fieldAt (Mem.readBytes s.smem (tileAddr d) 192) 0 2 = 0 ∨ 64 < fieldAt (Mem.readBytes s.smem (tileAddr d) 192) 0 2)) ∧
    (∃ (dom : Owner) (d : TileDesc) (r : Region) (tile : Bytes) (s : State), s.region d.srcHandle.toNat = some r ∧ 0 < d.length.toNat ∧ d.length.toNat ≤ 64 ∧ tileWidth d < 3 ∧ tile = codeTile (tileWidth d) (cutBlocks d.length.toNat (s.rgnRead r (tileSrcOff d) (4096 * d.length.toNat))) ∧ s.tileReady dom d (s.stackMay dom (tileAddr d) tile.length true) [(d.srcHandle, tileSrcOff d, 4096 * d.length.toNat, false)] = true) ∧
    (∃ (dom : Owner) (d : TileDesc) (r r' : Region) (s : State), s.region d.srcHandle.toNat = some r ∧ s.region d.dstHandle.toNat = some r' ∧ 0 < d.length.toNat ∧ tileOpOk d = true ∧ r21 (s.tileChecks dom [(d.dstHandle, tileDstOff d, 64 * d.length.toNat, true), (d.srcHandle, tileSrcOff d, 64 * d.length.toNat, false)]) = St.ok) ∧
    (∃ (dom : Owner) (d : TileDesc) (r : Region) (s : State), s.calm = true ∧ s.region d.dstHandle.toNat = some r ∧ 0 < d.length.toNat ∧ s.tileReady dom d (s.stackMay dom (tileAddr d) (64 * d.length.toNat) false) [(d.dstHandle, tileDstOff d, 64 * d.length.toNat, true)] = true) ∧
    (∃ (dom : Owner) (d : TileDesc) (r : Region) (s : State), s.region d.srcHandle.toNat = some r ∧ 0 < d.length.toNat ∧ s.tileReady dom d (s.stackMay dom (tileAddr d) (64 * d.length.toNat) true) [(d.srcHandle, tileSrcOff d, 64 * d.length.toNat, false)] = true) ∧
    (∃ (q id : Nat) (x : TileXfer) (s : State), (s.tiles.running.find? (fun y => y.queue == q && y.id == id) = some x)) :=
  ⟨⟨.tenant 7, td0, rgn0, List.replicate 4096 0, { kitt with pds := [(4, det0)] }, by decide +kernel, by decide +kernel, by decide +kernel, by decide +kernel, by decide +kernel, rawTile _ _ _ _ _ (congrArg BitVec.toNat crc_zeros) (by decide +kernel)⟩,
   ⟨.system, td0, kit rgn0, by decide +kernel⟩,
   ⟨.system, td0, rgn0, codeTile 0 (cutBlocks 1 (kitt.rgnRead rgn0 6400 4096)), kitt, by decide +kernel, by decide +kernel, by decide +kernel, by decide +kernel, rfl, readyAny _⟩,
   ⟨.tenant 7, td0, rgn0, rgn0, kitt, by decide +kernel⟩,
   ⟨.system, td0, rgn0, kitt, by decide +kernel⟩,
   ⟨.system, td0, rgn0, kitt, by decide +kernel⟩,
   ⟨3, 5, ⟨3, 5, 1, td0, 0⟩, { run0 with tiles := ⟨[⟨3, 5, 1, td0, 0⟩], 6, []⟩, bus := [⟨tilePort 3, 2, 5, 0, 4, []⟩] }, by decide +kernel⟩⟩

theorem test_witness_PageCommandsMoveOnePage :
    (∃ (dom : Owner) (h : W16) (p f : Nat) (r : Region) (s : State), s.region h.toNat = some r ∧ mayWrite dom r = true ∧ r.spill = true ∧ p < 128 * r.units.length ∧ r.pages.get p = none ∧ r.awaited p = false ∧ s.findFrame r = .frame f) ∧
    (∃ (dom : Owner) (h : W16) (p u : Nat) (r : Region) (s : State), s.region h.toNat = some r ∧ mayWrite dom r = true ∧ r.spill = true ∧ p < 128 * r.units.length ∧ r.pages.get p = none ∧ r.awaited p = false ∧ noUnit ∉ r.units ∧ u < 2304 ∧ s.findFrame r = .newUnit u r.units.length) ∧
    (∃ (dom : Owner) (h : W16) (p q f sealed : Nat) (r : Region) (s : State), s.region h.toNat = some r ∧ mayWrite dom r = true ∧ r.spill = true ∧ p < 128 * r.units.length ∧ r.pages.get p = none ∧ r.awaited p = false ∧ s.findFrame r = .spill q f sealed) ∧
    (∃ (dom : Owner) (h : W16) (p f : Nat) (r : Region) (s : State), s.region h.toNat = some r ∧ mayWrite dom r = true ∧ r.spill = true ∧ p < 128 * r.units.length ∧ r.pages.get p = some (.opened f)) ∧
    (∃ (dom : Owner) (h : W16) (p f sealed : Nat) (d : PlaceDesc) (r : Region) (s : State), s.region h.toNat = some r ∧ mayWrite dom r = true ∧ r.spill = true ∧ p < 128 * r.units.length ∧ r.pages.get p = some (.spilled sealed) ∧ s.pds.get r.detour = some d ∧ d.lost = false ∧ s.findFrame r = .frame f) ∧
    (∃ (h : W16) (p f sealed : Nat) (d : PlaceDesc) (r : Region) (x : Bytes) (s : State), s.region h.toNat = some r ∧ r.pages.get p = some (.recalling f sealed) ∧ s.pds.get r.detour = some d ∧ s.slotTile d p = (x, true)) ∧
    (∃ (h : W16) (p f sealed : Nat) (d : PlaceDesc) (r : Region) (x : Bytes) (s : State), s.region h.toNat = some r ∧ r.pages.get p = some (.recalling f sealed) ∧ s.pds.get r.detour = some d ∧ s.slotTile d p = (x, false)) ∧
    (∃ (dom : Owner) (h : W16) (p : Nat) (r : Region) (x : PageSt) (s : State), s.region h.toNat = some r ∧ mayWrite dom r = true ∧ r.spill = true ∧ p < 128 * r.units.length ∧ r.pages.get p = some x ∧ (x matches .opened _ | .sealed _ _ | .spilled _) = true) ∧
    (∃ (dom : Owner) (h : W16) (p f sealed k : Nat) (ev : Bool) (w : Option (Nat × Bool)) (r : Region) (s : State), s.region h.toNat = some r ∧ mayWrite dom r = true ∧ r.spill = true ∧ p < 128 * r.units.length ∧ r.pages.get p = some (.spilling f sealed k ev w)) ∧
    (∃ (h : W16) (p f sealed : Nat) (ev : Bool) (d : PlaceDesc) (r : Region) (s : State), s.region h.toNat = some r ∧ r.pages.get p = some (.spilling f sealed 0 ev none) ∧ s.pds.get r.detour = some d ∧ s.noneEmptied r.owner (some (h.toNat % 4096, p)) = true) ∧
    (∃ (h : W16) (p q f sealed : Nat) (d : PlaceDesc) (r : Region) (s : State), s.region h.toNat = some r ∧ r.pages.get p = some (.spilling f sealed 0 false (some (q, false))) ∧ s.pds.get r.detour = some d ∧ q ≠ p ∧ r.pages.get q = none) :=
  ⟨⟨.tenant 7, w16 hnd0, 255, 1, spl (.opened 0), kits (.opened 0), by decide +kernel⟩,
   ⟨.tenant 7, w16 hnd0, 255, fullUnit (fulls 4), full, fulls 4, by decide +kernel⟩,
   ⟨.tenant 7, w16 hnd0, 255, 0, 0, 0, full, fulls 2, by decide +kernel⟩,
   ⟨.tenant 7, w16 hnd0, 3, 0, spl (.opened 0), kits (.opened 0), by decide +kernel⟩,
   ⟨.tenant 7, w16 hnd0, 3, 0, 60, det0, spl (.spilled 60), kits (.spilled 60), by decide +kernel⟩,
   ⟨w16 hnd0, 3, 2, 60, det0, spl (.recalling 2 60), List.replicate 4096 0, { kits (.recalling 2 60) with smem := Mem.writeBytes [] (2 ^ 36 + 3 * slotBytes) tile0 }, by decide +kernel, by decide +kernel, by decide +kernel, rawSlot _ _ _ _ (by decide +kernel) (rawTile _ _ _ _ _ (congrArg BitVec.toNat crc_zeros) (by decide +kernel))⟩,
   ⟨w16 hnd0, 3, 2, 60, det0, spl (.recalling 2 60), [], kits (.recalling 2 60), by decide +kernel⟩,
   ⟨.tenant 7, w16 hnd0, 3, spl (.sealed 0 50), .sealed 0 50, kits (.sealed 0 50), by decide +kernel⟩,
   ⟨.tenant 7, w16 hnd0, 3, 0, 50, 1, true, none, spl (.spilling 0 50 1 true none), kits (.spilling 0 50 1 true none), by decide +kernel⟩,
   ⟨w16 hnd0, 3, 0, 50, true, det0, spw, { kits (.opened 0) with kitty := { (kits (.opened 0)).kitty with regions := [(9, spw)] } }, by decide +kernel⟩,
   ⟨w16 hnd0, 3, 255, 0, 50, det0, spl (.spilling 0 50 0 false (some (255, false))), kits (.spilling 0 50 0 false (some (255, false))), by decide +kernel⟩⟩

end W02

namespace W03

/-- A BUILD that asks for no round: the sums of a round are free values (log 9). -/
def ldB : Loading := { ld0 true 0 with arg3 := 0 }
def loadingB : IdxTable := { loading0 true with loading := some ldB }

theorem test_witness_CatalogueCommandsStart :
    (∃ (slot : Nat) (a0 a1 a2 : W32) (g : TableGen) (keys : Nat) (places : List Nat) (b s : State), s.calm = true ∧ s.slotFree .idx slot = true ∧ b = s.begun .idx slot 1 [(0, a0), (1, a1), (2, a2)] none ∧ fld a0 31 28 < 2 ∧ (fld a0 31 28 = 1 ∨ stackOk (a1.toNat + 2 ^ 32 * a2.toNat) = true) ∧ b.loadChecks ⟨fld a0 31 28 == 1, a1.toNat + 2 ^ 32 * a2.toNat⟩ true false (fld a0 9 0) (b.slotArg .idx slot 3) (b.slotArg .idx slot 4) [(b.tblState (fld a0 9 0) != 0 || b.tableNamed .idx slot (fld a0 9 0), St.busy)] = (St.ok, g, keys, some places)) ∧
    (∃ (slot : Nat) (a0 a1 a2 a3 a4 : W32) (g : TableGen) (keys : Nat) (places : List Nat) (b s : State), s.calm = true ∧ s.slotFree .idx slot = true ∧ b = s.begun .idx slot 2 [(0, a0), (1, a1), (2, a2), (3, a3), (4, a4)] none ∧ fld a0 31 28 < 2 ∧ (fld a0 31 28 = 1 ∨ stackOk (a1.toNat + 2 ^ 32 * a2.toNat) = true) ∧ b.loadChecks ⟨fld a0 31 28 == 1, a1.toNat + 2 ^ 32 * a2.toNat⟩ true true (fld a0 9 0) (b.slotArg .idx slot 3) (b.slotArg .idx slot 4) [(b.tblState (fld a0 9 0) != 0 || b.tableNamed .idx slot (fld a0 9 0), St.busy)] = (St.ok, g, keys, some places)) ∧
    (∃ (slot : Nat) (a0 : W32) (x : IdxTable) (s : State), s.calm = true ∧ s.slotFree .idx slot = true ∧ s.tbl (fld a0 9 0) = some x ∧ x.state = 3 ∧ x.pending = none ∧ x.groups = [] ∧ x.waiting = [] ∧ s.tableNamed .idx slot (fld a0 9 0) = false ∧ ((∀ m ∈ s.idx.merges, m.table ≠ fld a0 9 0)) ∧ s.idx.moves = []) ∧
    (∃ (slot st : Nat) (a0 a1 a2 : W32) (b s : State), s.calm = true ∧ s.slotFree .idx slot = true ∧ b = s.begun .idx slot 1 [(0, a0), (1, a1), (2, a2)] none ∧ (b.loadChecks ⟨fld a0 31 28 == 1, a1.toNat + 2 ^ 32 * a2.toNat⟩ (decide (fld a0 31 28 < 2) && (fld a0 31 28 == 1 || stackOk (a1.toNat + 2 ^ 32 * a2.toNat))) false (fld a0 9 0) (b.slotArg .idx slot 3) (b.slotArg .idx slot 4) [(b.tblState (fld a0 9 0) != 0 || b.tableNamed .idx slot (fld a0 9 0), St.busy)]).1 = st ∧ st ≠ St.ok) ∧
    (∃ (slot st : Nat) (a0 a1 a2 a3 a4 : W32) (b s : State), s.calm = true ∧ s.slotFree .idx slot = true ∧ b = s.begun .idx slot 2 [(0, a0), (1, a1), (2, a2), (3, a3), (4, a4)] none ∧ (b.loadChecks ⟨fld a0 31 28 == 1, a1.toNat + 2 ^ 32 * a2.toNat⟩ (decide (fld a0 31 28 < 2) && (fld a0 31 28 == 1 || stackOk (a1.toNat + 2 ^ 32 * a2.toNat))) true (fld a0 9 0) (b.slotArg .idx slot 3) (b.slotArg .idx slot 4) [(b.tblState (fld a0 9 0) != 0 || b.tableNamed .idx slot (fld a0 9 0), St.busy)]).1 = st ∧ st ≠ St.ok) ∧
    (∃ (slot : Nat) (a0 : W32) (s : State), s.calm = true ∧ s.slotFree .idx slot = true ∧ s.tbl (fld a0 9 0) = none ∧ s.tableNamed .idx slot (fld a0 9 0) = false) :=
  ⟨⟨2, 5, 0x300000, 16, genOf (tdesc 5 1 8 0) [], 0, [img0], (noTbl (ldImg 0)).begun .idx 2 1 [(0, 5), (1, 0x300000), (2, 16)] none, noTbl (ldImg 0), by decide +kernel⟩,
   ⟨2, 5, 0x300000, 16, 0x1000000, 1, genOf (tdesc 5 1 8 0) [], 1, [], (noTbl bdImg).begun .idx 2 2 [(0, 5), (1, 0x300000), (2, 16), (3, 0x1000000), (4, 1)] none, noTbl bdImg, by decide +kernel⟩,
   ⟨1, 5, tbl0, withTbl tbl0, by decide +kernel⟩,
   ⟨2, 3, w32 (2 ^ 29 + 5), 0x300000, 16, (noTbl (ldImg 0)).begun .idx 2 1 [(0, w32 (2 ^ 29 + 5)), (1, 0x300000), (2, 16)] none, noTbl (ldImg 0), by decide +kernel⟩,
   ⟨2, 3, w32 (2 ^ 29 + 5), 0x300000, 16, 0x1000000, 1, (noTbl bdImg).begun .idx 2 2 [(0, w32 (2 ^ 29 + 5)), (1, 0x300000), (2, 16), (3, 0x1000000), (4, 1)] none, noTbl bdImg, by decide +kernel⟩,
   ⟨1, 6, withTbl tbl0, by decide +kernel⟩⟩

theorem test_witness_CatalogueCommandsComplete :
    (∃ (slot id : Nat) (x : IdxTable) (l : Loading) (s : State), s.calm = true ∧ s.slotHas .idx slot 1 (.load id) = true ∧ s.tbl id = some x ∧ x.loading = some l ∧ s.crcBad ⟨l.flash, l.addr⟩ (s.srcSections ⟨l.flash, l.addr⟩) = false ∧ ((∀ d ∈ dupSlots ((s.srcLists ⟨l.flash, l.addr⟩ (s.srcSections ⟨l.flash, l.addr⟩) (genOf l.desc l.cols)).map fun es => es.getD []), d.length ≤ (genOf l.desc l.cols).tsCap))) ∧
    (∃ (slot id repeats empties : Nat) (x : IdxTable) (l : Loading) (cents : List (List W32)) (book : Bytes) (ls : List (Option (List Entry))) (pl : List Nat × State) (s : State), s.calm = true ∧ s.slotHas .idx slot 2 (.build id) = true ∧ s.tbl id = some x ∧ x.loading = some l ∧ s.crcBad ⟨l.flash, l.addr⟩ (s.srcSections ⟨l.flash, l.addr⟩) = false ∧ s.buildPlan ⟨l.flash, l.addr⟩ (s.srcSections ⟨l.flash, l.addr⟩) (genOf l.desc l.cols) l = some (cents, book, ls, repeats, empties) ∧ ((∀ es ∈ ls, (es.getD []).length ≤ 2 ^ 24)) ∧ s.buildPlaces (genOf l.desc l.cols) ls = some pl) ∧
    (∃ (slot id : Nat) (x : IdxTable) (l : Loading) (s : State), s.calm = true ∧ s.slotHas .idx slot 1 (.load id) = true ∧ s.tbl id = some x ∧ x.loading = some l ∧ s.crcBad ⟨l.flash, l.addr⟩ (s.srcSections ⟨l.flash, l.addr⟩) = true) ∧
    (∃ (slot id : Nat) (x : IdxTable) (l : Loading) (s : State), s.calm = true ∧ s.slotHas .idx slot 2 (.build id) = true ∧ s.tbl id = some x ∧ x.loading = some l ∧ s.crcBad ⟨l.flash, l.addr⟩ (s.srcSections ⟨l.flash, l.addr⟩) = false ∧ s.buildPlan ⟨l.flash, l.addr⟩ (s.srcSections ⟨l.flash, l.addr⟩) (genOf l.desc l.cols) l = none) ∧
    (∃ (slot id : Nat) (x : IdxTable) (s : State), s.calm = true ∧ s.slotHas .idx slot 3 (.other 4 id 0) = true ∧ s.tbl id = some x ∧ x.state = 4 ∧ x.dropSlot = some slot ∧ s.pins id = []) :=
  ⟨⟨0, 5, loading0 false, ld0 false 0, withRun .idx 0 1 (.load 5) { withTbl (loading0 false) with smem := ldImg 0 }, by decide +kernel⟩,
   ⟨0, 5, 0, 0, loadingB, ldB, (((withRun .idx 0 2 (.build 5) { withTbl loadingB with smem := bdImg } : State).buildPlan ⟨false, sb + 0x300000⟩ ((withRun .idx 0 2 (.build 5) { withTbl loadingB with smem := bdImg } : State).srcSections ⟨false, sb + 0x300000⟩) (genOf (tdesc 5 1 8 0) []) (ldB : Loading)).elim [] fun p => p.1), (((withRun .idx 0 2 (.build 5) { withTbl loadingB with smem := bdImg } : State).buildPlan ⟨false, sb + 0x300000⟩ ((withRun .idx 0 2 (.build 5) { withTbl loadingB with smem := bdImg } : State).srcSections ⟨false, sb + 0x300000⟩) (genOf (tdesc 5 1 8 0) []) (ldB : Loading)).elim [] fun p => p.2.1), (((withRun .idx 0 2 (.build 5) { withTbl loadingB with smem := bdImg } : State).buildPlan ⟨false, sb + 0x300000⟩ ((withRun .idx 0 2 (.build 5) { withTbl loadingB with smem := bdImg } : State).srcSections ⟨false, sb + 0x300000⟩) (genOf (tdesc 5 1 8 0) []) (ldB : Loading)).elim [] fun p => p.2.2.1), (((withRun .idx 0 2 (.build 5) { withTbl loadingB with smem := bdImg } : State).buildPlaces (genOf (ldB : Loading).desc (ldB : Loading).cols) ((((withRun .idx 0 2 (.build 5) { withTbl loadingB with smem := bdImg } : State).buildPlan ⟨false, sb + 0x300000⟩ ((withRun .idx 0 2 (.build 5) { withTbl loadingB with smem := bdImg } : State).srcSections ⟨false, sb + 0x300000⟩) (genOf (tdesc 5 1 8 0) []) (ldB : Loading)).elim [] fun p => p.2.2.1) : List (Option (List Entry)))).getD ([], (withRun .idx 0 2 (.build 5) { withTbl loadingB with smem := bdImg } : State))), withRun .idx 0 2 (.build 5) { withTbl loadingB with smem := bdImg }, by decide +kernel⟩,
   ⟨0, 5, loading0 false, ld0 false 0, withRun .idx 0 1 (.load 5) { withTbl (loading0 false) with smem := Mem.write (ldImg 0) (sb + 0x300000 + 576) 7 }, by decide +kernel⟩,
   ⟨0, 5, { loading0 true with loading := some { ld0 true 0 with sample := 0 } }, { ld0 true 0 with sample := 0 }, withRun .idx 0 2 (.build 5) { withTbl { loading0 true with loading := some { ld0 true 0 with sample := 0 } } with smem := bdImg }, by decide +kernel⟩,
   ⟨0, 5, { tbl0 with state := 4, dropSlot := some 0 }, withRun .idx 0 3 (.other 4 5 0) (withTbl { tbl0 with state := 4, dropSlot := some 0 }), by decide +kernel⟩⟩

end W03

namespace W04

/-- A region of tenant 7 whose bytes hold an update at offset 64. -/
def rgn1 : Region := ⟨0, .tenant 7, 2, false, false, [5], 0, []⟩
/-- The state with the node's own region of class T1. -/
def withService (s : State) : State := s.serviceRegion 1 2
def withIntake (s : State) : State :=
  { s with kitty := { s.kitty with regions := [(9, rgn1)] }, kmem := Mem.writeBytes [] (5 * unitBytes + 64) (updBody (ins 43)) }
def intake0 : Bytes := leBytes 4 9 ++ leBytes 4 1 ++ [3, 0]
def op0 : UpdOp := ⟨0, 0, ins 43, 90000, false, none⟩
def grp0 : Group := ⟨[⟨op0, some 1, false⟩], 1, 99000⟩
def upd0 : Update := ⟨.endpoint 0x10002, sliceAt (updBody (ins 43)) 0 64, 90000, [none], none, 0, 0⟩
def withUpd (s : State) : State := { s with idx := { s.idx with upds := [(0, upd0)], nextUpd := 1 } }
/-- A map that names seat 1 for table 5, the node at seat 0. -/
def map0 : Bytes :=
  [0, 1] ++ leBytes 2 1 ++ [2, 0, 255, 0] ++ leBytes 8 3 ++ leBytes 4 1 ++ leBytes 4 168 ++ zeros 40 ++ ([0, 1] ++ leBytes 2 1 ++ zeros 28) ++ ([0, 1] ++ leBytes 2 2 ++ zeros 28) ++
    [255, 255, 255, 255, 2, 255, 255, 255, 3, 255, 255, 255, 255, 255, 255, 255] ++ leBytes 2 5 ++ [1] ++ zeros 5 ++ leBytes 2 0 ++ leBytes 2 65535 ++ zeros 4 ++ leBytes 8 3
def seated (s : State) : State := { s.setReg Reg.LINK_IDENT 0x00010000 with ton := { s.ton with cur := some map0 } }
def withMerge (m : ListMerge) (s : State) : State := { s with idx := { s.idx with merges := [m] } }
def withMove (m : ListMove) (s : State) : State := { s with idx := { s.idx with moves := [(256, m)], nextMove := 1 } }
def mrg0 : ListMerge := ⟨5, 0, none, false, 0, some 2, none, none⟩
def mov0 : ListMove := ⟨5, 1, 1, false, none, .copy, 7, some 2, 2, [⟨1, .copy [], 90000⟩], [], [], 0, none⟩
def repl0 : IdxTable := { tbl0 with state := 5, base := 7, logAddr := sb + 0x180000, logCap := 2 ^ 20 }
def rld0 : Loading := ⟨2, false, sb + 0x300000, tdesc 5 1 8 10, [], [], 0, false, 0, 0⟩

theorem test_witness_UpdateOperationsJoinGroups :
    (∃ (m : Msg) (r : Bytes) (x : IdxTable) (l : Option Nat) (rep : Bool) (b s : State), s.calm = true ∧ s.isRunning = true ∧ m.flags.getLsbD 0 = false ∧ 64 ≤ m.body.length ∧ (s.took m).updChecks m.body = (St.ok, [r]) ∧ bitOf (byteAt m.body 12) 0 = false ∧ (s.took m).mapOutcome m.mapMp.toNat (fieldAt m.body 2 2) (some (opKey r)) = .served ∧ s.tbl (fieldAt m.body 2 2) = some x ∧ x.waiting = [] ∧ x.openGroup = none ∧ fieldAt m.body 10 2 = 1 ∧ b = (s.took m).withUpdate ⟨.endpoint m.src, sliceAt m.body 0 24 ++ leBytes 4 m.src.toNat ++ sliceAt m.body 28 36, s.now, [none], none, 0, 0⟩ ∧ b.opFate (fieldAt m.body 2 2) x (byteAt m.body 13) r = .joins l rep) ∧
    (∃ (dom : Owner) (table h off : Nat) (e d r : Bytes) (g : Region) (x : IdxTable) (l : Option Nat) (rep : Bool) (b u s : State), s.calm = true ∧ s.isRunning = true ∧ h = fieldAt e 0 2 ∧ off = 64 * fieldAt e 4 4 ∧ ((byteAt e 8 < 8 → s.holdsCtr dom (byteAt e 8) (byteAt e 9 % 64) = true)) ∧ s.region h = some g ∧ g.owner = dom ∧ u = s.updIntake table (sliceAt e 0 16) ∧ d = u.rgnRead g off (max 64 (fieldAt (u.rgnRead g off 64) 4 4)) ∧ fieldAt d 2 2 = table ∧ s.updChecks d = (St.ok, [r]) ∧ bitOf (byteAt d 12) 0 = false ∧ s.tbl table = some x ∧ x.waiting = [] ∧ x.openGroup = none ∧ fieldAt d 10 2 = 1 ∧ b = s.withUpdate ⟨.endpoint 0xFFFFFFFF, sliceAt d 0 24 ++ leBytes 4 0xFFFFFFFF ++ sliceAt d 28 36, s.now, [none], some (h, off, byteAt e 8, byteAt e 9 % 64), 0, 0⟩ ∧ b.opFate table x (byteAt d 13) r = .joins l rep) ∧
    (∃ (dom : Owner) (e : Bytes) (g : Region) (s : State), s.calm = true ∧ s.isRunning = true ∧ s.region (fieldAt e 0 2) = some g ∧ g.owner ≠ dom ∧ 8 ≤ byteAt e 8) ∧
    (∃ (dom : Owner) (e : Bytes) (s : State), s.calm = true ∧ s.isRunning = true ∧ byteAt e 8 < 8 ∧ s.holdsCtr dom (byteAt e 8) (byteAt e 9 % 64) = false) :=
  ⟨⟨msg 0x18 (updBody (ins 43)), ins 43, tbl0, some 1, false, ((withService (withTbl tbl0) : State).took (msg 0x18 (updBody (ins 43)) : Msg)).withUpdate ⟨.endpoint (msg 0x18 (updBody (ins 43)) : Msg).src, sliceAt (msg 0x18 (updBody (ins 43)) : Msg).body 0 24 ++ leBytes 4 (msg 0x18 (updBody (ins 43)) : Msg).src.toNat ++ sliceAt (msg 0x18 (updBody (ins 43)) : Msg).body 28 36, (withService (withTbl tbl0) : State).now, [none], none, 0, 0⟩, withService (withTbl tbl0), by decide +kernel⟩,
   ⟨.tenant 7, 5, 9, 64, sliceAt intake0 0 8 ++ [8, 0], updBody (ins 43), ins 43, rgn1, tbl0, some 1, false, (withIntake (withTbl tbl0) : State).withUpdate ⟨.endpoint 0xFFFFFFFF, sliceAt (updBody (ins 43) : Bytes) 0 24 ++ leBytes 4 0xFFFFFFFF ++ sliceAt (updBody (ins 43) : Bytes) 28 36, (withIntake (withTbl tbl0) : State).now, [none], some ((9 : Nat), (64 : Nat), byteAt (sliceAt intake0 0 8 ++ [8, 0] : Bytes) 8, byteAt (sliceAt intake0 0 8 ++ [8, 0] : Bytes) 9 % 64), 0, 0⟩, (withIntake (withTbl tbl0) : State).updIntake 5 (sliceAt intake0 0 16), withIntake (withTbl tbl0), by decide +kernel⟩,
   ⟨.tenant 8, leBytes 4 9 ++ leBytes 4 1 ++ [8, 0], rgn1, withIntake (withTbl tbl0), by decide +kernel⟩,
   ⟨.tenant 8, intake0, withTbl tbl0, by decide +kernel⟩⟩

theorem test_witness_CommitGroupsCloseCommitAndPublish :
    (∃ (table : Nat) (x : IdxTable) (g : Group) (s : State), s.tbl table = some x ∧ x.openGroup = some g ∧ s.past (g.opened + (s.reg Reg.IDX_COMMIT_DL).toNat) = true) ∧
    (∃ (table : Nat) (x : IdxTable) (g : Group) (rest : List Group) (s : State), s.isRunning = true ∧ s.tbl table = some x ∧ (x.state = 3 ∨ x.state = 5) ∧ x.committing = none ∧ x.closed = g :: rest) ∧
    (∃ (table : Nat) (x : IdxTable) (g : Group) (c : List Change) (km : List (Nat × Nat)) (s : State), s.calm = true ∧ s.isRunning = true ∧ s.tbl table = some x ∧ x.state = 3 ∧ x.pending = none ∧ x.committing = some (g, c, km) ∧ s.idx.moves = []) ∧
    (∃ (table : Nat) (x : IdxTable) (o : UpdOp) (u : Update) (s : State), s.calm = true ∧ s.tbl table = some x ∧ x.waiting = [⟨[o], false⟩] ∧ s.past (o.since + (s.reg Reg.IDX_UPD_WAIT).toNat) = true ∧ s.idx.upds.get o.upd = some u ∧ u.results = [none] ∧ o.idx = 0 ∧ u.intake = none) :=
  ⟨⟨5, { tbl0 with openGroup := some grp0 }, grp0, withTbl { tbl0 with openGroup := some grp0 }, by decide +kernel⟩,
   ⟨5, { tbl0 with closed := [grp0] }, grp0, [], withUpd (withTbl { tbl0 with closed := [grp0] }), by decide +kernel⟩,
   ⟨5, { tbl0 with committing := some (grp0, ([⟨1, ⟨43, [9, 8, 7, 6, 5, 4, 3, 2], [], [], false⟩⟩] : List Change), ([(43, 1)] : List (Nat × Nat))) }, grp0, [⟨1, ⟨43, [9, 8, 7, 6, 5, 4, 3, 2], [], [], false⟩⟩], [(43, 1)], withUpd (withTbl ({ tbl0 with committing := some (grp0, ([⟨1, ⟨43, [9, 8, 7, 6, 5, 4, 3, 2], [], [], false⟩⟩] : List Change), ([(43, 1)] : List (Nat × Nat))) } : IdxTable)), by decide +kernel⟩,
   ⟨5, { tbl0 with waiting := [⟨[op0], false⟩] }, op0, upd0, (withUpd (withTbl ({ tbl0 with waiting := [⟨[op0], false⟩] } : IdxTable))).setReg Reg.IDX_UPD_WAIT 9000, by decide +kernel⟩⟩

theorem test_witness_MergesTriggerStartAndCommit :
    (∃ (slot table list : Nat) (x : IdxTable) (s : State), s.calm = true ∧ s.slotFree .vcmd slot = true ∧ table < 1024 ∧ s.tbl table = some x ∧ (x.state = 3 ∨ x.state = 5) ∧ list < x.gen.lists ∧ list < 2 ^ 24 ∧ (s.dirEntry x.gen list).state ≠ 2 ∧ s.tableNamed .vcmd slot table = false ∧ s.listBusy table list = false) ∧
    (∃ (slot table list stack : Nat) (x : IdxTable) (d : PlaceDesc) (s : State), s.calm = true ∧ s.slotFree .vcmd slot = true ∧ table < 1024 ∧ s.tbl table = some x ∧ (x.state = 3 ∨ x.state = 5) ∧ list < x.gen.lists ∧ list < 2 ^ 24 ∧ (s.dirEntry x.gen list).state ≠ 2 ∧ s.tableNamed .vcmd slot table = false ∧ s.listBusy table list = false ∧ stack < 20 ∧ s.pds.get x.gen.pdLists = some d ∧ ((∃ e ∈ d.extents, stackOf e.addr = stack))) ∧
    (∃ (table list a n : Nat) (m : ListMerge) (x : IdxTable) (s : State), s.calm = true ∧ s.isRunning = true ∧ s.tbl table = some x ∧ (x.state = 3 ∨ x.state = 5) ∧ s.mergeOf table list = some m ∧ m.running = none ∧ ((s.idx.merges.filter fun y => y.running.isSome && s.mergeQuadrant y == s.mergeQuadrant m).length < (s.reg Reg.IDX_MERGE_MAX).toNat) ∧ (s.mergesWaiting (s.mergeQuadrant m)).head? = some m ∧ n = (if (s.dirEntry x.gen list).image = 0 then 0 else (s.visibleAt x.gen (s.dirEntry x.gen list).image x.milepost).length) ∧ s.poolPlace x.gen (some (s.mergeStack x.gen m)) (x.gen.imageBytes (n + x.gen.wayCap)) = some a) ∧
    (∃ (table list a snap slot : Nat) (m : ListMerge) (x : IdxTable) (s : State), s.calm = true ∧ s.isRunning = true ∧ s.tbl table = some x ∧ s.mergeOf table list = some m ∧ m.running = some (a, snap) ∧ x.committing = none ∧ x.waiting = [] ∧ m.slot = some slot ∧ s.slotHas .vcmd slot 1 (.mergeOf table list) = true) ∧
    (∃ (table list a snap : Nat) (m : ListMerge) (x : IdxTable) (s : State), s.calm = true ∧ s.isRunning = true ∧ s.tbl table = some x ∧ s.mergeOf table list = some m ∧ m.running = some (a, snap) ∧ x.committing.isSome = true ∧ m.held = none) :=
  ⟨⟨2, 5, 1, tbl0, withTbl tbl0, by decide +kernel⟩,
   ⟨2, 5, 1, 1, tbl0, pd (sb + 0x100000) 0x100000, withTbl tbl0, by decide +kernel⟩,
   ⟨5, 0, img0 + 6592, 0, mrg0, tbl0, withMerge mrg0 (withTbl tbl0), by decide +kernel⟩,
   ⟨5, 0, img0 + 6592, 7, 2, { mrg0 with running := some (img0 + 6592, 7) }, tbl0, withRun .vcmd 2 1 (.mergeOf 5 0) (withMerge ({ mrg0 with running := some (img0 + 6592, 7) } : ListMerge) (withTbl tbl0)), by decide +kernel⟩,
   ⟨5, 0, img0 + 6592, 7, { mrg0 with running := some (img0 + 6592, 7) }, { tbl0 with committing := some (grp0, [], []) }, withMerge ({ mrg0 with running := some (img0 + 6592, 7) } : ListMerge) (withTbl ({ tbl0 with committing := some (grp0, [], []) } : IdxTable)), by decide +kernel⟩⟩

theorem test_witness_ListMovesBeginAcknowledgeAndCancel :
    (∃ (slot table list seat : Nat) (x : IdxTable) (s : State), s.calm = true ∧ s.slotFree .vcmd slot = true ∧ table < 1024 ∧ s.tbl table = some x ∧ x.state = 3 ∧ list < x.gen.lists ∧ list < 2 ^ 24 ∧ seat < 64 ∧ s.seatNamed table seat = true ∧ s.mySeat ≠ some seat ∧ (s.dirEntry x.gen list).state ≠ 2 ∧ (s.dirEntry x.gen list).image ≠ 0 ∧ s.tableNamed .vcmd slot table = false ∧ s.listBusy table list = false ∧ s.shuffles < 16) ∧
    (∃ (slot table list seat bit a n : Nat) (x : IdxTable) (s : State), s.calm = true ∧ s.slotFree .vcmd slot = true ∧ table < 1024 ∧ s.tbl table = some x ∧ x.state = 3 ∧ list < x.gen.lists ∧ list < 2 ^ 24 ∧ seat < 64 ∧ s.seatNamed table seat = true ∧ s.mySeat ≠ some seat ∧ bit < 64 ∧ x.splits.length < 1024 ∧ (s.dirEntry x.gen list).state ≠ 2 ∧ (s.dirEntry x.gen list).image ≠ 0 ∧ s.tableNamed .vcmd slot table = false ∧ s.listBusy table list = false ∧ s.shuffles < 16 ∧ n = (s.visibleAt x.gen (s.dirEntry x.gen list).image x.milepost).length ∧ s.poolPlace x.gen (some (stackOf (s.dirEntry x.gen list).image)) (x.gen.imageBytes (n + x.gen.wayCap)) = some a) ∧
    (∃ (from_ table list seq n k : Nat) (m : ListMove) (s : State), s.calm = true ∧ ((s.idx.moves.find? fun e => e.2.table == table && e.2.list == list && !e.2.dest && e.2.seat == from_ && e.2.unacked.any fun u => u.seq == n) = some (k, m)) ∧ m.phase ≠ .copy) ∧
    (∃ (from_ table list k slot op : Nat) (m : ListMove) (x : IdxTable) (s : State), s.calm = true ∧ ((s.idx.moves.find? fun e => e.2.table == table && e.2.list == list && e.2.dest == false && e.2.seat == from_ && e.2.phase != .closed) = some (k, m)) ∧ s.idx.moves.get k = some m ∧ m.phase = .handover ∧ m.split = none ∧ m.table = table ∧ m.list = list ∧ s.tbl table = some x ∧ x.committing = none ∧ x.waiting = [] ∧ m.slot = some slot ∧ s.slotHas .vcmd slot op (.moveOf table list) = true) ∧
    (∃ (from_ table list seq k : Nat) (m : ListMove) (s : State), s.calm = true ∧ ((s.idx.moves.find? fun e => e.2.table == table && e.2.list == list && !e.2.dest && e.2.seat == from_ && e.2.unacked.any fun u => u.seq == seq) = some (k, m)) ∧ m.phase = .closed) ∧
    (∃ (from_ table list : Nat) (items : List MoveItem) (s : State), s.calm = true ∧ ((s.idx.moves.find? fun e => e.2.table == table && e.2.list == list && e.2.dest == true && e.2.seat == from_ && e.2.phase != .closed) = none) ∧ s.canTake table list items = none) ∧
    (∃ (id : Nat) (m : ListMove) (s : State), s.calm = true ∧ s.idx.moves.get id = some m) ∧
    (∃ (id slot op : Nat) (m : ListMove) (x : IdxTable) (s : State), s.calm = true ∧ s.idx.moves.get id = some m ∧ m.dest = false ∧ m.phase = .copy ∧ s.tbl m.table = some x ∧ x.waiting = [] ∧ m.slot = some slot ∧ s.slotHas .vcmd slot op (.moveOf m.table m.list) = true) ∧
    (∃ (id : Nat) (m : ListMove) (s : State), s.calm = true ∧ s.idx.moves.get id = some m ∧ m.dest = false ∧ m.phase = .handover) :=
  ⟨⟨2, 5, 1, 1, tbl0, seated (withTbl tbl0), by decide +kernel⟩,
   ⟨2, 5, 1, 1, 63, ((seated (withTbl tbl0) : State).poolPlace (tbl0 : IdxTable).gen (some (stackOf ((seated (withTbl tbl0) : State).dirEntry (tbl0 : IdxTable).gen (1 : Nat)).image)) ((tbl0 : IdxTable).gen.imageBytes ((1 : Nat) + (tbl0 : IdxTable).gen.wayCap))).getD 0, 1, tbl0, seated (withTbl tbl0), by decide +kernel⟩,
   ⟨1, 5, 1, 4, 1, 256, { mov0 with phase := .handover }, withMove ({ mov0 with phase := .handover } : ListMove) (withTbl tbl0), by decide +kernel⟩,
   ⟨1, 5, 1, 256, 2, 3, { mov0 with phase := .handover, unacked := [] }, tbl0, withRun .vcmd 2 3 (.moveOf 5 1) (withMove ({ mov0 with phase := .handover, unacked := [] } : ListMove) (withTbl tbl0)), by decide +kernel⟩,
   ⟨1, 5, 1, 1, 256, { mov0 with phase := .closed, unacked := [⟨1, .abort, 90000⟩] }, withMove ({ mov0 with phase := .closed, unacked := [⟨1, .abort, 90000⟩] } : ListMove) (withTbl tbl0), by decide +kernel⟩,
   ⟨1, 6, 1, [], seated (withTbl tbl0), by decide +kernel⟩,
   ⟨256, mov0, withMove mov0 ((withTbl tbl0).setReg Reg.IDX_SHUF_RESEND 9000), by decide +kernel⟩,
   ⟨256, 2, 3, mov0, tbl0, withRun .vcmd 2 3 (.moveOf 5 1) (withMove mov0 (withTbl tbl0)), by decide +kernel⟩,
   ⟨256, { mov0 with phase := .handover }, withMove ({ mov0 with phase := .handover } : ListMove) (withTbl tbl0), by decide +kernel⟩⟩

theorem test_witness_ReclaimOverlapAndSkewWindow :
    (∃ (table a l : Nat) (x : IdxTable) (o : Superseded) (s : State), s.isRunning = true ∧ s.tbl table = some x ∧ x.superseded = [o] ∧ o.object = .image l a ∧ ((∀ g ∈ x.gen :: x.prior, l < g.lists → (s.dirEntry g l).image ≠ a)) ∧ o.milepost ≤ s.oldest table ∧ o.ltc + (s.reg Reg.IDX_RETAIN).toNat ≤ s.now ∧ o.overlap = none) ∧
    (∃ (table r : Nat) (x : IdxTable) (o : Superseded) (s : State), s.isRunning = true ∧ s.tbl table = some x ∧ x.superseded = [o] ∧ o.object = .row r ∧ r ≠ noRow ∧ o.milepost ≤ s.oldest table ∧ o.ltc + (s.reg Reg.IDX_RETAIN).toNat ≤ s.now ∧ o.overlap = none) ∧
    (∃ (table list : Nat) (x : IdxTable) (s : State), s.tbl table = some x ∧ x.prior = [] ∧ ((∀ c ∈ x.gen.cuts, c.list = list → s.past (c.ltc + (s.reg Reg.IDX_SHUF_OVERLAP).toNat) = true ∧ ∀ e ∈ s.qry.queries, e.2.table = table → c.ltc + (s.reg Reg.IDX_SHUF_OVERLAP).toNat < e.2.accept))) ∧
    (∃ (q : Nat) (s : State), s.isRunning = true ∧ q < 4 ∧ s.idx.hotStart.getD q 0 + (s.reg Reg.IDX_SKEW_WIN).toNat ≤ s.now) :=
  ⟨⟨5, img0 + 0x8000, 1, { tbl0 with superseded := [(⟨.image 1 (img0 + 0x8000), 6, 5000, none⟩ : Superseded)] }, ⟨.image 1 (img0 + 0x8000), 6, 5000, none⟩, (withTbl ({ tbl0 with superseded := [(⟨.image 1 (img0 + 0x8000), 6, 5000, none⟩ : Superseded)] } : IdxTable)).setReg Reg.IDX_RETAIN 10000, by decide +kernel⟩,
   ⟨5, 4, { tbl0 with superseded := [(⟨.row 4, 6, 5000, none⟩ : Superseded)] }, ⟨.row 4, 6, 5000, none⟩, (withTbl ({ tbl0 with superseded := [(⟨.row 4, 6, 5000, none⟩ : Superseded)] } : IdxTable)).setReg Reg.IDX_RETAIN 10000, by decide +kernel⟩,
   ⟨5, 1, { tbl0 with gen := { tgen 0 with cuts := [⟨1, 6, 5000⟩] }, superseded := [⟨.image 1 img0, 6, 5000, some 1⟩] }, (withTbl ({ tbl0 with gen := { tgen 0 with cuts := [⟨1, 6, 5000⟩] }, superseded := [⟨.image 1 img0, 6, 5000, some 1⟩] } : IdxTable)).setReg Reg.IDX_SHUF_OVERLAP 10000, by decide +kernel⟩,
   ⟨3, { (withTbl tbl0).setReg Reg.IDX_SKEW_WIN 10000 with idx := { (withTbl tbl0).idx with hotNow := [(3, [(5 * 2 ^ 24 + 1, 3)])] } }, by decide +kernel⟩⟩

theorem test_witness_WholeTableReplacement :
    (∃ (slot table size a : Nat) (x : IdxTable) (s : State), s.calm = true ∧ s.slotFree .vcmd slot = true ∧ table < 1024 ∧ s.tbl table = some x ∧ x.state = 3 ∧ x.pending = none ∧ x.groups = [] ∧ x.waiting = [] ∧ 0 < size ∧ size < 65536 ∧ s.poolPlace x.gen none (size * 2 ^ 20) = some a ∧ s.tableNamed .vcmd slot table = false ∧ s.idx.moves = []) ∧
    (∃ (slot : Nat) (a0 a3 a4 : W32) (x : IdxTable) (g : TableGen) (keys : Nat) (places : Option (List Nat)) (b s : State), s.calm = true ∧ s.slotFree .vcmd slot = true ∧ b = s.begun .vcmd slot 6 [(0, a0), (3, a3), (4, a4)] none ∧ s.tbl (fld a0 9 0) = some x ∧ x.state = 5 ∧ (x.owedAborts = 0 ∨ b.tableNamed .vcmd slot (fld a0 9 0) = true) ∧ fld a0 31 28 < 2 ∧ (fld a0 31 28 = 1 ∨ stackOk (a3.toNat + 2 ^ 32 * a4.toNat) = true) ∧ b.loadChecks ⟨fld a0 31 28 == 1, a3.toNat + 2 ^ 32 * a4.toNat⟩ true false (fld a0 9 0) 0 0 [(x.state != 5 || b.tableNamed .vcmd slot (fld a0 9 0) || x.loading.isSome, St.busy)] = (St.ok, g, keys, places)) ∧
    (∃ (slot : Nat) (a0 : W32) (x : IdxTable) (s : State), s.calm = true ∧ s.slotFree .vcmd slot = true ∧ s.tbl (fld a0 9 0) = some x ∧ s.tableNamed .vcmd slot (fld a0 9 0) = false ∧ x.owedAborts ≠ 0) ∧
    (∃ (slot table : Nat) (x : IdxTable) (l : Loading) (pl : List Nat × State) (sc s : State), s.calm = true ∧ s.slotHas .vcmd slot 6 (.replaceLoad table) = true ∧ s.tbl table = some x ∧ x.state = 5 ∧ x.loading = some l ∧ x.groups = [] ∧ x.waiting = [] ∧ x.log = [] ∧ s.idx.merges = [] ∧ s.crcBad ⟨l.flash, l.addr⟩ (s.srcSections ⟨l.flash, l.addr⟩) = false ∧ ((∀ d ∈ dupSlots ((s.srcLists ⟨l.flash, l.addr⟩ (s.srcSections ⟨l.flash, l.addr⟩) (genOf l.desc l.cols)).map fun es => es.getD []), d = [])) ∧ sc = (s.copyObjects ⟨l.flash, l.addr⟩ (s.srcSections ⟨l.flash, l.addr⟩) (genOf l.desc l.cols)).copyRows ⟨l.flash, l.addr⟩ (s.srcSections ⟨l.flash, l.addr⟩) (genOf l.desc l.cols) ∧ (sc.poolPlaces (genOf l.desc l.cols) ((s.srcLists ⟨l.flash, l.addr⟩ (s.srcSections ⟨l.flash, l.addr⟩) (genOf l.desc l.cols)).map fun es => (genOf l.desc l.cols).listBytes (es.map List.length)) = some pl)) ∧
    (∃ (slot table : Nat) (x : IdxTable) (s : State), s.calm = true ∧ s.slotFree .vcmd slot = true ∧ table < 1024 ∧ s.tbl table = some x ∧ x.state = 5 ∧ x.loading = none ∧ x.waiting = [] ∧ s.tableNamed .vcmd slot table = false) :=
  ⟨⟨2, 5, 1, (({ withTbl tbl0 with pds := tblPds.put 4 (pd (sb + 0x100000) 0x1000000) } : State).poolPlace (tbl0 : IdxTable).gen none ((1 : Nat) * 2 ^ 20)).getD 0, tbl0, { withTbl tbl0 with pds := tblPds.put 4 (pd (sb + 0x100000) 0x1000000) }, by decide +kernel⟩,
   ⟨2, 5, 0x300000, 16, repl0, genOf (tdesc 5 1 8 10) [], 0, some [img0 + (tgen 0).imageBytes 1], ({ withTbl repl0 with smem := ldImg 10 } : State).begun .vcmd 2 6 [(0, 5), (3, 0x300000), (4, 16)] none, { withTbl repl0 with smem := ldImg 10 }, by decide +kernel⟩,
   ⟨2, 5, { repl0 with state := 3, owedAborts := 1 }, withTbl ({ repl0 with state := 3, owedAborts := 1 } : IdxTable), by decide +kernel⟩,
   ⟨2, 5, { repl0 with loading := some rld0 }, rld0, ((((withRun .vcmd 2 6 (.replaceLoad 5) { withTbl ({ repl0 with loading := some rld0 } : IdxTable) with smem := ldImg 10 } : State).copyObjects ⟨(rld0 : Loading).flash, (rld0 : Loading).addr⟩ ((withRun .vcmd 2 6 (.replaceLoad 5) { withTbl ({ repl0 with loading := some rld0 } : IdxTable) with smem := ldImg 10 } : State).srcSections ⟨(rld0 : Loading).flash, (rld0 : Loading).addr⟩) (genOf (rld0 : Loading).desc (rld0 : Loading).cols)).copyRows ⟨(rld0 : Loading).flash, (rld0 : Loading).addr⟩ ((withRun .vcmd 2 6 (.replaceLoad 5) { withTbl ({ repl0 with loading := some rld0 } : IdxTable) with smem := ldImg 10 } : State).srcSections ⟨(rld0 : Loading).flash, (rld0 : Loading).addr⟩) (genOf (rld0 : Loading).desc (rld0 : Loading).cols) : State).poolPlaces (genOf (rld0 : Loading).desc (rld0 : Loading).cols) (((withRun .vcmd 2 6 (.replaceLoad 5) { withTbl ({ repl0 with loading := some rld0 } : IdxTable) with smem := ldImg 10 } : State).srcLists ⟨(rld0 : Loading).flash, (rld0 : Loading).addr⟩ ((withRun .vcmd 2 6 (.replaceLoad 5) { withTbl ({ repl0 with loading := some rld0 } : IdxTable) with smem := ldImg 10 } : State).srcSections ⟨(rld0 : Loading).flash, (rld0 : Loading).addr⟩) (genOf (rld0 : Loading).desc (rld0 : Loading).cols)).map fun es => (genOf (rld0 : Loading).desc (rld0 : Loading).cols).listBytes (es.map List.length))).getD ([], (withRun .vcmd 2 6 (.replaceLoad 5) { withTbl ({ repl0 with loading := some rld0 } : IdxTable) with smem := ldImg 10 } : State)), ((withRun .vcmd 2 6 (.replaceLoad 5) { withTbl ({ repl0 with loading := some rld0 } : IdxTable) with smem := ldImg 10 } : State).copyObjects ⟨(rld0 : Loading).flash, (rld0 : Loading).addr⟩ ((withRun .vcmd 2 6 (.replaceLoad 5) { withTbl ({ repl0 with loading := some rld0 } : IdxTable) with smem := ldImg 10 } : State).srcSections ⟨(rld0 : Loading).flash, (rld0 : Loading).addr⟩) (genOf (rld0 : Loading).desc (rld0 : Loading).cols)).copyRows ⟨(rld0 : Loading).flash, (rld0 : Loading).addr⟩ ((withRun .vcmd 2 6 (.replaceLoad 5) { withTbl ({ repl0 with loading := some rld0 } : IdxTable) with smem := ldImg 10 } : State).srcSections ⟨(rld0 : Loading).flash, (rld0 : Loading).addr⟩) (genOf (rld0 : Loading).desc (rld0 : Loading).cols), withRun .vcmd 2 6 (.replaceLoad 5) { withTbl ({ repl0 with loading := some rld0 } : IdxTable) with smem := ldImg 10 }, by decide +kernel⟩,
   ⟨2, 5, repl0, withTbl repl0, by decide +kernel⟩⟩

end W04

namespace W05

/-- A query's header of tenant 7 for table 5, its flags and rerank count given. -/
def qh (fl rr : Nat) : Bytes :=
  [0, 1] ++ leBytes 2 128 ++ leBytes 2 5 ++ leBytes 2 7 ++ leBytes 2 1 ++ leBytes 2 2 ++ leBytes 2 rr ++ [0, BitVec.ofNat 8 fl, 3, 0] ++ leBytes 2 0 ++ leBytes 4 5000 ++ leBytes 8 0 ++ leBytes 8 99 ++
    leBytes 4 0x10002 ++ zeros 20
def qv : Bytes := [1, 2, 3, 4, 5, 6, 7, 8]
def q0 : Query := { newQuery (.endpoint 0x10002) (qh 0 0) 90000 (tgen 0) with vector := qv, deadline := 105000, hands := 1, pin := 7 }
def withQ (q : Query) (s : State) : State := { s with qry := { s.qry with queries := [(3, q)] } }
def prs : List PairTo := [⟨0, 1, img0⟩]
def trk0 : Trick := ⟨5, 1, img0, [(3, 18 * 90000)], 95000, 0, false, none, []⟩
def withOpen (y : Trick) (s : State) : State := { s with qry := { s.qry with formers := [(0, { emptyFormer with opens := [(6, y)] })] } }
def withScan (x : ScanRun) (s : State) : State := { s with qry := { s.qry with engines := [(4, x)] } }
def cand0 : Cand := ⟨42, 0x40A00000, 0, 0, false, 0⟩
/-- The same table with full vectors and an inner-product metric. -/
def fgen : TableGen := genOf (patch (patch (tdesc 5 2 8 0) 3 [0]) 10 [1]) []
def qs : Query := { q0 with phase := .scanning, ranks := [1, 0], used := 2, stages := 1 }
def qr : Query := { q0 with phase := .rerank, gen := fgen, header := qh 0 2, entries := [cand0], rerank := [(cand0, .waiting)] }
def ans (tag st : Nat) : Bytes := answerBytes (patch (qh 0 0) 32 (leBytes 8 tag)) ⟨st, 0, 1, 0, 0, 1, 1, 1, 3, 0, 0, 1, 50⟩ [⟨42, 0x40A00000, 1, 0, 0⟩]
def asked0 (seat : Nat) : Asked := ⟨seat, [], 90000, false, none, false⟩
def dq0 : DealQuery := ⟨0x10002, qh 0 0, 95000, 105000, [asked0 1, asked0 2], false⟩
def withDeal (s : State) : State := { s with ton := { s.ton with queries := [(99, dq0)] } }

theorem test_witness_QueriesAreTakenProbedAndRanked :
    (∃ (m : Msg) (h : Bytes) (x : IdxTable) (su n : Nat) (u s : State), s.calm = true ∧ s.isRunning = true ∧ m.flags.getLsbD 0 = false ∧ 64 ≤ m.body.length ∧ u = s.took m ∧ h = sliceAt m.body 0 40 ++ leBytes 4 m.src.toNat ++ sliceAt m.body 44 20 ∧ s.tbl (qTable h) = some x ∧ qTable h ≤ 1023 ∧ s.tblState (qTable h) ≠ 0 ∧ qPinGiven h = false ∧ u.queryStatus false (h ++ m.body.drop 64) (u.mapOutcome m.mapMp.toNat (qTable h) none) (some x.gen) = St.ok ∧ s.turnSu = some su ∧ s.qry.queries.lowestFree 0 16384 = some n ∧ s.genLost x.gen = false) ∧
    (∃ (m : Msg) (h : Bytes) (x : IdxTable) (st : Nat) (u s : State), s.calm = true ∧ s.isRunning = true ∧ m.flags.getLsbD 0 = false ∧ 64 ≤ m.body.length ∧ u = s.took m ∧ h = sliceAt m.body 0 40 ++ leBytes 4 m.src.toNat ++ sliceAt m.body 44 20 ∧ s.tbl (qTable h) = some x ∧ qTable h ≤ 1023 ∧ s.tblState (qTable h) ≠ 0 ∧ qPinGiven h = false ∧ u.queryStatus false (h ++ m.body.drop 64) (u.mapOutcome m.mapMp.toNat (qTable h) none) (some x.gen) = st ∧ st ≠ St.ok) ∧
    (∃ (tenant k n mp : Nat) (rest : List Nat) (pt : PointSt) (q : Query) (x : IdxTable) (s : State), s.calm = true ∧ s.isRunning = true ∧ s.tenantTurn (tenant % 4) = some tenant ∧ s.tenantPick tenant = (some k, pt) ∧ s.qry.queues.getD (8 * tenant + k) [] = n :: rest ∧ s.query n = some q ∧ s.tbl (qTable q.header) = some x ∧ s.past q.deadline = false ∧ x.admits s.cycle = (3, mp) ∧ qPinGiven q.header = false ∧ x.gen = q.gen ∧ x.prior = [] ∧ x.gen.since ≤ mp ∧ x.floor ≤ mp ∧ s.genLost x.gen = false ∧ qExact q.header = false ∧ ((∀ b ∈ s.qry.batches, b.2.table = qTable q.header → b.2.launched = true)) ∧ 1 < bitsOf (s.reg Reg.QRY_PROBE_CFG).toNat 8 0) ∧
    (∃ (tenant k n mp : Nat) (rest : List Nat) (pt : PointSt) (q : Query) (x : IdxTable) (s : State), s.calm = true ∧ s.isRunning = true ∧ s.tenantTurn (tenant % 4) = some tenant ∧ s.tenantPick tenant = (some k, pt) ∧ s.qry.queues.getD (8 * tenant + k) [] = n :: rest ∧ s.query n = some q ∧ s.tbl (qTable q.header) = some x ∧ s.past q.deadline = false ∧ x.admits s.cycle = (3, mp) ∧ qPinGiven q.header = false ∧ x.gen = q.gen ∧ x.prior = [] ∧ x.gen.since ≤ mp ∧ x.floor ≤ mp ∧ s.genLost x.gen = false ∧ qExact q.header = true) ∧
    (∃ (table b : Nat) (x : Batch) (s : State), s.calm = true ∧ s.isRunning = true ∧ ((s.qry.batches.find? fun e => e.2.table == table && !e.2.launched) = some (b, x)) ∧ x.oldest + fld (s.reg Reg.QRY_PROBE_CFG) 31 16 ≤ s.now ∧ x.lastJoin < s.now ∧ (s.probers x.table).isEmpty = false) ∧
    (∃ (b : Nat) (x : Batch) (s : State), s.isRunning = true ∧ s.qry.batches.get b = some x ∧ x.launched = true) ∧
    (∃ (n : Nat) (q : Query) (s : State), s.calm = true ∧ s.isRunning = true ∧ s.query n = some q ∧ q.phase = .probed) :=
  ⟨⟨msg 0x10 (qh 0 0 ++ qv ++ zeros 56), sliceAt (msg 0x10 (qh 0 0 ++ qv ++ zeros 56) : Msg).body 0 40 ++ leBytes 4 (msg 0x10 (qh 0 0 ++ qv ++ zeros 56) : Msg).src.toNat ++ sliceAt (msg 0x10 (qh 0 0 ++ qv ++ zeros 56) : Msg).body 44 20, tbl0, 0, 0, (withTbl tbl0 : State).took (msg 0x10 (qh 0 0 ++ qv ++ zeros 56) : Msg), withTbl tbl0, by decide +kernel⟩,
   ⟨msg 0x10 (patch (qh 0 0) 1 [0] ++ qv ++ zeros 56), sliceAt (msg 0x10 (patch (qh 0 0) 1 [0] ++ qv ++ zeros 56) : Msg).body 0 40 ++ leBytes 4 (msg 0x10 (patch (qh 0 0) 1 [0] ++ qv ++ zeros 56) : Msg).src.toNat ++ sliceAt (msg 0x10 (patch (qh 0 0) 1 [0] ++ qv ++ zeros 56) : Msg).body 44 20, tbl0, 10, (withTbl tbl0 : State).took (msg 0x10 (patch (qh 0 0) 1 [0] ++ qv ++ zeros 56) : Msg), withTbl tbl0, by decide +kernel⟩,
   ⟨7, 0, 3, 7, [], (({ withQ q0 (withTbl tbl0) with qry := { (withQ q0 (withTbl tbl0)).qry with queues := [(56, [3])] } } : State).tenantPick 7).2, q0, tbl0, { withQ q0 (withTbl tbl0) with qry := { (withQ q0 (withTbl tbl0)).qry with queues := [(56, [3])] } }, by decide +kernel⟩,
   ⟨7, 0, 3, 7, [], (({ withQ { q0 with header := qh 2 0 } (withTbl tbl0) with qry := { (withQ { q0 with header := qh 2 0 } (withTbl tbl0)).qry with queues := [(56, [3])] } } : State).tenantPick 7).2, { q0 with header := qh 2 0 }, tbl0, { withQ { q0 with header := qh 2 0 } (withTbl tbl0) with qry := { (withQ { q0 with header := qh 2 0 } (withTbl tbl0)).qry with queues := [(56, [3])] } }, by decide +kernel⟩,
   ⟨5, 0, ⟨5, [(3, 90000)], 90000, false⟩, { withQ { q0 with phase := .batched } (withTbl tbl0) with qry := { (withQ { q0 with phase := .batched } (withTbl tbl0)).qry with batches := [(0, ⟨5, [(3, 90000)], 90000, false⟩)] } }, by decide +kernel⟩,
   ⟨0, ⟨5, [(3, 90000)], 90000, true⟩, { withQ { q0 with phase := .probing } (withTbl tbl0) with qry := { (withQ { q0 with phase := .probing } (withTbl tbl0)).qry with batches := [(0, ⟨5, [(3, 90000)], 90000, true⟩)] } }, by decide +kernel⟩,
   ⟨3, { q0 with phase := .probed, probe := [0x40000000, 0x3F800000] }, withQ ({ q0 with phase := .probed, probe := [0x40000000, 0x3F800000] } : Query) (withTbl tbl0), by decide +kernel⟩⟩

theorem test_witness_TricksFormAndLaunch :
    (∃ (q n l e : Nat) (x : Query) (p : PairTo) (s : State), s.calm = true ∧ s.isRunning = true ∧ s.query n = some x ∧ ((x.pairsTo.find? fun p => p.quadrant == q && p.list == l) = some p) ∧ (s.launchTo q none).isSome = true ∧ s.outOfTurn q n (qTable x.header) p = false ∧ s.openTrick q (qTable x.header) p = none ∧ (s.former q).opens.lowestFree 0 4096 = some e) ∧
    (∃ (q n l e : Nat) (x : Query) (p : PairTo) (y : Trick) (s : State), s.calm = true ∧ s.isRunning = true ∧ s.query n = some x ∧ ((x.pairsTo.find? fun p => p.quadrant == q && p.list == l) = some p) ∧ (s.launchTo q none).isSome = true ∧ s.outOfTurn q n (qTable x.header) p = false ∧ s.openTrick q (qTable x.header) p = some (e, y) ∧ y.members.length < 31) ∧
    (∃ (q n l e e' : Nat) (x : Query) (p : PairTo) (y y' : Trick) (s : State), s.calm = true ∧ s.query n = some x ∧ ((x.pairsTo.find? fun p => p.quadrant == q && p.list == l) = some p) ∧ s.outOfTurn q n (qTable x.header) p = false ∧ s.openTrick q (qTable x.header) p = some (e, y) ∧ y' = y.join n s.cycle (s.now + fld (s.reg (Reg.QRY_TRICK_DL + 4 * s.tntClass (qTenant x.header))) 15 0) ∧ y'.members.length = 32 ∧ s.goesTo q y' e' = true) ∧
    (∃ (q n l : Nat) (x : Query) (p : PairTo) (s : State), s.calm = true ∧ s.isRunning = true ∧ s.query n = some x ∧ ((x.pairsTo.find? fun p => p.quadrant == q && p.list == l) = some p) ∧ s.outOfTurn q n (qTable x.header) p = false ∧ s.launchTo q none = none) ∧
    (∃ (q entry e : Nat) (y : Trick) (s : State), s.calm = true ∧ s.goesTo q y e = true ∧ (s.former q).opens.get entry = some y ∧ y.deadline ≤ s.now ∧ ((∀ m ∈ y.members, m.2 / 18 < s.now)) ∧ y.members.length < 32) ∧
    (∃ (q entry e : Nat) (y : Trick) (s : State), s.calm = true ∧ s.goesTo q y e = true ∧ (s.former q).opens.get entry = some y ∧ e ∈ s.liveSe q none ∧ (earliest ((s.former q).opens.filter fun o => (o.2.members.head?).any fun m => decide (m.2 / 18 + fld (s.reg Reg.QRY_TRICK_MIN_AGE) 15 0 ≤ s.now)) = some entry)) ∧
    (∃ (q entry cause e : Nat) (y : Trick) (s : State), s.calm = true ∧ s.isRunning = true ∧ q < 4 ∧ s.launchTo q none = some q ∧ (s.former q).queue = [] ∧ s.engineFor q y = some e ∧ (s.former q).opens.get entry = some y ∧ (s.former q).due = [(entry, cause)] ∧ ((∀ f ∈ s.qry.formers, f.2.held = [])) ∧ ((∀ f ∈ s.qry.formers, f.1 ≠ q → f.2.due = []))) :=
  ⟨⟨0, 3, 1, 0, { qs with pairsTo := prs, pairsOpen := 1 }, ⟨0, 1, img0⟩, withQ ({ qs with pairsTo := prs, pairsOpen := 1 } : Query) (withTbl tbl0), by decide +kernel⟩,
   ⟨0, 3, 1, 6, { qs with pairsTo := prs, pairsOpen := 1 }, ⟨0, 1, img0⟩, trk0, withOpen trk0 (withQ ({ qs with pairsTo := prs, pairsOpen := 1 } : Query) (withTbl tbl0)), by decide +kernel⟩,
   ⟨0, 3, 1, 6, 0, { qs with pairsTo := prs, pairsOpen := 1 }, ⟨0, 1, img0⟩, { trk0 with members := List.replicate 31 (9, 18 * 90000) }, ({ trk0 with members := List.replicate 31 (9, 18 * 90000) } : Trick).join (3 : Nat) (withOpen ({ trk0 with members := List.replicate 31 (9, 18 * 90000) } : Trick) (withQ ({ qs with pairsTo := prs, pairsOpen := 1 } : Query) (withTbl tbl0)) : State).cycle ((withOpen ({ trk0 with members := List.replicate 31 (9, 18 * 90000) } : Trick) (withQ ({ qs with pairsTo := prs, pairsOpen := 1 } : Query) (withTbl tbl0)) : State).now + fld ((withOpen ({ trk0 with members := List.replicate 31 (9, 18 * 90000) } : Trick) (withQ ({ qs with pairsTo := prs, pairsOpen := 1 } : Query) (withTbl tbl0)) : State).reg (Reg.QRY_TRICK_DL + 4 * (withOpen ({ trk0 with members := List.replicate 31 (9, 18 * 90000) } : Trick) (withQ ({ qs with pairsTo := prs, pairsOpen := 1 } : Query) (withTbl tbl0)) : State).tntClass (qTenant ({ qs with pairsTo := prs, pairsOpen := 1 } : Query).header))) 15 0), withOpen ({ trk0 with members := List.replicate 31 (9, 18 * 90000) } : Trick) (withQ ({ qs with pairsTo := prs, pairsOpen := 1 } : Query) (withTbl tbl0)), by decide +kernel⟩,
   ⟨0, 3, 1, { qs with pairsTo := prs, pairsOpen := 1 }, ⟨0, 1, img0⟩, { withQ ({ qs with pairsTo := prs, pairsOpen := 1 } : Query) (withTbl tbl0) with flt := { (withTbl tbl0).flt with retired := (List.range 64).map fun i => (5, i) } }, by decide +kernel⟩,
   ⟨0, 6, 0, trk0, withOpen trk0 (withQ { qs with pairsOpen := 1 } (withTbl tbl0)), by decide +kernel⟩,
   ⟨0, 6, 0, trk0, withOpen trk0 (withQ { qs with pairsOpen := 1 } (withTbl tbl0)), by decide +kernel⟩,
   ⟨0, 6, 1, 0, trk0, { withTbl tbl0 with qry := { (withTbl tbl0).qry with formers := [(0, { emptyFormer with opens := [(6, trk0)], due := [(6, 1)] })] } }, by decide +kernel⟩⟩

theorem test_witness_EnginesScanTricks :
    (∃ (e : Nat) (x : ScanRun) (m : Nat × Nat) (q : Query) (r : Scanned) (s : State), s.isRunning = true ∧ s.qry.engines.get e = some x ∧ x.strip < s.imgStrips x.trick.addr ∧ x.trick.members = [m] ∧ x.trick.gone = [] ∧ s.query m.1 = some q ∧ r = s.scanSlots q x.trick.list x.trick.addr x.strip (e / 16) (s.memberPin q x.trick.list)) ∧
    (∃ (e : Nat) (x : ScanRun) (m : Nat × Nat) (q : Query) (r : Scanned) (s : State), s.isRunning = true ∧ s.qry.engines.get e = some x ∧ s.imgStrips x.trick.addr ≤ x.strip ∧ x.wayDone = false ∧ x.trick.members = [m] ∧ x.trick.gone = [] ∧ s.query m.1 = some q ∧ r = s.scanRecords q x.trick.list x.trick.addr x.trick.count (e / 16) (s.memberPin q x.trick.list)) ∧
    (∃ (e : Nat) (x : ScanRun) (m : Nat × Nat) (q : Query) (s : State), s.calm = true ∧ s.isRunning = true ∧ s.qry.engines.get e = some x ∧ x.wayDone = true ∧ x.trick.members = [m] ∧ s.query m.1 = some q ∧ (s.former (e / 32)).queue = []) ∧
    (∃ (e e' : Nat) (x : ScanRun) (s : State), s.calm = true ∧ s.isRunning = true ∧ s.qry.engines.get e = some x ∧ x.trick.relaunch = false ∧ s.uncrossed 0x0031 5 e = true ∧ x.trick.home = e / 32 ∧ (s.former (e / 32)).queue = [] ∧ s.launchTo (e / 32) (some e) = some (e / 32) ∧ s.engineFor (e / 32) { x.trick with avoid := some e } = some e') ∧
    (∃ (e : Nat) (x : ScanRun) (m : Nat × Nat) (q : Query) (s : State), s.calm = true ∧ s.isRunning = true ∧ s.qry.engines.get e = some x ∧ x.trick.relaunch = true ∧ x.trick.members = [m] ∧ s.query m.1 = some q ∧ q.phase ≠ .queued ∧ s.uncrossed 0x0031 5 e = true ∧ (s.former (e / 32)).queue = []) :=
  ⟨⟨4, ⟨trk0, 0, false⟩, (3, 18 * 90000), { qs with pairsOpen := 1 }, (withScan ⟨trk0, 0, false⟩ (withQ ({ qs with pairsOpen := 1 } : Query) (withTbl tbl0)) : State).scanSlots ({ qs with pairsOpen := 1 } : Query) (⟨trk0, 0, false⟩ : ScanRun).trick.list (⟨trk0, 0, false⟩ : ScanRun).trick.addr (⟨trk0, 0, false⟩ : ScanRun).strip ((4 : Nat) / 16) ((withScan ⟨trk0, 0, false⟩ (withQ ({ qs with pairsOpen := 1 } : Query) (withTbl tbl0)) : State).memberPin ({ qs with pairsOpen := 1 } : Query) (⟨trk0, 0, false⟩ : ScanRun).trick.list), withScan ⟨trk0, 0, false⟩ (withQ ({ qs with pairsOpen := 1 } : Query) (withTbl tbl0)), by decide +kernel⟩,
   ⟨4, ⟨{ trk0 with count := 1 }, 1, false⟩, (3, 18 * 90000), { qs with pairsOpen := 1 }, (withScan (⟨{ trk0 with count := 1 }, 1, false⟩ : ScanRun) (withQ ({ qs with pairsOpen := 1 } : Query) (withTbl tbl0)) : State).scanRecords ({ qs with pairsOpen := 1 } : Query) (⟨{ trk0 with count := 1 }, 1, false⟩ : ScanRun).trick.list (⟨{ trk0 with count := 1 }, 1, false⟩ : ScanRun).trick.addr (⟨{ trk0 with count := 1 }, 1, false⟩ : ScanRun).trick.count ((4 : Nat) / 16) ((withScan (⟨{ trk0 with count := 1 }, 1, false⟩ : ScanRun) (withQ ({ qs with pairsOpen := 1 } : Query) (withTbl tbl0)) : State).memberPin ({ qs with pairsOpen := 1 } : Query) (⟨{ trk0 with count := 1 }, 1, false⟩ : ScanRun).trick.list), withScan (⟨{ trk0 with count := 1 }, 1, false⟩ : ScanRun) (withQ ({ qs with pairsOpen := 1 } : Query) (withTbl tbl0)), by decide +kernel⟩,
   ⟨4, ⟨trk0, 1, true⟩, (3, 18 * 90000), { qs with pairsOpen := 1 }, withScan (⟨trk0, 1, true⟩ : ScanRun) (withQ ({ qs with pairsOpen := 1 } : Query) (withTbl tbl0)), by decide +kernel⟩,
   ⟨4, 0, ⟨trk0, 0, false⟩, withScan (⟨trk0, 0, false⟩ : ScanRun) (withQ { qs with pairsOpen := 1 } (withTbl tbl0)), by decide +kernel⟩,
   ⟨4, ⟨{ trk0 with relaunch := true, avoid := some 9 }, 0, false⟩, (3, 18 * 90000), { qs with pairsOpen := 1 }, withScan (⟨{ trk0 with relaunch := true, avoid := some 9 }, 0, false⟩ : ScanRun) (withQ ({ qs with pairsOpen := 1 } : Query) (withTbl tbl0)), by decide +kernel⟩⟩

theorem test_witness_HandsTakeEntriesAndFlush :
    (∃ (n : Nat) (q : Query) (x : Nat × Nat × Cand) (s : State), s.calm = true ∧ s.isRunning = true ∧ s.query n = some q ∧ q.inbox = [x] ∧ isNan x.2.2.dist = false ∧ dKey x.2.2.dist ≤ q.tested s.cycle ∧ q.staging.length < 255) ∧
    (∃ (n : Nat) (q : Query) (x : Nat × Nat × Cand) (s : State), s.calm = true ∧ s.isRunning = true ∧ s.query n = some q ∧ q.inbox = [x] ∧ isNan x.2.2.dist = true) ∧
    (∃ (n : Nat) (q : Query) (x : Nat × Nat × Cand) (s : State), s.calm = true ∧ s.isRunning = true ∧ s.query n = some q ∧ q.inbox = [x] ∧ isNan x.2.2.dist = false ∧ q.tested s.cycle < dKey x.2.2.dist) ∧
    (∃ (n : Nat) (q : Query) (s : State), s.calm = true ∧ s.isRunning = true ∧ s.query n = some q ∧ q.staging ≠ [] ∧ q.oldest + 128 ≤ s.cycle) ∧
    (∃ (n : Nat) (q : Query) (s : State), s.calm = true ∧ s.isRunning = true ∧ s.query n = some q ∧ q.flushAt < s.cycle ∧ q.inForce ≠ q.t) ∧
    (∃ (n l : Nat) (q : Query) (c : Cand) (rest : List Cand) (s : State), s.calm = true ∧ s.isRunning = true ∧ s.query n = some q ∧ q.phase = .exact ∧ s.exactLeft q = some (l, c :: rest) ∧ q.gen.metric = 3 ∧ s.rowPasses q.gen (readNodes q.filter) c.row = true) ∧
    (∃ (n l : Nat) (q : Query) (c : Cand) (rest : List Cand) (s : State), s.calm = true ∧ s.isRunning = true ∧ s.query n = some q ∧ q.phase = .exact ∧ s.exactLeft q = some (l, c :: rest) ∧ q.gen.metric ≠ 3 ∧ hasFv q.gen c.row = true) ∧
    (∃ (n l : Nat) (q : Query) (c : Cand) (rest : List Cand) (s : State), s.calm = true ∧ s.isRunning = true ∧ s.query n = some q ∧ q.phase = .exact ∧ s.exactLeft q = some (l, c :: rest) ∧ q.gen.metric ≠ 3 ∧ hasFv q.gen c.row = true) :=
  ⟨⟨3, { qs with inbox := [((1800000, 4, cand0) : Nat × Nat × Cand)] }, (1800000, 4, cand0), withQ ({ qs with inbox := [((1800000, 4, cand0) : Nat × Nat × Cand)] } : Query) (withTbl tbl0), by decide +kernel⟩,
   ⟨3, { qs with inbox := [((1800000, 4, { cand0 with dist := 0x7FC00000 }) : Nat × Nat × Cand)] }, (1800000, 4, { cand0 with dist := 0x7FC00000 }), withQ ({ qs with inbox := [((1800000, 4, { cand0 with dist := 0x7FC00000 }) : Nat × Nat × Cand)] } : Query) (withTbl tbl0), by decide +kernel⟩,
   ⟨3, { qs with inbox := [((1800000, 4, cand0) : Nat × Nat × Cand)], inForce := 5 }, (1800000, 4, cand0), withQ ({ qs with inbox := [((1800000, 4, cand0) : Nat × Nat × Cand)], inForce := 5 } : Query) (withTbl tbl0), by decide +kernel⟩,
   ⟨3, { qs with staging := [cand0], oldest := 1799000 }, withQ ({ qs with staging := [cand0], oldest := 1799000 } : Query) (withTbl tbl0), by decide +kernel⟩,
   ⟨3, { qs with t := 5 }, withQ ({ qs with t := 5 } : Query) (withTbl tbl0), by decide +kernel⟩,
   ⟨3, 1, { q0 with phase := .exact, header := qh 2 0 }, { cand0 with dist := 0 }, [], withQ ({ q0 with phase := .exact, header := qh 2 0 } : Query) (withTbl tbl0), by decide +kernel⟩,
   ⟨3, 1, { q0 with phase := .exact, gen := fgen, header := qh 2 0 }, { cand0 with dist := 0 }, [], withQ ({ q0 with phase := .exact, gen := fgen, header := qh 2 0 } : Query) (withTbl tbl0), by decide +kernel⟩,
   ⟨3, 1, { q0 with phase := .exact, gen := fgen, header := qh 2 0 }, { cand0 with dist := 0 }, [], withQ ({ q0 with phase := .exact, gen := fgen, header := qh 2 0 } : Query) (withTbl tbl0), by decide +kernel⟩⟩

theorem test_witness_StagesRerankAndEndQueries :
    (∃ (n : Nat) (q : Query) (s : State), s.calm = true ∧ s.isRunning = true ∧ s.query n = some q ∧ q.stageOver = true ∧ qWiden q.header = false ∧ qExact q.header = false ∧ qRerank q.header ≠ 0 ∧ q.gen.metric ≠ 3) ∧
    (∃ (n : Nat) (q : Query) (s : State), s.calm = true ∧ s.isRunning = true ∧ s.query n = some q ∧ q.stageOver = true ∧ qWiden q.header = true ∧ q.flushed.entries.length < qK q.header ∧ q.used < q.ranks.length) ∧
    (∃ (n place : Nat) (q : Query) (c : Cand) (s : State), s.calm = true ∧ s.isRunning = true ∧ s.query n = some q ∧ q.phase = .rerank ∧ q.rerank[place]? = some (c, .waiting)) ∧
    (∃ (n place : Nat) (q : Query) (c : Cand) (s : State), s.calm = true ∧ s.isRunning = true ∧ s.query n = some q ∧ q.phase = .rerank ∧ q.rerank[place]? = some (c, .waiting)) ∧
    (∃ (n : Nat) (q : Query) (s : State), s.calm = true ∧ s.isRunning = true ∧ s.query n = some q ∧ q.phase = .rerank ∧ ((∀ x ∈ q.rerank, x.2 ≠ .waiting))) ∧
    (∃ (n st : Nat) (q : Query) (s : State), s.calm = true ∧ s.isRunning = true ∧ s.query n = some q ∧ q.phase = .scored ∧ s.past q.deadline = false ∧ st = (if (q.finalSelect s.answerSeat).1.length = qK q.header then St.ok else St.short)) ∧
    (∃ (n : Nat) (q : Query) (s : State), s.calm = true ∧ s.isRunning = true ∧ s.query n = some q ∧ q.phase = .scored ∧ s.past q.deadline = true) ∧
    (∃ (n : Nat) (q : Query) (s : State), s.calm = true ∧ s.isRunning = true ∧ s.query n = some q ∧ q.phase ≠ .queued ∧ s.past q.deadline = true) :=
  ⟨⟨3, { qs with gen := fgen, header := qh 0 2, staging := [cand0] }, withQ ({ qs with gen := fgen, header := qh 0 2, staging := [cand0] } : Query) (withTbl tbl0), by decide +kernel⟩,
   ⟨3, { qs with ranks := [1, 0], used := 1, header := qh 1 0 }, withQ ({ qs with ranks := [1, 0], used := 1, header := qh 1 0 } : Query) (withTbl tbl0), by decide +kernel⟩,
   ⟨3, 0, qr, cand0, withQ (qr : Query) (withTbl tbl0), by decide +kernel⟩,
   ⟨3, 0, qr, cand0, withQ (qr : Query) (withTbl tbl0), by decide +kernel⟩,
   ⟨3, { qr with rerank := [(cand0, .none_)] }, withQ ({ qr with rerank := [(cand0, .none_)] } : Query) (withTbl tbl0), by decide +kernel⟩,
   ⟨3, 0, { q0 with phase := .scored, entries := [cand0] }, withQ ({ q0 with phase := .scored, entries := [cand0] } : Query) (withTbl tbl0), by decide +kernel⟩,
   ⟨3, { q0 with phase := .scored, entries := [cand0], deadline := 99000 }, withQ ({ q0 with phase := .scored, entries := [cand0], deadline := 99000 } : Query) (withTbl tbl0), by decide +kernel⟩,
   ⟨3, { qs with deadline := 99000 }, withQ ({ qs with deadline := 99000 } : Query) (withTbl tbl0), by decide +kernel⟩⟩

theorem test_witness_QuerySelectorsAndTheDealersMerge :
    (∃ (s : State), s.isRunning = true) ∧
    (∃ (s : State), s.isRunning = true) ∧
    (∃ (seat : Nat) (m : Msg) (b : Bytes) (q : DealQuery) (a o : Asked) (s : State), s.calm = true ∧ s.isRunning = true ∧ answerRecords 257 m.body = [b] ∧ s.ton.queries.get (fieldAt b 32 8) = some q ∧ ((q.asked.find? fun a => a.seat == seat && a.answer.isNone && !a.dropped) = some a) ∧ ansStatus b ≤ 1 ∧ o ∈ q.asked ∧ o ≠ a ∧ o.answer = none ∧ o.dropped = false) ∧
    (∃ (m : Msg) (b : Bytes) (s : State), s.calm = true ∧ s.isRunning = true ∧ answerRecords 257 m.body = [b] ∧ s.ton.queries.get (fieldAt b 32 8) = none) ∧
    (∃ (tag : Nat) (q : DealQuery) (s : State), s.calm = true ∧ s.isRunning = true ∧ s.ton.queries.get tag = some q ∧ s.past (max (q.deadline - (s.reg Reg.QRY_MRG_MARGIN).toNat) (q.accept + 1)) = true) :=
  ⟨⟨withTbl tbl0, by decide +kernel⟩,
   ⟨withQ qs (withTbl tbl0), by decide +kernel⟩,
   ⟨1, msg 0x11 (ans 99 0), ans 99 0, dq0, asked0 1, asked0 2, withDeal run0, by decide +kernel⟩,
   ⟨msg 0x11 (ans 98 0), ans 98 0, withDeal run0, by decide +kernel⟩,
   ⟨99, dq0, (withDeal run0).setReg Reg.QRY_MRG_MARGIN 9000, by decide +kernel⟩⟩

end W05

namespace W06

/-- A region of the system, units 5 and 6, handle 9. -/
def rgnS : Region := ⟨0, .system, 2, false, false, [5, 6], 0, []⟩
/-- A command's 64 bytes: its operation and flags, wait value 4, tag 77, operands at 0, 64 KiB and 128 KiB of the region, and its parameters. -/
def cmdOf (op fl : Nat) (ps : Bytes) : Bytes :=
  [BitVec.ofNat 8 op, BitVec.ofNat 8 fl, 1, 2] ++ leBytes 4 4 ++ leBytes 2 77 ++ zeros 6 ++ (leBytes 4 9 ++ leBytes 4 0) ++ (leBytes 4 9 ++ leBytes 4 1024) ++ (leBytes 4 9 ++ leBytes 4 2048) ++
    ps ++ zeros (24 - ps.length)
def vuOf (op fn inF outF count row : Nat) : Bytes := cmdOf op 5 ([BitVec.ofNat 8 fn, BitVec.ofNat 8 inF, BitVec.ofNat 8 outF, 0] ++ leBytes 4 count ++ leBytes 4 row)
def ec (b : Bytes) : EngCmd := ⟨b, 3, .system⟩
/-- The node with the region, some bytes in it, and sequencer 3 of die 0 running. -/
def engNode : State :=
  { run0 with
    kitty := { run0.kitty with regions := [(9, rgnS)] ++ run0.kitty.regions }
    kmem := Mem.writeBytes (Mem.writeBytes [] (5 * unitBytes) ([0x40000000, 0x3F800000, 0xC0000000, 0x3F000000].flatMap (leBytes 4))) (5 * unitBytes + 65536)
      ([0x3F800000, 0x40400000, 0x3F800000, 0x3E000000].flatMap (leBytes 4))
    eng := { State.reset.eng with seqs := [(3, ⟨2, .system, [], [], [], rvReset⟩)] } }
def onUnit (c : UnitClass) (n : Nat) (e : Engine) (s : State) : State := { s with eng := { s.eng with units := s.eng.units.put (engKey c n) e } }
def onVu (b : Bytes) : State := onUnit .vu 1 { engineReset 0 with queue := [ec b] } engNode
def loadB : Bytes := cmdOf 0x10 0 [0, 0, 0, 0]
def strB : Bytes := cmdOf 0x11 0 ([0, 0] ++ leBytes 2 1 ++ [1, 3])
def drB : Bytes := cmdOf 0x12 0 ([12, 0] ++ leBytes 2 2 ++ [0, 0])
def drR : Bytes := cmdOf 0x12 0 ([0, 0] ++ leBytes 2 1 ++ [0, 4])
def drF : Bytes := cmdOf 0x12 0 ([5, 0] ++ leBytes 2 1 ++ [0, 0])
def skW : Bytes := cmdOf 0x30 0 ([1, 2, 0, 2] ++ leBytes 2 2 ++ leBytes 2 3 ++ leBytes 4 4)
def skB : Bytes := cmdOf 0x30 0 ([0, 1, 0, 0] ++ leBytes 2 2 ++ leBytes 2 3 ++ leBytes 4 4)
def w0 : WTile := ⟨1, 0, 0, false, [1, 2, 3]⟩
def optB : Bytes := vuOf 0x29 0 6 4 32 32
def optNode : State :=
  { engNode with kmem := Mem.writeBytes (Mem.writeBytes [] (5 * unitBytes) (List.replicate 32 0x38 ++ zeros 32 ++ [127])) (5 * unitBytes + 65536) ([0x3C23D70A, 0x3F666666, 0x3F7FBE77, 0x322BCC77, 0x3C23D70A, 0x3F800000, 0x3F800000].flatMap (leBytes 4)) }
def seqAt (cq : List Bytes) (s : State) : State := { s with eng := { s.eng with seqs := [(3, ⟨2, .system, [], [], cq, rvReset⟩)] } }
/-- A state with no unit kept: no unit holds a record; one unit put in it holds its own alone. -/
theorem noneHeld {s : State} (h : s.eng.units = []) (c : UnitClass) (n : Nat) : (s.engine c n).held = [] := by
  simp only [State.engine, h, Tbl.getD, Tbl.get]; rfl
theorem otherHeld {s : State} (h : s.eng.units = []) (c : UnitClass) (n : Nat) (e : Engine) (c' : UnitClass) (n' : Nat) (k : engKey c' n' ≠ engKey c n) :
    ((onUnit c n e s).engine c' n').held = [] := by
  simp only [onUnit, State.engine, h, Tbl.getD, Tbl.put, Tbl.get, if_neg k.symm]; rfl

theorem test_witness_CommandsArePostedAndComplete :
    (∃ (die sq unit : Nat) (c : UnitClass) (s : State), s.calm = true ∧ s.isRunning = true ∧ die < 8 ∧ sq < 8 ∧ unit < clsPerDie c ∧ (s.seqCore (8 * die + sq)).state = 2 ∧ s.seqStalled (8 * die + sq) = false ∧ (s.engine c (clsPerDie c * die + unit)).stalled = []) ∧
    (∃ (c : UnitClass) (n place : Nat) (r : EngRun) (s : State), s.calm = true ∧ s.isRunning = true ∧ engOk c n = true ∧ (s.engine c n).held = [] ∧ (s.engine c n).running[place]? = some r ∧ ((c = .ge → s.emb.runs.get n = none)) ∧ (s.seqCore r.cmd.sq).cq.length < 64 ∧ r.cmd.sq < 64) ∧
    (∃ (c : UnitClass) (n : Nat) (x : EngCmd) (rest : List EngCmd) (s : State), s.calm = true ∧ (s.engine c n).queue = x :: rest ∧ (s.engine c n).running = [] ∧ (s.engine c n).stalled = [] ∧ s.engAble c n = true ∧ cmdOp x.bytes ∉ opsOf c ∧ (s.engine c n).free c x.bytes = true ∧ s.cmdWaitMet (engDie c n) x = true ∧ (s.seqCore x.sq).cq.length < 64 ∧ x.sq < 64) ∧
    (∃ (die sq : Nat) (r : Bytes) (rest : List Bytes) (s : State), s.isRunning = true ∧ die < 8 ∧ sq < 8 ∧ (s.seqCore (8 * die + sq)).cq = r :: rest ∧ ((∀ c n, ∀ h ∈ (s.engine c n).held, h.sq ≠ 8 * die + sq))) ∧
    (∃ (c : UnitClass) (n sq : Nat) (h : HeldRecord) (hs : List HeldRecord) (r : Bytes) (rest : List Bytes) (s : State), s.isRunning = true ∧ engOk c n = true ∧ sq < 8 ∧ (s.engine c n).held = h :: hs ∧ h.sq = 8 * engDie c n + sq ∧ (s.seqCore h.sq).cq = r :: rest ∧ rest.length < 64 ∧ ((∀ c' n', engKey c' n' ≠ engKey c n → (s.engine c' n').held = []))) ∧
    (∃ (c : UnitClass) (n since : Nat) (x : EngCmd) (rest : List EngCmd) (s : State), (s.engine c n).queue = x :: rest ∧ (s.engine c n).ready = some since ∧ (s.engine c n).stalled = [] ∧ s.engAble c n = true ∧ s.cmdWaitMet (engDie c n) x = false ∧ s.past (since + (s.reg (Reg.CD_WAIT_LIMIT + 0x80000 * engDie c n)).toNat) = true ∧ (s.seqCore x.sq).cq.length < 64 ∧ x.sq < 64) ∧
    (∃ (die sq ctr : Nat) (s : State), s.isRunning = true ∧ die < 8 ∧ sq < 8 ∧ ctr < 64 ∧ (s.seqCore (8 * die + sq)).state = 2) ∧
    (∃ (die sq ctr : Nat) (s : State), s.isRunning = true ∧ die < 8 ∧ sq < 8 ∧ ctr < 64 ∧ (s.seqCore (8 * die + sq)).state = 2) :=
  ⟨⟨0, 3, 1, .vu, engNode, by decide +kernel⟩,
   ⟨.vu, 1, 1, ⟨ec (vuOf 0x20 0 5 5 4 4), 0, false, .whole⟩, onUnit .vu 1 { engineReset 0 with running := [⟨ec (vuOf 0x21 0 5 5 4 4), 0, false, .whole⟩, (⟨ec (vuOf 0x20 0 5 5 4 4), 0, false, .whole⟩ : EngRun)] } engNode, by decide +kernel⟩,
   ⟨.vu, 1, ec (vuOf 0x77 0 5 5 4 4), [], onUnit .vu 1 { engineReset 0 with queue := [(ec (vuOf 0x77 0 5 5 4 4) : EngCmd)] } engNode, by decide +kernel⟩,
   ⟨0, 3, zeros 16, [], seqAt [zeros 16] engNode, by decide +kernel, by decide +kernel, by decide +kernel, by decide +kernel, fun c n h m => by simp [noneHeld (s := seqAt [zeros 16] engNode) rfl c n] at m⟩,
   ⟨.vu, 1, 3, ⟨3, [1], 90000⟩, [], zeros 16, [], onUnit .vu 1 { engineReset 0 with held := [⟨3, [1], 90000⟩] } (seqAt [zeros 16] engNode), by decide +kernel, by decide +kernel, by decide +kernel, by decide +kernel, by decide +kernel, by decide +kernel, by decide +kernel, otherHeld (s := seqAt [zeros 16] engNode) rfl _ _ _⟩,
   ⟨.vu, 1, 90000, ec (cmdOf 0x20 7 []), [], (onUnit .vu 1 { engineReset 0 with queue := [(ec (cmdOf 0x20 7 []) : EngCmd)], ready := some 90000 } engNode).setReg Reg.CD_WAIT_LIMIT 9000, by decide +kernel⟩,
   ⟨0, 3, 3, engNode, by decide +kernel⟩,
   ⟨0, 3, 3, engNode, by decide +kernel⟩⟩

theorem test_witness_MatrixCommandsLoadStreamDrainAndSkew :
    (∃ (me size : Nat) (zw : Int) (x : EngCmd) (s : State), s.starts .me me 0x10 x = true ∧ operandFmt (byteAt x.bytes 40) = true ∧ byteAt x.bytes 41 ≤ 2 ∧ zw = signedOf (byteAt x.bytes 42) 8 ∧ ((isIntFmt (byteAt x.bytes 40) = true → bitOf (byteAt x.bytes 43) 0 = true ∨ zw = 0)) ∧ ((byteAt x.bytes 40 = 1 → -8 ≤ zw ∧ zw ≤ 7)) ∧ size = weightBytes (byteAt x.bytes 40) (byteAt x.bytes 41) (bitOf (byteAt x.bytes 43) 0) ∧ s.engChecks .me me x false false [(cmdHandle x.bytes 0, cmdOffset x.bytes 0, size, false)] = St.ok) ∧
    (∃ (me m size fmt bank : Nat) (za : Int) (swap clear sums : Bool) (x : EngCmd) (w : WTile) (s : State), s.calm = true ∧ s.starts .me me 0x11 x = true ∧ fmt = byteAt x.bytes 40 ∧ za = signedOf (byteAt x.bytes 41) 8 ∧ m = fieldAt x.bytes 42 2 ∧ bank = byteAt x.bytes 44 ∧ swap = bitOf (byteAt x.bytes 45) 0 ∧ clear = bitOf (byteAt x.bytes 45) 1 ∧ sums = bitOf (byteAt x.bytes 45) 2 ∧ (if swap then (s.engine .me me).shadow else (s.engine .me me).active) = some w ∧ operandFmt fmt = true ∧ pairOk w.fmt fmt = true ∧ ((isIntFmt fmt = true → sums = true ∨ za = 0)) ∧ ((fmt = 1 → -8 ≤ za ∧ za ≤ 7)) ∧ bank ≤ 1 ∧ ((clear = false → ((s.engine .me me).banks.getD bank ⟨none, []⟩).recorded = some (w.mode, isIntFmt w.fmt))) ∧ 0 < m ∧ m ≤ modeRows w.mode ∧ size = actBytes fmt (modeDepth w.mode) m sums ∧ s.engChecks .me me x false false [(cmdHandle x.bytes 0, cmdOffset x.bytes 0, size, false)] = St.ok) ∧
    (∃ (me m mode : Nat) (x : EngCmd) (words : Tbl W32) (s : State), s.starts .me me 0x12 x = true ∧ byteAt x.bytes 40 = 12 ∧ byteAt x.bytes 45 = 0 ∧ byteAt x.bytes 44 ≤ 1 ∧ (s.engine .me me).banks.getD (byteAt x.bytes 44) ⟨none, []⟩ = ⟨some (mode, true), words⟩ ∧ m = fieldAt x.bytes 42 2 ∧ 0 < m ∧ m ≤ modeRows mode ∧ s.engChecks .me me x false false [(cmdHandle x.bytes 0, cmdOffset x.bytes 0, arrayBytes 12 m (modeWidth mode), true)] = St.ok) ∧
    (∃ (me m mode wd rnd fmt : Nat) (zy : Int) (table : Bytes) (draws : List Nat) (x : EngCmd) (words : Tbl W32) (s : State), s.starts .me me 0x12 x = true ∧ fmt = byteAt x.bytes 40 ∧ fmt ≤ 1 ∧ zy = signedOf (byteAt x.bytes 41) 8 ∧ rnd = byteAt x.bytes 45 % 4 ∧ rnd ≤ 2 ∧ bitOf (byteAt x.bytes 45) 2 = true ∧ byteAt x.bytes 44 ≤ 1 ∧ (s.engine .me me).banks.getD (byteAt x.bytes 44) ⟨none, []⟩ = ⟨some (mode, true), words⟩ ∧ m = fieldAt x.bytes 42 2 ∧ 0 < m ∧ m ≤ modeRows mode ∧ wd = modeWidth mode ∧ table = s.opRead x.bytes 1 (8 * wd) ∧ ((∀ j, j < wd → byteAt table (8 * j + 4) ≤ 63)) ∧ draws = (if rnd = 2 then (rngDraws (m * wd) (s.engine .me me).rng).1 else []) ∧ s.engChecks .me me x false false [(cmdHandle x.bytes 0, cmdOffset x.bytes 0, arrayBytes fmt m wd, true), (cmdHandle x.bytes 1, cmdOffset x.bytes 1, 8 * wd, false)] = St.ok) ∧
    (∃ (me m mode rnd fmt : Nat) (draws : List Nat) (x : EngCmd) (words : Tbl W32) (s : State), s.starts .me me 0x12 x = true ∧ fmt = byteAt x.bytes 40 ∧ 2 ≤ fmt ∧ fmt ≤ 11 ∧ rnd = byteAt x.bytes 45 % 4 ∧ rnd ≤ 2 ∧ bitOf (byteAt x.bytes 45) 2 = false ∧ byteAt x.bytes 44 ≤ 1 ∧ (s.engine .me me).banks.getD (byteAt x.bytes 44) ⟨none, []⟩ = ⟨some (mode, false), words⟩ ∧ m = fieldAt x.bytes 42 2 ∧ 0 < m ∧ m ≤ modeRows mode ∧ draws = (if rnd = 2 then (rngDraws (m * modeWidth mode) (s.engine .me me).rng).1 else []) ∧ s.engChecks .me me x false false [(cmdHandle x.bytes 0, cmdOffset x.bytes 0, arrayBytes fmt m (modeWidth mode), true)] = St.ok) ∧
    (∃ (sk d rows cols stride fmt pad : Nat) (z : Int) (x : EngCmd) (s : State), s.starts .sk sk 0x30 x = true ∧ byteAt x.bytes 40 = 0 ∧ byteAt x.bytes 41 ≤ 2 ∧ d = modeDepth (byteAt x.bytes 41) ∧ fmt = byteAt x.bytes 42 ∧ operandFmt fmt = true ∧ isMx fmt = false ∧ bitOf (byteAt x.bytes 43) 0 = false ∧ rows = fieldAt x.bytes 44 2 ∧ 0 < rows ∧ cols = fieldAt x.bytes 46 2 ∧ 0 < cols ∧ cols ≤ d ∧ stride = fieldAt x.bytes 48 4 ∧ z = signedOf (byteAt x.bytes 52) 8 ∧ ((fmt = 1 → -8 ≤ z ∧ z ≤ 7)) ∧ pad = (if isIntFmt fmt then (BitVec.ofInt 8 z).toNat % 2 ^ elemBits fmt else 0) ∧ s.engChecks .sk sk x false false [(cmdHandle x.bytes 0, cmdOffset x.bytes 0, (rows - 1) * stride + arrBytes fmt cols, false), (cmdHandle x.bytes 1, cmdOffset x.bytes 1, actBytes fmt d rows false, true)] = St.ok) ∧
    (∃ (sk rows cols stride fmt pad : Nat) (tr : Bool) (z : Int) (src : Bytes) (x : EngCmd) (s : State), s.starts .sk sk 0x30 x = true ∧ byteAt x.bytes 40 = 1 ∧ byteAt x.bytes 41 ≤ 2 ∧ fmt = byteAt x.bytes 42 ∧ operandFmt fmt = true ∧ isMx fmt = false ∧ bitOf (byteAt x.bytes 43) 0 = false ∧ tr = bitOf (byteAt x.bytes 43) 1 ∧ rows = fieldAt x.bytes 44 2 ∧ 0 < rows ∧ rows ≤ modeDepth (byteAt x.bytes 41) ∧ cols = fieldAt x.bytes 46 2 ∧ 0 < cols ∧ cols ≤ modeWidth (byteAt x.bytes 41) ∧ stride = fieldAt x.bytes 48 4 ∧ z = signedOf (byteAt x.bytes 52) 8 ∧ ((fmt = 1 → -8 ≤ z ∧ z ≤ 7)) ∧ pad = (if isIntFmt fmt then (BitVec.ofInt 8 z).toNat % 2 ^ elemBits fmt else 0) ∧ src = s.opRead x.bytes 0 ((rows - 1) * stride + arrBytes fmt cols) ∧ s.engChecks .sk sk x false false [(cmdHandle x.bytes 0, cmdOffset x.bytes 0, (rows - 1) * stride + arrBytes fmt cols, false), (cmdHandle x.bytes 1, cmdOffset x.bytes 1, weightBytes fmt (byteAt x.bytes 41) false, true)] = St.ok) :=
  ⟨⟨1, 65536, 0, ec loadB, onUnit .me 1 { engineReset 0 with queue := [(ec loadB : EngCmd)] } engNode, by decide +kernel⟩,
   ⟨1, 1, actBytes 0 (modeDepth 1) 1 false, 0, 1, 0, true, true, false, ec strB, w0, onUnit .me 1 { engineReset 0 with queue := [(ec strB : EngCmd)], shadow := some w0 } engNode, by decide +kernel⟩,
   ⟨1, 2, 1, ec drB, [(1, 7)], onUnit .me 1 { engineReset 0 with queue := [(ec drB : EngCmd)], banks := [⟨some (1, true), [(1, 7)]⟩, ⟨none, []⟩] } engNode, by decide +kernel⟩,
   ⟨1, 1, 0, 256, 0, 0, 0, (onUnit .me 1 { engineReset 0 with queue := [(ec drR : EngCmd)], banks := [⟨some (0, true), [(1, 7)]⟩, ⟨none, []⟩] } engNode : State).opRead (ec drR : EngCmd).bytes 1 (8 * (256 : Nat)), [], ec drR, [(1, 7)], onUnit .me 1 { engineReset 0 with queue := [(ec drR : EngCmd)], banks := [⟨some (0, true), [(1, 7)]⟩, ⟨none, []⟩] } engNode, by decide +kernel⟩,
   ⟨1, 1, 0, 0, 5, [], ec drF, [(1, 0x3F800000)], onUnit .me 1 { engineReset 0 with queue := [(ec drF : EngCmd)], banks := [⟨some (0, false), ([(1, 0x3F800000)] : Tbl W32)⟩, ⟨none, []⟩] } engNode, by decide +kernel⟩,
   ⟨1, modeDepth 1, 2, 3, 4, 0, 0, 0, ec skB, onUnit .sk 1 { engineReset 0 with queue := [(ec skB : EngCmd)] } engNode, by decide +kernel⟩,
   ⟨1, 2, 3, 4, 0, 0, true, 0, (onUnit .sk 1 { engineReset 0 with queue := [(ec skW : EngCmd)] } engNode : State).opRead (ec skW : EngCmd).bytes 0 (((2 : Nat) - 1) * (4 : Nat) + arrBytes (0 : Nat) (3 : Nat)), ec skW, onUnit .sk 1 { engineReset 0 with queue := [(ec skW : EngCmd)] } engNode, by decide +kernel⟩⟩

theorem test_witness_VectorCommandsComputeTheirResults :
    (∃ (vu : Nat) (x : EngCmd) (s : State), s.vuTwoOk vu 0x20 x = true) ∧
    (∃ (vu : Nat) (x : EngCmd) (s : State), s.vuTwoOk vu 0x21 x = true) ∧
    (∃ (vu : Nat) (x : EngCmd) (s : State), s.vuTwoOk vu 0x22 x = true) ∧
    (∃ (vu : Nat) (x : EngCmd) (s : State), s.vuTwoOk vu 0x23 x = true) ∧
    (∃ (vu : Nat) (x : EngCmd) (s : State), s.vuOneOk vu 0x24 x (vuSize x.bytes (vuCmd x.bytes).outF) = true ∧ (vuCmd x.bytes).fn ≤ 5) ∧
    (∃ (vu : Nat) (x : EngCmd) (s : State), s.vuOneOk vu 0x25 x (vuSize x.bytes (vuCmd x.bytes).outF) = true ∧ vuRows x.bytes = true) ∧
    (∃ (vu : Nat) (x : EngCmd) (s : State), s.vuOneOk vu 0x26 x (vuSize x.bytes (vuCmd x.bytes).outF) = true ∧ vuRows x.bytes = true ∧ (vuCmd x.bytes).fn = 2) ∧
    (∃ (vu : Nat) (x : EngCmd) (s : State), s.vuOneOk vu 0x26 x (vuSize x.bytes (vuCmd x.bytes).outF) = true ∧ vuRows x.bytes = true ∧ (vuCmd x.bytes).fn ≤ 1 ∧ cmdHandle x.bytes 1 = 0) ∧
    (∃ (vu : Nat) (x : EngCmd) (s : State), s.vuWithOk vu 0x26 x (8 * (vuCmd x.bytes).row) = true ∧ vuRows x.bytes = true ∧ (vuCmd x.bytes).fn ≤ 1 ∧ cmdHandle x.bytes 1 ≠ 0) ∧
    (∃ (vu : Nat) (x : EngCmd) (s : State), s.vuOneOk vu 0x27 x (arrayBytes (vuCmd x.bytes).outF 1 (vuCmd x.bytes).shape.1) = true ∧ vuRows x.bytes = true ∧ (vuCmd x.bytes).fn ≤ 1) ∧
    (∃ (vu : Nat) (x : EngCmd) (s : State), s.vuOneOk vu 0x28 x (vuSize x.bytes (vuCmd x.bytes).outF) = true ∧ vuRows x.bytes = true ∧ (vuCmd x.bytes).fn = 1) ∧
    (∃ (vu : Nat) (x : EngCmd) (s : State), s.vuOneOk vu 0x28 x (vuSize x.bytes (vuCmd x.bytes).outF) = true ∧ vuRows x.bytes = true ∧ (vuCmd x.bytes).fn = 3 ∧ (vuCmd x.bytes).inF = 12) ∧
    (∃ (vu rows : Nat) (v : List W32) (x : EngCmd) (s : State), rows = (vuCmd x.bytes).count / (vuCmd x.bytes).row ∧ v = s.vuFloats x.bytes (rows + (vuCmd x.bytes).row) ∧ s.vuWithOk vu 0x28 x (4 * (rows + (vuCmd x.bytes).row)) = true ∧ vuRows x.bytes = true ∧ (vuCmd x.bytes).fn = 0) ∧
    (∃ (vu : Nat) (x : EngCmd) (s : State), s.vuOneOk vu 0x2A x (vuSize x.bytes (vuCmd x.bytes).outF) = true) ∧
    (∃ (vu n : Nat) (x : EngCmd) (res : List OptBlock × W64) (blk : Bytes) (s : State), s.starts .vu vu 0x29 x = true ∧ n = (vuCmd x.bytes).count ∧ n ≠ 0 ∧ n % 32 = 0 ∧ (vuCmd x.bytes).row = n ∧ (vuCmd x.bytes).fn ≤ 1 ∧ ((vuCmd x.bytes).inF = 6 ∨ (vuCmd x.bytes).inF = 7) ∧ (vuCmd x.bytes).outF = 4 ∧ s.engChecks .vu vu x false false [(cmdHandle x.bytes 0, cmdOffset x.bytes 0, mxBytes (vuCmd x.bytes).inF 1 n, false), (cmdHandle x.bytes 1, cmdOffset x.bytes 1, 64 + 64 * ((mxBytes 11 1 n + 63) / 64) + mxBytes 11 1 n, true), (cmdHandle x.bytes 2, cmdOffset x.bytes 2, 2 * n, true)] = St.ok ∧ (optHead (s.opRead x.bytes 1 64)).ok (vuCmd x.bytes).fn = true ∧ blk = s.opRead x.bytes 1 (64 + 64 * ((mxBytes 11 1 n + 63) / 64) + mxBytes 11 1 n) ∧ res = optBlocks (vuCmd x.bytes).fn (vuCmd x.bytes).inF (optHead (s.opRead x.bytes 1 64)) (s.opRead x.bytes 0 (mxBytes (vuCmd x.bytes).inF 1 n)) (s.opRead x.bytes 2 (2 * n)) (sliceAt blk 64 (mxBytes 11 1 n)) (sliceAt blk (64 + 64 * ((mxBytes 11 1 n + 63) / 64)) (mxBytes 11 1 n)) n (n / 32) 0 (s.engine .vu vu).rng) :=
  ⟨⟨1, ec (vuOf 0x20 0 5 5 4 2), onVu (ec (vuOf 0x20 0 5 5 4 2) : EngCmd).bytes, by decide +kernel⟩,
   ⟨1, ec (vuOf 0x21 0 5 5 4 2), onVu (ec (vuOf 0x21 0 5 5 4 2) : EngCmd).bytes, by decide +kernel⟩,
   ⟨1, ec (vuOf 0x22 0 5 5 4 2), onVu (ec (vuOf 0x22 0 5 5 4 2) : EngCmd).bytes, by decide +kernel⟩,
   ⟨1, ec (vuOf 0x23 0 5 5 4 2), onVu (ec (vuOf 0x23 0 5 5 4 2) : EngCmd).bytes, by decide +kernel⟩,
   ⟨1, ec (vuOf 0x24 4 5 5 4 2), onVu (ec (vuOf 0x24 4 5 5 4 2) : EngCmd).bytes, by decide +kernel⟩,
   ⟨1, ec (vuOf 0x25 0 5 5 4 2), onVu (ec (vuOf 0x25 0 5 5 4 2) : EngCmd).bytes, by decide +kernel⟩,
   ⟨1, ec (vuOf 0x26 2 5 5 4 2), onVu (ec (vuOf 0x26 2 5 5 4 2) : EngCmd).bytes, by decide +kernel⟩,
   ⟨1, ec (patch (vuOf 0x26 1 5 5 4 2) 24 (zeros 8)), onVu (ec (patch (vuOf 0x26 1 5 5 4 2) 24 (zeros 8)) : EngCmd).bytes, by decide +kernel⟩,
   ⟨1, ec (vuOf 0x26 0 5 5 4 2), onVu (ec (vuOf 0x26 0 5 5 4 2) : EngCmd).bytes, by decide +kernel⟩,
   ⟨1, ec (vuOf 0x27 0 5 5 4 2), onVu (ec (vuOf 0x27 0 5 5 4 2) : EngCmd).bytes, by decide +kernel⟩,
   ⟨1, ec (vuOf 0x28 1 5 5 4 2), onVu (ec (vuOf 0x28 1 5 5 4 2) : EngCmd).bytes, by decide +kernel⟩,
   ⟨1, ec (vuOf 0x28 3 12 5 4 2), onVu (ec (vuOf 0x28 3 12 5 4 2) : EngCmd).bytes, by decide +kernel⟩,
   ⟨1, 2, (onVu (ec (vuOf 0x28 0 5 5 4 2) : EngCmd).bytes : State).vuFloats (ec (vuOf 0x28 0 5 5 4 2) : EngCmd).bytes 4, ec (vuOf 0x28 0 5 5 4 2), onVu (ec (vuOf 0x28 0 5 5 4 2) : EngCmd).bytes, by decide +kernel⟩,
   ⟨1, ec (vuOf 0x2A 0 5 4 4 2), onVu (ec (vuOf 0x2A 0 5 4 4 2) : EngCmd).bytes, by decide +kernel⟩,
   ⟨1, 32, ec optB, optBlocks (vuCmd (ec optB : EngCmd).bytes).fn (vuCmd (ec optB : EngCmd).bytes).inF (optHead ((onUnit .vu 1 { engineReset 0 with queue := [(ec optB : EngCmd)] } optNode : State).opRead (ec optB : EngCmd).bytes 1 64)) ((onUnit .vu 1 { engineReset 0 with queue := [(ec optB : EngCmd)] } optNode : State).opRead (ec optB : EngCmd).bytes 0 (mxBytes (vuCmd (ec optB : EngCmd).bytes).inF 1 (32 : Nat))) ((onUnit .vu 1 { engineReset 0 with queue := [(ec optB : EngCmd)] } optNode : State).opRead (ec optB : EngCmd).bytes 2 (2 * (32 : Nat))) (sliceAt ((onUnit .vu 1 { engineReset 0 with queue := [(ec optB : EngCmd)] } optNode : State).opRead (ec optB : EngCmd).bytes 1 (64 + 64 * ((mxBytes 11 1 (32 : Nat) + 63) / 64) + mxBytes 11 1 (32 : Nat)) : Bytes) 64 (mxBytes 11 1 (32 : Nat))) (sliceAt ((onUnit .vu 1 { engineReset 0 with queue := [(ec optB : EngCmd)] } optNode : State).opRead (ec optB : EngCmd).bytes 1 (64 + 64 * ((mxBytes 11 1 (32 : Nat) + 63) / 64) + mxBytes 11 1 (32 : Nat)) : Bytes) (64 + 64 * ((mxBytes 11 1 (32 : Nat) + 63) / 64)) (mxBytes 11 1 (32 : Nat))) (32 : Nat) ((32 : Nat) / 32) 0 ((onUnit .vu 1 { engineReset 0 with queue := [(ec optB : EngCmd)] } optNode : State).engine .vu (1 : Nat)).rng, (onUnit .vu 1 { engineReset 0 with queue := [(ec optB : EngCmd)] } optNode : State).opRead (ec optB : EngCmd).bytes 1 (64 + 64 * ((mxBytes 11 1 (32 : Nat) + 63) / 64) + mxBytes 11 1 (32 : Nat)), onUnit .vu 1 { engineReset 0 with queue := [(ec optB : EngCmd)] } optNode, by decide +kernel, by decide +kernel, by decide +kernel, by decide +kernel, by decide +kernel, by decide +kernel, by decide +kernel, by decide +kernel, by decide +kernel, by decide +kernel, rfl, rfl⟩⟩

theorem test_witness_SequencersAndUnitsChangeHands :
    (∃ (die sq : Nat) (o : Owner) (s : State), s.isRunning = true ∧ die < 8 ∧ sq < 8 ∧ ((∀ n, o ≠ .tenant n)) ∧ s.isRetired 10 (8 * die + sq) = false) ∧
    (∃ (die sq : Nat) (s : State), s.calm = true ∧ s.isRunning = true ∧ die < 8 ∧ sq < 8 ∧ (s.seqCore (8 * die + sq)).state = 2) ∧
    (∃ (c : UnitClass) (n : Nat) (o : Owner) (s : State), (s.engine c n).clearing = some o ∧ (s.engine c n).stalled = []) :=
  ⟨⟨0, 3, .comp 2, engNode, by decide +kernel, by decide +kernel, by decide +kernel, fun _ => nofun, by decide +kernel⟩,
   ⟨0, 3, onVu (vuOf 0x20 0 5 5 4 4), by decide +kernel⟩,
   ⟨.vu, 1, .comp 2, onUnit .vu 1 { engineReset 0 with clearing := some (.comp 2) } engNode, by decide +kernel⟩⟩

end W06

namespace W07

theorem notAway {o : Option RelocKind} (h : o = none) : ∀ seat, o ≠ some (.away seat) := fun _ e => by simp [h] at e
/-- A region of the system, units 5 and 6, handle 9; a spill region of tenant 7, number 8, with a tree in region 10. -/
def rgnS : Region := ⟨0, .system, 2, false, false, [5, 6], 0, []⟩
def rgnK : Region := ⟨0, .comp 2, 2, false, true, [11], 4, []⟩
def rgnT : Region := ⟨0, .comp 2, 3, false, false, [12], 0, []⟩
def rgnD : Region := ⟨0, .comp 2, 2, false, false, [13], 0, []⟩
def tree0 : KvTree := ⟨8, 10, 4, 1, 1, [], 0, [1, 0, 0, 0, 0, 0, 0, 0], none⟩
/-- A request of the KV service: operation, counter of die 0, parent, count, and its two regions. -/
def kvReq (op parent count o2 : Nat) : Bytes :=
  [BitVec.ofNat 8 op, 0, 0, 0, 0, 3, 0, 0] ++ leBytes 4 parent ++ leBytes 4 count ++ leBytes 4 11 ++ leBytes 4 0 ++ leBytes 4 11 ++ leBytes 4 o2 ++ zeros 32
/-- Bytes at an address, as a memory holds them. -/
def cells (a : Nat) (b : Bytes) : Mem := (b.mapIdx fun i x => (a + i, x)).filter fun e => e.2 != 0
def kvNode (t : KvTree) (req : Bytes) (data : Bytes) : State :=
  { run0 with
    kitty := { run0.kitty with regions := [(8, rgnK), (9, rgnS), (10, rgnT), (11, rgnD)] ++ run0.kitty.regions, units := [(12, .allocated)] }
    kv := [(8, t)]
    eng := { State.reset.eng with seqs := [(0, ⟨2, .comp 2, [], [], [], rvReset⟩)] }
    quota := ⟨[(quotaKey (.comp 2) 0, 4)], [], []⟩
    kmem := (12 * unitBytes, 1) :: (cells (12 * unitBytes + 128) req ++ cells (13 * unitBytes) data) }
def withNode (s : State) : State := { s with kmem := Mem.writeBytes s.kmem (12 * unitBytes + tree0.at 2 + 12) [1] }
/-- Its page reference stands behind its tokens. -/
def kvIns : Bytes := zeros 256 ++ ([8, 0, 0, 0, 64, 1] ++ zeros 2)
/-- An embedding table of 100 rows of 64 bytes with 16 spare slots, at milepost 7. -/
def emb0 : EmbTable := ⟨1, 64, 10, 100, 1, 2, 7, 0, 0, 0, 0, none, none⟩
def epd (a n : Nat) : PlaceDesc := ⟨4, 1, false, false, 2, false, .system, n, [⟨a, n⟩], false⟩
def cmdOf (op fl : Nat) (ps : Bytes) : Bytes :=
  [BitVec.ofNat 8 op, BitVec.ofNat 8 fl, 1, 2] ++ leBytes 4 4 ++ leBytes 2 77 ++ zeros 6 ++ (leBytes 4 9 ++ leBytes 4 0) ++ (leBytes 4 9 ++ leBytes 4 1024) ++ (leBytes 4 9 ++ leBytes 4 2048) ++
    ps ++ zeros (24 - ps.length)
def ec (b : Bytes) : EngCmd := ⟨b, 3, .system⟩
def gBytes (op n : Nat) : Bytes := cmdOf op 0 (leBytes 2 5 ++ [0, 0] ++ leBytes 4 n ++ leBytes 4 64)
def embNode (d : Bytes) : State :=
  { run0 with
    kitty := { run0.kitty with regions := [(9, rgnS)] ++ run0.kitty.regions }
    kmem := Mem.writeBytes (Mem.writeBytes [] (5 * unitBytes) d) (5 * unitBytes + 65536) [1, 2, 3]
    smem := Mem.writeBytes [] (sb + 64 * 50) [9, 8, 7]
    pds := [(1, epd sb 6400), (2, epd (sb + 0x10000) 1024), (3, epd (sb + 0x20000) 6400)]
    emb := { State.reset.emb with tables := [(5, emb0)] }
    eng := { State.reset.eng with seqs := [(3, ⟨2, .system, [], [], [], rvReset⟩)] } }
def onGe (b : Bytes) (s : State) : State := { s with eng := { s.eng with units := [(engKey .ge 1, { engineReset 0 with queue := [ec b] })] } }
def run1 (sc : Bool) : GatherRun := ⟨sc, ec (gBytes 0x40 3), 5, 3, 64, false, 7, 3, [], [], 0, none⟩
def withGr (r : GatherRun) (s : State) : State := { s with emb := { s.emb with runs := [(1, r)] } }
def mv0 : RowMove := ⟨5, [50], none, false, .copy, [0], some 2, false, 0, [], 1, [], none, [], []⟩
def withMv (m : RowMove) (s : State) : State := { s with emb := { s.emb with moves := [(0, m)] } }
def embDesc : Bytes := leBytes 2 6 ++ leBytes 2 64 ++ [10, 0, 0, 0] ++ leBytes 8 100 ++ leBytes 4 3 ++ zeros 44
def pdBytes : Bytes := [4, 1, 4, 1, 0, 0, 0, 0] ++ leBytes 8 4096 ++ zeros 48 ++ leBytes 8 (sb + 0x800000) ++ leBytes 8 4096
/-- A map that puts table 5 at seats 1 and 2. -/
def map0 : Bytes :=
  [0, 1] ++ leBytes 2 1 ++ [2, 0, 255, 0] ++ leBytes 8 3 ++ leBytes 4 1 ++ leBytes 4 168 ++ zeros 40 ++ ([0, 1] ++ leBytes 2 1 ++ zeros 28) ++ ([0, 1] ++ leBytes 2 2 ++ zeros 28) ++
    [255, 255, 255, 255, 2, 255, 255, 255, 3, 255, 255, 255, 255, 255, 255, 255] ++ leBytes 2 5 ++ [1] ++ zeros 5 ++ leBytes 2 0 ++ leBytes 2 65535 ++ zeros 4 ++ leBytes 8 3
def seated (s : State) : State := { s.setReg Reg.LINK_IDENT 0x00010000 with ton := { s.ton with cur := some map0 } }

theorem test_witness_PlacementAndTreeCommands :
    (∃ (slot n : Nat) (a0 a1 : W32) (d : PlaceDesc) (b s : State), s.calm = true ∧ s.slotIdle .pcmd slot = true ∧ b = s.begun .pcmd slot 1 [(0, a0), (1, a1)] none ∧ b.pdCheck (fld a0 31 16) (64 * a1.toNat) = (St.ok, d) ∧ s.pds.lowestFree 1 65535 = some n) ∧
    (∃ (slot : Nat) (a0 : W32) (b s : State), s.calm = true ∧ s.slotIdle .pcmd slot = true ∧ b = s.begun .pcmd slot 2 [(0, a0)] none ∧ s.pds.has (a0.toNat % 65536) = true ∧ b.pdNamed (a0.toNat % 65536) = false ∧ idxNames (a0.toNat % 65536) b = false) ∧
    (∃ (slot num tn cap l ns units : Nat) (a0 a2 a3 : W32) (rg : Region) (s : State), s.calm = true ∧ s.slotIdle .pcmd slot = true ∧ num = a0.toNat % 4096 ∧ cap = fld a2 31 16 ∧ l = fld a2 8 0 ∧ s.kitty.regions.get num = some rg ∧ rg.spill = true ∧ 0 < cap ∧ 0 < l ∧ l ≤ 256 ∧ 0 < fld a3 30 24 ∧ fld a3 30 24 ≤ 64 ∧ 16 ≤ fld a3 16 8 ∧ fld a3 16 8 ≤ 256 ∧ fld a3 16 8 % 16 = 0 ∧ 2 ≤ fld a3 3 0 ∧ fld a3 3 0 ≤ 4 ∧ ns = (128 * fld a3 30 24 * fld a3 16 8 * (if fld a3 3 0 = 4 then 2 else 1) + 65535) / 65536 ∧ ns ≤ 16 ∧ units = (64 * 8 * 66 + (cap + 1) * recBytes l + unitBytes - 1) / unitBytes ∧ s.quotaAdmits rg.owner 0 (s.unitUse rg.owner) units = true ∧ units ≤ (s.offer (List.range 24)).length ∧ s.freeNumber = some tn ∧ s.kv.has num = false) ∧
    (∃ (slot : Nat) (a0 : W32) (tr : KvTree) (s : State), s.calm = true ∧ s.slotIdle .pcmd slot = true ∧ s.kv.get (a0.toNat % 4096) = some tr ∧ tr.live = []) ∧
    (∃ (slot i : Nat) (a0 : W32) (tr : KvTree) (s : State), s.calm = true ∧ s.slotIdle .pcmd slot = true ∧ s.kv.get (a0.toNat % 4096) = some tr ∧ i ∈ tr.live ∧ s.nodeRefs tr i ≠ 0) :=
  ⟨⟨2, 4, 0x90000, 0, (((embNode pdBytes : State).begun .pcmd (2 : Nat) 1 [(0, (0x90000 : W32)), (1, (0 : W32))] none : State).pdCheck 9 0).2, (embNode pdBytes : State).begun .pcmd (2 : Nat) 1 [(0, (0x90000 : W32)), (1, (0 : W32))] none, embNode pdBytes, by decide +kernel⟩,
   ⟨2, 3, (embNode [] : State).begun .pcmd (2 : Nat) 2 [(0, (3 : W32))] none, embNode [], by decide +kernel⟩,
   ⟨2, 8, 1, 4, 1, 1, 1, 8, 0x40001, 0x01001002, rgnK, { kvNode tree0 [] [] with kv := [] }, by decide +kernel⟩,
   ⟨2, 8, tree0, kvNode tree0 [] [], by decide +kernel⟩,
   ⟨2, 2, 8, { tree0 with live := [2] }, withNode (kvNode ({ tree0 with live := [2] } : KvTree) [] []), by decide +kernel⟩⟩

theorem test_witness_KvServiceServesRequests :
    (∃ (n : Nat) (tr tr' : KvTree) (s : State), s.isRunning = true ∧ s.kv.get n = some tr ∧ (tr' = { tr with seen := (List.range 8).map fun c => s.kvIndex tr c 0 }) ∧ ((∀ c, s.kvNext tr' = some c → 1 ≤ byteAt (s.treeRead tr' (s.kvEntryAt tr' c) 64) 0 ∧ byteAt (s.treeRead tr' (s.kvEntryAt tr' c) 64) 0 ≤ 3))) ∧
    (∃ (n c count : Nat) (tr : KvTree) (b src : Bytes) (s : State), s.kvAsks n 1 c tr b = true ∧ count = fieldAt b 12 4 ∧ count ≤ 1024 ∧ r21 (s.kvChecks tr b (256 * count) (some (4 * count, true))) = St.ok ∧ s.handleRead (fieldAt b 16 2) (64 * fieldAt b 20 4) (256 * count) = some src) ∧
    (∃ (n c i : Nat) (tr : KvTree) (b tokens refs : Bytes) (s : State), s.kvAsks n 2 c tr b = true ∧ fieldAt b 12 4 = 1 ∧ ((fieldAt b 8 4 = 0 ∨ fieldAt b 8 4 ∈ tr.live)) ∧ r21 (s.kvChecks tr b 256 (some (8 * tr.layers, false))) = St.ok ∧ s.handleRead (fieldAt b 16 2) (64 * fieldAt b 20 4) 256 = some tokens ∧ s.handleRead (fieldAt b 24 2) (64 * fieldAt b 28 4) (8 * tr.layers) = some refs ∧ ((∀ l, l < tr.layers → refOk tr (sliceAt refs (8 * l) 8) = true)) ∧ s.findNode tr (fieldAt b 8 4) tokens = none ∧ tr.live.length < tr.cap ∧ ((((List.range tr.cap).map (· + 1)).find? fun i => !tr.live.contains i) = some i)) ∧
    (∃ (n c i : Nat) (tr : KvTree) (b src : Bytes) (s : State), s.calm = true ∧ s.kvAsks n 3 c tr b = true ∧ tr.freeSlot = none ∧ fieldAt b 12 4 = 1 ∧ r21 (s.kvChecks tr b 4 none) = St.ok ∧ s.handleRead (fieldAt b 16 2) (64 * fieldAt b 20 4) 4 = some src ∧ i = fieldAt src 0 4 ∧ i ∈ tr.live ∧ s.nodeRefs tr i ≠ 0) :=
  ⟨⟨8, { tree0 with seen := [0] }, { ({ tree0 with seen := [0] } : KvTree) with seen := (List.range 8).map fun c => (kvNode ({ tree0 with seen := [0] } : KvTree) (kvReq 1 0 1 8) [] : State).kvIndex ({ tree0 with seen := [0] } : KvTree) c 0 }, kvNode ({ tree0 with seen := [0] } : KvTree) (kvReq 1 0 1 8) [], by decide +kernel⟩,
   ⟨8, 0, 1, tree0, kvReq 1 0 1 8, ((kvNode (tree0 : KvTree) (kvReq 1 0 1 8 : Bytes) kvIns : State).handleRead 11 0 256).getD [], kvNode (tree0 : KvTree) (kvReq 1 0 1 8 : Bytes) kvIns, by decide +kernel⟩,
   ⟨8, 0, 1, tree0, kvReq 2 0 1 4, ((kvNode (tree0 : KvTree) (kvReq 2 0 1 4 : Bytes) kvIns : State).handleRead 11 0 256).getD [], ((kvNode (tree0 : KvTree) (kvReq 2 0 1 4 : Bytes) kvIns : State).handleRead 11 256 8).getD [], kvNode (tree0 : KvTree) (kvReq 2 0 1 4 : Bytes) kvIns, by decide +kernel⟩,
   ⟨8, 0, 2, { tree0 with live := [2] }, kvReq 3 0 1 4, ((withNode (kvNode ({ tree0 with live := [2] } : KvTree) (kvReq 3 0 1 4 : Bytes) [2]) : State).handleRead 11 0 4).getD [], withNode (kvNode ({ tree0 with live := [2] } : KvTree) (kvReq 3 0 1 4 : Bytes) [2]), by decide +kernel⟩⟩

theorem test_witness_GatherEnginesReadAndWriteRows :
    (∃ (ge row : Nat) (x : EngCmd) (tb : EmbTable) (s : State), s.calm = true ∧ s.gatherFits false ge x tb = true ∧ fieldAt x.bytes 44 4 = 1 ∧ row = s.firstRow x ∧ row < tb.rows ∧ row ≠ (if bitOf (byteAt x.bytes 42) 0 then 2 ^ 64 - 1 else 2 ^ 32 - 1) ∧ ((∀ seat, s.rowKind (fieldAt x.bytes 40 2) row (tb.pinAt s.cycle) ≠ some (.away seat)))) ∧
    (∃ (ge row o : Nat) (x : EngCmd) (tb : EmbTable) (d : PlaceDesc) (s : State), s.calm = true ∧ ge < 16 ∧ s.gatherFits true ge x tb = true ∧ tb.pinAt s.cycle = tb.milepost ∧ fieldAt x.bytes 44 4 = 1 ∧ row = s.firstRow x ∧ row < tb.rows ∧ row ≠ (if bitOf (byteAt x.bytes 42) 0 then 2 ^ 64 - 1 else 2 ^ 32 - 1) ∧ ((∀ seat, s.rowKind (fieldAt x.bytes 40 2) row tb.milepost ≠ some (.away seat))) ∧ ((∀ seat, (s.reloc (fieldAt x.bytes 40 2) row).map Reloc.kind ≠ some (.away seat))) ∧ s.rowMoving (fieldAt x.bytes 40 2) row = none ∧ s.rowPlace tb row (s.rowKind (fieldAt x.bytes 40 2) row tb.milepost) = some (d, o) ∧ d.lost = false ∧ d.tier ≠ 2 ∧ tb.dropSlot = none) ∧
    (∃ (ge id i : Nat) (r : GatherRun) (d : RowRead) (tb : EmbTable) (g : Region) (row : Bytes) (s : State), s.calm = true ∧ s.emb.runs.get ge = some r ∧ r.reads = [d] ∧ d.id = id ∧ d.positions = [i] ∧ r.next = r.count ∧ r.codes.length + 1 < r.count ∧ r.scatter = false ∧ r.remote = none ∧ s.emb.tables.get r.table = some tb ∧ s.rowRead r.table tb d.row d.kind = some row ∧ s.region (cmdHandle r.cmd.bytes 1) = some g) ∧
    (∃ (ge id i : Nat) (r : GatherRun) (d : RowRead) (tb : EmbTable) (g : Region) (s : State), s.calm = true ∧ s.emb.runs.get ge = some r ∧ r.reads = [d] ∧ d.id = id ∧ d.positions = [i] ∧ r.next = r.count ∧ r.codes.length + 1 < r.count ∧ r.scatter = false ∧ r.remote = none ∧ s.emb.tables.get r.table = some tb ∧ s.region (cmdHandle r.cmd.bytes 1) = some g) ∧
    (∃ (ge k : Nat) (m : RowMove) (h : HeldWrite) (r : GatherRun) (s : State), s.calm = true ∧ s.emb.moves = [(k, m)] ∧ m.held = [h] ∧ h.ge = ge ∧ s.past (h.since + (s.reg Reg.IDX_UPD_WAIT).toNat) = true ∧ s.emb.runs.get ge = some r ∧ r.scatter = true ∧ r.remote = none ∧ r.codes.length + 1 < r.count) ∧
    (∃ (s : State), s.isRunning = true ∧ s.emb.windowStart + (s.reg Reg.STACK_EMB_SKEW_WIN).toNat ≤ s.now) :=
  ⟨⟨1, 50, ec (gBytes 0x40 1), emb0, onGe (ec (gBytes 0x40 1) : EngCmd).bytes (embNode [50]), by decide +kernel, by decide +kernel, by decide +kernel, by decide +kernel, by decide +kernel, by decide +kernel, notAway (by decide +kernel)⟩,
   ⟨1, 50, 3200, ec (gBytes 0x41 1), emb0, epd sb 6400, onGe (ec (gBytes 0x41 1) : EngCmd).bytes (embNode [50]), by decide +kernel, by decide +kernel, by decide +kernel, by decide +kernel, by decide +kernel, by decide +kernel, by decide +kernel, by decide +kernel, notAway (by decide +kernel), notAway (by decide +kernel), by decide +kernel, by decide +kernel, by decide +kernel, by decide +kernel, by decide +kernel⟩,
   ⟨1, 4, 0, { run1 false with reads := [⟨4, 50, none, [0], false⟩] }, ⟨4, 50, none, [0], false⟩, emb0, rgnS, ((withGr ({ run1 false with reads := [⟨4, 50, none, [0], false⟩] } : GatherRun) (embNode []) : State).rowRead 5 (emb0 : EmbTable) 50 none).getD [], withGr ({ run1 false with reads := [⟨4, 50, none, [0], false⟩] } : GatherRun) (embNode []), by decide +kernel⟩,
   ⟨1, 4, 0, { run1 false with reads := [⟨4, 50, none, [0], false⟩] }, ⟨4, 50, none, [0], false⟩, emb0, rgnS, withGr ({ run1 false with reads := [⟨4, 50, none, [0], false⟩] } : GatherRun) (embNode []), by decide +kernel⟩,
   ⟨1, 0, { mv0 with holding := true, held := [(⟨1, 0, 50, [1], 90000⟩ : HeldWrite)] }, ⟨1, 0, 50, [1], 90000⟩, run1 true, (withMv ({ mv0 with holding := true, held := [(⟨1, 0, 50, [1], 90000⟩ : HeldWrite)] } : RowMove) (withGr (run1 true : GatherRun) (embNode []))).setReg Reg.IDX_UPD_WAIT 9000, by decide +kernel⟩,
   ⟨{ embNode [] with emb := { (embNode []).emb with hotNow := [(1, [⟨5, 3, 1⟩, ⟨5, 4, 2⟩])], shardNow := [(7, (1, 2))] } }.setReg Reg.STACK_EMB_SKEW_WIN 1000, by decide +kernel⟩⟩

theorem test_witness_EmbeddingTablesAndRowMoves :
    (∃ (slot id rows : Nat) (a0 a1 : W32) (d : Bytes) (pr : PlaceDesc) (s : State), s.calm = true ∧ s.slotFree .emb slot = true ∧ id = fld a0 9 0 ∧ s.handleRead (fld a0 31 16) (64 * a1.toNat) 64 = some d ∧ fieldAt d 0 2 = id ∧ s.pds.get (fieldAt d 16 4) = some pr ∧ pr.kind = 4 ∧ ((fieldAt d 20 4 = 0 ∨ ∃ q, s.pds.get (fieldAt d 20 4) = some q ∧ q.kind = 4 ∧ q.tier = 1)) ∧ 16 ≤ fieldAt d 2 2 ∧ fieldAt d 2 2 ≤ 4096 ∧ fieldAt d 2 2 % 16 = 0 ∧ 10 ≤ byteAt d 4 ∧ byteAt d 4 ≤ 30 ∧ rows = fieldAt d 8 8 ∧ 0 < rows ∧ rows ≤ 2 ^ 36 ∧ (rows + 2 ^ byteAt d 4 - 1) / 2 ^ byteAt d 4 ≤ 65536 ∧ rowsSpan (pr.tier == 2) (fieldAt d 2 2) rows ≤ pr.length ∧ s.emb.tables.has id = false ∧ s.embNamed slot id = false) ∧
    (∃ (slot id : Nat) (a0 : W32) (tb : EmbTable) (s : State), s.calm = true ∧ s.slotFree .emb slot = true ∧ id = fld a0 9 0 ∧ s.emb.tables.get id = some tb ∧ tb.state = 1 ∧ s.embNamed slot id = false ∧ ((∀ r ∈ s.emb.runs, r.2.table ≠ id))) ∧
    (∃ (slot id row i k : Nat) (a0 a1 a2 : W32) (tb : EmbTable) (dsp : PlaceDesc) (rest : List Nat) (d : Bytes) (s : State), s.calm = true ∧ s.slotFree .emb slot = true ∧ id = fld a0 9 0 ∧ fld a2 12 0 = 1 ∧ s.handleRead (fld a0 31 16) (64 * a1.toNat) 8 = some d ∧ row = fieldAt d 0 8 ∧ s.movable slot id tb [row] = true ∧ s.freeSlots id tb = i :: rest ∧ s.emb.moves.lowestFree 0 256 = some k ∧ s.pds.get tb.pdSpare = some dsp ∧ dsp.tier ≠ 2 ∧ dsp.lost = false) ∧
    (∃ (k slot : Nat) (m : RowMove) (tb : EmbTable) (s : State), s.calm = true ∧ s.emb.moves.get k = some m ∧ m.seat = none ∧ m.committed = none ∧ m.held = [] ∧ m.cmdSlot = some slot ∧ s.slotHas .emb slot 3 (.other 2 k 0) = true ∧ s.emb.tables.get m.table = some tb) ∧
    (∃ (slot id k seat : Nat) (a0 a1 a2 : W32) (tb : EmbTable) (rows : List Nat) (d : Bytes) (b s : State), s.calm = true ∧ s.slotFree .emb slot = true ∧ id = fld a0 9 0 ∧ s.handleRead (fld a0 31 16) (64 * a1.toNat) (8 * fld a2 12 0) = some d ∧ fld a2 12 0 ≤ 4096 ∧ (rows = (List.range (fld a2 12 0)).map (fun i => fieldAt d (8 * i) 8)) ∧ s.movable slot id tb rows = true ∧ seat = fld a2 31 24 ∧ b = s.begun .emb slot 4 [(0, a0), (1, a1), (2, a2)] none ∧ b.seatOther seat = true ∧ s.emb.moves.lowestFree 0 256 = some k) ∧
    (∃ (slot slot' k : Nat) (a2 : W32) (m : RowMove) (s : State), s.calm = true ∧ s.slotFree .emb slot = true ∧ k = fld a2 23 16 ∧ s.emb.moves.get k = some m ∧ m.seat = none ∧ m.dest = false ∧ m.committed = none ∧ m.phase = .copy ∧ m.held = [] ∧ m.cmdSlot = some slot' ∧ s.slotHas .emb slot' 3 (.other 2 k 0) = true) :=
  ⟨⟨2, 6, 100, 0x90006, 0, embDesc, epd (sb + 0x20000) 6400, embNode embDesc, by decide +kernel⟩,
   ⟨2, 5, 5, emb0, { embNode [] with emb := { (embNode []).emb with relocs := [⟨5, 3, .hot 1, 6, none⟩] } }, by decide +kernel⟩,
   ⟨2, 5, 50, 0, 0, 0x90005, 0, 1, emb0, epd (sb + 0x10000) 1024, (List.range 15).map (· + 1), leBytes 8 50, embNode [50], by decide +kernel⟩,
   ⟨0, 2, mv0, emb0, withRun .emb 2 3 (.other 2 0 0) (withMv mv0 (embNode [])), by decide +kernel⟩,
   ⟨2, 5, 0, 1, 0x90005, 0, 0x01000001, emb0, [50], leBytes 8 50, (seated (embNode [50]) : State).begun .emb (2 : Nat) 4 [(0, (0x90005 : W32)), (1, (0 : W32)), (2, (0x01000001 : W32))] none, seated (embNode [50]), by decide +kernel⟩,
   ⟨1, 2, 0, 0, mv0, withRun .emb 2 3 (.other 2 0 0) (withMv mv0 (embNode [])), by decide +kernel⟩⟩

theorem test_witness_StackSelectorsShowTheSelected :
    (∃ (s : State), s.isRunning = true) ∧
    (∃ (s : State), s.isRunning = true) ∧
    (∃ (s : State), s.isRunning = true) ∧
    (∃ (s : State), s.isRunning = true) ∧
    (∃ (s : State), s.isRunning = true) ∧
    (∃ (s : State), s.isRunning = true) :=
  ⟨⟨embNode [], by decide +kernel⟩,
   ⟨kvNode tree0 [] [], by decide +kernel⟩,
   ⟨embNode [], by decide +kernel⟩,
   ⟨{ embNode [] with emb := { (embNode []).emb with shardLast := [(0x50000, (3, 4))] } }, by decide +kernel⟩,
   ⟨{ embNode [] with emb := { (embNode []).emb with hotLast := [(0, [⟨5, 3, 9⟩])] } }, by decide +kernel⟩,
   ⟨{ embNode [] with emb := { (embNode []).emb with owners := [(0x40000007, [1, 2, 3, 4])] } }, by decide +kernel⟩⟩

end W07

namespace W08

/-- A region of the system, units 5 and 6, handle 9, with a request ring at its start. -/
def rgnS : Region := ⟨0, .system, 2, false, false, [5, 6], 0, []⟩
def ring0 : MediaRing := ⟨9, 0, .system, 0, [], none⟩
/-- A raw request at 1 MiB of logical flash, its data region at line 1024. -/
def mreq (op : Nat) : Bytes := [BitVec.ofNat 8 op, 1, 0, 0, 255, 0, 4, 0] ++ zeros 4 ++ leBytes 4 1 ++ leBytes 8 0x100000 ++ leBytes 4 9 ++ leBytes 4 1024 ++ zeros 32
def schema0 : Bytes := [1, 0, 2, 0] ++ zeros 12 ++ [2] ++ zeros 15
def pp (b n : Nat) : Nat := mkPpa 8 0 b n
def page0 (p x q : Nat) : FlashPage := pageFor p x q (.data [(0, 7), (5, 8)])
/-- Media in service: target 0 of every channel, the map's recovery mode 1. -/
def mnode (e : Bytes) : State :=
  let s : State := { run0 with
    kitty := { run0.kitty with regions := [(9, rgnS)] ++ run0.kitty.regions }
    kmem := Mem.writeBytes (Mem.writeBytes [] (5 * unitBytes) [1]) (5 * unitBytes + 128) e
    nand := { State.reset.nand with blocks := (List.range 128).map fun c => (16 * c, 4096), pages := [(pp 3 4, page0 (pp 3 4) 16 2)], anchors := [⟨0, 1, 1600, [], []⟩] }
    med := { State.reset.med with rings := [(0, ring0)], fwd := [(16, pp 3 4)], seq := 5, nextId := 3, logical := 1600, schemas := [(4, schema0)], sbs := [(sbKey 0 0 3, .opened 100), (sbKey 1 0 3, .closed)], enumerated := true } }
  s.setReg Reg.MEDIA_STATE 0x103
def mq (e : Bytes) (n : Nat) : MediaReq := ⟨0, 0, e, .system, [], none, n, 0, [], [], [], 0⟩
def med1 (f : MediaSt → MediaSt) (s : State) : State := { s with med := f s.med }
def rd0 : NandRead := ⟨1, 0, 16, pp 3 4, 0⟩
def pr0 : Program := ⟨pp 3 7, page0 (pp 3 7) 17 6, some 1, false⟩
def rl0 : Relocation := ⟨pp 3 4, pp 6 7, page0 (pp 3 4) 16 2, false, true⟩
def retired (cls inst : Nat) (s : State) : State := { s with flt := { s.flt with retired := [(cls, inst)] } }
def sysS : List Nat := [sbKey 1 0 1, sbKey 2 0 1]

theorem test_witness_FlashRequestsAreAccepted :
    (∃ (quadrant ring p : Nat) (r : MediaRing) (e : Bytes) (s : State), s.calm = true ∧ s.ringHas (64 * quadrant + ring) 1 r e = true ∧ s.med.fwd.get (s.reqAddr e (reqOff e) / 65536) = some p) ∧
    (∃ (quadrant ring p : Nat) (r : MediaRing) (e : Bytes) (s : State), s.calm = true ∧ s.ringHas (64 * quadrant + ring) 4 r e = true ∧ s.med.fwd.get (s.reqAddr e (reqOff e) / 65536) = some p) ∧
    (∃ (quadrant ring ppa : Nat) (u : State) (g : Region) (r : MediaRing) (e : Bytes) (s : State), s.calm = true ∧ s.ringHas (64 * quadrant + ring) 2 r e = true ∧ s.noneWaits none = true ∧ s.takePage = some (ppa, u) ∧ s.region (reqHandle e) = some g) ∧
    (∃ (quadrant ring ppa : Nat) (u : State) (r : MediaRing) (e : Bytes) (s : State), s.calm = true ∧ s.ringHas (64 * quadrant + ring) 3 r e = true ∧ s.noneWaits none = true ∧ s.takePage = some (ppa, u)) ∧
    (∃ (quadrant ring op : Nat) (i : Instr) (r : MediaRing) (e : Bytes) (s : State), s.calm = true ∧ (i, op) ∈ [(Instr.read quadrant ring, 1), (.write quadrant ring, 2), (.trim quadrant ring, 3), (.scan quadrant ring, 4)] ∧ s.ringFront (64 * quadrant + ring) r e = true ∧ ((if reqOpc e = 0 ∨ 4 < reqOpc e then 1 else reqOpc e) = op) ∧ s.reqStatus (s.ringDomain r) e ≠ St.ok) ∧
    (∃ (id since : Nat) (q : MediaReq) (r : MediaRing) (s : State), s.calm = true ∧ s.med.reqs.get id = some q ∧ q.waitSince = some since ∧ s.past (since + (s.reg Reg.IDX_UPD_WAIT).toNat) = true ∧ q.outstanding = 0 ∧ (reqOpc q.entry = 2 ∨ reqOpc q.entry = 3) ∧ s.med.rings.get q.ring = some r ∧ r.detach = none ∧ s.noneWaits (some id) = true) :=
  ⟨⟨0, 0, pp 3 4, ring0, mreq 1, mnode (mreq 1), by decide +kernel⟩,
   ⟨0, 0, pp 3 4, ring0, mreq 4, mnode (mreq 4), by decide +kernel⟩,
   ⟨0, 0, (mnode (mreq 2) : State).dataPage (sbKey 0 0 3) 100, (((mnode (mreq 2) : State).takePage).getD (0, (mnode (mreq 2) : State))).2, rgnS, ring0, mreq 2, mnode (mreq 2), by decide +kernel⟩,
   ⟨0, 0, (mnode (mreq 3) : State).dataPage (sbKey 0 0 3) 100, (((mnode (mreq 3) : State).takePage).getD (0, (mnode (mreq 3) : State))).2, ring0, mreq 3, mnode (mreq 3), by decide +kernel⟩,
   ⟨0, 0, 1, .read 0 0, ring0, mreq 9, mnode (mreq 9), by decide +kernel⟩,
   ⟨1, 90000, { mq (mreq 2) 0 with todo := [16], waitSince := some 90000 }, { ring0 with accepted := 1 }, (med1 (fun md => { md with reqs := [(1, { mq (mreq 2) 0 with todo := [16], waitSince := some 90000 })], rings := [(0, { ring0 with accepted := 1 })] }) (mnode (mreq 2))).setReg Reg.IDX_UPD_WAIT 9999, by decide +kernel⟩⟩

theorem test_witness_FlashOperationsComplete :
    (∃ (id : Nat) (o : CwOutcome) (x : NandRead) (q : MediaReq) (g : Region) (pg : FlashPage) (s : State), s.calm = true ∧ s.med.reads.get id = some x ∧ s.med.reqs.get x.req = some q ∧ reqOpc q.entry = 1 ∧ 2 ≤ q.outstanding ∧ s.region (reqHandle q.entry) = some g ∧ s.nand.pages.get x.ppa = some pg ∧ pg.good x.ppa = true ∧ pg.lmu = x.lmu ∧ o ≠ .fail ∧ s.isRetired 15 (nandInst x.ppa) = false ∧ s.noneWaits none = true) ∧
    (∃ (id : Nat) (o : CwOutcome) (x : NandRead) (q : MediaReq) (r : MediaRing) (pg : FlashPage) (s : State), s.calm = true ∧ s.med.reads.get id = some x ∧ s.med.reqs.get x.req = some q ∧ reqOpc q.entry = 1 ∧ q.outstanding = 1 ∧ q.todo = [] ∧ s.med.rings.get q.ring = some r ∧ r.detach = none ∧ s.nand.pages.get x.ppa = some pg ∧ pg.good x.ppa = true ∧ pg.lmu = x.lmu ∧ o ≠ .fail ∧ s.isRetired 15 (nandInst x.ppa) = false ∧ s.noneWaits none = true) ∧
    (∃ (id req : Nat) (p : Program) (q : MediaReq) (m : Mem) (s : State), s.calm = true ∧ s.med.programs.get id = some p ∧ p.page.body = .data m ∧ p.req = some req ∧ p.trim = false ∧ s.med.reqs.get req = some q ∧ 2 ≤ q.outstanding ∧ s.noFlush = true ∧ s.lmuSeq p.page.lmu < p.page.seq ∧ s.noneWaits none = true) ∧
    (∃ (k : Nat) (wear : Bool) (s : State), s.calm = true ∧ s.med.sbs.get k = some (.erasing wear) ∧ s.noneWaits none = true) ∧
    (∃ (id : Nat) (x : Relocation) (m : Mem) (s : State), s.med.relocs.get id = some x ∧ x.page.body = .data m ∧ x.rebuild = false ∧ x.counted = true ∧ s.noneWaits none = true ∧ s.noFlush = true) ∧
    (∃ (ppa dst : Nat) (pg : FlashPage) (u s : State), s.isRunning = true ∧ s.nand.pages.get ppa = some pg ∧ s.isRetired 15 (nandInst ppa) = true ∧ s.pageLive ppa pg = true ∧ s.peersGood ppa = true ∧ ((∀ e ∈ s.med.relocs, e.2.src ≠ ppa)) ∧ s.takePage = some (dst, u)) ∧
    (∃ (k n p p' : Nat) (s : State), s.isRunning = true ∧ s.mediaState = 3 ∧ s.mapMode = 0 ∧ s.past (s.med.lastFlush + (s.reg Reg.MEDIA_JOURNAL_INTERVAL).toNat) = true ∧ s.med.pendingJ ≠ [] ∧ s.med.pendingJ.length ≤ 4096 ∧ s.sysSbs ≠ [] ∧ k = s.sysSbs.getD (s.med.sysAt / 15360 % s.sysSbs.length) 0 ∧ n = s.med.sysAt % 15360 ∧ n % 15 < 13 ∧ p = s.dataPage k n ∧ p' = s.dataPage k (n + 1) ∧ ((∀ a, a ∈ p :: p' :: s.nand.pages.map Prod.fst → s.sbOf a ≠ s.sysSbs.getD ((s.med.sysAt / 15360 + 1) % s.sysSbs.length) 0))) :=
  ⟨⟨2, .soft, rd0, mq (mreq 1) 2, rgnS, page0 (pp 3 4) 16 2, med1 (fun md => { md with reads := [(2, rd0)], reqs := [(1, mq (mreq 1) 2)] }) (mnode (mreq 1)), by decide +kernel⟩,
   ⟨2, .retry, rd0, mq (mreq 1) 1, { ring0 with accepted := 1 }, page0 (pp 3 4) 16 2, med1 (fun md => { md with reads := [(2, rd0)], reqs := [(1, mq (mreq 1) 1)], rings := [(0, { ring0 with accepted := 1 })] }) (mnode (mreq 1)), by decide +kernel⟩,
   ⟨2, 1, pr0, mq (mreq 2) 2, [(0, 7), (5, 8)], med1 (fun md => { md with programs := [(2, pr0)], reqs := [(1, mq (mreq 2) 2)] }) (mnode (mreq 2)), by decide +kernel⟩,
   ⟨sbKey 0 0 3, false, let s := med1 (fun md => { md with sbs := [(sbKey 0 0 3, .erasing false)], fwd := [] }) (mnode []); { s with nand := { s.nand with bad := [s.sbPage (sbKey 0 0 3) 2 0 / 1024] } }, by decide +kernel⟩,
   ⟨2, rl0, [(0, 7), (5, 8)], med1 (fun md => { md with relocs := [(2, rl0)] }) (mnode []), by decide +kernel⟩,
   ⟨pp 3 4, (let s := retired 15 (16 * 8) (med1 (fun md => { md with nextGroup := 1, sbs := [] }) (mnode [])); { s with nand := { s.nand with pages := (List.range 16).map fun m => (s.sbPage (s.sbOf (pp 3 4)) m 4, page0 (s.sbPage (s.sbOf (pp 3 4)) m 4) 16 2) } } : State).dataPage (sbKey 1 0 1) 0, page0 (pp 3 4) 16 2, (((let s := retired 15 (16 * 8) (med1 (fun md => { md with nextGroup := 1, sbs := [] }) (mnode [])); { s with nand := { s.nand with pages := (List.range 16).map fun m => (s.sbPage (s.sbOf (pp 3 4)) m 4, page0 (s.sbPage (s.sbOf (pp 3 4)) m 4) 16 2) } } : State).takePage).getD (0, (let s := retired 15 (16 * 8) (med1 (fun md => { md with nextGroup := 1, sbs := [] }) (mnode [])); { s with nand := { s.nand with pages := (List.range 16).map fun m => (s.sbPage (s.sbOf (pp 3 4)) m 4, page0 (s.sbPage (s.sbOf (pp 3 4)) m 4) 16 2) } } : State))).2, let s := retired 15 (16 * 8) (med1 (fun md => { md with nextGroup := 1, sbs := [] }) (mnode [])); { s with nand := { s.nand with pages := (List.range 16).map fun m => (s.sbPage (s.sbOf (pp 3 4)) m 4, page0 (s.sbPage (s.sbOf (pp 3 4)) m 4) 16 2) } }, by decide +kernel⟩,
   ⟨sbKey 1 0 1, 0, (({ med1 (fun md => { md with pendingJ := [⟨16, some (pp 3 4), 2⟩], sinceFlush := 3 }) (mnode []) with nand := { (mnode []).nand with anchors := [⟨0, 0, 1600, sysS, []⟩] } }).setReg Reg.MEDIA_JOURNAL_INTERVAL 1000 : State).dataPage (sbKey 1 0 1) 0, (({ med1 (fun md => { md with pendingJ := [⟨16, some (pp 3 4), 2⟩], sinceFlush := 3 }) (mnode []) with nand := { (mnode []).nand with anchors := [⟨0, 0, 1600, sysS, []⟩] } }).setReg Reg.MEDIA_JOURNAL_INTERVAL 1000 : State).dataPage (sbKey 1 0 1) 1, ({ med1 (fun md => { md with pendingJ := [⟨16, some (pp 3 4), 2⟩], sinceFlush := 3 }) (mnode []) with nand := { (mnode []).nand with anchors := [⟨0, 0, 1600, sysS, []⟩] } }).setReg Reg.MEDIA_JOURNAL_INTERVAL 1000, by decide +kernel⟩⟩

theorem test_witness_MediaComesUpAndIsCommanded :
    (∃ (s : State), s.mediaState = 1 ∧ s.med.enumerated = false) ∧
    (∃ (s : State), s.mediaState = 1 ∧ s.med.enumerated = false) ∧
    (∃ (s : State), s.calm = true ∧ s.mediaState = 2 ∧ s.nand.anchors = []) ∧
    (∃ (a : Anchor) (rest : List Anchor) (s : State), s.calm = true ∧ s.mediaState = 2 ∧ s.nand.anchors = a :: rest ∧ a.logical < 2 ^ 64) ∧
    (∃ (slot : Nat) (s : State), s.calm = true ∧ s.slotIdle .media slot = true ∧ s.med.rings = [] ∧ 3 ≤ s.mediaState) ∧
    (∃ (slot n : Nat) (a0 a1 : W32) (body : Bytes) (s : State), s.calm = true ∧ s.slotIdle .media slot = true ∧ s.handleRead (fld a0 31 16) (64 * a1.toNat) (16 + 16 * n) = some body ∧ n = byteAt body 0 ∧ 0 < n ∧ n ≤ 64 ∧ ((∀ c ∈ schemaCols body, c.typ ≤ 11)) ∧ ((schemaCols body).map Column.width).foldl (· + ·) 0 = fieldAt body 2 2) ∧
    (∃ (slot k : Nat) (a0 a1 : W32) (r : Region) (s : State), s.calm = true ∧ s.slotIdle .media slot = true ∧ s.region (fld a0 31 16) = some r ∧ 64 * (a1.toNat + 66) ≤ r.size ∧ s.med.rings.lowestFree (64 * fld a0 9 8) 64 = some k) ∧
    (∃ (slot k : Nat) (a0 : W32) (r : MediaRing) (s : State), s.calm = true ∧ s.slotIdle .media slot = true ∧ fld a0 7 0 < 64 ∧ k = 64 * fld a0 9 8 + fld a0 7 0 ∧ s.med.rings.get k = some r ∧ ((∀ q ∈ s.med.reqs, q.2.ring ≠ k))) ∧
    (∃ (v : W32) (c : ChanCount) (die : Nat) (s : State), s.isRunning = true ∧ c = s.med.chans.getD (fld v 6 0) chanZero ∧ die = 16 * fld v 6 0 + fld v 11 8) :=
  ⟨⟨run0.setReg Reg.MEDIA_STATE 1, by decide +kernel⟩,
   ⟨run0.setReg Reg.MEDIA_STATE 1, by decide +kernel⟩,
   ⟨run0.setReg Reg.MEDIA_STATE 2, by decide +kernel⟩,
   ⟨⟨0, 1, 1600, sysS, []⟩, [], ({ (med1 (fun md => { md with fwd := [] }) (mnode [])) with nand := { (mnode []).nand with anchors := [⟨0, 1, 1600, sysS, []⟩] } }).setReg Reg.MEDIA_STATE 2, by decide +kernel⟩,
   ⟨2, (med1 (fun md => { md with rings := [] }) (mnode [])).setReg Reg.MEDIA_STATE 4, by decide +kernel⟩,
   ⟨2, 1, 0x90006, 8, schema0, { mnode [] with kmem := Mem.writeBytes [] (5 * unitBytes + 512) schema0 }, by decide +kernel⟩,
   ⟨2, 1, 0x90000, 128, rgnS, mnode [], by decide +kernel⟩,
   ⟨2, 0, 0, ring0, mnode [], by decide +kernel⟩,
   ⟨0xFFFFF008, ⟨1, 2, 3, 4, 5, 6⟩, 0x80, med1 (fun md => { md with chans := [(8, ⟨1, 2, 3, 4, 5, 6⟩)] }) (mnode []), by decide +kernel⟩⟩

end W08

namespace W09

def part0 : Partner := ⟨0, 1, 4, [(1, 0, 4), (2, 0, 3), (3, 0, 2)], 15, [8, 8, 8, 8, 8, 8, 8, 8], 77, 2, 0, 9⟩
/-- A port in UP with a partner, 24 flits of credit on each virtual channel. -/
def up0 : LinkPort := { portReset with state := 4, helloNo := 5, own := some ⟨3, 2, 15⟩, partner := some part0, node := some 2, credGen := List.replicate 8 24, credRel := List.replicate 8 8, lastGood := 99000, lastKa := 98000 }
/-- Node 1 with ports. -/
def links (ps : Tbl LinkPort) : State := { run0.setReg Reg.LINK_IDENT 0x000100FF with link := { State.reset.link with ports := ps } }
def dataFlit : Bytes := flitBytes 0 (2 + 24) 0 0 0 [1, 2, 3]
/-- A packet for a node, padded to whole flits. -/
def pkt (dst : Nat) : Bytes := packetBytes 0x0D 0 (w32 (dst * 65536)) 0 (7, 7) 0 0 0 0 0 0 [1, 2, 3] ++ zeros 205
def hel0 : Bytes := [0, 1, 4, 3, 1, 0, 4, 2, 0, 3, 3, 0, 2, 0, 0, 0] ++ leBytes 8 15 ++ List.replicate 8 8 ++ leBytes 8 77 ++ leBytes 2 2 ++ leBytes 2 0 ++ leBytes 4 9 ++ zeros 80
def ev0 : LinkEventRec := ⟨false, 2, 3, 77, 5, 1, 0, 3, 2⟩

theorem test_witness_FlitsAreReceivedReplayedAndSent :
    (∃ (l : Nat) (b : Bytes) (s : State), s.calm = true ∧ s.linkOk l = true ∧ (s.port l).live = true ∧ flitOk b = true ∧ (byteAt b 0 = 1 ∨ byteAt b 0 = 2)) ∧
    (∃ (l : Nat) (b : Bytes) (s : State), s.calm = true ∧ s.linkOk l = true ∧ (s.port l).live = true ∧ flitOk b = true ∧ byteAt b 0 = 0 ∧ fieldAt b 2 2 % 4096 = (match (s.port l).rxLast with | some n => (n + 1) % 4096 | none => 0) ∧ bitOf (byteAt b 1) 3 = true ∧ bitOf (byteAt b 1) 4 = true ∧ (s.port l).partials = []) ∧
    (∃ (l : Nat) (b : Bytes) (s : State), s.calm = true ∧ s.linkOk l = true ∧ (s.port l).live = true ∧ flitOk b = false ∧ (s.port l).asked = false ∧ s.uncrossed 0x0050 14 l = true) ∧
    (∃ (l : Nat) (f : SentFlit) (rest : List SentFlit) (s : State), s.calm = true ∧ s.linkOk l = true ∧ (s.port l).replay = f :: rest ∧ s.past (f.sent + (s.reg Reg.LINK_REPLAY_TO).toNat) = true ∧ (s.port l).resends < 7) ∧
    (∃ (l vc n : Nat) (s : State), s.linkOk l = true ∧ (s.port l).live = true ∧ vc ≤ 7 ∧ 0 < n ∧ n ≤ (s.port l).inGen.getD vc 0) ∧
    (∃ (l vc n : Nat) (s : State), s.linkOk l = true ∧ (s.port l).live = true ∧ vc ≤ 7 ∧ 0 < n ∧ n ≤ (s.port l).inRel.getD vc 0) ∧
    (∃ (l v : Nat) (b : Bytes) (rest : List Bytes) (s : State), s.linkOk l = true ∧ (s.port l).maySend = true ∧ s.egressPick l = some v ∧ (s.port l).queue v = b :: rest ∧ b.length ≤ 240 ∧ (s.port l).hasCredit v (headRelay b) = true) ∧
    (∃ (l : Nat) (s : State), s.linkOk l = true ∧ (s.port l).live = true ∧ (s.port l).lastKa + (s.reg Reg.LINK_KA_INTERVAL).toNat ≤ s.now) :=
  ⟨⟨3, flitBytes 1 0 0 0x8004 (2 + 256 * 5) [], links [(3, { up0 with replay := [⟨4, 24, [1], 99000⟩, ⟨5, 24, [1], 99000⟩] })], by decide +kernel⟩,
   ⟨3, dataFlit, links [(3, up0)], by decide +kernel⟩,
   ⟨3, List.replicate 256 1, links [(3, up0)], by decide +kernel⟩,
   ⟨3, ⟨4, 24, [1], 90000⟩, [⟨5, 24, [1], 99000⟩], (links [(3, { up0 with replay := [⟨4, 24, [1], 90000⟩, ⟨5, 24, [1], 99000⟩] })]).setReg Reg.LINK_REPLAY_TO 9999, by decide +kernel⟩,
   ⟨3, 2, 2, links [(3, { up0 with inGen := [0, 0, 5, 0, 0, 0, 0, 0] })], by decide +kernel⟩,
   ⟨3, 2, 2, links [(3, { up0 with inRel := [0, 0, 2, 0, 0, 0, 0, 0] })], by decide +kernel⟩,
   ⟨3, 2, (pkt 2).take 35, [], links [(3, { up0 with queues := [(2, [(pkt 2).take 35])] })], by decide +kernel⟩,
   ⟨3, (links [(3, { up0 with owed := [(2, false, 300)] })]).setReg Reg.LINK_KA_INTERVAL 1000, by decide +kernel⟩⟩

theorem test_witness_PacketsAreDeliveredRelayedOrDiscarded :
    (∃ (l vc : Nat) (b e : Bytes) (s : State), s.calm = true ∧ s.packetIn l vc b e = true ∧ pDst e / 65536 = s.myNode ∧ s.ton.held = none ∧ pSegmented e = false ∧ s.ownLength (pType e) (pData e) ≤ pBody e) ∧
    (∃ (l vc r : Nat) (b e w : Bytes) (s : State), s.calm = true ∧ s.packetIn l vc b e = true ∧ pDst e / 65536 ≠ s.myNode ∧ w = e.take (32 + pBody e) ∧ pHop w = 0 ∧ pRelay w = r ∧ r < 96 ∧ r ≠ l ∧ (s.port r).state = 4 ∧ (s.port r).carries w = true ∧ tonOk (pType w) (pTon w) ((s.port r).partner.elim 0 Partner.ton) = true ∧ s.link.mute = false) ∧
    (∃ (l vc : Nat) (b : Bytes) (s : State), s.calm = true ∧ s.linkOk l = true ∧ (s.port l).live = true ∧ (((s.port l).arrived.find? fun a => a.1 == vc) = some (vc, b)) ∧ (b.length < 32 ∨ 16384 < pBody b ∨ b.length ≠ 240 * ((32 + pBody b + 239) / 240))) ∧
    (∃ (src : W32) (id : Nat) (r : Reasm) (s : State), s.isRunning = true ∧ s.reasm src id = some r ∧ r.link < 96 ∧ s.past (r.first + (s.reg Reg.LINK_REASM_TO).toNat) = true) :=
  ⟨⟨3, 0, pkt 1, (links [(3, { up0 with arrived := [(0, pkt 1)] })] : State).sourced (3 : Nat) (pkt 1 : Bytes), links [(3, { up0 with arrived := [(0, pkt 1)] })], by decide +kernel⟩,
   ⟨3, 0, 7, pkt 6, (links [(3, { up0 with arrived := [(0, pkt 6)] }), (7, { up0 with partner := some { part0 with node := 6 } })] : State).sourced (3 : Nat) (pkt 6 : Bytes), ((links [(3, { up0 with arrived := [(0, pkt 6)] }), (7, { up0 with partner := some { part0 with node := 6 } })] : State).sourced (3 : Nat) (pkt 6 : Bytes) : Bytes).take (32 + pBody ((links [(3, { up0 with arrived := [(0, pkt 6)] }), (7, { up0 with partner := some { part0 with node := 6 } })] : State).sourced (3 : Nat) (pkt 6 : Bytes) : Bytes)), links [(3, { up0 with arrived := [(0, pkt 6)] }), (7, { up0 with partner := some { part0 with node := 6 } })], by decide +kernel⟩,
   ⟨3, 0, (pkt 1).take 200, links [(3, { up0 with arrived := [(0, (pkt 1).take 200)] })], by decide +kernel⟩,
   ⟨0x20000, 6, ⟨0x20000, 6, 0x10, 3, 1, [1], 90000, 3⟩, let u := links [(3, up0)]; { u.setReg Reg.LINK_REASM_TO 9999 with link := { u.link with reasm := [⟨0x20000, 6, 0x10, 3, 1, [1], 90000, 3⟩, ⟨0x20000, 7, 0x10, 3, 1, [1], 90000, 3⟩] } }, by decide +kernel⟩⟩

theorem test_witness_LinksTrainSettleAndGoDown :
    (∃ (l : Nat) (s : State), s.linkOk l = true ∧ (s.port l).state = 0 ∧ s.isRetired 14 l = false) ∧
    (∃ (l : Nat) (s : State), s.linkOk l = true ∧ (s.port l).state = 1) ∧
    (∃ (l : Nat) (s : State), s.calm = true ∧ s.linkOk l = true ∧ (s.port l).state = 1 ∧ s.past ((s.port l).trainAt + (s.reg Reg.LINK_TRAIN_TO).toNat) = true) ∧
    (∃ (l : Nat) (b : Bytes) (s : State), s.calm = true ∧ s.linkOk l = true ∧ (s.port l).state = 2 ∧ 128 ≤ b.length) ∧
    (∃ (l : Nat) (b : Bytes) (x : Settled) (r : Partner) (s : State), s.calm = true ∧ s.linkOk l = true ∧ (s.port l).state = 3 ∧ 16 ≤ b.length ∧ fieldAt b 0 4 = (s.port l).helloNo ∧ (s.port l).own = some x ∧ x = ⟨byteAt b 4, byteAt b 5, fieldAt b 8 8⟩ ∧ (s.port l).partner = some r ∧ s.ton.cur = none ∧ s.mySeat ≠ some 0) ∧
    (∃ (l : Nat) (s : State), s.linkOk l = true ∧ ((s.port l).state = 2 ∨ (s.port l).state = 3) ∧ s.past ((s.port l).helloAt + (s.reg Reg.LINK_HELLO_RETRY).toNat) = true) ∧
    (∃ (l : Nat) (s : State), s.calm = true ∧ s.linkAlone l = true) ∧
    (∃ (l : Nat) (s : State), s.calm = true ∧ s.linkAlone l = true ∧ s.past ((s.port l).lastGood + (s.reg Reg.LINK_KA_INTERVAL).toNat * (s.reg Reg.LINK_KA_MISS).toNat) = true) ∧
    (∃ (e : LinkEventRec) (s : State), s.calm = true ∧ s.isRunning = true ∧ s.isDealer = true ∧ e.seat ≤ 63 ∧ e.link ≤ 95 ∧ e.leave = false ∧ e.kind = 0 ∧ e.partnerSeat < 64) :=
  ⟨⟨3, links [], by decide +kernel⟩,
   ⟨3, links [(3, { portReset with state := 1, trainAt := 90000 })], by decide +kernel⟩,
   ⟨3, (links [(3, { portReset with state := 1, trainAt := 90000 })]).setReg Reg.LINK_TRAIN_TO 9999, by decide +kernel⟩,
   ⟨3, hel0, links [(3, { portReset with state := 2, helloNo := 5, helloAt := 99000 })], by decide +kernel⟩,
   ⟨3, leBytes 4 5 ++ [3, 2, 0, 0] ++ leBytes 8 15, ⟨3, 2, 15⟩, part0, links [(3, { portReset with state := 3, helloNo := 5, helloAt := 99000, own := some ⟨3, 2, 15⟩, partner := some part0 })], by decide +kernel⟩,
   ⟨3, (links [(3, { portReset with state := 3, helloNo := 5, helloAt := 90000, own := some ⟨3, 2, 15⟩, partner := some part0 })]).setReg Reg.LINK_HELLO_RETRY 9999, by decide +kernel⟩,
   ⟨3, links [(3, { up0 with queues := [(0, [pkt 2])] })], by decide +kernel⟩,
   ⟨3, ((links [(3, { up0 with lastGood := 90000 })]).setReg Reg.LINK_KA_INTERVAL 1000).setReg Reg.LINK_KA_MISS 4, by decide +kernel⟩,
   ⟨ev0, let u := links []; u.setReg Reg.LINK_IDENT 0x00010000, by decide +kernel⟩⟩

end W09

namespace W10

/-- A map of `n` seats, seat i at node i + 1, every seat LIVE; seat 0 reaches seat 1 by link 3 and seat 2 by link 4; table 5 has one share at the seats of a mask. -/
def mkMap (n dealer standby mp mask : Nat) : Bytes :=
  sealMap ([0, 1] ++ leBytes 2 0 ++ [BitVec.ofNat 8 n, BitVec.ofNat 8 dealer, BitVec.ofNat 8 standby, 1] ++ leBytes 8 mp ++ leBytes 4 1 ++ leBytes 4 (64 + 32 * n + 4 * n * n + 88) ++ zeros 40 ++
    ((List.range n).flatMap fun i => [0, 1] ++ leBytes 2 (i + 1) ++ zeros 28) ++ (([255, 255, 255, 255, 3, 255, 255, 255, 4, 255, 255, 255] : Bytes) ++ List.replicate (4 * n * n) 255).take (4 * n * n) ++ zeros 64 ++
    leBytes 2 5 ++ [1] ++ zeros 5 ++ leBytes 2 0 ++ leBytes 2 65535 ++ zeros 4 ++ leBytes 8 mask)
def rgnS : Region := ⟨0, .system, 2, false, false, [5, 6], 0, []⟩
def part0 (n : Nat) : Partner := ⟨0, n, 4, [], 15, [8, 8, 8, 8, 8, 8, 8, 8], 77, n + 1, 0, 9⟩
def up0 (n : Nat) : LinkPort := { portReset with state := 4, own := some ⟨3, 2, 15⟩, partner := some (part0 n), credGen := List.replicate 8 24, credRel := List.replicate 8 8, lastGood := 99000 }
/-- Node 1 at a seat of a table of nodes whose map is current, links 3 and 4 UP. -/
def atSeat (seat : Nat) (cur : Option Bytes) : State :=
  { run0.setReg Reg.LINK_IDENT (w32 (0x10000 * (seat + 1) + seat)) with
    kitty := { run0.kitty with regions := [(9, rgnS)] ++ run0.kitty.regions }
    link := { State.reset.link with ports := [(3, up0 1), (4, up0 2)] }
    cfg := { State.reset.cfg with tenantTables := [(7, [0x20])], waymark := List.replicate 64 3, milepost := 4 }
    ton := { State.reset.ton with cur := cur, window := 100000 } }
def map3 : Bytes := mkMap 3 0 1 3 2
def ton1 (f : TonSt → TonSt) (s : State) : State := { s with ton := f s.ton }
def chg0 (m : Bytes) (acks : List Nat) (slot : Option Nat) : MapChange := ⟨m, acks, 90000, slot, false⟩
def qh : Bytes := [0, 1] ++ leBytes 2 128 ++ leBytes 2 5 ++ leBytes 2 7 ++ leBytes 2 1 ++ leBytes 2 2 ++ leBytes 2 0 ++ [0, 0, 3, 0] ++ leBytes 2 0 ++ leBytes 4 5000 ++ leBytes 8 0 ++ leBytes 8 99 ++ zeros 24 ++ zeros 64
def dmsg (typ : Nat) (b : Bytes) : Msg := ⟨0, typ, 1, 0x50002, 0, 0, 0, b⟩
def updH (tag : Nat) (n : Nat) : Bytes := [0, 1] ++ leBytes 2 5 ++ leBytes 4 96 ++ leBytes 2 7 ++ leBytes 2 n ++ [0, 3] ++ zeros 2 ++ leBytes 8 tag ++ zeros 40
/-- A seat's answer to a part: one operation, OK. -/
def updA (tag : Nat) : Bytes := [0, 1, 0, 0] ++ leBytes 4 80 ++ leBytes 4 0 ++ leBytes 2 1 ++ zeros 2 ++ leBytes 8 tag ++ zeros 40 ++ zeros 16
def prt (tag seat : Nat) : DealPart := ⟨tag, seat, [0], 90000, false, none, none, []⟩
def dupd (ps : List DealPart) : DealUpdate := ⟨0x50002, updH 77 1, [ins 43], 90000, ps⟩
def emb0 : EmbTable := ⟨1, 64, 10, 100, 1, 2, 7, 0, 0, 0, 0, none, none⟩
def epd (a n : Nat) : PlaceDesc := ⟨4, 1, false, false, 2, false, .system, n, [⟨a, n⟩], false⟩
def embSeat : State :=
  { atSeat 0 (some map3) with smem := Mem.writeBytes [] (sb + 64 * 50) [9, 8, 7], pds := [(1, epd sb 6400), (2, epd (sb + 0x10000) 1024)], emb := { State.reset.emb with tables := [(5, emb0)] } }
def rowBody : Bytes := leBytes 2 5 ++ [0, 0] ++ leBytes 4 1 ++ leBytes 4 0 ++ leBytes 4 33 ++ leBytes 4 50

theorem test_witness_MapsAreProposedAcknowledgedAndInstalled :
    (∃ (slot : Nat) (a0 a1 : W32) (m : Bytes) (s : State), s.calm = true ∧ s.slotIdle .link slot = true ∧ s.mapReady a0 a1 m = true ∧ 3 ≤ mapSeats (s.ton.cur.getD m)) ∧
    (∃ (m : Msg) (h : Bytes) (s : State), s.calm = true ∧ s.isRunning = true ∧ fieldAt m.body 8 4 = 0 ∧ h = m.body.drop 16 ∧ fieldAt m.body 12 4 ≤ h.length ∧ s.mapNow < fieldAt m.body 0 8 ∧ ((∀ x, s.ton.held = some x → mapMp x ≤ fieldAt m.body 0 8)) ∧ mapMp h = fieldAt m.body 0 8 ∧ mapFieldsOk h s.myTon = true) ∧
    (∃ (seat : Nat) (mp : W64) (c : MapChange) (s : State), s.calm = true ∧ s.isRunning = true ∧ s.ton.change = some c ∧ mapMp c.map = mp.toNat ∧ seat < mapSeats (s.quorumMap c) ∧ seat ∉ c.acks ∧ 2 * (c.acks.length + 1) < mapSeats (s.quorumMap c)) ∧
    (∃ (seat k : Nat) (mp : W64) (c : MapChange) (s : State), s.calm = true ∧ s.isRunning = true ∧ s.ton.change = some c ∧ mapMp c.map = mp.toNat ∧ seat < mapSeats (s.quorumMap c) ∧ seat ∉ c.acks ∧ c.takeover = false ∧ c.slot = some k ∧ s.slotHas .link k 1 (.other 4 0 0) = true ∧ s.installsAlone c.map = true ∧ (mapSeats (s.quorumMap c) < 2 * (c.acks.length + 1) ∨ (mapSeats (s.quorumMap c) = 2 * (c.acks.length + 1) ∧ mapStandby (s.quorumMap c) ∈ seat :: c.acks))) ∧
    (∃ (m : Msg) (h : Bytes) (s : State), s.calm = true ∧ s.isRunning = true ∧ s.ton.held = some h ∧ mapMp h = fieldAt m.body 0 8 ∧ s.ton.change = none ∧ s.installsAlone h = true) ∧
    (∃ (k : Nat) (c : MapChange) (s : State), s.calm = true ∧ s.ton.change = some c ∧ s.past (c.start + (s.reg Reg.LINK_MAP_ACK_TO).toNat) = true ∧ c.slot = some k ∧ s.slotHas .link k 1 (.other 4 0 0) = true ∧ s.ton.edits = []) :=
  ⟨⟨2, 0x90000, 0, mkMap 3 0 1 4 2, { atSeat 0 (some map3) with kmem := Mem.writeBytes [] (5 * unitBytes) (mkMap 3 0 1 4 2) }, by decide +kernel⟩,
   ⟨msg 0x0B (leBytes 8 4 ++ leBytes 4 0 ++ leBytes 4 284 ++ mkMap 3 0 1 4 2), mkMap 3 0 1 4 2, atSeat 1 (some map3), by decide +kernel⟩,
   ⟨1, 4, chg0 (mkMap 5 0 1 4 2) [0] none, ton1 (fun t => { t with change := some (chg0 (mkMap 5 0 1 4 2) [0] none : MapChange) }) (atSeat 0 (some (mkMap 5 0 1 3 2))), by decide +kernel⟩,
   ⟨1, 2, 4, chg0 (mkMap 3 0 1 4 2) [0] (some 2), withRun .link 2 1 (.other 4 0 0) (ton1 (fun t => { t with change := some (chg0 (mkMap 3 0 1 4 2) [0] (some 2)) }) (atSeat 0 (some map3))), by decide +kernel⟩,
   ⟨msg 0x0E (leBytes 8 4), mkMap 3 0 1 4 2, ton1 (fun t => { t with held := some (mkMap 3 0 1 4 2 : Bytes) }) (atSeat 1 (some map3)), by decide +kernel⟩,
   ⟨2, chg0 (mkMap 3 0 1 4 2) [0] (some 2), (withRun .link 2 1 (.other 4 0 0) (ton1 (fun t => { t with change := some (chg0 (mkMap 3 0 1 4 2) [0] (some 2)) }) (atSeat 0 (some map3)))).setReg Reg.LINK_MAP_ACK_TO 9999, by decide +kernel⟩⟩

theorem test_witness_WindowsTilesAndRowRequests :
    (∃ (slot n : Nat) (a0 : W32) (s : State), s.calm = true ∧ s.slotIdle .link slot = true ∧ (s.region (fld a0 31 16)).isSome = true ∧ s.link.windows.lowestFree 0 4096 = some n) ∧
    (∃ (slot n : Nat) (a0 : W32) (s : State), s.calm = true ∧ s.slotIdle .link slot = true ∧ n = fld a0 31 16 ∧ n ≤ 4095 ∧ s.link.windows.has n = true) ∧
    (∃ (slot l : Nat) (a0 : W32) (s : State), s.calm = true ∧ s.slotIdle .link slot = true ∧ l = a0.toNat % 128 ∧ l < 96 ∧ (s.port l).live = false) ∧
    (∃ (m : Msg) (w : Window) (r : Region) (s : State), s.isRunning = true ∧ s.link.windows.get (fieldAt m.body 0 2) = some w ∧ s.region w.handle = some r ∧ 16 + 64 * fieldAt m.body 8 4 ≤ m.body.length ∧ w.endpoint = m.src ∧ 64 * fieldAt m.body 4 4 + 64 * fieldAt m.body 8 4 ≤ r.size ∧ (r.readOnly = false ∨ r.owner = .system) ∧ (r.pageChecks (64 * fieldAt m.body 4 4) (64 * fieldAt m.body 8 4) true).any Prod.fst = false) ∧
    (∃ (m : Msg) (s : State), s.isRunning = true ∧ m.link < 96 ∧ s.link.windows.get (fieldAt m.body 0 2) = none) ∧
    (∃ (m : Msg) (k row : Nat) (tb : EmbTable) (s : State), s.calm = true ∧ s.rowAsk false m tb row = true ∧ s.emb.runs.lowestFree 16 65536 = some k) ∧
    (∃ (m : Msg) (k row o : Nat) (tb : EmbTable) (d : PlaceDesc) (s : State), s.calm = true ∧ s.rowAsk true m tb row = true ∧ s.emb.runs.lowestFree 16 65536 = some k ∧ tb.pinAt s.cycle = tb.milepost ∧ s.rowMoving (fieldAt m.body 0 2) row = none ∧ s.rowPlace tb row (s.rowKind (fieldAt m.body 0 2) row tb.milepost) = some (d, o) ∧ d.lost = false ∧ d.tier ≠ 2) ∧
    (∃ (m : Msg) (s : State), s.calm = true ∧ s.isRunning = true ∧ 68 ≤ m.body.length) ∧
    (∃ (m : Msg) (s : State), s.calm = true ∧ s.isRunning = true ∧ byteAt m.body 0 = 0x20 ∧ 36 ≤ m.body.length ∧ m.src ≠ 0xFFFFFFFF ∧ m.src.toNat / 65536 = s.myNode) :=
  ⟨⟨2, 0, 0x90000, atSeat 0 none, by decide +kernel⟩,
   ⟨2, 4, 0x40000, let u := atSeat 0 none; { u with link := { u.link with windows := [(4, ⟨9, 0x20000⟩)] } }, by decide +kernel⟩,
   ⟨2, 3, 3, let u := atSeat 0 none; { u with link := { u.link with ports := [(3, { portReset with state := 2 })] }, flt := { u.flt with retired := [(14, 3)] } }, by decide +kernel⟩,
   ⟨msg 0x20 (leBytes 2 4 ++ zeros 2 ++ leBytes 4 3 ++ leBytes 4 1 ++ zeros 4 ++ List.replicate 64 9), ⟨9, 0x10002⟩, rgnS, let u := atSeat 0 none; { u with link := { u.link with windows := [(4, ⟨9, 0x10002⟩)] } }, by decide +kernel⟩,
   ⟨{ msg 0x20 (leBytes 2 4) with link := 3 }, atSeat 0 none, by decide +kernel⟩,
   ⟨msg 0x21 rowBody, 16, 50, emb0, embSeat, by decide +kernel⟩,
   ⟨msg 0x22 (rowBody ++ List.replicate 64 6), 16, 50, 3200, emb0, epd sb 6400, embSeat, by decide +kernel⟩,
   ⟨msg 0x23 (leBytes 4 33 ++ zeros 80), embSeat, by decide +kernel⟩,
   ⟨msg 0x0D ([0x20, 0, 0, 0] ++ List.replicate 32 5), atSeat 0 none, by decide +kernel⟩⟩

theorem test_witness_DealerSplitsQueriesAndUpdates :
    (∃ (m : Msg) (x : Share) (n : Nat) (s : State), s.calm = true ∧ s.isRunning = true ∧ m.flags.getLsbD 0 = true ∧ 64 ≤ m.body.length ∧ s.isDealer = true ∧ s.tonWindow = true ∧ ((s.ton.cur.elim [] fun k => mapShares k (qTable (dealtDesc m))) = [x]) ∧ x.lo ≤ 65535 ∧ qPinGiven (dealtDesc m) = false ∧ (s.took m).queryStatus true (dealtDesc m) .served none = St.ok ∧ s.pickSeat x = some n ∧ s.reaches (.seat n) 0x10 = true) ∧
    (∃ (m : Msg) (x : Share) (k : Nat) (rs : List Bytes) (s : State), s.calm = true ∧ s.isRunning = true ∧ m.flags.getLsbD 0 = true ∧ 64 ≤ m.body.length ∧ s.isDealer = true ∧ ((s.ton.cur.elim [] fun j => mapShares j (fieldAt m.body 2 2)) = [x]) ∧ (List.range 64).filter x.has = [k] ∧ State.updChecks { s with idx := { s.idx with tables := [] } } m.body = (St.ok, rs) ∧ rs ≠ [] ∧ ((∀ r ∈ rs, opShare [x] r = some x)) ∧ s.reaches (.seat k) 0x18 = true) ∧
    (∃ (seat n : Nat) (m : Msg) (u : DealUpdate) (p q : DealPart) (s : State), s.calm = true ∧ s.isRunning = true ∧ 64 ≤ m.body.length ∧ (s.ton.updates.find? (fun e => e.2.parts.any fun p => p.tag == fieldAt m.body 16 8 && p.seat == seat && !p.done) = some (n, u)) ∧ ((u.parts.map (DealPart.answered m.body)).find? (fun p => p.tag == fieldAt m.body 16 8) = some p) ∧ (p.ops.all (fun i => p.opStatus i != some St.moved) = true) ∧ q ∈ u.parts ∧ q.tag ≠ fieldAt m.body 16 8 ∧ q.done = false) ∧
    (∃ (seat n : Nat) (m : Msg) (u : DealUpdate) (p : DealPart) (s : State), s.calm = true ∧ s.isRunning = true ∧ 64 ≤ m.body.length ∧ (s.ton.updates.find? (fun e => e.2.parts.any fun p => p.tag == fieldAt m.body 16 8 && p.seat == seat && !p.done) = some (n, u)) ∧ u.parts = [p] ∧ (p.ops.all (fun i => (p.answered m.body).opStatus i != some St.moved) = true)) ∧
    (∃ (n seat w : Nat) (u : DealUpdate) (q : DealPart) (s : State), s.calm = true ∧ s.isRunning = true ∧ s.ton.updates.get n = some u ∧ w = (s.reg Reg.IDX_UPD_WAIT).toNat ∧ u.parts.any (DealPart.isLate seat w s.now) = true ∧ q ∈ u.parts ∧ q.done = false ∧ q.isLate seat w s.now = false) :=
  ⟨⟨dmsg 0x10 qh, ⟨0, 65535, 6⟩, 2, ton1 (fun t => { t with nextTag := 4, seats := [(1, { seatReset with outstanding := 3 })] }) (atSeat 0 (some (mkMap 3 0 1 3 6))), by decide +kernel⟩,
   ⟨dmsg 0x18 (updH 77 1 ++ ins 43), ⟨0, 65535, 2⟩, 1, [ins 43], ton1 (fun t => { t with nextTag := 4 }) (atSeat 0 (some map3)), by decide +kernel⟩,
   ⟨1, 4, msg 0x19 (updA 5), dupd [prt 5 1, prt 6 2], (prt 5 1).answered (updA 5), prt 6 2, ton1 (fun t => { t with updates := [(4, dupd [prt 5 1, prt 6 2])] }) (atSeat 0 (some map3)), by decide +kernel⟩,
   ⟨1, 4, msg 0x19 (updA 5), dupd [prt 5 1], prt 5 1, ton1 (fun t => { t with updates := [(4, dupd [prt 5 1])] }) (atSeat 0 (some map3)), by decide +kernel⟩,
   ⟨4, 1, 9999, dupd [prt 5 1, prt 6 2], prt 6 2, (ton1 (fun t => { t with updates := [(4, dupd [prt 5 1, prt 6 2])] }) (atSeat 0 (some map3))).setReg Reg.IDX_UPD_WAIT 9999, by decide +kernel⟩⟩

theorem test_witness_SeatsBeatAndShowWaymarks :
    (∃ (m : Bytes) (s : State), s.calm = true ∧ s.isRunning = true ∧ s.ton.cur = some m ∧ s.isDealer = true ∧ s.ton.beatSent + (s.reg Reg.LINK_BEAT).toNat ≤ s.now) ∧
    (∃ (seat : Nat) (s : State), s.calm = true ∧ s.isRunning = true ∧ s.isDealer = true ∧ seat < 64 ∧ s.mySeat ≠ some seat) ∧
    (∃ (seat : Nat) (s : State), s.calm = true ∧ s.isRunning = true ∧ s.isDealer = false ∧ s.dealerSeat = some seat ∧ s.mySeat ≠ some seat) ∧
    (∃ (seat : Nat) (m : Bytes) (c : MapChange) (s : State), s.calm = true ∧ s.isRunning = true ∧ s.isDealer = true ∧ s.ton.cur = some m ∧ s.mySeat ≠ some seat ∧ mapLive m seat = true ∧ s.past ((s.seat seat).beat + (s.reg Reg.LINK_SEAT_LOSS).toNat) = true ∧ s.ton.change = some c ∧ mapLive c.map seat = true ∧ .loseSeat seat ∉ s.ton.edits) ∧
    (∃ (seat : Nat) (m k : Bytes) (s : State), s.calm = true ∧ s.isRunning = true ∧ s.isDealer = true ∧ s.ton.cur = some m ∧ s.mySeat ≠ some seat ∧ mapLive m seat = true ∧ s.past ((s.seat seat).beat + (s.reg Reg.LINK_SEAT_LOSS).toNat) = true ∧ s.ton.change = none ∧ s.ton.edits = [] ∧ 3 ≤ mapSeats m ∧ (unmaskMap seat (fun _ _ => true) (unlive seat m) ≠ m) ∧ (k = nextMap (fun x => unmaskMap seat (fun _ _ => true) (unlive seat x)) m)) ∧
    (∃ (m : Bytes) (me sb : Nat) (s : State), s.calm = true ∧ s.isRunning = true ∧ s.ton.cur = some m ∧ s.mySeat = some me ∧ s.isStandby = true ∧ s.ton.change = none ∧ s.past (s.ton.dealerBeat + (s.reg Reg.LINK_DEALER_LOSS).toNat) = true ∧ 3 ≤ mapSeats m ∧ ((List.range (mapSeats m)).find? (fun i => mapLive m i && i != me) = some sb)) ∧
    (∃ (d : Nat) (s : State), s.calm = true ∧ s.isRunning = true ∧ s.dealerSeat = some d ∧ (s.ton.wmSent + (s.reg Reg.LINK_WM_INTERVAL).toNat ≤ s.now ∨ s.ton.wmMilepost ≠ s.cfg.milepost)) ∧
    (∃ (seat : Nat) (s : State), s.isRunning = true ∧ s.isDealer = true ∧ seat < 64) ∧
    (∃ (seat : Nat) (m : Bytes) (s : State), s.isRunning = true ∧ s.isDealer = true ∧ s.ton.cur = some m ∧ seat < mapSeats m ∧ seat < 64 ∧ s.past ((s.seat seat).wmLtc + 2 ^ 31) = true) ∧
    (∃ (seat : Nat) (b : Bytes) (c : MapChange) (ts : List Nat) (s : State), s.calm = true ∧ s.isRunning = true ∧ s.isDealer = true ∧ byteAt b 0 = 0x10 ∧ seat < 64 ∧ s.ton.change = some c ∧ (ts = (List.range (fieldAt b 2 2)).map (fun i => fieldAt b (8 + 2 * i) 2)) ∧ .loseTables seat ts ∉ s.ton.edits) ∧
    (∃ (v : W32) (n : Nat) (s : State), s.isRunning = true ∧ n = v.toNat % 64) :=
  ⟨⟨map3, (atSeat 0 (some map3)).setReg Reg.LINK_BEAT 1000, by decide +kernel⟩,
   ⟨1, atSeat 0 (some map3), by decide +kernel⟩,
   ⟨0, atSeat 1 (some map3), by decide +kernel⟩,
   ⟨2, map3, chg0 (mkMap 3 0 1 4 2) [0] none, (ton1 (fun t => { t with change := some (chg0 (mkMap 3 0 1 4 2) [0] none : MapChange) }) (atSeat 0 (some map3))).setReg Reg.LINK_SEAT_LOSS 9999, by decide +kernel⟩,
   ⟨2, map3, nextMap (fun x => unmaskMap (2 : Nat) (fun _ _ => true) (unlive (2 : Nat) x)) (map3 : Bytes), (atSeat 0 (some map3)).setReg Reg.LINK_SEAT_LOSS 9999, by decide +kernel⟩,
   ⟨map3, 1, 0, (atSeat 1 (some map3)).setReg Reg.LINK_DEALER_LOSS 9999, by decide +kernel⟩,
   ⟨0, (atSeat 0 (some map3)).setReg Reg.LINK_WM_INTERVAL 10000, by decide +kernel⟩,
   ⟨2, (atSeat 0 (some map3)).setPair Reg.LINK_TON_SILENT_LO 7, by decide +kernel⟩,
   ⟨2, map3, { (atSeat 0 (some map3)).setPair Reg.LINK_TON_SILENT_LO 1 with clk := { run0.clk with ltc := 2 ^ 31 + 90005 } }, by decide +kernel⟩,
   ⟨2, [0x10, 3] ++ leBytes 2 1 ++ zeros 4 ++ leBytes 2 5, chg0 (mkMap 3 0 1 4 2) [0] none, [5], ton1 (fun t => { t with change := some (chg0 (mkMap 3 0 1 4 2) [0] none : MapChange) }) (atSeat 0 (some map3)), by decide +kernel⟩,
   ⟨0xFFFFFFC2, 2, (ton1 (fun t => { t with window := 99000, seats := [(2, { seatReset with sent := 7, missing := 1, latSum := 30, latNum := 3, lastSent := 2, moved := 4 })] }) (atSeat 0 (some map3))).setReg Reg.IDX_SKEW_WIN 1000, by decide +kernel⟩⟩

end W10

namespace W11

def rgnS : Region := ⟨0, .system, 2, false, false, [5, 6], 0, []⟩
def sc0 : State := { run0 with kitty := { run0.kitty with regions := [(9, rgnS)] ++ run0.kitty.regions }, cfg := { State.reset.cfg with tenantTables := [(7, [0x20])] } }
def pt3 (x : PointSt) : State := sc0.setPoint (.link 3) x

theorem test_witness_BucketsRefillAndGatesTurn :
    (∃ (p : Point) (s : State), s.isRunning = true ∧ s.pointOk p = true ∧ s.now % refillPeriod p = 0 ∧ (s.point p).lastRefill ≠ s.now + 1) ∧
    (∃ (p : Point) (g : Nat × Nat) (s : State), s.isRunning = true ∧ (s.point p).gates[(s.point p).entry]? = some g ∧ (s.point p).entryStart + g.1 ≤ s.now) ∧
    (∃ (p : Point) (start : Nat) (l : List (Nat × Nat)) (s : State), s.isRunning = true ∧ (s.point p).nextGates = some (start, l) ∧ start ≤ s.now) :=
  ⟨⟨.link 3, pt3 ((linkPoint.withChange 2 (500, 10, 3)).withChange 0 (0xFFFFFFFF, 10, 3)), by decide +kernel⟩,
   ⟨.link 3, (100, 3), pt3 { linkPoint with gates := [(100, 3), (50, 4)], entryStart := 99900 }, by decide +kernel⟩,
   ⟨.link 3, 99900, [(5, 1)], pt3 { linkPoint with gates := [(100, 3), (50, 4)], entryStart := 99900, nextGates := some (99900, [(5, 1)]) }, by decide +kernel⟩⟩

theorem test_witness_SchedulingCommandsChangeThePoint :
    (∃ (slot q : Nat) (p : Point) (a0 a2 : W32) (s : State), s.calm = true ∧ s.slotIdle .sched slot = true ∧ pointOf a0.toNat = (p, q) ∧ s.pointOk p = true ∧ (s.point p).lastRefill ≠ s.now + 1 ∧ 2 ≤ q ∧ 0 < fld a2 15 0 ∧ 0 < fld a2 23 16) ∧
    (∃ (slot q : Nat) (p : Point) (a0 a1 a2 : W32) (s : State), s.calm = true ∧ s.slotIdle .sched slot = true ∧ pointOf a0.toNat = (p, q) ∧ s.pointOk p = true ∧ (s.point p).lastRefill ≠ s.now + 1 ∧ q < 2 ∧ 0 < fld a2 15 0 ∧ 0 < ((s.point p).queue q).weight ∧ (match p with | .link _ => a1.toNat ≠ unshaped ∧ a1.toNat + ((s.point p).queue (1 - q)).planned ≤ 75000 | .tenant _ => True)) ∧
    (∃ (slot q : Nat) (p : Point) (x : SchedQueue) (a0 a1 a2 : W32) (s : State), s.calm = true ∧ s.slotIdle .sched slot = true ∧ pointOf a0.toNat = (p, q) ∧ s.pointOk p = true ∧ (s.point p).lastRefill = s.now + 1 ∧ 2 ≤ q ∧ 0 < fld a2 15 0 ∧ 0 < fld a2 23 16 ∧ (s.point p).queues[q]? = some x ∧ x.rate ≠ unshaped ∧ a1.toNat ≠ unshaped) ∧
    (∃ (slot q n start : Nat) (p : Point) (b : Bytes) (a0 a1 a2 a3 a4 : W32) (s : State), s.calm = true ∧ s.slotIdle .sched slot = true ∧ pointOf a0.toNat = (p, q) ∧ s.pointOk p = true ∧ n = fld a1 6 0 ∧ n ≤ 64 ∧ start = a2.toNat + 2 ^ 32 * a3.toNat ∧ s.now < start ∧ start ≤ s.now + 2 ^ 42 ∧ (n = 0 ∨ s.handleRead (fld a1 31 16) (64 * a4.toNat) (8 * n) = some b) ∧ ((∀ g ∈ readGates n b, g.1 ≠ 0))) ∧
    (∃ (slot q n : Nat) (p : Point) (b : Bytes) (a0 a1 a2 a3 a4 : W32) (s : State), s.calm = true ∧ s.slotIdle .sched slot = true ∧ pointOf a0.toNat = (p, q) ∧ s.pointOk p = true ∧ n = fld a1 6 0 ∧ n ≤ 64 ∧ a2.toNat + 2 ^ 32 * a3.toNat = s.now ∧ (n = 0 ∨ s.handleRead (fld a1 31 16) (64 * a4.toNat) (8 * n) = some b) ∧ ((∀ g ∈ readGates n b, g.1 ≠ 0))) ∧
    (∃ (slot q : Nat) (p : Point) (a0 : W32) (s : State), s.calm = true ∧ s.slotIdle .sched slot = true ∧ pointOf a0.toNat = (p, q) ∧ s.pointOk p = true) ∧
    (∃ (slot q : Nat) (o : Owner) (a0 a1 a2 : W32) (s : State), s.calm = true ∧ s.slotIdle .sched slot = true ∧ ownerOf a0.toNat = some o ∧ s.holderOk o = true ∧ fld a0 19 16 ≤ 4 ∧ q = a1.toNat + 2 ^ 32 * a2.toNat ∧ q ≤ quotaMax (fld a0 19 16)) :=
  ⟨⟨2, 5, .link 3, 0x50003, 0x60009, sc0, by decide +kernel⟩,
   ⟨2, 1, .link 3, 0x10003, 65000, 0x60009, sc0, by decide +kernel⟩,
   ⟨2, 5, .link 3, { queueReset 300 10 9 with level := 600 }, 0x50003, 70, 0x60009, pt3 { linkPoint with queues := linkPoint.queues.set 5 { queueReset 300 10 9 with level := 600 }, lastRefill := 100001, before := [0, 0, 0, 0, 0, 500, 0, 0] }, by decide +kernel⟩,
   ⟨2, 0, 1, 100001, .tenant 7, [5, 0, 0, 0, 3, 0, 0, 0], 0x80000007, 0x90001, 100001, 0, 1, { pt3 linkPoint with kmem := Mem.writeBytes [] (5 * unitBytes + 64) [5, 0, 0, 0, 3] }, by decide +kernel⟩,
   ⟨2, 0, 1, .tenant 7, [5, 0, 0, 0, 3, 0, 0, 0], 0x80000007, 0x90001, 100000, 0, 1, { pt3 linkPoint with kmem := Mem.writeBytes [] (5 * unitBytes + 64) [5, 0, 0, 0, 3] }, by decide +kernel⟩,
   ⟨2, 0, .link 3, 3, pt3 { linkPoint with nextGates := some (99900, [(5, 1)]) }, by decide +kernel⟩,
   ⟨2, 9, .tenant 7, 0x40010007, 9, 0, sc0, by decide +kernel⟩⟩

end W11

namespace W12

def rgnS : Region := ⟨0, .system, 2, false, false, [5, 6], 0, []⟩
def rgnC : Region := ⟨0, .comp 3, 5, false, false, [7], 0, []⟩
/-- A descriptor of composition 3: units by mask, small, training. -/
def cdesc (me : Nat) (flags push detour : Nat) : Bytes :=
  [0, 1] ++ leBytes 2 3 ++ [2, BitVec.ofNat 8 flags, 0, 0] ++ leBytes 4 me ++ leBytes 4 0 ++ leBytes 8 0 ++ leBytes 8 2 ++ leBytes 2 0 ++ zeros 2 ++ leBytes 4 1 ++ leBytes 4 2 ++ zeros 4 ++ leBytes 8 5 ++
    [4, 255, 255, 255, 255, 255, 255, 255] ++ leBytes 4 500 ++ leBytes 4 600 ++ leBytes 4 0x20005 ++ leBytes 4 push ++ leBytes 4 detour ++ [0, 13, 0, 0] ++ leBytes 8 10 ++ zeros 32
def pushPd : PlaceDesc := ⟨5, 1, false, false, 2, false, .comp 3, 0x10000, [⟨sb, 0x10000⟩], false⟩
def keepPd : PlaceDesc := ⟨5, 1, false, false, 2, false, .system, 0x100000, [⟨sb + 0x100000, 0x100000⟩], false⟩
def nd0 : State := { run0.setReg Reg.LINK_IDENT 0x100FF with kitty := { run0.kitty with regions := [(9, rgnS)] ++ run0.kitty.regions }, pds := [(20, pushPd), (30, keepPd)] }
def ndD (d : Bytes) : State := { nd0 with kmem := Mem.writeBytes [] (5 * unitBytes) d }
def c0 : Comp := { newComp (cdesc 3 1 20 0) 11 0 with state := 1, slot := none }
def s0 : Comp := { newComp (cdesc 3 0 0 0) 11 0 with state := 1, slot := none }
def own3 : Engine := { engineReset 0 with owner := .comp 3 }
def own3s : SeqCore := { seqReset with owner := .comp 3 }
def ndC (c : Comp) : State := { nd0 with kitty := { nd0.kitty with regions := [(9, rgnS), (11, rgnC)] ++ run0.kitty.regions }, lend := { nd0.lend with comps := [(3, c)] }, eng := { nd0.eng with units := [(engKey .me 0, own3), (engKey .me 1, own3)], seqs := [(1, own3s), (8, own3s)] } }
def ent (op : Nat) (stp obj h line bytes : Nat) : Bytes := [BitVec.ofNat 8 op, 0, 0, 0, 1, 6, 0, 0] ++ leBytes 8 stp ++ leBytes 2 obj ++ leBytes 2 h ++ leBytes 4 line ++ leBytes 4 0 ++ zeros 4 ++ leBytes 8 bytes ++ zeros 24
def ring (c : Comp) (b : Bytes) : State := { ndC c with kmem := Mem.writeBytes (Mem.writeBytes (Mem.writeBytes [] (7 * unitBytes) (leBytes 4 1)) (7 * unitBytes + 128) b) (7 * unitBytes + 1024) [9, 8, 7] }
def krec : Bytes := leBytes 4 0x20005 ++ leBytes 2 3 ++ zeros 2 ++ leBytes 4 30 ++ leBytes 4 2 ++ leBytes 8 4096 ++ leBytes 8 10 ++ zeros 32
def k0 : Keep := openedKeep krec
def ndK : State := { nd0 with lend := { nd0.lend with keeps := [(0, k0)] } }
def it0 : PushItem := ⟨false, 7, 10, 0, 64, 5, 1, 0, 0, false, false⟩
def stepB : Bytes := [0, 0, 3, 0]
def lmsg (typ : Nat) (b : Bytes) : Msg := ⟨0, typ, 1, 0x20005, 0, 0, 0, b⟩
def sph (kind obj stp own len total chk : Nat) (d : Bytes) : Bytes := pushHeader kind 3 obj stp own 0 len total chk ++ d
def ackB (kind obj stp own : Nat) : Bytes := [0, BitVec.ofNat 8 kind] ++ leBytes 2 3 ++ leBytes 4 obj ++ leBytes 8 stp ++ leBytes 8 own ++ leBytes 8 0

theorem test_witness_CompositionsFormChangeAndAreReclaimed :
    (∃ (slot id : Nat) (a0 a1 : W32) (d : Bytes) (s : State), s.calm = true ∧ s.slotIdle .lend slot = true ∧ s.formable a0 a1 d = true ∧ id = fieldAt d 2 2) ∧
    (∃ (slot id : Nat) (a0 a1 : W32) (d : Bytes) (c : Comp) (s : State), s.calm = true ∧ s.slotIdle .lend slot = true ∧ s.changeable a0 a1 d c = true ∧ id = fieldAt d 2 2) ∧
    (∃ (id k : Nat) (c : Comp) (r : Region) (s : State), s.calm = true ∧ s.comp id = some c ∧ c.state = 2 ∧ s.clearing id = false ∧ c.slot = some k ∧ s.slotHas .lend k 1 (.other 1 id 0) = true ∧ s.region c.region = some r) ∧
    (∃ (id k : Nat) (c : Comp) (r : Region) (s : State), s.calm = true ∧ s.comp id = some c ∧ c.state = 2 ∧ s.clearing id = false ∧ c.slot = some k ∧ s.slotHas .lend k 2 (.other 2 id 0) = true ∧ s.region c.region = some r) ∧
    (∃ (slot id ms : Nat) (a0 a2 : W32) (c : Comp) (s : State), s.calm = true ∧ s.slotIdle .lend slot = true ∧ id = a0.toNat % 65536 ∧ s.comp id = some c ∧ c.state = 1 ∧ c.training = false ∧ c.slot = none ∧ c.items = [] ∧ c.detour = false ∧ s.qry.queries = [] ∧ ms = fld a2 15 0 ∧ ms ≤ 60000) ∧
    (∃ (id : Nat) (c : Comp) (s : State), s.calm = true ∧ s.comp id = some c ∧ c.state = 3 ∧ c.closed = false ∧ s.past c.deadline = true) ∧
    (∃ (id k : Nat) (c : Comp) (s : State), s.calm = true ∧ s.comp id = some c ∧ c.state = 3 ∧ c.closed = true ∧ s.clearing id = false ∧ c.slot = some k ∧ s.slotHas .lend k 3 (.other 3 id 0) = true) :=
  ⟨⟨2, 3, 0x90000, 0, cdesc 3 1 20 0, ndD (cdesc 3 1 20 0), by decide +kernel⟩,
   ⟨2, 3, 0x90000, 0, cdesc 7 1 20 0, c0, { ndC c0 with kmem := Mem.writeBytes [] (5 * unitBytes) (cdesc 7 1 20 0) }, by decide +kernel⟩,
   ⟨3, 2, { c0 with state := 2, slot := some 2 }, rgnC, withRun .lend 2 1 (.other 1 3 0) (ndC { c0 with state := 2, slot := some 2 }), by decide +kernel⟩,
   ⟨3, 2, { c0 with state := 2, slot := some 2 }, rgnC, withRun .lend 2 2 (.other 2 3 0) (ndC { c0 with state := 2, slot := some 2 }), by decide +kernel⟩,
   ⟨2, 3, 5, 3, 5, s0, ndC s0, by decide +kernel⟩,
   ⟨3, { c0 with state := 3, deadline := 5 }, ndC { c0 with state := 3, deadline := 5 }, by decide +kernel⟩,
   ⟨3, 2, { c0 with state := 3, deadline := 5, closed := true, slot := some 2 }, withRun .lend 2 3 (.other 3 3 0) (ndC { c0 with state := 3, deadline := 5, closed := true, slot := some 2 }), by decide +kernel⟩⟩

theorem test_witness_PushRingsServeSteps :
    (∃ (id : Nat) (c : Comp) (b : Bytes) (s : State), s.ringAsks id 1 c b = true ∧ fieldAt b 8 8 = c.begun + 1 ∧ c.begun + 1 ≤ c.secured + dLose c.desc) ∧
    (∃ (id at_ : Nat) (c : Comp) (r : Region) (b : Bytes) (s : State), s.isRunning = true ∧ s.comp id = some c ∧ c.state = 1 ∧ c.training = true ∧ c.waiting = none ∧ s.ringEntry c = some (r, at_, b) ∧ byteAt b 0 = 1 ∧ s.ctrRefused (.comp id) (byteAt b 4) (byteAt b 5 % 64) = true) ∧
    (∃ (id : Nat) (c : Comp) (b : Bytes) (s : State), s.ringAsks id 1 c b = true ∧ fieldAt b 8 8 = c.begun + 1 ∧ c.secured + dLose c.desc < c.begun + 1) ∧
    (∃ (id w at_ : Nat) (c : Comp) (r : Region) (b : Bytes) (s : State), s.isRunning = true ∧ s.comp id = some c ∧ c.waiting = some w ∧ c.begun + 1 ≤ c.secured + c.lose ∧ s.ringEntry c = some (r, at_, b)) ∧
    (∃ (id a : Nat) (c : Comp) (b : Bytes) (p : PlaceDesc) (g : Region) (s : State), s.calm = true ∧ s.ringAsks id 2 c b = true ∧ s.pushable id c b a p = true ∧ c.direct = true ∧ s.region (fieldAt b 18 2) = some g) ∧
    (∃ (id : Nat) (c : Comp) (b : Bytes) (s : State), s.calm = true ∧ s.ringAsks id 3 c b = true ∧ c.openStep = true ∧ fieldAt b 8 8 = c.begun ∧ c.direct = true) :=
  ⟨⟨3, c0, ent 1 11 0 0 0 0, ring c0 (ent 1 11 0 0 0 0 : Bytes), by decide +kernel⟩,
   ⟨3, 128, c0, rgnC, [1, 0, 0, 0, 2] ++ zeros 59, ring c0 ([1, 0, 0, 0, 2] ++ zeros 59 : Bytes), by decide +kernel⟩,
   ⟨3, { c0 with begun := 14 }, ent 1 15 0 0 0 0, ring { c0 with begun := 14 } (ent 1 15 0 0 0 0 : Bytes), by decide +kernel⟩,
   ⟨3, 99000, 128, { c0 with waiting := some 99000 }, rgnC, ent 1 11 0 0 0 0, ring { c0 with waiting := some 99000 } (ent 1 11 0 0 0 0 : Bytes), by decide +kernel⟩,
   ⟨3, 0, { c0 with openStep := true }, ent 2 10 7 11 16 128, pushPd, rgnC, ring { c0 with openStep := true } (ent 2 10 7 11 16 128 : Bytes), by decide +kernel⟩,
   ⟨3, { c0 with openStep := true }, ent 3 10 0 0 0 0, ring { c0 with openStep := true } (ent 3 10 0 0 0 0 : Bytes), by decide +kernel⟩⟩

theorem test_witness_KeepsHoldAndAcknowledgeItems :
    (∃ (slot n : Nat) (a0 a1 : W32) (b : Bytes) (p : PlaceDesc) (s : State), s.calm = true ∧ s.slotIdle .lend slot = true ∧ s.handleRead (fld a0 31 16) (64 * a1.toNat) 64 = some b ∧ 0 < fieldAt b 12 4 ∧ fieldAt b 12 4 ≤ 4096 ∧ 0 < fieldAt b 16 8 ∧ fieldAt b 16 8 % 4096 = 0 ∧ fieldAt b 4 2 ≠ 0 ∧ s.pds.get (fieldAt b 8 4) = some p ∧ p.kind = 5 ∧ 2 * fieldAt b 12 4 * fieldAt b 16 8 + 64 * fieldAt b 12 4 ≤ p.length ∧ s.lend.keeps.lowestFree 0 64 = some n) ∧
    (∃ (slot n : Nat) (a0 : W32) (s : State), s.calm = true ∧ s.slotIdle .lend slot = true ∧ n = a0.toNat % 65536 ∧ n ≤ 63 ∧ s.lend.keeps.has n = true) ∧
    (∃ (slot n : Nat) (a0 : W32) (k : Keep) (s : State), s.calm = true ∧ s.slotIdle .lend slot = true ∧ n = a0.toNat % 65536 ∧ n ≤ 63 ∧ s.keep n = some k) ∧
    (∃ (n j : Nat) (m : Msg) (k : Keep) (p : PlaceDesc) (s : State), s.calm = true ∧ s.isRunning = true ∧ s.keepFor m = some (n, k) ∧ s.keepable m k = true ∧ s.pds.get k.pd = some p ∧ p.tier ≠ 2 ∧ j = s.freeSlotOf k (fieldAt m.body 4 4)) ∧
    (∃ (n : Nat) (m : Msg) (k : Keep) (p : PlaceDesc) (s : State), s.calm = true ∧ s.isRunning = true ∧ s.keepFor m = some (n, k) ∧ byteAt m.body 0 = 1 ∧ fieldAt m.body 8 8 = k.secured + 1 ∧ s.pds.get k.pd = some p ∧ p.tier ≠ 2 ∧ (fieldAt m.body 36 4 ≤ ((List.range k.objects).filter fun i => (s.keptAt k i (k.secured + 1)).isSome).length)) ∧
    (∃ (m : Msg) (s : State), s.calm = true ∧ s.isRunning = true ∧ s.keepFor m = none) ∧
    (∃ (id : Nat) (m : Msg) (c : Comp) (x : PushItem) (s : State), s.calm = true ∧ s.isRunning = true ∧ s.lend.restores = [] ∧ id = fieldAt m.body 2 2 ∧ s.comp id = some c ∧ c.state = 1 ∧ c.keeper = m.src ∧ c.closed = false ∧ c.direct = true ∧ c.items = [x] ∧ byteAt m.body 0 = St.ok ∧ x.offered ≤ fieldAt m.body 16 8 ∧ ackFor m.body x = true ∧ x.stepRec = false) ∧
    (∃ (id : Nat) (m : Msg) (c : Comp) (x : PushItem) (s : State), s.calm = true ∧ s.isRunning = true ∧ s.lend.restores = [] ∧ id = fieldAt m.body 2 2 ∧ s.comp id = some c ∧ c.state = 1 ∧ c.keeper = m.src ∧ c.closed = false ∧ c.direct = true ∧ c.items = [x] ∧ byteAt m.body 0 = St.ok ∧ x.offered ≤ fieldAt m.body 16 8 ∧ ackFor m.body x = true ∧ x.stepRec = true) ∧
    (∃ (id : Nat) (c : Comp) (x : PushItem) (s : State), s.calm = true ∧ s.isRunning = true ∧ s.lend.restores = [] ∧ s.comp id = some c ∧ c.state = 1 ∧ c.closed = false ∧ c.direct = true ∧ c.items = [x] ∧ x.logged = false ∧ c.ownSeq ≠ 0 ∧ x.overdue (s.reg Reg.LEND_HANDOFF_TO).toNat s.now = true) ∧
    (∃ (id : Nat) (c : Comp) (s : State), s.calm = true ∧ s.isRunning = true ∧ s.comp id = some c ∧ c.live = true ∧ c.closed = false ∧ c.detour = true ∧ c.probed + (s.reg Reg.LEND_PROBE).toNat ≤ s.now) ∧
    (∃ (v : W32) (id : Nat) (s : State), s.isRunning = true ∧ id = v.toNat % 65536) ∧
    (∃ (v : W32) (n : Nat) (s : State), s.isRunning = true ∧ n = v.toNat % 64) :=
  ⟨⟨2, 0, 0x90000, 0, krec, keepPd, ndD krec, by decide +kernel⟩,
   ⟨2, 0, 0, ndK, by decide +kernel⟩,
   ⟨2, 0, 0, k0, ndK, by decide +kernel⟩,
   ⟨0, 0, lmsg 0x28 (sph 0 1 11 4 8 8 (crc32c [1,2,3,4,5,6,7,8]).toNat [1,2,3,4,5,6,7,8]), k0, keepPd, ndK, by decide +kernel⟩,
   ⟨0, lmsg 0x28 (sph 1 0 11 4 0 0 0 []), k0, keepPd, ndK, by decide +kernel⟩,
   ⟨lmsg 0x28 (sph 1 0 11 4 0 0 0 []), nd0, by decide +kernel⟩,
   ⟨3, lmsg 0x29 (ackB 0 7 10 4), { c0 with items := [it0], ownSeq := 2 }, it0, ndC { c0 with items := [it0], ownSeq := 2 }, by decide +kernel⟩,
   ⟨3, lmsg 0x29 (ackB 1 0 10 4), { c0 with items := [{ it0 with stepRec := true, bytes := 0 }], ownSeq := 2 }, { it0 with stepRec := true, bytes := 0 }, ndC { c0 with items := [{ it0 with stepRec := true, bytes := 0 }], ownSeq := 2 }, by decide +kernel⟩,
   ⟨3, { c0 with items := [it0], ownSeq := 2 }, it0, (ndC { c0 with items := [it0], ownSeq := 2 }).setReg Reg.LEND_HANDOFF_TO 1000, by decide +kernel⟩,
   ⟨3, { c0 with detour := true }, (ndC { c0 with detour := true }).setReg Reg.LEND_PROBE 1000, by decide +kernel⟩,
   ⟨3, 3, ndC c0, by decide +kernel⟩,
   ⟨64, 0, ndK, by decide +kernel⟩⟩

end W12

namespace W13

def rgnS : Region := ⟨0, .system, 2, false, false, [5, 6], 0, []⟩
def coreL : CoreSt := { coreReset with live := true }
def fl (f : FltSt → FltSt) : State := { run0 with flt := f run0.flt, kitty := { run0.kitty with regions := [(9, rgnS)] ++ run0.kitty.regions } }
/-- Steward dies 0 and 1 with their cores live; core 1 is the service's. -/
def twoDies : State :=
  let u := { run0 with host := { run0.host with cores := (List.range 16).map fun c => (c, coreL), service := 1, serviceLive := true }, start := { run0.start with stewards := [0, 1], stageOwner := some (.hostMailbox 3) } }
  u.setReg (Reg.FLT_CLS_THRESH + 0xD0) 8
def drl : Drill := ⟨150, 99000, 0, 3, 99000, true⟩
def ent1 : DrillEntry := ⟨5, 7, true, 40000, 7, 1⟩

theorem test_witness_FaultsLeakRetireAndFailOver :
    (∃ (cls inst p : Nat) (s : State), p = s.leakPeriod cls ∧ p ≠ 0 ∧ s.now % p = 0 ∧ 0 < s.flt.counters.getD (fltKey cls inst) 0 ∧ s.flt.lastEvent.get (fltKey cls inst) ≠ some s.now) ∧
    (∃ (bank : Nat) (c : SpareCopy) (s : State), s.start.phase = .running ∧ (s.flt.copying.find? (fun c => c.bank == bank) = some c)) ∧
    (∃ (c d : Nat) (s : State), s.calm = true ∧ s.isRunning = true ∧ (s.core c).live = true ∧ s.isRetired 12 c = false ∧ d ≠ c ∧ d / 8 = c / 8 ∧ (s.core d).live = true ∧ s.slots.runs = [] ∧ (s.core c).quiet = true ∧ s.uncrossed 0x0042 13 (c / 8) = true) ∧
    (∃ (q p : Nat) (s : State), s.calm = true ∧ s.isRunning = true ∧ q ∈ s.liveStewards ∧ q < 4 ∧ s.slots.runs = [] ∧ p ∈ s.liveStewards ∧ p ≠ q ∧ ((∀ i, i < 8 → (s.core (8 * q + i)).quiet = true)) ∧ ((∀ x ∈ s.liveStewards, x < 4 ∧ (s.core (8 * x + 1)).live = true))) ∧
    (∃ (slot i sp bank : Nat) (a0 : W32) (s : State), s.calm = true ∧ s.slotIdle .flt slot = true ∧ fld a0 20 16 = 0 ∧ i = fld a0 15 0 ∧ i < 2352 ∧ s.isRetired 0 i = false ∧ s.bankServedBy i = some bank ∧ ((∀ c ∈ s.flt.copying, c.bank ≠ bank)) ∧ s.freeSpare (bank / 96) = some sp) ∧
    (∃ (slot l : Nat) (a0 : W32) (s : State), s.calm = true ∧ s.slotIdle .flt slot = true ∧ fld a0 20 16 = 14 ∧ l = fld a0 15 0 ∧ l < 96 ∧ s.isRetired 14 l = false ∧ (s.port l).state = 0) ∧
    (∃ (sd : Nat) (s : State), s.calm = true ∧ s.isRunning = true ∧ sd < 24) ∧
    (∃ (ld : Nat) (s : State), s.calm = true ∧ s.isRunning = true ∧ ld < 12 ∧ ((∀ i, i < 8 → (s.port (8 * ld + i)).state = 0 ∧ s.isRetired 14 (8 * ld + i) = false))) :=
  ⟨⟨4, 7, 1000, ((fl fun f => { f with counters := [(fltKey 4 7, 3), (fltKey 4 8, 2)] }).setReg (Reg.FLT_CLS_THRESH + 0x40) 100).setPair (Reg.FLT_CLS_WINDOW_LO + 0x40) 100000, by decide +kernel⟩,
   ⟨100, ⟨100, 2306, 99000⟩, fl fun f => { f with copying := [⟨100, 2306, 99000⟩, ⟨8, 2304, 99000⟩], counters := [(fltKey 0 100, 3)] }, by decide +kernel⟩,
   ⟨1, 4, twoDies, by decide +kernel⟩,
   ⟨0, 1, twoDies, by decide +kernel⟩,
   ⟨2, 100, 2306, 100, 100, fl id, by decide +kernel⟩,
   ⟨2, 3, 0xE0003, fl id, by decide +kernel⟩,
   ⟨23, fl id, by decide +kernel⟩,
   ⟨11, fl id, by decide +kernel⟩⟩

theorem test_witness_DrillsRunAndFaultSelectorsShow :
    (∃ (i : Nat) (e : DrillEntry) (d : Drill) (s : State), s.isRunning = true ∧ s.flt.schedule[i]? = some e ∧ e.enabled = true ∧ s.past (s.flt.acceptLtc + (e.fired + 1) * e.interval) = true ∧ s.flt.running = some d ∧ ((∀ x ∈ s.flt.queue, x.interval = 0 ∨ s.now < x.due + x.interval))) ∧
    (∃ (i : Nat) (e : DrillEntry) (s : State), s.isRunning = true ∧ s.flt.schedule[i]? = some e ∧ e.enabled = true ∧ s.past (s.flt.acceptLtc + (e.fired + 1) * e.interval) = true ∧ s.now < s.flt.acceptLtc + (e.fired + 2) * e.interval ∧ s.drillable e.nextPoint = true) ∧
    (∃ (d : Drill) (s : State), s.start.phase = .running ∧ s.flt.running = some d ∧ s.flt.queue = []) ∧
    (∃ (slot n : Nat) (a0 a1 : W32) (b : Bytes) (s : State), s.calm = true ∧ s.slotIdle .flt slot = true ∧ n = fld a0 6 0 ∧ 0 < n ∧ n ≤ 64 ∧ s.handleRead (fld a0 31 16) (64 * a1.toNat) (16 * n) = some b ∧ ((∀ i, i < n → fieldAt (sliceAt b (16 * i) 16) 0 2 ≤ fieldAt (sliceAt b (16 * i) 16) 2 2 ∧ fieldAt (sliceAt b (16 * i) 16) 2 2 < 200 ∧ 100000000 ≤ fieldAt (sliceAt b (16 * i) 16) 8 8 ∧ fieldAt (sliceAt b (16 * i) 16) 8 8 ≤ 2 ^ 48))) ∧
    (∃ (slot : Nat) (a0 : W32) (s : State), s.calm = true ∧ s.slotIdle .flt slot = true ∧ fld a0 6 0 = 0) ∧
    (∃ (slot p : Nat) (a0 : W32) (d : Drill) (s : State), s.calm = true ∧ s.slotIdle .flt slot = true ∧ p = fld a0 7 0 ∧ p < 200 ∧ s.flt.running = some d) ∧
    (∃ (slot p : Nat) (a0 : W32) (s : State), s.calm = true ∧ s.slotIdle .flt slot = true ∧ p = fld a0 7 0 ∧ p < 200 ∧ s.drillable p = true) ∧
    (∃ (s : State), s.isRunning = true) ∧
    (∃ (v : W32) (b : Bytes) (s : State), s.isRunning = true ∧ (b = ((s.flt.log.find? fun r => r.seq % 2 ^ 32 == v.toNat).map FltRec.bytes).getD [])) ∧
    (∃ (s : State), s.isRunning = true) ∧
    (∃ (v : W32) (c i : Nat) (s : State), s.isRunning = true ∧ c = fld v 20 16 ∧ i = fld v 15 0) ∧
    (∃ (v : W32) (x : DrillPoint) (s : State), s.isRunning = true ∧ x = s.flt.points.getD (fld v 7 0) ⟨0, 0, 0, 0⟩) :=
  ⟨⟨1, ent1, drl, fl fun f => { f with schedule := [⟨0, 1, false, 5, 0, 0⟩, ent1], running := some drl }, by decide +kernel⟩,
   ⟨1, ent1, fl fun f => { f with schedule := [⟨0, 1, false, 5, 0, 0⟩, ent1] }, by decide +kernel⟩,
   ⟨drl, fl fun f => { f with running := some drl }, by decide +kernel⟩,
   ⟨2, 1, 0x90001, 1, leBytes 2 3 ++ leBytes 2 199 ++ leBytes 4 1 ++ leBytes 8 100000000, { fl id with kmem := Mem.writeBytes [] (5 * unitBytes + 64) (leBytes 2 3 ++ leBytes 2 199 ++ leBytes 4 1 ++ leBytes 8 100000000 : Bytes) }, by decide +kernel⟩,
   ⟨2, 0x90000, fl fun f => { f with schedule := [ent1] }, by decide +kernel⟩,
   ⟨2, 199, 199, drl, fl fun f => { f with running := some drl }, by decide +kernel⟩,
   ⟨2, 30, 30, fl id, by decide +kernel⟩,
   ⟨fl id, by decide +kernel⟩,
   ⟨55, FltRec.bytes ⟨0x52, 2, false, false, 14, 3, 9, 99, 55⟩, fl fun f => { f with log := [⟨0x52, 2, false, false, 14, 3, 9, 99, 56⟩, ⟨0x52, 2, false, false, 14, 3, 9, 99, 55⟩] }, by decide +kernel⟩,
   ⟨fl fun f => { f with retired := [(14, 33), (14, 3), (4, 3)] }, by decide +kernel⟩,
   ⟨0xFFE40007, 4, 7, (fl fun f => { f with counters := [(fltKey 4 7, 3), (fltKey 4 8, 2)] }).setReg (Reg.FLT_CLS_THRESH + 0x40) 100, by decide +kernel⟩,
   ⟨0xFFFFFF03, ⟨2, 77, 5, 6⟩, fl fun f => { f with points := [(3, ⟨2, 77, 5, 6⟩)] }, by decide +kernel⟩⟩

end W13

namespace W14

def coreL : CoreSt := { coreReset with live := true }
/-- Cores 0 to 15 live, core 1 the service's, host mailbox 3's target core 5. -/
def hs : State :=
  let u := { run0 with host := { run0.host with cores := (List.range 16).map fun c => (c, coreL), service := 1, serviceLive := true }, start := { run0.start with stewards := [0, 1] } }
  u.setReg (mboxReg Reg.MBX_H_TARGET 3) 5
def mm (n : Nat) : MboxMsg := ⟨[w32 (0x03000000), w32 n, 7, 8, 9], 3⟩
def inBox (c : Nat) (l : List MboxMsg) : State := hs.setCore c { coreL with fromHost := ⟨l, if l.isEmpty then [] else [3], !l.isEmpty⟩ }
def inCore (c : Nat) (l : List MboxMsg) : State := hs.setCore c { coreL with fromCores := ⟨l, if l.isEmpty then [] else [20], !l.isEmpty⟩ }
def req (w : List W32) : State := inBox 1 [⟨w, 3⟩, mm 4]
def w16s (f : Nat → Nat) : List W32 := (List.range 16).map fun i => w32 (f i)
def echoW : List W32 := 0x03000000 :: 0x00090001 :: (List.range 14).map fun i => w32 (i + 5)
def blkW (op : Nat) : List W32 := [0x03000000, 0x00090002, w32 (Family.base .sched), w32 op, 3, 0, 0, 0, 0, 0, 0, 0, 0, 0, 0, 0]
def attW : List W32 := 0x03000000 :: 0x00090020 :: ((List.range 8).map fun i => w32 (i + 5)) ++ [6, 0, 0, 0, 0, 0]

theorem test_witness_MailboxesPostPopRingAndReset :
    (∃ (h first : Nat) (words : List W32) (c : Nat) (s : State), h < 16 ∧ first ≤ 15 ∧ 16 ≤ first + words.length ∧ c = s.targetCore h ∧ (s.core c).live = true ∧ (s.core c).fromHost.msgs.length < 4) ∧
    (∃ (h first : Nat) (words : List W32) (c : Nat) (s : State), h < 16 ∧ first ≤ 15 ∧ 16 ≤ first + words.length ∧ c = s.targetCore h ∧ ((s.core c).live = false ∨ 4 ≤ (s.core c).fromHost.msgs.length)) ∧
    (∃ (h first : Nat) (words : List W32), h < 16 ∧ first + words.length < 16) ∧
    (∃ (c h : Nat) (s : State), (s.core c).live = true ∧ h < 16 ∧ (s.box h).fifo.msgs.length < 4) ∧
    (∃ (c d : Nat) (s : State), (s.core c).live = true ∧ (s.core d).live = true ∧ (s.core d).fromCores.msgs.length < 4) ∧
    (∃ (c d : Nat) (s : State), (s.core c).live = true ∧ d < 32) ∧
    (∃ (c h : Nat) (s : State), (s.core c).live = true ∧ h < 16) ∧
    (∃ (c : Nat) (s : State), s.calm = true ∧ (s.core c).live = true) ∧
    (∃ (c : Nat) (s : State), s.calm = true ∧ (s.core c).live = true) ∧
    (∃ (c : Nat) (s : State), s.calm = true ∧ s.isRunning = true ∧ (s.core c).live = true ∧ s.uncrossed 0x0040 12 c = true) ∧
    (∃ (h : Nat) (v : W32) (s : State), h < 16 ∧ v.getLsbD 0 = true ∧ s.noneHeld h = true) ∧
    (∃ (h : Nat) (v : W32) (r : HeldReply) (s : State), h < 16 ∧ v.getLsbD 0 = true ∧ (s.host.held.find? (fun r => r.mailbox == h) = some r) ∧ (s.box h).fifo.msgs.length = 4) ∧
    (∃ (h c : Nat) (s : State), h < 16 ∧ c = s.targetCore h) ∧
    (∃ (h : Nat) (v : W32) (s : State), h < 16 ∧ v.getLsbD 0 = true ∧ (s.box h).fifo.msgs = [] ∧ s.noneHeld h = true) ∧
    (∃ (h : Nat), h < 16) ∧
    (∃ (h : Nat), h < 16) :=
  ⟨⟨3, 0, w16s (· + 7), 5, hs, by decide +kernel⟩,
   ⟨3, 15, [9], 5, inBox 5 [mm 1, mm 2, mm 3, mm 4], by decide +kernel⟩,
   ⟨3, 15, [], by decide +kernel⟩,
   ⟨5, 3, hs, by decide +kernel⟩,
   ⟨5, 6, hs, by decide +kernel⟩,
   ⟨5, 31, hs, by decide +kernel⟩,
   ⟨5, 15, hs.setReg (mboxReg Reg.MBX_H_DB_MASK 15) 8, by decide +kernel⟩,
   ⟨5, inBox 5 [mm 1, mm 2, mm 3], by decide +kernel⟩,
   ⟨5, inCore 5 [mm 1], by decide +kernel⟩,
   ⟨5, inBox 5 [mm 1], by decide +kernel⟩,
   ⟨3, 1, hs.setBox 3 ⟨⟨[mm 1, mm 2], [21], true⟩, List.replicate 16 0⟩, by decide +kernel⟩,
   ⟨3, 1, ⟨3, w16s (· + 5)⟩, let u := hs.setBox 3 ⟨⟨[mm 1, mm 2, mm 3, mm 4], [21], true⟩, List.replicate 16 0⟩; { u with host := { u.host with held := [⟨4, []⟩, ⟨3, w16s (· + 5)⟩] } }, by decide +kernel⟩,
   ⟨3, 5, hs, by decide +kernel⟩,
   ⟨3, 1, (hs.setReg (mboxReg Reg.MBX_H_DB 3) 9).setReg (mboxReg Reg.MBX_H_IRQ_STATUS 3) 5, by decide +kernel⟩,
   ⟨15, by decide +kernel⟩,
   ⟨0, by decide +kernel⟩⟩

theorem test_witness_HostServiceAnswersAndInterruptsAreSent :
    (∃ (c : Nat) (w : List W32) (s : State), s.hostAsks c 1 w = true) ∧
    (∃ (c q : Nat) (p : Point) (w : List W32) (s : State), s.calm = true ∧ s.hostAsks c 2 w = true ∧ s.slotIdle .sched (c / 8) = true ∧ (w.getD 2 0).toNat = Family.base .sched ∧ fld (w.getD 3 0) 7 0 = 3 ∧ pointOf (w.getD 4 0).toNat = (p, q) ∧ s.pointOk p = true) ∧
    (∃ (c : Nat) (f : Family) (w : List W32) (s : State), s.calm = true ∧ s.hostAsks c 2 w = true ∧ blockFamily w = some f ∧ c < 32 ∧ s.slotBusy f (c / 8) = true) ∧
    (∃ (c k : Nat) (w : List W32) (s : State), s.hostAsks c 0x20 w = true ∧ s.isRunning = true ∧ k = (w.getD 10 0).toNat ∧ k ≤ 6) ∧
    (∃ (r : IrqReg) (s : State), s.irqServed r = true ∧ irqIsStatus r = true) ∧
    (∃ (r : IrqReg) (s : State), s.irqServed r = true ∧ irqIsStatus r = false) ∧
    (∃ (v : Nat) (s : State), v < 64 ∧ v ∉ s.host.pba) ∧
    (∃ (v : Nat) (r : IrqReg) (s : State), v < 64 ∧ v ∈ s.host.pba ∧ vectorSource v = some r ∧ s.asserted r = true ∧ s.host.msixEnable = true ∧ (s.host.funcMask = false) ∧ s.host.busMaster = true) :=
  ⟨⟨1, echoW, req echoW, by decide +kernel⟩,
   ⟨1, 0, .link 3, blkW 3, (req (blkW 3)).setPoint (.link 3) { linkPoint with nextGates := some (99900, [(5, 1)]) }, by decide +kernel⟩,
   ⟨1, .sched, blkW 3, withRun .sched 0 1 (.other 3 0 0) (req (blkW 3)), by decide +kernel⟩,
   ⟨1, 6, attW, req attW, by decide +kernel⟩,
   ⟨.mbxStatus 15, hs.setReg (irqSource (.mbxStatus 15)).1 15, by decide +kernel⟩,
   ⟨.clkMask, hs, by decide +kernel⟩,
   ⟨63, hs.setReg (Reg.MSIX_CTRL + 0x3F0) 1, by decide +kernel⟩,
   ⟨4, .mbxStatus 0, { ((hs.setReg (Reg.MSIX_CTRL + 0x40) 1).setReg (mboxReg Reg.MBX_H_IRQ_STATUS 0) 1).setReg (irqSource (.mbxStatus 0)).2.1 1 with host := { hs.host with pba := [4], msixEnable := true, busMaster := true } }, by decide +kernel⟩⟩

end W14

namespace W15

def ph (p : Phase) : State := { run0 with start := { run0.start with phase := p, flashA := [(0, 5)], flashB := [(7, 9)] } }
def att (p : Phase) : State := { ph p with start := { (ph p).start with trying := some true, stewards := [0, 1, 2] } }
def hs : State := { run0 with start := { run0.start with stewards := [0, 1], accepted := some false, flashA := [(0, 5)], flashB := [(7, 9)] }, host := { run0.host with cores := [(1, { coreReset with live := true })], service := 1, serviceLive := true, xfer := (List.range 4096).map fun i => (4096 * 7 + i, 3) } }
def stg : State := { hs with start := { hs.start with stageOwner := some (.hostMailbox 3), stageTarget := true, stageBlocks := [1] } }

theorem test_witness_StartGoesThroughItsPhases :
    (∃ (s : State), s.clk.pwrok = true ∧ s.clk.porN = false) ∧
    (∃ (s : State), s.clk.pwrok = true ∧ s.clk.porN = false) ∧
    (∃ (s : State), s.clk.porN = true ∧ s.clk.ticking = false ∧ s.start.phase = .reset) ∧
    (∃ (n : Nat) (rest passed : List Nat) (s : State), s.start.phase = .rom ∧ s.start.restarting = false ∧ (([0, 1, 2, 3].filter fun n => n ∈ passed) = n :: rest)) ∧
    (∃ (passed : List Nat) (s : State), s.start.phase = .rom ∧ s.start.restarting = false ∧ (([0, 1, 2, 3].filter fun n => n ∈ passed) = [])) ∧
    (∃ (s : State), s.start.phase = .image) ∧
    (∃ (b : Bool) (passed : List Nat) (s : State), s.start.phase = .load ∧ s.start.trying = some b ∧ (checkDigests (s.start.flash b)).isNone = true ∧ s.start.lead ∈ passed) ∧
    (∃ (b readError : Bool) (passed : List Nat) (s : State), s.start.phase = .load ∧ s.start.trying = some b ∧ (readError = true ∨ (checkDigests (s.start.flash b)).isSome = true ∨ s.start.lead ∉ passed)) ∧
    (∃ (b : Bool) (s : State), s.start.phase = .config ∧ s.start.trying = some b) ∧
    (∃ (b : Bool) (s : State), s.calm = true ∧ s.start.phase = .bringUp ∧ s.start.trying = some b ∧ s.cfg.deny = []) ∧
    (∃ (b : Bool) (s : State), s.start.phase.attempting = true ∧ s.start.trying = some b ∧ s.past (s.start.loadLtc + 6000000000) = true) ∧
    (∃ (b : Bool) (s : State), s.start.phase.attempting = true ∧ s.start.trying = some b) :=
  ⟨⟨{ ph .reset with clk := { clkReset with pwrok := true } }, by decide +kernel⟩,
   ⟨{ ph .reset with clk := { clkReset with pwrok := true } }, by decide +kernel⟩,
   ⟨{ ph .reset with clk := { clkReset with pwrok := true, porN := true } }, by decide +kernel⟩,
   ⟨2, [3], [3, 2], ph .rom, by decide +kernel⟩,
   ⟨[], ph .rom, by decide +kernel⟩,
   ⟨ph .image, by decide +kernel⟩,
   ⟨true, [0, 2], att .load, by decide +kernel⟩,
   ⟨true, true, [0, 2], att .load, by decide +kernel⟩,
   ⟨true, att .config, by decide +kernel⟩,
   ⟨true, att .bringUp, by decide +kernel⟩,
   ⟨true, { att .config with clk := { run0.clk with ltc := 6000000001 } }, by decide +kernel⟩,
   ⟨true, att .load, by decide +kernel⟩⟩

theorem test_witness_StagingAndPublication :
    (∃ (x : Sender) (s : State), s.stagingServed = true ∧ s.start.restarting = false ∧ x ≠ .other ∧ s.start.stageOwner = none) ∧
    (∃ (x : Sender) (s : State), s.stagingServed = true ∧ s.start.restarting = false ∧ x ≠ .other ∧ s.start.stageOwner.isSome = true) ∧
    (∃ (x : Sender) (off : W64) (k : Nat) (s : State), s.stagingServed = true ∧ s.start.restarting = false ∧ s.start.stageOwner = some x ∧ off.toNat < s.start.capacity ∧ off.toNat % 4096 = 0 ∧ off.toNat / 4096 ∉ s.start.stageBlocks ∧ k ≤ 7) ∧
    (∃ (x : Sender) (m : Mem) (s : State), s.stagingServed = true ∧ s.start.restarting = false ∧ s.start.stageOwner = some x ∧ m = s.start.flash s.start.stageTarget) ∧
    (∃ (x : Sender) (s : State), s.stagingServed = true ∧ s.start.restarting = false ∧ s.start.stageOwner = some x) ∧
    (∃ (s : State), s.isRunning = true ∧ s.cfg.accepted ≠ 0) ∧
    (∃ (s : State), (s.start.phase = .running ∨ s.start.phase = .bringUp)) ∧
    (∃ (s : State), s.start.restarting = false ∧ s.start.phase ≠ .reset ∧ s.start.phase ≠ .refLost) ∧
    (∃ (v : W32), v ≠ 0x54455352) :=
  ⟨⟨.hostMailbox 3, hs, by decide +kernel⟩,
   ⟨.controlCore 9, stg, by decide +kernel⟩,
   ⟨.hostMailbox 3, 0x2000, 7, stg, by decide +kernel⟩,
   ⟨.hostMailbox 3, [(7, 9)], stg, by decide +kernel⟩,
   ⟨.hostMailbox 3, stg, by decide +kernel⟩,
   ⟨{ hs with cfg := { hs.cfg with accepted := 3, milepost := 4 } }, by decide +kernel⟩,
   ⟨{ hs with cfg := { hs.cfg with waymark := List.replicate 64 3, milepost := 2 ^ 33 + 4 } }, by decide +kernel⟩,
   ⟨stg, by decide +kernel⟩,
   ⟨0x54455353, by decide +kernel⟩⟩

theorem test_witness_PowerClocksAndTemperatures :
    (∃ (die : Nat) (s : State), s.calm = true ∧ s.clk.pwrok = true ∧ 8 ≤ die ∧ die < 60) ∧
    (∃ (s : State), s.clk.pllLocked = true) ∧
    (∃ (s : State), s.calm = true ∧ s.isRunning = true ∧ s.now % 10000 = 0 ∧ s.clk.hot105 = [] ∧ ((∀ d ∈ s.clk.duty, 4 ≤ d ∧ d ≤ 16))) ∧
    (∃ (mv : Nat) (s : State), s.isRunning = true ∧ s.now % 10000 = 0 ∧ mv ≠ 0) ∧
    (∃ (s : State), s.start.phase ≠ .reset) ∧
    (∃ (v : W32) (x : Sensor) (s : State), s.isRunning = true ∧ fld v 3 0 < sensorCount (fld v 15 8) ∧ s.clk.sensors.get (16 * fld v 15 8 + fld v 3 0) = some x) :=
  ⟨⟨59, run0, by decide +kernel⟩,
   ⟨run0, by decide +kernel⟩,
   ⟨run0, by decide +kernel⟩,
   ⟨750, { run0 with clk := { run0.clk with power := [500, 400] } }, by decide +kernel⟩,
   ⟨ph .image, by decide +kernel⟩,
   ⟨0xFFFF0001, ⟨-5, 80, true, 3⟩, { run0 with clk := { run0.clk with sensors := [(1, ⟨-5, 80, true, 3⟩)] } }, by decide +kernel⟩⟩

end W15

namespace W17

/-- A region of two units of tenant 7, number 9, generation 3, and its handle. -/
def rgn0 : Region := ⟨3, .tenant 7, 2, false, false, [5, 6], 0, []⟩
def hnd0 : Nat := 3 * 4096 + 9
def kit (r : Region) : State :=
  { run0 with
    kitty := { run0.kitty with regions := [(9, r)] ++ run0.kitty.regions, lastGen := [(9, 3)], units := [(5, .allocated), (6, .allocated), (8, .scrub)] }
    quota := ⟨[(quotaKey (.tenant 7) 0, 4), (quotaKey (.tenant 7) 1, 4)], [], []⟩ }
def acc0 (w : Option Bytes) (d : Owner) : Access := ⟨8, 1, d, w16 hnd0, 0x200005, 128, w, false, .clean⟩
/-- The state with messages of the transport. -/
def withMsgs (ms : Tbl XpMsg) (s : State) : State := { s with xp := { s.xp with msgs := ms } }
def rm (cls : Nat) : XpMsg := ⟨8, 0, 5, 64, 32, none, cls, 1, [], [], [], 0, false, false, .atBank 3, .clean⟩
def spl (p : PageSt) : Region := { rgn0 with spill := true, detour := 4, pages := [(3, p)] }
def det0 : PlaceDesc := ⟨3, 1, false, false, 2, false, .tenant 7, 256 * slotBytes, [⟨2 ^ 36, 256 * slotBytes⟩], false⟩
def kits (p : PageSt) : State := { kit (spl p) with pds := [(4, det0)] }
def tile0 : Bytes := codeTile 0 (cutBlocks 1 (List.replicate 4096 7))
def td0 : TileDesc := ⟨1, 1, w16 hnd0, 3, w64 (2 ^ 36), w16 hnd0, 100, 1, 77⟩
def kitt : State := { kit rgn0 with smem := Mem.writeBytes [] (2 ^ 36) tile0, kmem := [(5 * unitBytes + 6400, 9)] }
def rgnS : Region := ⟨0, .system, 2, false, false, [5, 6], 0, []⟩
def sc0 : State := { run0 with kitty := { run0.kitty with regions := [(9, rgnS)] ++ run0.kitty.regions }, cfg := { State.reset.cfg with tenantTables := [(7, [0x20])] } }
def pt3 (x : PointSt) : State := sc0.setPoint (.link 3) x

theorem test_witness_SelectorsShowTheSelected :
    (∃ (v : W32) (r : Region) (s : State), s.isRunning = true ∧ s.kitty.regions.get (v.toNat % 4096) = some r) ∧
    (∃ (v : W32) (s : State), s.isRunning = true ∧ s.kitty.regions.get (v.toNat % 4096) = none) ∧
    (∃ (v : W32) (o : Option Owner) (s : State), s.isRunning = true ∧ ownerOf (v &&& 0xC000FFFF).toNat = o) ∧
    (∃ (v : W32) (sd c : Nat) (s : State), s.isRunning = true ∧ sd = fld v 12 8 ∧ c = fld v 2 0) ∧
    (∃ (v : W32) (x : IdxTable) (s : State), s.isRunning = true ∧ s.tbl (fld v 9 0) = some x) ∧
    (∃ (v : W32) (s : State), s.isRunning = true ∧ s.tbl (fld v 9 0) = none) ∧
    (∃ (v : W32) (x : IdxTable) (e : DirEntry) (s : State), s.isRunning = true ∧ s.tbl (fld (s.reg Reg.IDX_LST_SEL_TABLE) 9 0) = some x ∧ 3 ≤ x.state ∧ fld v 23 0 < x.gen.lists ∧ s.dirEntry x.gen (fld v 23 0) = e) ∧
    (∃ (v : W32) (s : State), s.isRunning = true ∧ ((∀ x, s.tbl (fld (s.reg Reg.IDX_LST_SEL_TABLE) 9 0) = some x → x.state < 3 ∨ x.gen.lists ≤ fld v 23 0))) ∧
    (∃ (v : W32) (e : Option (Nat × Nat)) (s : State), s.isRunning = true ∧ (s.idx.hotLast.getD (fld v 9 8) [])[fld v 5 0]? = e) ∧
    (∃ (s : State), s.isRunning = true) ∧
    (∃ (v : W32) (p : Point) (q : Nat) (s : State), s.isRunning = true ∧ pointOf (v &&& 0x80070FFF).toNat = (p, q) ∧ s.pointOk p = true) ∧
    (∃ (v : W32) (s : State), s.isRunning = true ∧ s.pointOk (pointOf (v &&& 0x80070FFF).toNat).1 = false) ∧
    (∃ (v : W32) (o : Owner) (code : Nat) (s : State), s.isRunning = true ∧ ownerOf (v &&& 0xC00FFFFF).toNat = some o ∧ code = fld v 19 16 ∧ code ≤ 4 ∧ s.quotaHolder o = true) ∧
    (∃ (v : W32) (s : State), s.isRunning = true ∧ ((∀ o, ownerOf (v &&& 0xC00FFFFF).toNat = some o → 4 < fld v 19 16 ∨ s.quotaHolder o = false))) :=
  ⟨⟨0xFFFF0009, rgn0, kit rgn0, by decide +kernel⟩,
   ⟨0xFFFF0008, kit rgn0, by decide +kernel⟩,
   ⟨0x40000007, some (.tenant 7), kit rgn0, by decide +kernel⟩,
   ⟨0xFFFFF707, 23, 7, { kit rgn0 with kitty := { State.reset.kitty with classes := [(8 * 23 + 7, ⟨5, 6⟩)] } }, by decide +kernel⟩,
   ⟨0xFFFFFC05, tbl0, withTbl tbl0, by decide +kernel⟩,
   ⟨0xFFFFFC06, withTbl tbl0, by decide +kernel⟩,
   ⟨1, tbl0, ((withTbl tbl0).dirEntry tbl0.gen 1), (withTbl tbl0).setReg Reg.IDX_LST_SEL_TABLE 5, by decide +kernel⟩,
   ⟨0xFFFFFF, (withTbl tbl0).setReg Reg.IDX_LST_SEL_TABLE 6, by decide +kernel⟩,
   ⟨0x300, some (5 * 2 ^ 24 + 1, 9), { withTbl tbl0 with idx := { State.reset.idx with hotLast := [(3, [(5 * 2 ^ 24 + 1, 9)])] } }, by decide +kernel⟩,
   ⟨{ sc0 with clk := { sc0.clk with ltc := 0x500000004 } }, by decide +kernel⟩,
   ⟨0x50003, .link 3, 5, pt3 (linkPoint.sentItem 5 9 false), by decide +kernel⟩,
   ⟨0x80000FFF, sc0, by decide +kernel⟩,
   ⟨0x40010007, .tenant 7, 1, { sc0 with quota := { sc0.quota with limits := [(quotaKey (.tenant 7) 1, 55)], denied := [(quotaKey (.tenant 7) 1, 4)] } }, by decide +kernel⟩,
   ⟨0x40010008, sc0, by decide +kernel⟩⟩

end W17

end Sys2Proof.Tests
end

section
/-! SUPPORT. A transport message that has no route, before the fault log begins (R41, R541): it completes with FAULT and leaves no record. -/

namespace Sys2Proof.Machine

/-- The phases before LOAD, in which the fault log has not begun (R541). -/
def Phase.beforeLog : Phase → Bool
  | .reset | .rom | .image => true
  | _ => false

theorem State.logEvent_beforeLog {s : State} (h : s.start.phase.beforeLog = true) (code sev cls inst detail : Nat) (crossed injected : Bool) :
    s.logEvent code sev cls inst detail crossed injected = s := by
  unfold State.logEvent
  cases hp : s.start.phase <;> simp_all [Phase.beforeLog]

/-- XP_NO_ROUTE adds nothing to a counter (Table 15.1): its record is all it leaves. -/
theorem State.fault_noRoute (inst detail : Nat) (s : State) : s.fault 0x0014 inst detail = s.logEvent 0x0014 sevAction 1 inst detail false false := by
  simp [State.fault, State.faultOf, faultRow]

theorem State.msgFault_same (id : Nat) (m : XpMsg) (s : State) : State.Same [.host, .xp, .out] s (s.msgFault id m) := by
  unfold State.msgFault State.markErrDie State.setOnes
  constructor <;> simp

@[simp] theorem State.msgFault_blockWait (id : Nat) (m : XpMsg) (s : State) : (s.msgFault id m).host.blockWait = s.host.blockWait := rfl

theorem State.msgFault_reg (id : Nat) (m : XpMsg) (s : State) (x : Nat) (hlo : x ≠ Reg.KITTY_XP_ERR_DIE_LO) (hhi : x ≠ Reg.KITTY_XP_ERR_DIE_HI) :
    (s.msgFault id m).reg x = s.reg x := by
  unfold State.msgFault State.markErrDie
  rw [State.emit_reg, State.setOnes_reg_ne _ _ _ _ (by split_ifs <;> assumption)]
  rfl

@[simp] theorem State.msgFault_msgs (id : Nat) (m : XpMsg) (s : State) : (s.msgFault id m).xp.msgs = s.xp.msgs.del id := by
  simp [State.msgFault, State.markErrDie, State.setOnes]

@[simp] theorem State.msgFault_out (id : Nat) (m : XpMsg) (s : State) : (s.msgFault id m).out = .access m.die m.port St.fault [] :: s.out := by
  simp [State.msgFault, State.markErrDie, State.setOnes]

/-- Before the log begins a message without a route completes with FAULT, and that is all. -/
theorem State.msgNoRoute_beforeLog {s : State} (h : s.start.phase.beforeLog = true) (id : Nat) (m : XpMsg) : s.msgNoRoute id m = s.msgFault id m := by
  have hp : (s.msgFault id m).start = s.start := (State.msgFault_same id m s).start (by decide)
  rw [State.msgNoRoute, State.fault_noRoute, State.logEvent_beforeLog (by rwa [hp])]

theorem State.msgFault_keepsCalm (id : Nat) (m : XpMsg) (s : State) : State.KeepsCalm s (s.msgFault id m) := by
  have h := State.msgFault_same id m s
  exact .of (fun hd => by rw [h.flt (by decide), hd]) (h.ton (by decide)) (by simp) (h.slots (by decide)) (h.qry (by decide)) (h.link (by decide))
    (h.post (by decide)) (h.emb (by decide)) (h.med (by decide))

/-- The first message that waits at its port, without a route, completes so (R41). -/
theorem issueMsg_of_noRoute {die port id : Nat} {m : XpMsg} {s : State}
    (hf : s.xp.msgs.find? (fun e => e.2.die == die && e.2.port == port && e.2.stage == .waiting) = some (id, m))
    (hr : s.route m.avoid m.die (unitDie m.unit) m.line = none) (found : List (Nat × AdapterEvent)) :
    issueMsg die port found s = s.msgNoRoute id m := by
  simp only [issueMsg, hf, State.send, hr]

theorem exec_xpMessageIssue (die : Nat) (port : Crossing) (s : State) :
    exec (.xpMessageIssue die port) s =
      .next (s.finish [.host, .xp, .kitty, .flt, .out, .reg .flt, .reg .kitty] (issueMsg die port.id port.found s)) := rfl

/-- Before the log begins XP_MESSAGE_ISSUE completes a message without a route with FAULT, and leaves the fault log as it is. -/
theorem does_xpMessageIssue_beforeLog {die port id : Nat} {m : XpMsg} {s : State} (hc : s.calm = true) (hp : s.start.phase.beforeLog = true)
    (hf : s.xp.msgs.find? (fun e => e.2.die == die && e.2.port == port && e.2.stage == .waiting) = some (id, m))
    (hr : s.route m.avoid m.die (unitDie m.unit) m.line = none) :
    Does (.xpMessageIssue die ⟨port, []⟩) s [.host, .xp, .out] [Reg.KITTY_XP_ERR_DIE_LO, Reg.KITTY_XP_ERR_DIE_HI] fun t =>
      t.xp.msgs.get id = none ∧ t.out = .access m.die m.port St.fault [] :: s.out := by
  have hi : issueMsg die port [] s = s.msgFault id m := by rw [issueMsg_of_noRoute hf hr, State.msgNoRoute_beforeLog hp]
  refine Does.ofCalm ((exec_xpMessageIssue ..).trans (by rw [hi])) hc (State.msgFault_keepsCalm id m s) (State.msgFault_same id m s)
    (fun off _ _ _ ho => ?_) (by simp)
  exact State.msgFault_reg id m s off (fun h => ho (by simp [h])) (fun h => ho (by simp [h]))

/-! ## A message that waits in phase RESET -/

/-- A read of unit 0 by port 0 of die 0, waiting at its port. -/
def strandedMsg : XpMsg :=
  { die := 0, port := 0, unit := 0, offset := 0, len := 64, write := none, cls := 0, seq := 1, path := [], back := [], avoid := [], issued := 0,
    reissued := false, applied := false, stage := .waiting, ecc := .clean }

/-- Phase RESET with that message waiting: every module is down, and the fault log is empty. -/
def strandedAtReset : State := { State.reset with xp := { State.reset.xp with msgs := [(0, strandedMsg)] } }

theorem strandedAtReset_calm : strandedAtReset.calm = true := by decide +kernel

theorem strandedAtReset_front :
    strandedAtReset.xp.msgs.find? (fun e => e.2.die == 0 && e.2.port == 0 && e.2.stage == .waiting) = some (0, strandedMsg) := rfl

theorem strandedAtReset_noRoute :
    strandedAtReset.route strandedMsg.avoid strandedMsg.die (unitDie strandedMsg.unit) strandedMsg.line = none := by decide +kernel

end Sys2Proof.Machine

section
open Sys2Proof.Machine

/-- Refutes O6: the clause on a message without a route asks for an XP_NO_ROUTE record in every phase, but the fault log begins in LOAD (R541). In phase
RESET the message completes with FAULT and the log stays empty. -/
theorem not_transportMessagesComplete : ¬ Obligations.TransportMessagesComplete := by
  unfold Obligations.TransportMessagesComplete
  rintro ⟨-, -, noRoute, -⟩
  obtain ⟨t, ht, -, -, -, -, r, hlog, -⟩ :=
    noRoute 0 0 0 strandedMsg strandedAtReset strandedAtReset_calm (by decide) strandedAtReset_front strandedAtReset_noRoute
  obtain ⟨t', ht', hsame, -⟩ := does_xpMessageIssue_beforeLog strandedAtReset_calm rfl strandedAtReset_front strandedAtReset_noRoute
  obtain rfl : t = t' := Host.Outcome.next.inj (ht.symm.trans ht')
  have hempty : t.flt.log.head? = none := by rw [hsame.flt (by decide)]; rfl
  exact Option.some_ne_none r (hlog.symm.trans hempty)

end
end

section
/-! SUPPORT. Register writes of one meaning together, registers of the fault block, fields and bitmaps: what the fault selectors show (R535, R537). -/

namespace Sys2Proof.Machine

variable {ps : List Part} {rs : List Nat} {s t : State} {c : Instr} {P : State → Prop}

theorem State.SameRegs.refl (ps : List Part) (rs : List Nat) (s : State) : State.SameRegs ps rs s s := fun _ _ _ _ _ => rfl

/-- Storing a listed register leaves every other as it was. -/
theorem State.SameRegs.setReg {x : Nat} (h : State.SameRegs ps rs s t) (hx : x ∈ rs) (v : W32) : State.SameRegs ps rs s (t.setReg x v) :=
  fun off b hb hp ho => (State.reg_setReg_ne x v t off (fun e => ho (e ▸ hx))).trans (h off b hb hp ho)

theorem State.SameRegs.setNat {x : Nat} (h : State.SameRegs ps rs s t) (hx : x ∈ rs) (n : Nat) : State.SameRegs ps rs s (t.setNat x n) := h.setReg hx _

theorem State.Same.setReg (h : State.Same ps s t) (x : Nat) (v : W32) : State.Same ps s (t.setReg x v) := h.trans (State.setReg_same ..)

theorem State.Same.setNat (h : State.Same ps s t) (x n : Nat) : State.Same ps s (t.setNat x n) := h.setReg x _

/-- A register of a block reads back what was stored in it. -/
theorem State.reg_setNat_self {off n : Nat} (h : (blockOf off).isSome) : (s.setNat off n).reg off = w32 n := State.reg_setReg_self off _ s h

theorem State.reg_setNat_ne {off x n : Nat} (h : x ≠ off) : (s.setNat off n).reg x = s.reg x := State.reg_setReg_ne off _ s x h

/-- A write to a register of the fault block, from what its meaning leaves alone and what the block's registers then read. -/
theorem Does.ofFltBlock {m : State} (h : exec c s = .next (s.adopt [.reg .flt] m)) (hm : m = t) (hs : State.Same [] s t) (hr : State.SameRegs [] rs s t)
    (hP : ∀ u : State, (∀ off, blockOf off = some .flt → u.reg off = t.reg off) → P u) : Does c s [] rs P := by
  subst hm
  exact Does.of h hs hr (hP _ fun _ hb => State.reg_adopt_of hb (by decide))

/-! ## Fields -/

/-- A field of a masked number is the field, masked. -/
theorem bitsOf_and (a m hi lo : Nat) : bitsOf (a &&& m) hi lo = bitsOf a hi lo &&& bitsOf m hi lo := by
  simp only [bitsOf, Nat.and_div_two_pow, Nat.and_mod_two_pow]

/-- A mask that holds all bits of a field leaves it as it is. -/
theorem bitsOf_and_of_full {m hi lo : Nat} (a : Nat) (h : bitsOf m hi lo = 2 ^ (hi + 1 - lo) - 1) : bitsOf (a &&& m) hi lo = bitsOf a hi lo := by
  rw [bitsOf_and, h, Nat.and_two_pow_sub_one_eq_mod]
  exact Nat.mod_mod _ _

theorem bitsOf_toNat_and {m : W32} {hi lo : Nat} (v : W32) (h : bitsOf m.toNat hi lo = 2 ^ (hi + 1 - lo) - 1) :
    bitsOf (v &&& m).toNat hi lo = fld v hi lo := by
  rw [BitVec.toNat_and, bitsOf_and_of_full _ h]; rfl

@[simp] theorem w32_toNat (v : W32) : w32 v.toNat = v := BitVec.ofNat_toNat ..

theorem leNat_lt : ∀ b : Bytes, leNat b < 256 ^ b.length
  | [] => by simp [leNat]
  | x :: rest => by
    have ih := leNat_lt rest
    have hx := x.isLt
    simp only [leNat, List.length_cons, pow_succ]
    omega

/-- A field of at most four bytes fits in a register. -/
theorem w32_fieldAt_toNat (b : Bytes) (off : Nat) : (w32 (fieldAt b off 4)).toNat = fieldAt b off 4 := by
  have h4 : ((b.drop off).take 4).length ≤ 4 := List.length_take_le ..
  have h : fieldAt b off 4 < 256 ^ 4 := (leNat_lt _).trans_le (Nat.pow_le_pow_right (by decide) h4)
  rw [w32, BitVec.toNat_ofNat, Nat.mod_eq_of_lt (by simpa using h)]

/-! ## Bitmaps -/

theorem dedupList_eq_dedup {α : Type} [DecidableEq α] : ∀ l : List α, dedupList l = l.dedup
  | [] => rfl
  | x :: rest => by
    by_cases h : x ∈ rest
    · rw [dedupList, if_pos h, List.dedup_cons_of_mem h, dedupList_eq_dedup rest]
    · rw [dedupList, if_neg h, List.dedup_cons_of_notMem h, dedupList_eq_dedup rest]

/-- A bitmap is the sum of the powers of its distinct elements. -/
theorem bitmap_eq_sum (l : List Nat) : bitmap l = ∑ i ∈ l.toFinset, 2 ^ i := by
  have hl : l.toFinset = l.dedup.toFinset := by ext; simp
  rw [bitmap, dedupList_eq_dedup, hl, List.sum_toFinset _ (List.nodup_dedup l), List.sum_eq_foldl, List.foldl_map]

/-- A bit of a bitmap is set where the list holds its number. -/
theorem testBit_bitmap (l : List Nat) (k : Nat) : (bitmap l).testBit k = true ↔ k ∈ l := by
  rw [← Nat.mem_bitIndices, ← List.mem_toFinset, bitmap_eq_sum, Finset.toFinset_bitIndices_sum_two_pow, List.mem_toFinset]

theorem getLsbD_w32_bitmap {k : Nat} (hk : k < 32) (l : List Nat) : (w32 (bitmap l)).getLsbD k = true ↔ k ∈ l := by
  rw [w32, BitVec.getLsbD_ofNat, decide_eq_true hk, Bool.true_and, testBit_bitmap]

/-! ## The fault selectors (R537) -/

theorem does_fltLogRead (v : W32) (s : State) (hr : s.isRunning = true) :
    Does (.fltLogRead v) s [] [Reg.FLT_LOG_READ] fun t => t.reg Reg.FLT_LOG_READ = v := by
  refine Does.ofFltBlock rfl (if_pos hr) (State.setReg_same ..) ((State.SameRegs.refl _ _ s).setReg (by simp) _) fun u hu => ?_
  rw [hu _ (by decide), State.reg_setReg_self _ _ _ (by decide)]

/-- The words of the selected record, stored in turn. -/
def State.setWords (b : Bytes) (n : Nat) (s : State) : State :=
  (List.range n).foldl (fun t i => t.setNat (Reg.FLT_LOG_REC + 4 * i) (fieldAt b (4 * i) 4)) s

theorem State.setWords_succ (b : Bytes) (n : Nat) (s : State) :
    s.setWords b (n + 1) = (s.setWords b n).setNat (Reg.FLT_LOG_REC + 4 * n) (fieldAt b (4 * n) 4) := by
  simp [State.setWords, List.range_succ]

theorem State.setWords_same (b : Bytes) (s : State) : ∀ n, State.Same [] s (s.setWords b n)
  | 0 => State.Same.refl ..
  | n + 1 => State.setWords_succ b n s ▸ (State.setWords_same b s n).setNat ..

theorem State.setWords_reg_ne (b : Bytes) (s : State) {off : Nat} :
    ∀ {n : Nat}, (∀ i, i < n → off ≠ Reg.FLT_LOG_REC + 4 * i) → (s.setWords b n).reg off = s.reg off
  | 0, _ => rfl
  | n + 1, h => by
    rw [State.setWords_succ, State.reg_setNat_ne (h n n.lt_succ_self)]
    exact State.setWords_reg_ne b s fun i hi => h i (Nat.lt_succ_of_lt hi)

theorem blockOf_fltLogRec {i : Nat} (hi : i < 8) : blockOf (Reg.FLT_LOG_REC + 4 * i) = some .flt := by
  interval_cases i <;> decide

theorem State.setWords_reg (b : Bytes) (s : State) {i : Nat} : ∀ {n : Nat}, i < n → n ≤ 8 →
    (s.setWords b n).reg (Reg.FLT_LOG_REC + 4 * i) = w32 (fieldAt b (4 * i) 4)
  | n + 1, h, h8 => by
    rw [State.setWords_succ]
    by_cases e : i = n
    · subst e
      exact State.reg_setNat_self (by rw [blockOf_fltLogRec h8]; rfl)
    · rw [State.reg_setNat_ne (by omega)]
      exact State.setWords_reg b s (by omega) (by omega)

theorem fltLogSel_eq (v : W32) (hr : s.isRunning = true) : fltLogSel v s = (s.setReg Reg.FLT_LOG_SEL v).setWords
    (((s.flt.log.find? fun r => r.seq % 2 ^ 32 == v.toNat).map FltRec.bytes).getD []) 8 := by
  rw [fltLogSel, hr]; rfl

theorem does_fltLogSel (v : W32) (b : Bytes) (s : State) (hr : s.isRunning = true)
    (hb : b = ((s.flt.log.find? fun r => r.seq % 2 ^ 32 == v.toNat).map FltRec.bytes).getD []) :
    Does (.fltLogSel v) s [] (Reg.FLT_LOG_SEL :: (List.range 8).map fun i => Reg.FLT_LOG_REC + 4 * i) fun t => t.reg Reg.FLT_LOG_SEL = v ∧
      ∀ i, i < 8 → (t.reg (Reg.FLT_LOG_REC + 4 * i)).toNat = fieldAt b (4 * i) 4 := by
  subst hb
  refine Does.ofFltBlock rfl (fltLogSel_eq v hr) ((State.setReg_same ..).trans (State.setWords_same ..)) (fun off _ _ _ ho => ?_)
    fun u hu => ⟨?_, fun i hi => ?_⟩
  · simp only [List.mem_cons, List.mem_map, List.mem_range, not_or, not_exists, not_and] at ho
    rw [State.setWords_reg_ne _ _ fun i hi e => ho.2 i hi e.symm, State.reg_setReg_ne _ _ _ _ ho.1]
  · rw [hu _ (by decide), State.setWords_reg_ne _ _ (by decide), State.reg_setReg_self _ _ _ (by decide)]
  · rw [hu _ (blockOf_fltLogRec hi), State.setWords_reg _ _ hi le_rfl, w32_fieldAt_toNat]

/-- The word of a class's retirement map that FLT_RET_MAP shows. -/
def State.retiredWord (s : State) (cls w : Nat) : Nat := bitmap (((s.retiredOf cls).filter fun i => i / 32 == w).map (· % 32))

/-- Bit `k` of word `w` is set where number `32w + k` of the class is retired. -/
theorem State.getLsbD_retiredWord {cls w k : Nat} (hk : k < 32) :
    (w32 (s.retiredWord cls w)).getLsbD k = true ↔ s.isRetired cls (32 * w + k) = true := by
  rw [State.retiredWord, getLsbD_w32_bitmap hk]
  simp only [State.retiredOf, State.isRetired, List.mem_map, List.mem_filter, beq_iff_eq, decide_eq_true_eq, Prod.exists]
  constructor
  · rintro ⟨i, ⟨⟨a, b, ⟨hm, rfl⟩, rfl⟩, rfl⟩, rfl⟩
    rwa [Nat.div_add_mod]
  · intro hm
    exact ⟨32 * w + k, ⟨⟨cls, _, ⟨hm, rfl⟩, rfl⟩, by omega⟩, by omega⟩

theorem fltRetSel_eq (v : W32) (hr : s.isRunning = true) : fltRetSel v s = ((s.setReg Reg.FLT_RET_SEL (v &&& 0x1F007F)).setNat Reg.FLT_RET_MAP
    (s.retiredWord (fld v 20 16) (fld v 6 0))).setNat Reg.FLT_RET_COUNT (s.retiredOf (fld v 20 16)).length := by
  have hc : bitsOf (v &&& 0x1F007F).toNat 20 16 = fld v 20 16 := bitsOf_toNat_and v (by decide)
  have hw : bitsOf (v &&& 0x1F007F).toNat 6 0 = fld v 6 0 := bitsOf_toNat_and v (by decide)
  simp only [fltRetSel, hr, hc, hw, State.setNat, w32_toNat]
  rfl

theorem does_fltRetSel (v : W32) (s : State) (hr : s.isRunning = true) :
    Does (.fltRetSel v) s [] [Reg.FLT_RET_SEL, Reg.FLT_RET_MAP, Reg.FLT_RET_COUNT] fun t => t.reg Reg.FLT_RET_SEL = v &&& 0x1F007F ∧
      t.reg Reg.FLT_RET_COUNT = w32 (s.retiredOf (fld v 20 16)).length ∧
      ∀ k, k < 32 → ((t.reg Reg.FLT_RET_MAP).getLsbD k = true ↔ s.isRetired (fld v 20 16) (32 * fld v 6 0 + k) = true) := by
  refine Does.ofFltBlock rfl (fltRetSel_eq v hr) (((State.setReg_same ..).setNat ..).setNat ..)
    ((((State.SameRegs.refl _ _ s).setReg (by simp) _).setNat (by simp) _).setNat (by simp) _) fun u hu => ⟨?_, ?_, fun k hk => ?_⟩
  · rw [hu _ (by decide), State.reg_setNat_ne (by decide), State.reg_setNat_ne (by decide), State.reg_setReg_self _ _ _ (by decide)]
  · rw [hu _ (by decide), State.reg_setNat_self (by decide)]
  · rw [hu _ (by decide), State.reg_setNat_ne (by decide), State.reg_setNat_self (by decide), State.getLsbD_retiredWord hk]

/-- What FLT_CNT_VALUE shows of a number of a class: retired, degraded and its counter; 0 where the class has no counter or no such number (R537). -/
def State.cntValue (s : State) (c i : Nat) : Nat :=
  if instanceOk c i && s.fltThreshold c != 0 then
    b1 (s.isRetired c i) * 2 ^ 31 + b1 (decide ((c, i) ∈ s.flt.degraded)) * 2 ^ 30 + s.flt.counters.getD (fltKey c i) 0
  else 0

theorem fltCntSel_eq (v : W32) (hr : s.isRunning = true) :
    fltCntSel v s = (s.setReg Reg.FLT_CNT_SEL (v &&& 0x1FFFFF)).setNat Reg.FLT_CNT_VALUE (s.cntValue (fld v 20 16) (fld v 15 0)) := by
  have hc : bitsOf (v &&& 0x1FFFFF).toNat 20 16 = fld v 20 16 := bitsOf_toNat_and v (by decide)
  have hi : bitsOf (v &&& 0x1FFFFF).toNat 15 0 = fld v 15 0 := bitsOf_toNat_and v (by decide)
  simp only [fltCntSel, hr, hc, hi, State.setNat, w32_toNat]
  rfl

theorem does_fltCntSel (v : W32) (c i : Nat) (s : State) (hr : s.isRunning = true) (hc : c = fld v 20 16) (hi : i = fld v 15 0) :
    Does (.fltCntSel v) s [] [Reg.FLT_CNT_SEL, Reg.FLT_CNT_VALUE] fun t => t.reg Reg.FLT_CNT_SEL = v &&& 0x1FFFFF ∧
      (instanceOk c i = true → s.fltThreshold c ≠ 0 → t.reg Reg.FLT_CNT_VALUE =
        w32 (b1 (s.isRetired c i) * 2 ^ 31 + b1 (decide ((c, i) ∈ s.flt.degraded)) * 2 ^ 30 + s.flt.counters.getD (fltKey c i) 0)) ∧
      (instanceOk c i = false ∨ s.fltThreshold c = 0 → t.reg Reg.FLT_CNT_VALUE = 0) := by
  subst hc hi
  refine Does.ofFltBlock rfl (fltCntSel_eq v hr) ((State.setReg_same ..).setNat ..)
    (((State.SameRegs.refl _ _ s).setReg (by simp) _).setNat (by simp) _) fun u hu => ?_
  have hv : u.reg Reg.FLT_CNT_VALUE = w32 (s.cntValue (fld v 20 16) (fld v 15 0)) := by rw [hu _ (by decide), State.reg_setNat_self (by decide)]
  refine ⟨?_, fun hok ht => ?_, fun h0 => ?_⟩
  · rw [hu _ (by decide), State.reg_setNat_ne (by decide), State.reg_setReg_self _ _ _ (by decide)]
  · rw [hv, State.cntValue, if_pos (by simp [hok, ht])]
  · rw [hv, State.cntValue, if_neg (by rcases h0 with h | h <;> simp [h])]
    rfl

theorem fltDrillPtSel_eq (v : W32) (hr : s.isRunning = true) : fltDrillPtSel v s =
    ((s.setNat Reg.FLT_DRILL_PT_SEL (fld v 7 0)).setNat Reg.FLT_DRILL_PT_LAST ((s.flt.points.getD (fld v 7 0) ⟨0, 0, 0, 0⟩).outcome * 2 ^ 29 +
      (s.flt.points.getD (fld v 7 0) ⟨0, 0, 0, 0⟩).duration)).setNat Reg.FLT_DRILL_PT_RUNS (s.flt.points.getD (fld v 7 0) ⟨0, 0, 0, 0⟩).runs.toNat := by
  simp only [fltDrillPtSel, hr, Tbl.getD]
  cases s.flt.points.get (fld v 7 0) <;> rfl

theorem does_fltDrillPtSel (v : W32) (x : DrillPoint) (s : State) (hr : s.isRunning = true) (hx : x = s.flt.points.getD (fld v 7 0) ⟨0, 0, 0, 0⟩) :
    Does (.fltDrillPtSel v) s [] [Reg.FLT_DRILL_PT_SEL, Reg.FLT_DRILL_PT_LAST, Reg.FLT_DRILL_PT_RUNS] fun t => t.reg Reg.FLT_DRILL_PT_SEL = w32 (fld v 7 0) ∧
      t.reg Reg.FLT_DRILL_PT_LAST = w32 (x.outcome * 2 ^ 29 + x.duration) ∧ t.reg Reg.FLT_DRILL_PT_RUNS = x.runs := by
  subst hx
  refine Does.ofFltBlock rfl (fltDrillPtSel_eq v hr) ((((State.Same.refl ..).setNat ..).setNat ..).setNat ..)
    ((((State.SameRegs.refl _ _ s).setNat (by simp) _).setNat (by simp) _).setNat (by simp) _) fun u hu => ⟨?_, ?_, ?_⟩
  · rw [hu _ (by decide), State.reg_setNat_ne (by decide), State.reg_setNat_ne (by decide), State.reg_setNat_self (by decide)]
  · rw [hu _ (by decide), State.reg_setNat_ne (by decide), State.reg_setNat_self (by decide)]
  · rw [hu _ (by decide), State.reg_setNat_self (by decide), w32_toNat]

end Sys2Proof.Machine
end

section
/-! SUPPORT. A slot command of a serial family that completes at once (R69): what its start records, what its end leaves, and what it does to the fault
block's slots. -/

namespace Sys2Proof.Machine

variable {ps qs : List Part} {rs : List Nat} {s t u : State} {c : Instr} {P : State → Prop} {f : Family} {slot op r : Nat} {args : List (Nat × W32)}

theorem Tbl.put_put {α : Type} (key : Nat) (v w : α) : ∀ t : Tbl α, (t.put key v).put key w = t.put key w
  | [] => by simp [Tbl.put]
  | (k, x) :: rest => by
    have ih := Tbl.put_put key v w rest
    unfold Tbl.put
    split_ifs with h1 h2 <;> simp [Tbl.put, *]

theorem Tbl.del_put {α : Type} (key : Nat) (v : α) : ∀ t : Tbl α, (t.put key v).del key = t.del key
  | [] => by simp [Tbl.put, Tbl.del]
  | (k, x) :: rest => by
    have ih := Tbl.del_put key v rest
    unfold Tbl.put
    split_ifs with h1 h2 <;> simp [Tbl.del, *]

theorem State.SameRegs.trans {rs : List Nat} (h : State.SameRegs ps rs s t) (k : State.SameRegs ps rs t u) : State.SameRegs ps rs s u :=
  fun off b hb hp ho => (k off b hb hp ho).trans (h off b hb hp ho)

theorem State.SameRegs.mono {rs' : List Nat} (h : State.SameRegs ps rs s t) (hrs : ∀ x ∈ rs, x ∈ rs') : State.SameRegs ps rs' s t :=
  fun off b hb hp ho => h off b hb hp fun hm => ho (hrs _ hm)

theorem State.Same.mono {qs : List Part} (h : State.Same ps s t) (hq : ∀ p ∈ ps, p ∈ qs) : State.Same qs s t where
  clk := fun n => h.clk fun m => n (hq _ m)
  start := fun n => h.start fun m => n (hq _ m)
  ident := fun n => h.ident fun m => n (hq _ m)
  cfg := fun n => h.cfg fun m => n (hq _ m)
  host := fun n => h.host fun m => n (hq _ m)
  slots := fun n => h.slots fun m => n (hq _ m)
  xp := fun n => h.xp fun m => n (hq _ m)
  kitty := fun n => h.kitty fun m => n (hq _ m)
  bus := fun n => h.bus fun m => n (hq _ m)
  kmem := fun n => h.kmem fun m => n (hq _ m)
  smem := fun n => h.smem fun m => n (hq _ m)
  tiles := fun n => h.tiles fun m => n (hq _ m)
  pds := fun n => h.pds fun m => n (hq _ m)
  quota := fun n => h.quota fun m => n (hq _ m)
  sched := fun n => h.sched fun m => n (hq _ m)
  idx := fun n => h.idx fun m => n (hq _ m)
  qry := fun n => h.qry fun m => n (hq _ m)
  link := fun n => h.link fun m => n (hq _ m)
  ton := fun n => h.ton fun m => n (hq _ m)
  eng := fun n => h.eng fun m => n (hq _ m)
  kv := fun n => h.kv fun m => n (hq _ m)
  emb := fun n => h.emb fun m => n (hq _ m)
  nand := fun n => h.nand fun m => n (hq _ m)
  lend := fun n => h.lend fun m => n (hq _ m)
  med := fun n => h.med fun m => n (hq _ m)
  post := fun n => h.post fun m => n (hq _ m)
  flt := fun n => h.flt fun m => n (hq _ m)
  out := fun n => h.out fun m => n (hq _ m)
  free := fun n => h.free fun m => n (hq _ m)
  pending := h.pending

/-! ## The start of a slot's command -/

theorem State.setArgs_cons (f : Family) (slot : Nat) (a : Nat × W32) (s : State) :
    s.setArgs f slot (a :: args) = (s.setArgs f slot [a]).setArgs f slot args := rfl

/-- An argument register is written as far as its reserved bits allow (R10). -/
theorem State.setArgs_singleton (i : Nat) (v : W32) (s : State) :
    s.setArgs f slot [(i, v)] = match regDef (slotReg f slot (i + 1)) with
      | some d => s.setReg (slotReg f slot (i + 1)) (v &&& w32 d.mask)
      | none => s := rfl

theorem State.setArgs_same (f : Family) (slot : Nat) : ∀ (args : List (Nat × W32)) (s : State), State.Same [] s (s.setArgs f slot args)
  | [], s => State.Same.refl _ s
  | a :: rest, s => by
    refine State.Same.trans (t := s.setArgs f slot [a]) ?_ (State.setArgs_same f slot rest _)
    rw [State.setArgs_singleton]
    split
    · exact State.setReg_same ..
    · exact State.Same.refl ..

theorem slotReg_mem_slotRegs {w : Nat} (hw : w < f.args + 2) : slotReg f slot w ∈ slotRegs f slot :=
  List.mem_map_of_mem (List.mem_range.2 hw)

theorem State.setArgs_sameRegs : ∀ (args : List (Nat × W32)) (s : State), (∀ a ∈ args, a.1 < f.args) →
    State.SameRegs [] (slotRegs f slot) s (s.setArgs f slot args)
  | [], _, _ => fun _ _ _ _ _ => rfl
  | a :: rest, s, ha => by
    refine State.SameRegs.trans (t := s.setArgs f slot [a]) ?_ (State.setArgs_sameRegs rest _ fun x hx => ha x (List.mem_cons_of_mem _ hx))
    have h1 := ha a List.mem_cons_self
    rw [State.setArgs_singleton]
    split
    · exact fun off _ _ _ ho => State.reg_setReg_ne _ _ _ _ fun e => ho (e ▸ slotReg_mem_slotRegs (by omega))
    · exact fun _ _ _ _ _ => rfl

/-- What a slot records of the command that it has just taken: its opcode, the cycle, and the argument registers as GO found them (R69). -/
def State.newRun (f : Family) (slot op : Nat) (args : List (Nat × W32)) (s : State) : SlotRun :=
  ⟨op, s.cycle, (List.range f.args).map fun i => (s.setArgs f slot args).reg (slotReg f slot (i + 1)), none, none, false⟩

/-- GO on a free slot captures the arguments and sets OP (R69). -/
theorem State.begun_eq (h : s.slots.runs.get (slotKey f slot) = none) :
    s.begun f slot op args none = { (s.setArgs f slot args).setNat (slotReg f slot 0) (0x80000000 + op) with
      slots := { s.slots with runs := s.slots.runs.put (slotKey f slot) (s.newRun f slot op args) } } := by
  have ha := State.setArgs_same f slot args s
  have hs : (s.setArgs f slot args).slots = s.slots := ha.slots (by simp)
  have hc : (s.setArgs f slot args).cycle = s.cycle := by simp only [State.cycle, State.now, ha.clk (by simp)]
  have hb : (s.setArgs f slot args).slotBusy f slot = false := by simp [State.slotBusy, Tbl.has, hs, h]
  simp [State.begun, State.slotGo, hb, hs, hc, Tbl.modify, Tbl.put_put, State.newRun]

theorem State.begun_slots (h : s.slots.runs.get (slotKey f slot) = none) :
    (s.begun f slot op args none).slots = { s.slots with runs := s.slots.runs.put (slotKey f slot) (s.newRun f slot op args) } := by
  rw [State.begun_eq h]

theorem State.begun_sameRegs (h : s.slots.runs.get (slotKey f slot) = none) (ha : ∀ a ∈ args, a.1 < f.args) :
    State.SameRegs [] (slotRegs f slot) s (s.begun f slot op args none) := fun off b hb hp ho => by
  rw [State.begun_eq h]
  have h0 : off ≠ slotReg f slot 0 := fun e => ho (e ▸ slotReg_mem_slotRegs (by omega))
  exact (State.reg_setNat_ne h0).trans (State.setArgs_sameRegs args s ha off b hb hp ho)

/-- The command at work reads its arguments as they were captured. -/
theorem State.begun_slotArg (h : s.slots.runs.get (slotKey f slot) = none) {i : Nat} (hi : i < f.args) :
    (s.begun f slot op args none).slotArg f slot i = ((s.setArgs f slot args).reg (slotReg f slot (i + 1))).toNat := by
  have e : (s.newRun f slot op args).args.getD i 0 = (s.setArgs f slot args).reg (slotReg f slot (i + 1)) := by
    simp [State.newRun, List.getD, hi]
  rw [State.slotArg, State.begun_slots h]
  simp only [Tbl.get_put_self, e]

/-! ## The end of a slot's command -/

/-- A command's end changes OP and RESULT alone of the registers. -/
theorem State.slotDone_sameRegs : State.SameRegs [] (slotRegs f slot) s (s.slotDone f slot r) := fun off _ _ _ ho => by
  have h0 : off ≠ slotReg f slot 0 := fun e => ho (e ▸ slotReg_mem_slotRegs (by omega))
  have h1 : off ≠ slotResult f slot := fun e => ho (e ▸ slotReg_mem_slotRegs (by omega))
  unfold State.slotDone
  exact (State.reg_setNat_ne h1).trans (State.reg_setNat_ne h0)

/-- A slot whose command had just begun holds none once it has completed; its answer is not due to any request. -/
theorem State.slotDone_slots_of_begun (h : s.slots.runs.get (slotKey f slot) = none) (hu : u.slots = (s.begun f slot op args none).slots) :
    (u.slotDone f slot r).slots = ⟨s.slots.runs.del (slotKey f slot), s.slots.last.put f.num slot, s.slots.replies⟩ := by
  rw [State.begun_slots h] at hu
  rw [State.slotDone_slots _ _ _ _ (by rw [hu]; simp [State.newRun]), hu, Tbl.del_put]

/-- Such a command leaves its opcode in OP, with GO 0, and its result in RESULT. -/
theorem State.slotDone_of_begun (h : s.slots.runs.get (slotKey f slot) = none) (hu : u.slots = (s.begun f slot op args none).slots)
    (h0 : (blockOf (slotReg f slot 0)).isSome) (hr : (blockOf (slotResult f slot)).isSome) : SlotDone f slot op r (u.slotDone f slot r) := by
  have hrun : u.slots.runs.get (slotKey f slot) = some (s.newRun f slot op args) := by rw [hu, State.begun_slots h, Tbl.get_put_self]
  have hne : slotReg f slot 0 ≠ slotResult f slot := by simp only [slotResult, slotReg]; omega
  refine ⟨?_, ?_, ?_⟩
  · simp [State.slotBusy, Tbl.has, State.slotDone_slots_of_begun h hu]
  · unfold State.slotDone
    refine (State.reg_setNat_ne hne).trans ((State.reg_setNat_self h0).trans ?_)
    rw [hrun]; rfl
  · unfold State.slotDone
    refine (State.reg_setNat_self hr).trans ?_
    rw [hrun]; rfl

/-! ## A serial family's command that completes at once -/

theorem State.slotIdle_iff : s.slotIdle f slot = true ↔
    s.isRunning = true ∧ slot < 4 ∧ ∀ k, k < 4 → s.slots.runs.get (slotKey f k) = none := by
  simp [State.slotIdle, State.slotBusy, Tbl.has, and_assoc]

theorem slotKey_inj {i k : Nat} : slotKey f i = slotKey f k ↔ i = k := by simp [slotKey]

theorem find?_eq_some_of_unique {α : Type} {p : α → Bool} {x : α} {l : List α} (hx : x ∈ l) (hp : p x = true) (h : ∀ y ∈ l, p y = true → y = x) :
    l.find? p = some x := by
  obtain ⟨y, hy⟩ := Option.isSome_iff_exists.1 (List.find?_isSome.2 ⟨x, hx, hp⟩)
  rw [hy, h y (List.mem_of_find?_eq_some hy) (List.find?_some hy)]

/-- The cycle since which a slot's command waits for its turn (R69). -/
def State.waitsSince (s : State) (f : Family) (k : Nat) : Option Nat :=
  (s.slots.runs.get (slotKey f k)).bind fun r => if r.wait.isNone then some r.cycle else none

theorem State.nextWaiting_eq (s : State) (f : Family) : s.nextWaiting f =
    (((List.range 4).map fun i => (s.slots.last.getD f.num 3 + 1 + i) % 4).find? fun k => (s.waitsSince f k).isSome).bind fun k =>
      (List.range 4).find? fun j => s.waitsSince f j == s.waitsSince f k := by
  unfold State.nextWaiting State.waitsSince
  dsimp only
  split
  · next h => rw [h]; rfl
  · next h => rw [h]; rfl

/-- Where one slot alone waits for its turn, it is the next. -/
theorem State.nextWaiting_of_unique {n : Nat} (hs : slot < 4) (h : ∀ k, k < 4 → s.waitsSince f k = if k = slot then some n else none) :
    s.nextWaiting f = some slot := by
  have hlt : ∀ a : Nat, a % 4 < 4 := fun a => Nat.mod_lt _ (by decide)
  have hturn : ∀ a, ((List.range 4).map fun i => (a + i) % 4).find? (fun k => (s.waitsSince f k).isSome) = some slot := by
    intro a
    refine find?_eq_some_of_unique (List.mem_map.2 ⟨(slot + 3 * a) % 4, List.mem_range.2 (hlt _), by omega⟩) (by simp [h slot hs]) fun k hk hp => ?_
    obtain ⟨i, -, rfl⟩ := List.mem_map.1 hk
    by_contra e
    simp [h _ (hlt _), e] at hp
  have hlow : (List.range 4).find? (fun j => s.waitsSince f j == s.waitsSince f slot) = some slot := by
    refine find?_eq_some_of_unique (List.mem_range.2 hs) (by simp) fun k hk hp => ?_
    by_contra e
    simp [h k (List.mem_range.1 hk), h slot hs, e] at hp
  rw [State.nextWaiting_eq, hturn, Option.bind_some, hlow]

/-- With no other command in its family, a command that completes as it is run is the whole turn of the family. -/
theorem serialTurn_begun {run : Nat → Nat → State → State} (h : ∀ k, k < 4 → s.slots.runs.get (slotKey f k) = none) (hs : slot < 4)
    (hrun : run slot op (s.begun f slot op args none) = u.slotDone f slot r) (hu : u.slots = (s.begun f slot op args none).slots) (n : Nat) :
    serialTurn f run (n + 1) (s.begun f slot op args none) = u.slotDone f slot r := by
  have hget : ∀ k, k < 4 → (s.begun f slot op args none).slots.runs.get (slotKey f k) = if k = slot then some (s.newRun f slot op args) else none :=
    fun k hk => by rw [State.begun_slots (h slot hs)]; simp only [Tbl.get_put, slotKey_inj, h k hk]
  have hactive : (s.begun f slot op args none).familyActive f = false := by
    simp only [State.familyActive, List.any_eq_false, List.mem_range]
    intro k hk
    rw [hget k hk]
    by_cases e : k = slot <;> simp [e, State.newRun]
  have hnext : (s.begun f slot op args none).nextWaiting f = some slot := by
    refine State.nextWaiting_of_unique (n := s.cycle) hs fun k hk => ?_
    rw [State.waitsSince, hget k hk]
    by_cases e : k = slot <;> simp [e, State.newRun]
  have hend : ∀ k, k < 4 → (u.slotDone f slot r).slots.runs.get (slotKey f k) = none := fun k hk => by
    rw [State.slotDone_slots_of_begun (h slot hs) hu]
    simp only [Tbl.get_del, h k hk, ite_self]
  rw [serialTurn, hactive, hnext]
  simp only [hget slot hs, if_true, Option.elim, State.newRun, hrun]
  exact serialTurn_done f run n _ fun k hk => .inl (hend k hk)

theorem slotCmd_of_idle (hi : s.slotIdle f slot = true) (hp : f.parallel = false) (hrun : f.run slot op (s.begun f slot op args none) = u.slotDone f slot r)
    (hu : u.slots = (s.begun f slot op args none).slots) : slotCmd f slot op args s = u.slotDone f slot r := by
  obtain ⟨hr, hs, h⟩ := State.slotIdle_iff.1 hi
  have hb : s.slotBusy f slot = false := by simp [State.slotBusy, Tbl.has, h slot hs]
  simp only [slotCmd, hr, hs, hb, State.slotStart, hp, decide_true, Bool.and_self, if_true, Bool.false_eq_true, if_false]
  exact serialTurn_begun h hs hrun hu 3

/-- Nothing is left to do after a command that completed at once, where its run left nothing to do. -/
theorem State.KeepsCalm.slotDone (h : s.slots.runs.get (slotKey f slot) = none) (hu : u.slots = (s.begun f slot op args none).slots)
    (hk : State.KeepsCalm (s.begun f slot op args none) u) : State.KeepsCalm s (u.slotDone f slot r) := by
  have hb := State.begun_same f slot op args none s
  have hd := State.slotDone_same f slot r u
  have hslots := State.slotDone_slots_of_begun (r := r) h hu
  have hhost : (s.begun f slot op args none).host = s.host := hb.host (by decide)
  have hemb : (s.begun f slot op args none).emb = s.emb := hb.emb (by decide)
  have hmed : (s.begun f slot op args none).med = s.med := hb.med (by decide)
  have hqry : (s.begun f slot op args none).qry = s.qry := hb.qry (by decide)
  have hport : ∀ k, (s.begun f slot op args none).port k = s.port k := fun k => by simp only [State.port, hb.link (by decide)]
  have hport' : ∀ k, (u.slotDone f slot r).port k = u.port k := fun k => by simp only [State.port, hd.link (by decide)]
  exact
    { due := fun e => by rw [hd.flt (by decide)]; exact hk.due (by rw [hb.flt (by decide), e])
      events := by rw [hd.ton (by decide), hk.events, hb.ton (by decide)]
      blockWait := by rw [hd.host (by decide), hk.blockWait, hhost]
      waiting := by rw [hd.emb (by decide), hk.waiting, hemb]
      stored := by rw [hd.med (by decide), hk.stored, hmed]
      drops := fun e => by rw [hd.emb (by decide)]; exact hk.drops (by rw [hemb]; exact e)
      runs := fun e x hx => by rw [hslots] at hx; exact e x (Tbl.mem_del _ _ _ hx)
      formers := fun e => by rw [hd.qry (by decide)]; exact hk.formers (by rw [hqry]; exact e)
      ports := fun k => by rw [hport', hk.ports, hport]
      post := by rw [hd.post (by decide), hk.post, hb.post (by decide)]
      replies := by rw [hslots] }

/-! ## The slots of the fault block (R536) -/

theorem blockOf_fltSlot {w : Nat} (hs : slot < 4) (hw : w < 4) : blockOf (slotReg .flt slot w) = some .flt := by
  interval_cases slot <;> interval_cases w <;> decide

/-- Every bit of the fault block's argument registers is written (R10, Table 15.8). -/
theorem regDef_fltArg {i : Nat} (hs : slot < 4) (hi : i < 2) : (regDef (slotReg .flt slot (i + 1))).map RegDef.mask = some 0xFFFFFFFF := by
  interval_cases slot <;> interval_cases i <;> decide

theorem State.setArgs_flt_reg {i : Nat} (hs : slot < 4) (hi : i < 2) (v : W32) (s : State) (x : Nat) :
    (s.setArgs .flt slot [(i, v)]).reg x = if x = slotReg .flt slot (i + 1) then v else s.reg x := by
  obtain ⟨d, hd, hm⟩ := Option.map_eq_some_iff.1 (regDef_fltArg hs hi)
  rw [State.setArgs_singleton, hd]
  simp only [hm, State.reg_setReg, blockOf_fltSlot hs (show i + 1 < 4 by omega), Option.isSome_some, and_true]
  rw [show v &&& w32 0xFFFFFFFF = v from BitVec.and_allOnes]

/-- The parts that a command of the fault block adopts. -/
abbrev fltCmdParts : List Part := [.cfg, .host, .slots, .kitty, .flt, .out, .reg .flt]

/-- A command of the fault block that completes at once: what it does from what its run does to the state in which it began. -/
theorem Does.ofFltCommand {x : State} (h : exec c s = .next (s.finish fltCmdParts (slotCmd .flt slot op args s))) (hc : s.calm = true)
    (hi : s.slotIdle .flt slot = true) (ha : ∀ a ∈ args, a.1 < 2) (hx : s.begun .flt slot op args none = x)
    (hrun : Family.run .flt slot op x = u.slotDone .flt slot r) (hk : State.KeepsCalm x u) (hu : u.slots = x.slots) (hs : State.Same qs x u)
    (hr : State.SameRegs [] rs x u)
    (hP : ∀ t, SlotDone .flt slot op r t → t.cfg = u.cfg → t.kitty = u.kitty → t.kmem = s.kmem → t.flt = u.flt → P t) :
    Does c s (.slots :: qs) (rs ++ slotRegs .flt slot) P := by
  subst hx
  obtain ⟨-, h4, hn⟩ := State.slotIdle_iff.1 hi
  have hfree := hn slot h4
  rw [slotCmd_of_idle hi rfl hrun hu] at h
  have hslots : ∀ p ∈ [Part.slots], p ∈ Part.slots :: qs := by simp
  have hd := State.slotDone_same .flt slot r u
  refine Does.ofCalm h hc (hk.slotDone hfree hu)
    (((State.begun_same ..).mono hslots).trans ((hs.mono (by simp +contextual)).trans ((State.slotDone_same ..).mono hslots))) ?_
    (hP _ ?_ (hd.cfg (by decide)) (hd.kitty (by decide)) rfl (hd.flt (by decide)))
  · have h1 := (State.begun_sameRegs (op := op) hfree ha).mono (rs' := rs ++ slotRegs .flt slot) (by simp +contextual)
    have h2 := hr.mono (rs' := rs ++ slotRegs .flt slot) (by simp +contextual)
    have h3 := (State.slotDone_sameRegs (s := u) (f := .flt) (slot := slot) (r := r)).mono (rs' := rs ++ slotRegs .flt slot) (by simp +contextual)
    exact fun off b hb _ ho => (h1.trans (h2.trans h3)) off b hb (by simp) ho
  · obtain ⟨hbusy, hop, hres⟩ := State.slotDone_of_begun (r := r) hfree hu (by rw [blockOf_fltSlot h4 (by decide)]; rfl) (by
      rw [slotResult, blockOf_fltSlot h4 (by decide)]; rfl)
    refine ⟨?_, ?_, ?_⟩
    · simpa [State.slotBusy] using hbusy
    · rw [State.reg_adopt_of (blockOf_fltSlot h4 (by decide)) (by decide), hop]
    · rw [slotResult, State.reg_adopt_of (blockOf_fltSlot h4 (by decide)) (by decide)]
      exact hres

end Sys2Proof.Machine
end

section
/-! SUPPORT. Drills (R529 to R536): when one starts and what it injects, and what its end records; and the accesses of a read within one command. -/

namespace Sys2Proof.Machine

variable {s t : State} {alt : Nat → Bool} {i p : Nat} {e : DrillEntry} {d : Drill}

/-! ## Accesses within one command (R51, R74) -/

/-- The state with other accesses waiting at the banks and other class counters. -/
def State.counted (s : State) (b : List BusUse) (k : Tbl ClsCount) : State := { s with bus := b, kitty := { s.kitty with classes := k } }

theorem foldl_counted {α : Type} {step : State → α → State} (h : ∀ s x, ∃ b k, step s x = s.counted b k) :
    ∀ (l : List α) (s : State), ∃ b k, l.foldl step s = s.counted b k
  | [], s => ⟨s.bus, s.kitty.classes, rfl⟩
  | x :: rest, s => by
    obtain ⟨b, k, hx⟩ := h s x
    obtain ⟨b', k', hr⟩ := foldl_counted h rest (step s x)
    exact ⟨b', k', by rw [List.foldl_cons, hr, hx]; rfl⟩

theorem State.busUnit_counted (port cls unit byte n : Nat) (s : State) : ∃ b k, s.busUnit port cls unit byte n = s.counted b k := by
  unfold State.busUnit
  split_ifs
  · exact ⟨s.bus, s.kitty.classes, rfl⟩
  · exact ⟨_, s.kitty.classes, rfl⟩

theorem State.busRgn_counted (port : Nat) (r : Region) (off n : Nat) (s : State) : ∃ b k, s.busRgn port r off n = s.counted b k :=
  foldl_counted (fun s _ => State.busUnit_counted _ _ _ _ _ s) _ s

theorem State.busDrain_counted (port : Nat) (s : State) : ∃ b k, s.busDrain port = s.counted b k := by
  obtain ⟨b, k, h⟩ := foldl_counted (step := fun (s : State) (u : BusUse) => s.countGrants (unitDie u.unit) u.cls u.rest)
    (fun s u => ⟨s.bus, _, rfl⟩) (s.bus.filter fun u => u.port == port) { s with bus := s.bus.filter fun u => !(u.port == port) }
  exact ⟨b, k, h⟩

/-- Accesses within one command leave no trace but the class counters (R97). -/
theorem State.usedHandle_counted (h off n : Nat) (s : State) : ∃ k, s.usedHandle h off n = s.counted s.bus k := by
  unfold State.usedHandle
  cases s.region h with
  | none => exact ⟨s.kitty.classes, rfl⟩
  | some r =>
    obtain ⟨b, k, hb⟩ := State.busRgn_counted 0 r off n { s with bus := [] }
    obtain ⟨b', k', hd⟩ := State.busDrain_counted 0 (({ s with bus := [] } : State).counted b k)
    exact ⟨k', by simp only [Option.elim, State.usedNow, hb, hd]; rfl⟩

/-! ## The fault log -/

theorem State.withFlt_same (f : FltSt) (s : State) : State.Same [.flt] s { s with flt := f } := by
  constructor <;> simp

theorem State.logEvent_sameRegs (code v cls inst detail : Nat) (a b : Bool) (s : State) :
    State.SameRegs [] logRegs s (s.logEvent code v cls inst detail a b) := fun off _ _ _ ho =>
  State.logEvent_reg _ _ _ _ _ _ _ _ off (fun h => ho (by simp [logRegs, h])) (fun h => ho (by simp [logRegs, h]))

theorem State.bumpIf_flt (c : Bool) (off : Nat) (s : State) : (s.bumpIf c off).flt = s.flt := (State.bumpIf_same [] c off s).flt (by simp)

/-- In RUNNING the log takes every record; the newest 1,024 stay (R508). -/
theorem State.logEvent_log_eq (code v cls inst detail : Nat) (a b : Bool) (h : s.start.phase = .running) :
    (s.logEvent code v cls inst detail a b).flt.log = (⟨code, v, b, a, cls, inst, detail, s.now, s.flt.nextSeq⟩ :: s.flt.log).take 1024 := by
  have hlog : ∀ r, (if decide (1024 ≤ s.flt.log.length) = true then (r :: s.flt.log).take 1024 else r :: s.flt.log) = (r :: s.flt.log).take 1024 := by
    intro r
    split_ifs with hl
    · rfl
    · rw [List.take_of_length_le]
      simp only [decide_eq_true_eq, List.length_cons] at hl ⊢
      omega
  unfold State.logEvent
  rw [h]
  simp only [hlog]
  split_ifs <;> simp only [State.raise_flt, State.bumpIf_flt]

/-! ## The queue of drills -/

theorem length_insertBy {α : Type} (lt : α → α → Bool) (x : α) : ∀ l : List α, (insertBy lt x l).length = l.length + 1
  | [] => rfl
  | y :: rest => by
    unfold insertBy
    split
    · rfl
    · simp [length_insertBy lt x rest]

theorem mem_insertBy_self {α : Type} (lt : α → α → Bool) (x : α) : ∀ l : List α, x ∈ insertBy lt x l
  | [] => List.mem_singleton_self x
  | y :: rest => by
    unfold insertBy
    split
    · exact List.mem_cons_self
    · exact List.mem_cons_of_mem _ (mem_insertBy_self lt x rest)

/-- One drill runs at a time (R533). -/
theorem startDrill_of_running (h : s.flt.running = some d) (atDue : Bool) (n : Nat) : startDrill alt atDue n s = s := by
  cases n with
  | zero => rfl
  | succ n => rw [startDrill, h]

/-- No drill ends SKIPPED while none has waited its INTERVAL (R532). -/
theorem State.skipWaited_of_fresh (h : ∀ x ∈ s.flt.queue, x.interval = 0 ∨ s.now < x.due + x.interval) : s.skipWaited = s := by
  have hstale : ∀ x ∈ s.flt.queue, (x.interval != 0 && decide (x.due + x.interval ≤ s.now)) = false := fun x hx => by
    rcases h x hx with h0 | h1
    · simp [h0]
    · simp [Nat.not_le.2 h1]
  have hnone : (s.flt.queue.filter fun d => d.interval != 0 && decide (d.due + d.interval ≤ s.now)) = [] :=
    List.filter_eq_nil_iff.2 fun x hx => by simp [hstale x hx]
  have hall : (s.flt.queue.filter fun d => !(d.interval != 0 && decide (d.due + d.interval ≤ s.now))) = s.flt.queue :=
    List.filter_eq_self.2 fun x hx => by simp [hstale x hx]
  simp only [State.skipWaited, hnone, hall, List.foldl_nil]

/-- The LTC value at which an entry next falls due (R532). -/
def State.dueAt (s : State) (e : DrillEntry) : Nat := s.flt.acceptLtc + (e.fired + 1) * e.interval

/-- The drill that it then queues. -/
def State.dueDrill (s : State) (e : DrillEntry) : Drill := ⟨e.nextPoint, s.dueAt e, e.interval, 0, 0, true⟩

/-- The entry moved on to its next point (R532). -/
def DrillEntry.advanced (e : DrillEntry) : DrillEntry :=
  { e with nextPoint := if e.last ≤ e.nextPoint then e.first else e.nextPoint + 1, fired := e.fired + 1 }

/-- The state in which a drill waits, in order of due times (R533). -/
def State.withDrill (d : Drill) (s : State) : State :=
  { s with flt := { s.flt with queue := insertBy (fun a b => decide (a.due < b.due)) d s.flt.queue } }

/-- The state with an entry of the schedule replaced. -/
def State.setEntry (i : Nat) (e : DrillEntry) (s : State) : State := { s with flt := { s.flt with schedule := s.flt.schedule.set i e } }

/-- A schedule entry that falls due moves on and queues its drill, which starts where none runs. -/
theorem drillDue_eq (hr : s.isRunning = true) (he : s.flt.schedule[i]? = some e) (hen : e.enabled = true) (hp : s.past (s.dueAt e) = true)
    (hq : ∀ x ∈ s.flt.queue, x.interval = 0 ∨ s.now < x.due + x.interval) :
    drillDue alt i s = startDrill alt s.flt.queue.isEmpty (s.flt.queue.length + 1) ((s.setEntry i e.advanced).withDrill (s.dueDrill e)) := by
  have hgo : (!e.enabled || !s.past (s.flt.acceptLtc + (e.fired + 1) * e.interval) || !s.isRunning) = false := by
    unfold State.dueAt at hp
    rw [hen, hp, hr]; rfl
  simp only [drillDue, he, hgo, State.skipWaited_of_fresh hq, Bool.false_eq_true, if_false, length_insertBy]
  rfl

/-! ## A drill that starts -/

/-- What a drill of a point is injected at next (R529): the living members of its site group in turn. -/
def State.nextInstance (s : State) (p : Nat) : Nat :=
  (s.drillLive p).getD ((s.flt.points.getD p ⟨0, 0, 0, 0⟩).rotation % max 1 (s.drillLive p).length) 0

/-- A drill starts: its event is logged as injected, and its point's rotation moves on (R529, R531). -/
def State.inject (d : Drill) (s : State) : State :=
  let t := s.logEvent (drillCode d.point) sevCounted (drillSites s d.point).1 (s.nextInstance d.point) 0 false true
  let x := s.flt.points.getD d.point ⟨0, 0, 0, 0⟩
  { t with flt := { t.flt with running := some { d with inst := s.nextInstance d.point, start := s.now }
                               points := t.flt.points.put d.point { x with rotation := x.rotation + 1 } } }

/-- What lets a drill of a point start (R532, R533). -/
structure State.Drillable (s : State) (p : Nat) : Prop where
  running : s.flt.running = none
  queue : s.flt.queue = []
  live : s.drillLive p ≠ []
  recovering : s.flt.recovering = []
  counters : s.flt.counters = []
  log : s.flt.log = []
  spare : 24 ≤ p ∧ p < 48 → (s.freeSpare (p - 24)).isSome = true
  routes : 148 ≤ p ∧ p < 160 → s.linkAlt (s.nextInstance p) = true

theorem State.drillable_iff : s.drillable p = true ↔ State.Drillable s p := by
  unfold State.drillable
  rw [← State.nextInstance]
  simp only [Bool.and_eq_true, Option.isNone_iff_eq_none, List.isEmpty_iff, Bool.not_eq_true', Bool.or_eq_true, decide_eq_false_iff_not,
    List.isEmpty_eq_false_iff, ← imp_iff_not_or, and_assoc]
  exact ⟨fun ⟨running, queue, live, recovering, counters, log, spare, routes⟩ => ⟨running, queue, live, recovering, counters, log, spare, routes⟩,
    fun h => ⟨h.running, h.queue, h.live, h.recovering, h.counters, h.log, h.spare, h.routes⟩⟩

/-- The conditions under which a drill that has come to its turn ends SKIPPED (R532, R533). -/
def State.skips (s : State) (alt : Nat → Bool) (atDue : Bool) (d : Drill) : Bool :=
  (s.drillLive d.point).isEmpty
    || (s.flt.recovering.any fun r => r.1 == (drillSites s d.point).1)
    || (s.fltThreshold (drillSites s d.point).1 != 0 && decide (s.fltThreshold (drillSites s d.point).1 ≤
        2 * s.flt.counters.getD (fltKey (drillSites s d.point).1 (s.nextInstance d.point)) 0))
    || (decide (24 ≤ d.point ∧ d.point < 48) && (s.freeSpare (d.point - 24)).isNone)
    || (decide (148 ≤ d.point ∧ d.point < 160) && !alt (s.nextInstance d.point))
    || (s.flt.log.any fun r => (r.ltc == s.now || (atDue && r.ltc == d.due)) && r.cls == (drillSites s d.point).1 && !r.injected)
    || (d.interval != 0 && decide (d.due + d.interval ≤ s.now))

/-- The front of the queue leaves it: it is injected or ends SKIPPED, and then the next has its turn. -/
theorem startDrill_succ (atDue : Bool) (n : Nat) (rest : List Drill) (hr : t.flt.running = none) (hq : t.flt.queue = d :: rest)
    (hs : s = { t with flt := { t.flt with queue := rest } }) :
    startDrill alt atDue (n + 1) t = if s.skips alt atDue d then startDrill alt atDue n (s.endDrill d.point 3 0) else s.inject d := by
  subst hs
  rw [startDrill, hr, hq]
  rfl

theorem State.skips_of_drillable (h : State.Drillable s d.point) (hw : d.interval = 0 ∨ s.now < d.due + d.interval) (atDue : Bool) :
    s.skips s.linkAlt atDue d = false := by
  have hspare : (decide (24 ≤ d.point ∧ d.point < 48) && (s.freeSpare (d.point - 24)).isNone) = false := by
    by_cases hp : 24 ≤ d.point ∧ d.point < 48
    · rw [Option.isNone_eq_false_iff.2 (h.spare hp), Bool.and_false]
    · rw [decide_eq_false hp, Bool.false_and]
  have hroutes : (decide (148 ≤ d.point ∧ d.point < 160) && !s.linkAlt (s.nextInstance d.point)) = false := by
    by_cases hp : 148 ≤ d.point ∧ d.point < 160
    · rw [h.routes hp, Bool.not_true, Bool.and_false]
    · rw [decide_eq_false hp, Bool.false_and]
  have hwait : (d.interval != 0 && decide (d.due + d.interval ≤ s.now)) = false := by
    rcases hw with h0 | h1
    · simp [h0]
    · simp [Nat.not_le.2 h1]
  have hcount : ∀ n k : Nat, (n != 0 && decide (n ≤ 2 * Tbl.getD ([] : Tbl Nat) k 0)) = false := fun n k => by
    cases n <;> simp [Tbl.getD, Tbl.get]
  simp only [State.skips, h.recovering, h.counters, h.log, hspare, hroutes, hwait, hcount, List.isEmpty_eq_false_iff.2 h.live, List.any_nil, Bool.or_self]

/-- The drill that waits alone starts where its point can be drilled and it has not waited its INTERVAL (R532, R533). -/
theorem startDrill_of_drillable (h : State.Drillable s d.point) (hw : d.interval = 0 ∨ s.now < d.due + d.interval) (atDue : Bool) :
    startDrill s.linkAlt atDue 1 (s.withDrill d) = s.inject d := by
  have hs : s = { s.withDrill d with flt := { (s.withDrill d).flt with queue := [] } } := by
    simp only [State.withDrill, ← h.queue]
  rw [startDrill_succ (d := d) atDue 0 [] (by simpa [State.withDrill] using h.running) (by simp [State.withDrill, h.queue, insertBy]) hs,
    State.skips_of_drillable h hw, if_neg Bool.false_ne_true]

theorem State.inject_same (d : Drill) (s : State) : State.Same eventParts s (s.inject d) := (State.logEvent_same ..).trans (State.flt_same _)

theorem State.inject_sameRegs (d : Drill) (s : State) : State.SameRegs [] logRegs s (s.inject d) :=
  fun off b hb hp ho => State.logEvent_sameRegs _ _ _ _ _ _ _ s off b hb hp ho

/-- The injected drill runs at its point's next site, counts nothing and declares nothing (R529, R531). -/
theorem State.inject_drillRuns (h : State.Drillable s d.point) (hp : s.start.phase = .running) : DrillRuns d.point s (s.inject d) := by
  have hlen : max 1 (s.drillLive d.point).length = (s.drillLive d.point).length := max_eq_right (List.length_pos_iff.2 h.live)
  have hnext : s.nextInstance d.point =
      (s.drillLive d.point).getD ((s.flt.points.getD d.point ⟨0, 0, 0, 0⟩).rotation % (s.drillLive d.point).length) 0 := by
    rw [State.nextInstance, hlen]
  refine ⟨{ d with inst := s.nextInstance d.point, start := s.now }, ⟨drillCode d.point, sevCounted, true, false, (drillSites s d.point).1,
    s.nextInstance d.point, 0, s.now, s.flt.nextSeq⟩, rfl, rfl, rfl, hnext, ?_, rfl, rfl, rfl, ?_, ?_, ?_, ?_⟩
  · simp only [State.inject, State.logEvent_log_eq _ _ _ _ _ _ _ hp, h.log]; rfl
  · simp only [State.inject, State.logEvent_flt_queue, h.queue]
  · simp only [State.inject, State.logEvent_flt_counters]
  · simp only [State.inject, State.logEvent_flt_due]
  · simp only [State.inject, State.logEvent_flt_retired]

/-! ## A drill that ends -/

theorem blockOf_drillCounter (o : Nat) : blockOf (drillCounter o) = some .flt := by
  unfold drillCounter
  split <;> decide

theorem drillCounter_notMem_logRegs (o : Nat) : drillCounter o ∉ logRegs := by
  unfold drillCounter
  split <;> decide

theorem irqSource_fltStatus_mem_logRegs : (irqSource .fltStatus).1 ∈ logRegs := by decide

/-- What a drill's end keeps of its point (R534): outcome, duration, and one run more where it ran. -/
def DrillPoint.ended (x : DrillPoint) (outcome duration : Nat) : DrillPoint :=
  { x with outcome := outcome, duration := min 0xFFFFFF (duration / 1024), runs := satAdd32 x.runs (if outcome = 3 then 0 else 1) }

/-- Interrupt status bit 3 tells of a drill that ended LATE or FAIL (R510). -/
def State.raiseDrill (outcome : Nat) (s : State) : State := if outcome = 1 ∨ outcome = 2 then s.raise .fltStatus 8 else s

theorem State.raiseDrill_same (o : Nat) (s : State) : State.Same eventParts s (s.raiseDrill o) :=
  State.Same.ite (State.raise_same ..) (State.Same.refl ..)

theorem State.raiseDrill_flt (o : Nat) (s : State) : (s.raiseDrill o).flt = s.flt := by
  unfold State.raiseDrill
  split_ifs <;> simp

theorem State.raiseDrill_reg {off : Nat} (h : off ∉ logRegs) (o : Nat) (s : State) : (s.raiseDrill o).reg off = s.reg off := by
  unfold State.raiseDrill
  split_ifs
  · exact State.raise_reg _ _ _ _ fun e => h (e ▸ irqSource_fltStatus_mem_logRegs)
  · rfl

/-- The counter and the record of a drill's end (R534). -/
def State.logDrill (point outcome : Nat) (s : State) : State :=
  ((s.bump (drillCounter outcome)).logEvent 0x0090 sevAction 0xFF point (outcome * 256 + point) false false).raiseDrill outcome

theorem State.endDrill_eq (point outcome duration : Nat) (s : State) : s.endDrill point outcome duration =
    { s.logDrill point outcome with flt := { (s.logDrill point outcome).flt with
      points := (s.logDrill point outcome).flt.points.put point ((s.flt.points.getD point ⟨0, 0, 0, 0⟩).ended outcome duration) } } := rfl

theorem State.endDrill_same (point outcome duration : Nat) (s : State) : State.Same eventParts s (s.endDrill point outcome duration) :=
  (State.setReg_same ..).trans (((State.logEvent_same ..).trans (State.raiseDrill_same ..)).trans (State.flt_same _))

theorem State.endDrill_reg {off : Nat} (h : off ∉ logRegs) (point outcome duration : Nat) (s : State) :
    (s.endDrill point outcome duration).reg off = (s.bump (drillCounter outcome)).reg off := by
  refine (State.raiseDrill_reg h _ _).trans (State.logEvent_reg _ _ _ _ _ _ _ _ off ?_ ?_) <;> rintro rfl <;> simp [logRegs] at h

theorem State.endDrill_sameRegs (point outcome duration : Nat) (s : State) :
    State.SameRegs [] (drillCounter outcome :: logRegs) s (s.endDrill point outcome duration) := fun off _ _ _ ho => by
  rw [List.mem_cons, not_or] at ho
  exact (State.endDrill_reg ho.2 ..).trans (State.reg_setNat_ne ho.1)

/-- One event more in a 32-bit counter, saturating. -/
theorem State.bump_reg_toNat {off : Nat} (h : (blockOf off).isSome) (s : State) : ((s.bump off).reg off).toNat = min 0xFFFFFFFF ((s.reg off).toNat + 1) := by
  refine (congrArg BitVec.toNat (State.reg_setNat_self h)).trans ?_
  rw [w32, BitVec.toNat_ofNat, Nat.mod_eq_of_lt (by omega)]

theorem State.endDrill_running (point outcome duration : Nat) (s : State) : (s.endDrill point outcome duration).flt.running = s.flt.running := by
  simp [State.endDrill_eq, State.logDrill, State.raiseDrill_flt]

theorem State.endDrill_queue (point outcome duration : Nat) (s : State) : (s.endDrill point outcome duration).flt.queue = s.flt.queue := by
  simp [State.endDrill_eq, State.logDrill, State.raiseDrill_flt]

theorem State.endDrill_points (point outcome duration : Nat) (s : State) : (s.endDrill point outcome duration).flt.points =
    s.flt.points.put point ((s.flt.points.getD point ⟨0, 0, 0, 0⟩).ended outcome duration) := by
  simp [State.endDrill_eq, State.logDrill, State.raiseDrill_flt]

theorem State.endDrill_logged (point outcome duration : Nat) (h : s.start.phase = .running) : Logged 0x0090 (s.endDrill point outcome duration) := by
  refine ⟨⟨0x0090, sevAction, false, false, 0xFF, point, outcome * 256 + point, s.now, s.flt.nextSeq⟩, ?_, rfl⟩
  have hb : (s.bump (drillCounter outcome)).start.phase = .running := by rw [State.bump_start, h]
  simp [State.endDrill_eq, State.logDrill, State.raiseDrill_flt, State.logEvent_log_eq _ _ _ _ _ _ _ hb, State.now]

/-- With nothing waiting, a drill's end is all that DRILL_END does. -/
theorem drillEnd_eq (hd : s.flt.running = some d) (hq : s.flt.queue = []) (r : DrillResult) : ∃ duration,
    drillEnd alt r s = ({ s with flt := { s.flt with running := none } } : State).endDrill d.point (drillOutcome d.point r) duration := by
  have hend : ∀ o n, startDrill alt false (({ s with flt := { s.flt with running := none } } : State).endDrill d.point o n).flt.queue.length
      (({ s with flt := { s.flt with running := none } } : State).endDrill d.point o n) =
        ({ s with flt := { s.flt with running := none } } : State).endDrill d.point o n := fun o n => by
    rw [State.endDrill_queue, hq]; rfl
  rw [drillEnd, hd]
  simp only [hend]
  cases r with
  | completed x => exact ⟨x, by unfold drillOutcome; cases drillBound d.point <;> rfl⟩
  | notCompleted => exact ⟨_, rfl⟩
  | preempted => exact ⟨_, rfl⟩

end Sys2Proof.Machine
end

section
/-! SUPPORT. The commands of drills, one by one: DRILL_DUE, DRILL_END, SET_DRILLS and DRILL_NOW (R532 to R536). -/

namespace Sys2Proof.Machine

variable {s t : State} {i p slot : Nat} {e : DrillEntry} {d : Drill} {a0 a1 : W32}

/-! ## DRILL_DUE and DRILL_END -/

theorem exec_drillDue (h : drillDue s.linkAlt i s = t) : exec (.drillDue i) s = .next (s.adopt [.host, .flt, .out, .reg .flt] t) := by
  subst h; rfl

theorem exec_drillEnd {r : DrillResult} (h : drillEnd s.linkAlt r s = t) : exec (.drillEnd r) s = .next (s.adopt [.host, .flt, .out, .reg .flt] t) := by
  subst h; rfl

/-- A drill that falls due while one runs waits (R533). -/
theorem does_drillDue_of_running (hr : s.isRunning = true) (he : s.flt.schedule[i]? = some e) (hen : e.enabled = true) (hp : s.past (s.dueAt e) = true)
    (hd : s.flt.running = some d) (hq : ∀ x ∈ s.flt.queue, x.interval = 0 ∨ s.now < x.due + x.interval) :
    Does (.drillDue i) s [.flt] [] fun t => t.flt.running = some d ∧ t.flt.queue.length = s.flt.queue.length + 1 ∧ (∃ x ∈ t.flt.queue, x.point = e.nextPoint) ∧
      t.flt.schedule[i]? = some e.advanced := by
  have hwaits : drillDue s.linkAlt i s = (s.setEntry i e.advanced).withDrill (s.dueDrill e) :=
    (drillDue_eq hr he hen hp hq).trans (startDrill_of_running (s := (s.setEntry i e.advanced).withDrill (s.dueDrill e)) hd ..)
  obtain ⟨hi, -⟩ := List.getElem?_eq_some_iff.1 he
  refine Does.of (exec_drillDue hwaits) (State.withFlt_same _ s) (fun _ _ _ _ _ => rfl) ⟨hd, length_insertBy .., ⟨_, mem_insertBy_self .., rfl⟩, ?_⟩
  exact List.getElem?_set_self hi

/-- A drill that falls due starts where its point can be drilled (R532). -/
theorem does_drillDue_of_drillable (hr : s.isRunning = true) (he : s.flt.schedule[i]? = some e) (hen : e.enabled = true) (hp : s.past (s.dueAt e) = true)
    (hw : s.now < s.flt.acceptLtc + (e.fired + 2) * e.interval) (h : State.Drillable s e.nextPoint) :
    Does (.drillDue i) s logParts logRegs (DrillRuns e.nextPoint s) := by
  have hphase : s.start.phase = .running := by simp only [State.isRunning, Bool.and_eq_true, beq_iff_eq] at hr; exact hr.1.1
  have hset : State.Drillable (s.setEntry i e.advanced) e.nextPoint := ⟨h.running, h.queue, h.live, h.recovering, h.counters, h.log, h.spare, h.routes⟩
  have hwait : s.now < s.dueAt e + e.interval := by rw [State.dueAt]; linarith
  have hstart : drillDue s.linkAlt i s = (s.setEntry i e.advanced).inject (s.dueDrill e) := by
    rw [drillDue_eq hr he hen hp (by simp [h.queue]), h.queue]
    exact startDrill_of_drillable (d := s.dueDrill e) hset (.inr hwait) _
  refine Does.of (exec_drillDue hstart) ((State.flt_same _).trans (State.inject_same ..)) (fun off b hb _ ho => State.inject_sameRegs _ _ off b hb (by simp) ho) ?_
  exact State.inject_drillRuns (d := s.dueDrill e) hset hphase

/-- A drill's end is counted, logged and kept with its point (R534). -/
theorem does_drillEnd (r : DrillResult) (hp : s.start.phase = .running) (hd : s.flt.running = some d) (hq : s.flt.queue = []) :
    Does (.drillEnd r) s logParts (drillCounter (drillOutcome d.point r) :: logRegs) fun t => t.flt.running = none ∧ Logged 0x0090 t ∧
      (t.reg (drillCounter (drillOutcome d.point r))).toNat = min 0xFFFFFFFF ((s.reg (drillCounter (drillOutcome d.point r))).toNat + 1) ∧
      ∃ x, t.flt.points.get d.point = some x ∧ x.outcome = drillOutcome d.point r := by
  obtain ⟨n, hend⟩ := drillEnd_eq (alt := s.linkAlt) hd hq r
  have hblock := blockOf_drillCounter (drillOutcome d.point r)
  refine Does.of (exec_drillEnd hend) ((State.flt_same _).trans (State.endDrill_same ..)) 
    (fun off b hb _ ho => State.endDrill_sameRegs _ _ _ _ off b hb (by simp) ho) ⟨?_, ?_, ?_, ?_⟩
  · exact State.endDrill_running ..
  · exact State.endDrill_logged _ _ n (s := { s with flt := { s.flt with running := none } }) hp
  · rw [State.reg_adopt_of hblock (by decide), State.endDrill_reg (drillCounter_notMem_logRegs _), State.bump_reg_toNat (by rw [hblock]; rfl)]
    rfl
  · exact ⟨_, (congrArg (Tbl.get · d.point) (State.endDrill_points ..)).trans (Tbl.get_put_self ..), rfl⟩

/-! ## Slot commands of the fault block -/

theorem Does.mono_parts {c : Instr} {P : State → Prop} {ps qs : List Part} {rs : List Nat} (h : Does c s ps rs P) (hq : ∀ x ∈ ps, x ∈ qs) : Does c s qs rs P := by
  obtain ⟨t, he, hs, hr, hP⟩ := h
  exact ⟨t, he, hs.mono hq, fun off b hb hp ho => hr off b hb (fun hm => hp (hq _ hm)) ho, hP⟩

/-- ARG0 of a command of the fault block reads as it was given, with or without an ARG1. -/
theorem State.begun_arg0 {op : Nat} (hi : s.slotIdle .flt slot = true) (a0 : W32) : (s.begun .flt slot op [(0, a0)] none).slotArg .flt slot 0 = a0.toNat := by
  obtain ⟨-, h4, hn⟩ := State.slotIdle_iff.1 hi
  rw [State.begun_slotArg (hn slot h4) (by decide), State.setArgs_flt_reg h4 (by decide), if_pos rfl]

theorem State.begun_args {op : Nat} (hi : s.slotIdle .flt slot = true) (a0 a1 : W32) :
    (s.begun .flt slot op [(0, a0), (1, a1)] none).slotArg .flt slot 0 = a0.toNat ∧
      (s.begun .flt slot op [(0, a0), (1, a1)] none).slotArg .flt slot 1 = a1.toNat := by
  obtain ⟨-, h4, hn⟩ := State.slotIdle_iff.1 hi
  have hne : slotReg .flt slot (0 + 1) ≠ slotReg .flt slot (1 + 1) := by simp [slotReg]
  constructor
  · rw [State.begun_slotArg (hn slot h4) (by decide), State.setArgs_cons, State.setArgs_flt_reg h4 (by decide), if_neg hne,
      State.setArgs_flt_reg h4 (by decide), if_pos rfl]
  · rw [State.begun_slotArg (hn slot h4) (by decide), State.setArgs_cons, State.setArgs_flt_reg h4 (by decide), if_pos rfl]

/-! ## SET_DRILLS (R536) -/

theorem r21_eq_ok {checks : List (Bool × Nat)} (h : ∀ c ∈ checks, c.1 = false) : r21 checks = St.ok := by
  have hf : r21Order.find? (fun st => checks.any fun c => c.1 && c.2 == st) = none := by
    refine List.find?_eq_none.2 fun st _ => ?_
    simp only [List.any_eq_true, not_exists, not_and]
    intro c hc
    simp [h c hc]
  rw [r21, hf]; rfl

/-- A range that can be read passes its checks for the system (R61, R81). -/
theorem State.rgnChecks_of_handleRead {h off n : Nat} {b : Bytes} (hb : s.handleRead h off n = some b) : ∀ c ∈ s.rgnChecks .system h off n false, c.1 = false := by
  unfold State.handleRead at hb
  unfold State.rgnChecks
  cases hr : s.region h with
  | none => simp [hr] at hb
  | some r =>
    simp only [hr, Option.ite_none_right_eq_some, Bool.and_eq_true, decide_eq_true_eq, List.all_eq_true, Bool.not_eq_true'] at hb
    obtain ⟨⟨hsize, hpages⟩, -⟩ := hb
    simp only [List.mem_append, List.mem_cons, List.not_mem_nil, or_false]
    rintro c ((rfl | rfl) | hc)
    · simp [mayReach]
    · simpa using hsize
    · exact hpages c hc

theorem State.handleRead_congr (hk : t.kitty = s.kitty) (hm : t.kmem = s.kmem) (h off n : Nat) : t.handleRead h off n = s.handleRead h off n := by
  simp only [State.handleRead, State.region, State.rgnRead, hk, hm]

/-- The state with another schedule, whose intervals count from now (R532, R536). -/
def State.setSchedule (l : List DrillEntry) (s : State) : State := { s with flt := { s.flt with schedule := l, acceptLtc := s.now } }

/-- An entry of Table 15.7 that SET_DRILLS takes. -/
abbrev drillEntryOk (e : Bytes) : Prop :=
  fieldAt e 0 2 ≤ fieldAt e 2 2 ∧ fieldAt e 2 2 < 200 ∧ 100000000 ≤ fieldAt e 8 8 ∧ fieldAt e 8 8 ≤ 2 ^ 48

/-- A schedule of entries that hold is put in force as a live change. -/
theorem setDrillsRun_of_ok {n : Nat} {b : Bytes} (hn : n = bitsOf (s.slotArg .flt slot 0) 6 0) (h0 : 0 < n) (h64 : n ≤ 64)
    (hb : s.handleRead (bitsOf (s.slotArg .flt slot 0) 31 16) (64 * s.slotArg .flt slot 1) (16 * n) = some b)
    (hok : ∀ i, i < n → drillEntryOk (sliceAt b (16 * i) 16)) : ∃ k, setDrillsRun slot s =
      (((s.counted s.bus k).setSchedule (readDrills ((List.range n).map fun i => sliceAt b (16 * i) 16).flatten)).liveChange).slotDone .flt slot St.ok := by
  obtain ⟨k, hk⟩ := State.usedHandle_counted (bitsOf (s.slotArg .flt slot 0) 31 16) (64 * s.slotArg .flt slot 1) b.length s
  refine ⟨k, ?_⟩
  have hbad : ((List.range n).map fun i => sliceAt b (16 * i) 16).any (fun e => !(decide (fieldAt e 0 2 ≤ fieldAt e 2 2 ∧ fieldAt e 2 2 < 200
      ∧ 100000000 ≤ fieldAt e 8 8 ∧ fieldAt e 8 8 ≤ 2 ^ 48))) = false := by
    simp only [List.any_eq_false, List.mem_map, List.mem_range]
    rintro _ ⟨i, hi, rfl⟩
    rw [decide_eq_true (hok i hi)]; decide
  have hst := r21_eq_ok (checks := (decide (64 < n), St.length) :: (false, St.range) ::
      s.rgnChecks .system (bitsOf (s.slotArg .flt slot 0) 31 16) (64 * s.slotArg .flt slot 1) (16 * n) false) (by
    simp only [List.mem_cons]
    rintro c (rfl | rfl | hc)
    · simpa using h64
    · rfl
    · exact State.rgnChecks_of_handleRead hb c hc)
  unfold setDrillsRun
  simp only [← hn, hb, Option.getD_some, Option.isSome_some, Option.elim, hbad, Bool.and_false, h0.ne', if_false, hst, hk, ne_eq, not_true_eq_false, or_self]
  rfl

/-- A list of no entries completes with OK and changes nothing (R25). -/
theorem setDrillsRun_of_zero (hn : bitsOf (s.slotArg .flt slot 0) 6 0 = 0) : ∃ k, setDrillsRun slot s = (s.counted s.bus k).slotDone .flt slot St.ok := by
  obtain ⟨k, hk⟩ := State.usedHandle_counted (bitsOf (s.slotArg .flt slot 0) 31 16) (64 * s.slotArg .flt slot 1)
    ((s.handleRead (bitsOf (s.slotArg .flt slot 0) 31 16) (64 * s.slotArg .flt slot 1) (16 * 0)).elim 0 List.length) s
  have hst : r21 [(decide (64 < 0), St.length)] = St.ok := r21_eq_ok (by simp)
  refine ⟨k, ?_⟩
  unfold setDrillsRun
  simp only [hn, hk, hst, if_true, true_or]

theorem State.counted_same (k : Tbl ClsCount) (s : State) : State.Same [.kitty] s (s.counted s.bus k) := by
  constructor <;> simp [State.counted]

theorem State.setSchedule_same (l : List DrillEntry) (s : State) : State.Same [.cfg, .flt] s (s.setSchedule l).liveChange := by
  constructor <;> simp [State.setSchedule, State.liveChange]

/-- SET_DRILLS with entries that hold puts them in force as a live change (R536). -/
theorem does_setDrills {n : Nat} {b : Bytes} (hc : s.calm = true) (hi : s.slotIdle .flt slot = true) (hn : n = fld a0 6 0) (h0 : 0 < n) (h64 : n ≤ 64)
    (hb : s.handleRead (fld a0 31 16) (64 * a1.toNat) (16 * n) = some b) (hok : ∀ i, i < n → drillEntryOk (sliceAt b (16 * i) 16)) :
    Does (.setDrills slot a0 a1) s [.cfg, .slots, .kitty, .flt] (slotRegs .flt slot) fun t => SelfTraffic s t ∧
      t.flt = { s.flt with schedule := readDrills ((List.range n).map fun i => sliceAt b (16 * i) 16).flatten, acceptLtc := s.now } ∧
      ChangeAccepted s t ∧ SlotDone .flt slot 1 St.ok t := by
  have hbs := State.begun_same .flt slot 1 [(0, a0), (1, a1)] none s
  obtain ⟨harg0, harg1⟩ := State.begun_args (op := 1) hi a0 a1
  generalize hbeg : s.begun .flt slot 1 [(0, a0), (1, a1)] none = x at hbs harg0 harg1
  have hkitty := hbs.kitty (by decide)
  obtain ⟨k, hrun⟩ := setDrillsRun_of_ok (s := x) (slot := slot) (n := n) (b := b) (by rw [harg0]; exact hn) h0 h64
    (by rw [State.handleRead_congr hkitty (hbs.kmem (by decide)), harg0, harg1]; exact hb) hok
  have hflt := hbs.flt (by decide)
  have hcfg := hbs.cfg (by decide)
  have hnow : x.now = s.now := by simp only [State.now, hbs.clk (by decide)]
  refine Does.mono_parts (ps := [.slots, .cfg, .kitty, .flt]) (Does.ofFltCommand (op := 1) (args := [(0, a0), (1, a1)]) (r := St.ok) (rs := [])
    (u := ((x.counted x.bus k).setSchedule (readDrills ((List.range n).map fun i => sliceAt b (16 * i) 16).flatten)).liveChange)
    rfl hc hi (by simp) hbeg hrun (.of id rfl rfl rfl rfl rfl rfl rfl rfl) rfl
    (((State.counted_same k x).mono (by decide)).trans ((State.setSchedule_same _ _).mono (by decide))) (fun _ _ _ _ _ => rfl)
    fun t hdone htcfg htkitty htkmem htflt => ?_) (by decide)
  refine ⟨⟨?_, fun a _ => by rw [htkmem]⟩, ?_, ⟨?_, ?_⟩, hdone⟩
  · rw [htkitty, ← hkitty]; rfl
  · rw [htflt, ← hflt, ← hnow]; rfl
  · rw [htcfg, ← hcfg]; rfl
  · rw [htcfg, ← hcfg]; rfl

/-- SET_DRILLS with a list of no entries changes nothing (R25). -/
theorem does_setDrills_of_zero (hc : s.calm = true) (hi : s.slotIdle .flt slot = true) (hn : fld a0 6 0 = 0) :
    Does (.setDrills slot a0 a1) s [.slots, .kitty] (slotRegs .flt slot) fun t => SelfTraffic s t ∧ SlotDone .flt slot 1 St.ok t := by
  have hbs := State.begun_same .flt slot 1 [(0, a0), (1, a1)] none s
  obtain ⟨harg0, -⟩ := State.begun_args (op := 1) hi a0 a1
  obtain ⟨k, hrun⟩ := setDrillsRun_of_zero (s := s.begun .flt slot 1 [(0, a0), (1, a1)] none) (slot := slot) (by rw [harg0]; exact hn)
  refine Does.ofFltCommand (op := 1) (args := [(0, a0), (1, a1)]) (r := St.ok) (rs := []) (qs := [.kitty]) rfl hc hi (by simp) rfl hrun
    (.of id rfl rfl rfl rfl rfl rfl rfl rfl) rfl (State.counted_same ..) (fun _ _ _ _ _ => rfl) fun t hdone _ htkitty htkmem _ =>
      ⟨⟨?_, fun a _ => by rw [htkmem]⟩, hdone⟩
  rw [htkitty, ← hbs.kitty (by decide)]; rfl

/-! ## DRILL_NOW (R536) -/

/-- The drill that DRILL_NOW queues: due at once, of no interval. -/
def State.drillAsked (s : State) (p : Nat) : Drill := ⟨p, s.now, 0, 0, 0, true⟩

theorem drillNowRun_eq (alt : Nat → Bool) (hp : bitsOf (s.slotArg .flt slot 0) 7 0 = p) (h : p < 200) : drillNowRun alt slot s =
    (startDrill alt false (s.flt.queue.length + 1) (s.withDrill (s.drillAsked p))).slotDone .flt slot St.ok := by
  unfold drillNowRun
  simp only [hp, if_neg (Nat.not_le.2 h), length_insertBy]
  rfl

theorem State.linkAlt_congr (hton : t.ton = s.ton) (hlink : t.link = s.link) (hr : t.reg Reg.LINK_IDENT = s.reg Reg.LINK_IDENT) : t.linkAlt = s.linkAlt := by
  funext l
  simp only [State.linkAlt, State.mySeat, State.port, hton, hlink, hr]

theorem drillSites_congr (hf : t.flt = s.flt) (p : Nat) : drillSites t p = drillSites s p := by
  have hb : t.physBank = s.physBank := by funext b; rw [State.physBank, State.physBank, hf]
  rw [drillSites, drillSites, hb]

theorem State.isRetired_congr (hf : t.flt = s.flt) : t.isRetired = s.isRetired := by
  funext c i
  simp only [State.isRetired, hf]

theorem State.drillLive_congr (hf : t.flt = s.flt) (p : Nat) : t.drillLive p = s.drillLive p := by
  rw [State.drillLive, State.drillLive, drillSites_congr hf, State.isRetired_congr hf]

/-- What runs is told from the fault block and the clock alone. -/
theorem DrillRuns.congr {x u : State} (h : DrillRuns p x u) (hf : x.flt = s.flt) (hn : x.now = s.now) (ht : t.flt = u.flt) : DrillRuns p s t := by
  unfold DrillRuns at *
  rw [ht, ← hf, ← hn, ← State.drillLive_congr hf]
  exact h

theorem linkIdent_notMem_slotRegs (h : slot < 4) : Reg.LINK_IDENT ∉ slotRegs .flt slot := by
  interval_cases slot <;> decide

theorem State.nextInstance_congr (hf : t.flt = s.flt) (p : Nat) : t.nextInstance p = s.nextInstance p := by
  simp only [State.nextInstance, State.drillLive_congr hf, hf]

/-- Whether a point can be drilled rests on the fault block and on the routes over links alone. -/
theorem State.Drillable.congr (h : State.Drillable s p) (hf : t.flt = s.flt) (hl : t.linkAlt = s.linkAlt) : State.Drillable t p where
  running := by rw [hf]; exact h.running
  queue := by rw [hf]; exact h.queue
  live := by rw [State.drillLive_congr hf]; exact h.live
  recovering := by rw [hf]; exact h.recovering
  counters := by rw [hf]; exact h.counters
  log := by rw [hf]; exact h.log
  spare := fun hp => by simpa only [State.freeSpare, State.isRetired, hf] using h.spare hp
  routes := fun hp => by rw [hl, State.nextInstance_congr hf]; exact h.routes hp

/-- A drill asked for while one runs waits (R533, R536). -/
theorem does_drillNow_of_running (hc : s.calm = true) (hi : s.slotIdle .flt slot = true) (hp : p = fld a0 7 0) (h : p < 200) (hd : s.flt.running = some d) :
    Does (.drillNow slot a0) s [.slots, .flt] (slotRegs .flt slot) fun t => t.flt.running = some d ∧ t.flt.queue.length = s.flt.queue.length + 1 ∧
      (∃ x ∈ t.flt.queue, x.point = p ∧ x.due = s.now) ∧ SlotDone .flt slot 2 St.ok t := by
  have hbs := State.begun_same .flt slot 2 [(0, a0)] none s
  have harg0 := State.begun_arg0 (op := 2) hi a0
  generalize hbeg : s.begun .flt slot 2 [(0, a0)] none = x at hbs harg0
  have hflt := hbs.flt (by decide)
  have hrun : drillNowRun x.linkAlt slot x = (x.withDrill (x.drillAsked p)).slotDone .flt slot St.ok := by
    rw [drillNowRun_eq x.linkAlt (by rw [harg0]; exact hp.symm) h,
      startDrill_of_running (s := x.withDrill (x.drillAsked p)) (d := d) (by rw [← hd, ← hflt]; rfl)]
  refine Does.ofFltCommand (op := 2) (args := [(0, a0)]) (r := St.ok) (rs := []) (u := x.withDrill (x.drillAsked p)) rfl hc hi (by simp)
    hbeg hrun (.of id rfl rfl rfl rfl rfl rfl rfl rfl) rfl (State.withFlt_same ..) (fun _ _ _ _ _ => rfl) fun t hdone _ _ _ htflt => ?_
  rw [htflt, ← hd, ← hflt]
  exact ⟨rfl, length_insertBy .., ⟨_, mem_insertBy_self .., rfl, by simp only [State.now, hbs.clk (by decide), State.drillAsked]⟩, hdone⟩

/-- A drill asked for starts at once where its point can be drilled (R532, R536). -/
theorem does_drillNow_of_drillable (hc : s.calm = true) (hi : s.slotIdle .flt slot = true) (hp : p = fld a0 7 0) (h200 : p < 200) (h : State.Drillable s p) :
    Does (.drillNow slot a0) s (.slots :: logParts) (logRegs ++ slotRegs .flt slot) fun t => DrillRuns p s t ∧ SlotDone .flt slot 2 St.ok t := by
  obtain ⟨hr, h4, hn⟩ := State.slotIdle_iff.1 hi
  have hphase : s.start.phase = .running := by simp only [State.isRunning, Bool.and_eq_true, beq_iff_eq] at hr; exact hr.1.1
  have hbs := State.begun_same .flt slot 2 [(0, a0)] none s
  have hident := State.begun_sameRegs (op := 2) (args := [(0, a0)]) (hn slot h4) (by simp [Family.args]) Reg.LINK_IDENT .link (by decide)
    (by simp) (linkIdent_notMem_slotRegs h4)
  have harg0 := State.begun_arg0 (op := 2) hi a0
  generalize hbeg : s.begun .flt slot 2 [(0, a0)] none = x at hbs harg0 hident
  have hflt := hbs.flt (by decide)
  have hx : State.Drillable x p := h.congr hflt (State.linkAlt_congr (hbs.ton (by decide)) (hbs.link (by decide)) hident)
  have hrun : drillNowRun x.linkAlt slot x = (x.inject (x.drillAsked p)).slotDone .flt slot St.ok := by
    rw [drillNowRun_eq x.linkAlt (by rw [harg0]; exact hp.symm) h200, hx.queue]
    exact congrArg _ (startDrill_of_drillable (d := x.drillAsked p) hx (.inl rfl) false)
  have hruns : DrillRuns p x (x.inject (x.drillAsked p)) := State.inject_drillRuns (d := x.drillAsked p) hx (by rw [hbs.start (by decide), hphase])
  have hs := State.inject_same (x.drillAsked p) x
  refine Does.ofFltCommand (op := 2) (args := [(0, a0)]) (r := St.ok) (u := x.inject (x.drillAsked p)) rfl hc hi (by simp)
    hbeg hrun ?_ (hs.slots (by decide)) hs (State.inject_sameRegs _ _) fun t hdone _ _ _ htflt => ⟨hruns.congr hflt ?_ htflt, hdone⟩
  · exact .of (fun e => by rw [State.inject, State.logEvent_flt_due, e]) (hs.ton (by decide)) (State.logEvent_blockWait ..) (hs.slots (by decide))
      (hs.qry (by decide)) (hs.link (by decide)) (hs.post (by decide)) (hs.emb (by decide)) (hs.med (by decide))
  · simp only [State.now, hbs.clk (by decide)]

end Sys2Proof.Machine
end

section
open Sys2Proof.Machine

/-- Settles O54: it holds. The clauses are the lemmas `does_drillDue_of_running` and following, one for each command and case. -/
theorem drillsRunAndFaultSelectorsShow : Obligations.DrillsRunAndFaultSelectorsShow := by
  unfold Obligations.DrillsRunAndFaultSelectorsShow
  refine ⟨?dueWaits, ?dueStarts, ?ends, ?schedule, ?noSchedule, ?nowWaits, ?nowStarts, does_fltLogRead, does_fltLogSel, does_fltRetSel, does_fltCntSel,
    does_fltDrillPtSel⟩
  case dueWaits => exact fun i e d s hr he hen hp hd hq => does_drillDue_of_running hr he hen hp hd hq
  case dueStarts => exact fun i e s hr he hen hp hw h => does_drillDue_of_drillable hr he hen hp hw (State.drillable_iff.1 h)
  case ends => exact fun r d s hp hd hq => does_drillEnd r hp hd hq
  case schedule => exact fun slot n a0 a1 b s hc hi hn h0 h64 hb hok => does_setDrills hc hi hn h0 h64 hb hok
  case noSchedule => exact fun slot a0 a1 s hc hi hn => does_setDrills_of_zero hc hi hn
  case nowWaits => exact fun slot p a0 d s hc hi hp h hd => does_drillNow_of_running hc hi hp h hd
  case nowStarts => exact fun slot p a0 s hc hi hp h h' => does_drillNow_of_drillable hc hi hp h (State.drillable_iff.1 h')

end

section
/-! SUPPORT. Mailboxes, control cores and interrupts: what an interrupt leaves of the host part (R12, R581), what a mailbox or core reads after one was
stored, and the registers of the MBX block (R604). -/

namespace Sys2Proof.Machine

variable {ps : List Part} {rs : List Nat} {s t u : State} {c : Instr} {P : State → Prop} {h k x : Nat}

/-! ## Interrupts and the host part -/

/-- Of the host part, interrupts change the record of the bits set in this cycle and the Pending Bits alone (R12, R581). -/
def State.Signals (s t : State) : Prop := ∃ n p, t.host = { s.host with setNow := n, pba := p }

theorem State.Signals.of_host (e : t.host = s.host) : State.Signals s t := ⟨_, _, e⟩

theorem State.Signals.trans : State.Signals s t → State.Signals t u → State.Signals s u
  | ⟨_, _, e⟩, ⟨n, p, e'⟩ => ⟨n, p, by rw [e', e]⟩

theorem State.Signals.ite {q : Prop} [Decidable q] (ht : State.Signals s t) (hu : State.Signals s u) : State.Signals s (if q then t else u) := by
  split_ifs <;> assumption

theorem State.Signals.box : State.Signals s t → t.box = s.box
  | ⟨_, _, e⟩ => by funext k; rw [State.box, State.box, e]

theorem State.Signals.core : State.Signals s t → t.core = s.core
  | ⟨_, _, e⟩ => by funext k; rw [State.core, State.core, e]

theorem State.Signals.boxes : State.Signals s t → t.host.boxes = s.host.boxes
  | ⟨_, _, e⟩ => by rw [e]

theorem State.Signals.cores : State.Signals s t → t.host.cores = s.host.cores
  | ⟨_, _, e⟩ => by rw [e]

theorem State.Signals.held : State.Signals s t → t.host.held = s.host.held
  | ⟨_, _, e⟩ => by rw [e]

theorem State.setOnes_signals (off : Nat) (b : W32) (s : State) : State.Signals s (s.setOnes off b) := ⟨_, _, rfl⟩

theorem State.sendMsix_signals (v : Nat) (s : State) : State.Signals s (s.sendMsix v) := by
  unfold State.sendMsix
  split_ifs <;> exact ⟨_, _, rfl⟩

theorem State.raise_signals (r : IrqReg) (b : Nat) (s : State) : State.Signals s (s.raise r b) :=
  .ite ((State.setOnes_signals ..).trans (State.sendMsix_signals ..)) (State.setOnes_signals ..)

theorem State.bumpIf_signals (q : Bool) (off : Nat) (s : State) : State.Signals s (s.bumpIf q off) := by
  unfold State.bumpIf
  exact .ite (.of_host (State.bump_host ..)) (.of_host rfl)

theorem State.logEvent_signals (code v k i d : Nat) (a b : Bool) (s : State) : State.Signals s (s.logEvent code v k i d a b) := by
  unfold State.logEvent
  split
  iterate 3 exact .of_host rfl
  have hlog : ∀ f q, State.Signals s (({ s with flt := f } : State).bumpIf q Reg.FLT_LOG_LOST) := fun f q =>
    .trans (t := { s with flt := f }) (.of_host rfl) (State.bumpIf_signals ..)
  refine .ite ?_ (.trans ?_ (State.raise_signals ..)) <;> exact hlog ..

theorem State.declareLasting_signals (k i : Nat) (s : State) : State.Signals s (s.declareLasting k i) :=
  .ite (.of_host rfl) (.of_host (State.bump_host ..))

theorem State.faultOf_signals (code k i d : Nat) (s : State) : State.Signals s (s.faultOf code k i d) := by
  have hcount : ∀ (f : FltSt) (v : Nat) (a : Bool), State.Signals s (({ s with flt := f } : State).logEvent code v k i d a false) := fun f _ _ =>
    .trans (t := { s with flt := f }) (.of_host rfl) (State.logEvent_signals ..)
  unfold State.faultOf
  exact .ite ((State.logEvent_signals ..).trans (State.declareLasting_signals ..)) (.ite (State.logEvent_signals ..) (.ite (State.logEvent_signals ..)
    (.ite ((hcount ..).trans (State.declareLasting_signals ..)) (hcount ..))))

theorem State.fault_signals (code i d : Nat) (s : State) : State.Signals s (s.fault code i d) := State.faultOf_signals ..

/-! ## Mailboxes and cores -/

theorem State.box_setBox (h : Nat) (b : HostMbox) (s : State) (k : Nat) : (s.setBox h b).box k = if k = h then b else s.box k := by
  simp only [State.box, State.setBox, Tbl.getD, Tbl.get_put]
  split_ifs <;> rfl

@[simp] theorem State.box_setBox_self (h : Nat) (b : HostMbox) (s : State) : (s.setBox h b).box h = b := by rw [State.box_setBox, if_pos rfl]

theorem State.box_setBox_ne (hk : k ≠ h) (b : HostMbox) (s : State) : (s.setBox h b).box k = s.box k := by rw [State.box_setBox, if_neg hk]

theorem State.core_setCore (c : Nat) (x : CoreSt) (s : State) (k : Nat) : (s.setCore c x).core k = if k = c then x else s.core k := by
  simp only [State.core, State.setCore, Tbl.getD, Tbl.get_put]
  split_ifs <;> rfl

@[simp] theorem State.core_setCore_self (c : Nat) (x : CoreSt) (s : State) : (s.setCore c x).core c = x := by rw [State.core_setCore, if_pos rfl]

theorem State.core_setCore_ne {c : Nat} (hk : k ≠ c) (x : CoreSt) (s : State) : (s.setCore c x).core k = s.core k := by
  rw [State.core_setCore, if_neg hk]

theorem State.box_congr (e : t.host = s.host) : t.box = s.box := (State.Signals.of_host e).box

theorem State.core_congr (e : t.host = s.host) : t.core = s.core := (State.Signals.of_host e).core

/-! ## Frames -/

theorem State.Same.withHost (hs : State.Same ps s t) (hp : .host ∈ ps) (a : HostSt) : State.Same ps s { t with host := a } :=
  hs.trans (by constructor <;> simp [hp])

theorem State.Same.setBox (hs : State.Same ps s t) (hp : .host ∈ ps) (h : Nat) (b : HostMbox) : State.Same ps s (t.setBox h b) := hs.withHost hp _

theorem State.Same.setCore (hs : State.Same ps s t) (hp : .host ∈ ps) (c : Nat) (x : CoreSt) : State.Same ps s (t.setCore c x) := hs.withHost hp _

theorem State.Same.emit (hs : State.Same ps s t) (hp : .out ∈ ps) (o : Output) : State.Same ps s (t.emit o) :=
  hs.trans (by constructor <;> simp [State.emit, hp])

theorem State.Same.setOnes (hs : State.Same ps s t) (hp : .host ∈ ps) (off : Nat) (b : W32) : State.Same ps s (t.setOnes off b) :=
  (hs.setReg ..).withHost hp _

theorem State.Same.sendMsix (hs : State.Same ps s t) (hp : .host ∈ ps) (ho : .out ∈ ps) (v : Nat) : State.Same ps s (t.sendMsix v) :=
  .ite hs (.ite (hs.withHost hp _) (.ite (hs.emit ho _) hs))

theorem State.Same.raise (hs : State.Same ps s t) (hp : .host ∈ ps) (ho : .out ∈ ps) (r : IrqReg) (b : Nat) : State.Same ps s (t.raise r b) :=
  .ite ((hs.setOnes hp ..).sendMsix hp ho _) (hs.setOnes hp ..)

theorem State.SameRegs.of_regs (e : t.regs = s.regs) : State.SameRegs ps rs s t := fun off _ _ _ _ => State.reg_congr e off

theorem State.SameRegs.setOnes (hr : State.SameRegs ps rs s t) (hx : x ∈ rs) (b : W32) : State.SameRegs ps rs s (t.setOnes x b) :=
  hr.setReg hx (t.reg x ||| b)

theorem State.SameRegs.raise {r : IrqReg} (hr : State.SameRegs ps rs s t) (hx : (irqSource r).1 ∈ rs) (b : Nat) : State.SameRegs ps rs s (t.raise r b) :=
  hr.trans fun off _ _ _ ho => State.raise_reg _ _ _ off fun e => ho (e ▸ hx)

/-! ## Registers of the MBX block -/

/-- The registers of a host mailbox lie in the MBX block (R604). -/
theorem blockOf_mboxReg {base : Nat} (hh : h < 16) (h0 : 0x10000 ≤ base) (h1 : base < 0x10100) : blockOf (mboxReg base h) = some .mbx := by
  have hlo : ¬(0 ≤ mboxReg base h ∧ mboxReg base h < 0x10000) := by simp only [mboxReg]; omega
  have hin : 0x10000 ≤ mboxReg base h ∧ mboxReg base h < 0x20000 := by simp only [mboxReg]; omega
  rw [blockOf, if_neg hlo, if_pos hin]

theorem mboxReg_ne {a b : Nat} (hab : a ≠ b) (h : Nat) : mboxReg a h ≠ mboxReg b h := fun e => hab (Nat.add_right_cancel e)

theorem State.setOnes_reg_self {off : Nat} (hb : (blockOf off).isSome) (b : W32) (s : State) : (s.setOnes off b).reg off = s.reg off ||| b :=
  State.reg_setReg_self off (s.reg off ||| b) s hb

theorem State.raise_reg_self {r : IrqReg} (hb : (blockOf (irqSource r).1).isSome) (b : Nat) (s : State) :
    (s.raise r b).reg (irqSource r).1 = s.reg (irqSource r).1 ||| w32 b := by
  rw [← State.setOnes_reg_self hb]
  unfold State.raise
  dsimp only
  split_ifs
  · exact State.sendMsix_reg ..
  · rfl

/-- A bit that an event raises in a host mailbox's interrupt status is set. -/
theorem State.raise_mbx_getLsbD (hh : h < 16) {b i : Nat} (hi : (w32 b).getLsbD i = true) (s : State) :
    ((s.raise (.mbxStatus h) b).reg (mboxReg Reg.MBX_H_IRQ_STATUS h)).getLsbD i = true := by
  have hb : blockOf (irqSource (.mbxStatus h)).1 = some .mbx := blockOf_mboxReg (base := Reg.MBX_H_IRQ_STATUS) hh (by decide) (by decide)
  have hr := State.raise_reg_self (r := .mbxStatus h) (by rw [hb]; rfl) b s
  rw [show mboxReg Reg.MBX_H_IRQ_STATUS h = (irqSource (.mbxStatus h)).1 from rfl, hr, BitVec.getLsbD_or, hi, Bool.or_true]

/-- A mailbox command, from what its meaning leaves alone and what host part, outputs and MBX registers then are. -/
theorem Does.ofMailbox {m : State} (he : exec c s = .next (s.adopt [.host, .out, .reg .mbx] m)) (hm : m = t) (hs : State.Same ps s t)
    (hr : State.SameRegs [] rs s t)
    (hP : ∀ u : State, u.host = t.host → u.out = t.out → (∀ off, blockOf off = some .mbx → u.reg off = t.reg off) → P u) : Does c s ps rs P := by
  subst hm
  exact Does.of he hs (fun off b hb _ ho => hr off b hb (by simp) ho) (hP _ rfl rfl fun off hb => State.reg_adopt_of hb (by decide))

theorem Does.imp {Q : State → Prop} (hd : Does c s ps rs P) (hQ : ∀ t, P t → Q t) : Does c s ps rs Q := by
  obtain ⟨t, he, hs, hr, hP⟩ := hd
  exact ⟨t, he, hs, hr, hQ t hP⟩

end Sys2Proof.Machine
end

section
/-! SUPPORT. The commands of the mailboxes, one by one: posts, rings, pops, a receiver reset and the reads that clear (R582 to R589). -/

namespace Sys2Proof.Machine

variable {s : State} {h c d first : Nat} {v bits : W32} {words : List W32}

/-! ## The host's posts (R584, R585) -/

/-- Words short of word 15 only fill the send window. -/
theorem mailboxPost_of_short (hh : h < 16) (hw : first + words.length < 16) :
    mailboxPost h first words s = s.setBox h { s.box h with tx := txAfter (s.box h) first words } := by
  rw [mailboxPost, if_neg (Nat.not_le.2 hh)]
  exact if_pos (.inr hw)

/-- The message that the send window becomes: word 0 is the node's (R583). -/
def State.hostMessage (s : State) (h first : Nat) (words : List W32) : MboxMsg :=
  ⟨w32 (h * 2 ^ 24 + Config.hostRequesterId % 65536) :: (txAfter (s.box h) first words).drop 1, h⟩

theorem State.hostMessage_drop (s : State) (h first : Nat) (words : List W32) :
    (s.hostMessage h first words).words.drop 1 = (txAfter (s.box h) first words).drop 1 := by
  simp only [State.hostMessage, List.drop_succ_cons, List.drop_zero]

/-- The state with the send window of a mailbox emptied. -/
def State.clearTx (h : Nat) (s : State) : State := s.setBox h { s.box h with tx := List.replicate 16 0 }

/-- A core with a message from a host mailbox more, and one from a core more (R584). -/
def CoreSt.gotFromHost (x : CoreSt) (m : MboxMsg) : CoreSt := { x with fromHost := x.fromHost.post m, irqMsg := true }
def CoreSt.gotFromCore (x : CoreSt) (m : MboxMsg) : CoreSt := { x with fromCores := x.fromCores.post m, irqMsg := true }

/-- Once word 15 is covered, the send window empties and its message is posted, or is rejected. -/
theorem mailboxPost_of_covers (hh : h < 16) (hf : first ≤ 15) (hw : 16 ≤ first + words.length) (hc : c = s.targetCore h) :
    mailboxPost h first words s =
      if !(s.core c).live || decide (4 ≤ (s.core c).fromHost.msgs.length) then
        ((s.clearTx h).bump (mboxReg Reg.MBX_H_REJECTS h)).emit (.completerAbort (mboxReg Reg.MBX_H_TX h))
      else ((s.clearTx h).setCore c ((s.core c).gotFromHost (s.hostMessage h first words))).emit (.coreIrq c) := by
  have hcovers : ¬(15 < first ∨ first + words.length < 16) := by omega
  subst hc
  exact (if_neg (Nat.not_le.2 hh)).trans (if_neg hcovers)

/-- A post to a live core with room reaches it (R584). -/
theorem does_mailboxPost_of_room (hh : h < 16) (hf : first ≤ 15) (hw : 16 ≤ first + words.length) (hc : c = s.targetCore h)
    (hl : (s.core c).live = true) (hroom : (s.core c).fromHost.msgs.length < 4) :
    Does (.mailboxPost h first words) s [.host, .out] [] fun t => t.out = .coreIrq c :: s.out ∧ (t.box h).tx = List.replicate 16 0 ∧
      (t.box h).fifo = (s.box h).fifo ∧ (t.core c).irqMsg = true ∧ ∃ x, (t.core c).fromHost.msgs = (s.core c).fromHost.msgs ++ [x] ∧ x.sender = h ∧
        x.words.drop 1 = (txAfter (s.box h) first words).drop 1 := by
  have hpost : mailboxPost h first words s = ((s.clearTx h).setCore c ((s.core c).gotFromHost (s.hostMessage h first words))).emit (.coreIrq c) := by
    rw [mailboxPost_of_covers hh hf hw hc, if_neg (by simp [hl, hroom])]
  refine Does.ofMailbox rfl hpost ((((State.Same.refl _ s).setBox (by simp) ..).setCore (by simp) ..).emit (by simp) _) (.of_regs rfl)
    fun u hu ho _ => ?_
  have hbox : u.box h = (s.clearTx h).box h := by rw [State.box_congr hu]; rfl
  have hcore : u.core c = (s.core c).gotFromHost (s.hostMessage h first words) := by rw [State.core_congr hu]; exact State.core_setCore_self ..
  rw [hbox, hcore, ho, State.clearTx, State.box_setBox_self]
  exact ⟨rfl, rfl, rfl, rfl, s.hostMessage h first words, rfl, rfl, State.hostMessage_drop ..⟩

/-- A post to a core that is not live or has no room is rejected and counted (R585). -/
theorem does_mailboxPost_of_full (hh : h < 16) (hf : first ≤ 15) (hw : 16 ≤ first + words.length) (hc : c = s.targetCore h)
    (hfull : (s.core c).live = false ∨ 4 ≤ (s.core c).fromHost.msgs.length) :
    Does (.mailboxPost h first words) s [.host, .out] [mboxReg Reg.MBX_H_REJECTS h] fun t => t.host.cores = s.host.cores ∧
      t.out = .completerAbort (mboxReg Reg.MBX_H_TX h) :: s.out ∧
      (t.reg (mboxReg Reg.MBX_H_REJECTS h)).toNat = min 0xFFFFFFFF ((s.reg (mboxReg Reg.MBX_H_REJECTS h)).toNat + 1) := by
  have hblock : blockOf (mboxReg Reg.MBX_H_REJECTS h) = some .mbx := blockOf_mboxReg hh (by decide) (by decide)
  have hpost : mailboxPost h first words s =
      ((s.clearTx h).bump (mboxReg Reg.MBX_H_REJECTS h)).emit (.completerAbort (mboxReg Reg.MBX_H_TX h)) := by
    rw [mailboxPost_of_covers hh hf hw hc, if_pos (by simpa using hfull)]
  refine Does.ofMailbox rfl hpost ((((State.Same.refl _ s).setBox (by simp) ..).setNat ..).emit (by simp) _)
    (State.SameRegs.setNat (t := s.clearTx h) (.of_regs rfl) (List.mem_singleton_self _) _) fun u hu ho hreg => ⟨?_, ?_, ?_⟩
  · rw [hu, State.emit_host, State.bump_host]; rfl
  · rw [ho, State.emit_out, State.bump_out]; rfl
  · rw [hreg _ hblock, State.emit_reg, State.bump_reg_toNat (by rw [hblock]; rfl)]; rfl

/-- A write short of word 15 fills the send window and posts nothing (R584). -/
theorem does_mailboxPost_of_short (hh : h < 16) (hw : first + words.length < 16) :
    Does (.mailboxPost h first words) s [.host] [] fun t => (t.box h).tx = txAfter (s.box h) first words ∧ t.host.cores = s.host.cores ∧
      (t.box h).fifo = (s.box h).fifo := by
  refine Does.ofMailbox rfl (mailboxPost_of_short hh hw) ((State.Same.refl _ s).setBox (by simp) ..) (.of_regs rfl) fun u hu _ _ => ?_
  rw [State.box_congr hu, hu, State.box_setBox_self]
  exact ⟨rfl, rfl, rfl⟩

/-! ## Messages to a host mailbox (R586, R592) -/

/-- The message of a core: word 0 is the node's (R583). -/
def coreMessage (c : Nat) (words : List W32) : MboxMsg := ⟨w32 (0x40000000 + c) :: (List.range 15).map fun i => words.getD (i + 1) 0, 16 + c⟩

/-- The state with a message posted to a host mailbox, before its interrupt. -/
def State.boxPosted (h : Nat) (m : MboxMsg) (s : State) : State := s.setBox h { s.box h with fifo := (s.box h).fifo.post m }

theorem State.postToHost_signals (h c : Nat) (words : List W32) (s : State) :
    State.Signals (s.boxPosted h (coreMessage c words)) (s.postToHost h c words) := State.raise_signals ..

theorem State.postToHost_msgs (h c : Nat) (words : List W32) (s : State) :
    ((s.postToHost h c words).box h).fifo.msgs = (s.box h).fifo.msgs ++ [coreMessage c words] := by
  rw [(State.postToHost_signals ..).box, State.boxPosted, State.box_setBox_self]; rfl

theorem State.box_postToHost_ne {k : Nat} (hk : k ≠ h) (c : Nat) (words : List W32) (s : State) : (s.postToHost h c words).box k = s.box k := by
  rw [(State.postToHost_signals ..).box, State.boxPosted, State.box_setBox_ne hk]

/-- Bit 0 of the interrupt status tells of the message. -/
theorem State.postToHost_irq (hh : h < 16) (c : Nat) (words : List W32) (s : State) :
    ((s.postToHost h c words).reg (mboxReg Reg.MBX_H_IRQ_STATUS h)).getLsbD 0 = true := State.raise_mbx_getLsbD hh (by decide) _

theorem State.Same.postToHost {ps : List Part} {t : State} (hs : State.Same ps s t) (hp : .host ∈ ps) (ho : .out ∈ ps) (h c : Nat) (words : List W32) :
    State.Same ps s (t.postToHost h c words) := (hs.setBox hp ..).raise hp ho ..

theorem State.postToHost_sameRegs (h c : Nat) (words : List W32) (s : State) :
    State.SameRegs [] [mboxReg Reg.MBX_H_IRQ_STATUS h] s (s.postToHost h c words) :=
  State.SameRegs.raise (t := s.boxPosted h (coreMessage c words)) (r := .mbxStatus h) (.of_regs rfl) (List.mem_singleton_self _) 1

/-! ## The cores' posts (R582, R585, R587) -/

/-- A live core posts to a host mailbox with room. -/
theorem does_coreMailboxPost_hostMsg (words : List W32) (hl : (s.core c).live = true) (hh : h < 16) (hroom : (s.box h).fifo.msgs.length < 4) :
    Does (.coreMailboxPost c (.hostMsg h words)) s [.host, .out] [mboxReg Reg.MBX_H_IRQ_STATUS h] fun t =>
      (t.reg (mboxReg Reg.MBX_H_IRQ_STATUS h)).getLsbD 0 = true ∧ t.host.cores = s.host.cores ∧
      ∃ x, (t.box h).fifo.msgs = (s.box h).fifo.msgs ++ [x] ∧ x.words = w32 (0x40000000 + c) :: (List.range 15).map fun i => words.getD (i + 1) 0 := by
  have hpost : corePost c (.hostMsg h words) s = s.postToHost h c words := by
    rw [corePost, hl]; exact if_neg (not_or.2 ⟨Nat.not_le.2 hh, Nat.not_le.2 hroom⟩)
  refine Does.ofMailbox rfl hpost ((State.Same.refl _ s).postToHost (by simp) (by simp) ..) (State.postToHost_sameRegs h c words s)
    fun u hu _ hreg => ⟨?_, ?_, ?_⟩
  · rw [hreg _ (blockOf_mboxReg hh (by decide) (by decide)), State.postToHost_irq hh]
  · rw [hu, (State.postToHost_signals ..).cores]; rfl
  · exact ⟨coreMessage c words, by rw [State.box_congr hu, State.postToHost_msgs], rfl⟩

/-- A command whose meaning changes one core, and interrupts it. -/
theorem does_of_coreIrq {i : Instr} {m : State} {x : CoreSt} (he : exec i s = .next (s.adopt [.host, .out, .reg .mbx] m))
    (hm : m = (s.setCore d x).emit (.coreIrq d)) :
    Does i s [.host, .out] [] fun t => t.core d = x ∧ (∀ k, k ≠ d → t.core k = s.core k) ∧ t.out = .coreIrq d :: s.out :=
  Does.ofMailbox he hm (((State.Same.refl _ s).setCore (by simp) ..).emit (by simp) _) (.of_regs rfl) fun u hu ho _ => by
    rw [State.core_congr hu, ho]
    exact ⟨State.core_setCore_self .., fun k hk => State.core_setCore_ne hk .., rfl⟩

/-- A live core posts to a live core with room. -/
theorem does_coreMailboxPost_coreMsg (words : List W32) (hl : (s.core c).live = true) (hd : (s.core d).live = true)
    (hroom : (s.core d).fromCores.msgs.length < 4) :
    Does (.coreMailboxPost c (.coreMsg d words)) s [.host, .out] [] fun t => t.out = .coreIrq d :: s.out ∧ (t.core d).irqMsg = true ∧
      (∀ k, k ≠ d → t.core k = s.core k) ∧ ∃ x, (t.core d).fromCores.msgs = (s.core d).fromCores.msgs ++ [x] ∧
        x.words = w32 (0x40000000 + c) :: (List.range 15).map fun i => words.getD (i + 1) 0 := by
  have hpost : corePost c (.coreMsg d words) s = (s.setCore d ((s.core d).gotFromCore (coreMessage c words))).emit (.coreIrq d) := by
    have hopen : (!(s.core d).live || decide (4 ≤ (s.core d).fromCores.msgs.length)) = false := by simp [hd, hroom]
    simp only [corePost, hl, hopen]
    rfl
  refine (does_of_coreIrq rfl hpost).imp fun t ⟨hcore, hother, hout⟩ => ?_
  rw [hcore]
  exact ⟨hout, rfl, hother, coreMessage c words, rfl, rfl⟩

/-- A command whose meaning rings a core's doorbells sets them, leaves the other cores, and interrupts the core (R587). -/
theorem does_of_ringCore {i : Instr} {m : State} (he : exec i s = .next (s.adopt [.host, .out, .reg .mbx] m)) (hm : m = s.ringCore d bits) :
    Does i s [.host, .out] [] fun t => (t.core d).doorbells = (s.core d).doorbells ||| bits ∧ (∀ k, k ≠ d → t.core k = s.core k) ∧
      t.out = .coreIrq d :: s.out :=
  (does_of_coreIrq he hm).imp fun _ ⟨hcore, hrest⟩ => ⟨by rw [hcore], hrest⟩

theorem corePost_coreDoorbells (hl : (s.core c).live = true) (hd : d < 32) (bits : W32) : corePost c (.coreDoorbells d bits) s = s.ringCore d bits := by
  rw [corePost, hl]; exact if_neg (Nat.not_le.2 hd)

/-- Doorbells of a host mailbox that its mask lets through set bit 1 of its interrupt status (R587). -/
theorem does_coreMailboxPost_hostDoorbells (bits : W32) (hl : (s.core c).live = true) (hh : h < 16) :
    Does (.coreMailboxPost c (.hostDoorbells h bits)) s [.host, .out] [mboxReg Reg.MBX_H_DB h, mboxReg Reg.MBX_H_IRQ_STATUS h] fun t =>
      t.reg (mboxReg Reg.MBX_H_DB h) = s.reg (mboxReg Reg.MBX_H_DB h) ||| bits ∧ t.host.cores = s.host.cores ∧ t.host.boxes = s.host.boxes ∧
      (bits &&& s.reg (mboxReg Reg.MBX_H_DB_MASK h) ≠ 0 → (t.reg (mboxReg Reg.MBX_H_IRQ_STATUS h)).getLsbD 1 = true) := by
  have hpost : corePost c (.hostDoorbells h bits) s = s.ringHost h bits := by
    rw [corePost, hl]; exact if_neg (Nat.not_le.2 hh)
  have hdb : blockOf (mboxReg Reg.MBX_H_DB h) = some .mbx := blockOf_mboxReg hh (by decide) (by decide)
  have hsame := (State.Same.refl [.host, .out] s).setOnes (by simp) (mboxReg Reg.MBX_H_DB h) bits
  have hregs := (State.SameRegs.refl [] [mboxReg Reg.MBX_H_DB h, mboxReg Reg.MBX_H_IRQ_STATUS h] s).setOnes List.mem_cons_self bits
  have hsig := State.setOnes_signals (mboxReg Reg.MBX_H_DB h) bits s
  have hset := State.setOnes_reg_self (by rw [hdb]; rfl) bits s
  by_cases hmask : bits &&& s.reg (mboxReg Reg.MBX_H_DB_MASK h) = 0
  · have hring : s.ringHost h bits = s.setOnes (mboxReg Reg.MBX_H_DB h) bits := if_neg (by simp [hmask])
    exact Does.ofMailbox rfl (hpost.trans hring) hsame hregs fun u hu _ hreg =>
      ⟨by rw [hreg _ hdb, hset], by rw [hu, hsig.cores], by rw [hu, hsig.boxes], fun hn => absurd hmask hn⟩
  · have hring : s.ringHost h bits = (s.setOnes (mboxReg Reg.MBX_H_DB h) bits).raise (.mbxStatus h) 2 := if_pos (bne_iff_ne.2 hmask)
    have hsig' := hsig.trans (State.raise_signals (.mbxStatus h) 2 _)
    refine Does.ofMailbox rfl (hpost.trans hring) (hsame.raise (by simp) (by simp) ..) (hregs.raise (by simp [irqSource, mboxReg]) _) fun u hu _ hreg =>
      ⟨?_, by rw [hu, hsig'.cores], by rw [hu, hsig'.boxes], fun _ => ?_⟩
    · rw [hreg _ hdb, State.raise_reg _ _ _ _ (mboxReg_ne (by decide) h), hset]
    · rw [hreg _ (blockOf_mboxReg hh (by decide) (by decide)), State.raise_mbx_getLsbD hh (by decide)]

/-! ## The cores' pops (R588) -/

/-- A core without the head of its mailbox 0 (from the host) or 1. -/
def CoreSt.taken (x : CoreSt) (fromHost : Bool) : CoreSt :=
  if fromHost then { x with fromHost := x.fromHost.popped } else { x with fromCores := x.fromCores.popped }

theorem corePop_of_live (hl : (s.core c).live = true) (b : Bool) : corePop c b s = s.setCore c ((s.core c).taken b) := by
  unfold corePop
  dsimp only
  rw [if_neg (by simp [hl])]
  cases b <;> rfl

theorem State.setCore_keepsCalm (c : Nat) (x : CoreSt) (s : State) : State.KeepsCalm s (s.setCore c x) := .of id rfl rfl rfl rfl rfl rfl rfl rfl

theorem exec_coreMailboxPop {t : State} {b e : Bool} (hpop : coreTakes c b e s = t) :
    exec (.coreMailboxPop c ⟨b, e⟩) s = .next (s.finish [.host, .flt, .out, .reg .mbx, .reg .flt] t) := by
  subst hpop; rfl

/-- A live core removes the head of either mailbox. -/
theorem does_coreMailboxPop (b : Bool) (hc : s.calm = true) (hl : (s.core c).live = true) :
    Does (.coreMailboxPop c ⟨b, false⟩) s [.host] [] fun t => t.core c = (s.core c).taken b ∧ t.host.boxes = s.host.boxes ∧
      ∀ k, k ≠ c → t.core k = s.core k :=
  have hpop : coreTakes c b false s = s.setCore c ((s.core c).taken b) := corePop_of_live hl b
  Does.ofCalm (exec_coreMailboxPop hpop) hc (State.setCore_keepsCalm ..)
    ((State.Same.refl _ s).setCore (by simp) ..) (.of_regs rfl) ⟨State.core_setCore_self .., rfl, fun _ hk => State.core_setCore_ne hk ..⟩

/-- A pop that meets a corrected error is logged besides (R507, R599). -/
theorem does_coreMailboxPop_of_corrected (hc : s.calm = true) (hr : s.isRunning = true) (hl : (s.core c).live = true)
    (hx : s.uncrossed 0x0040 12 c = true) :
    Does (.coreMailboxPop c ⟨true, true⟩) s logParts logRegs fun t => t.core c = (s.core c).taken true ∧ Logged 0x0040 t ∧
      ∀ k, k ≠ c → t.core k = s.core k := by
  have hcore := (State.fault_signals 0x0040 c 0 s).core
  have hpop : coreTakes c true true s = (s.fault 0x0040 c 0).setCore c ((s.core c).taken true) := by
    have hpop := corePop_of_live (s := s.fault 0x0040 c 0) (by rw [hcore]; exact hl) true
    rw [hcore] at hpop
    rw [← hpop, coreTakes, hl, hr]
    rfl
  have hcalm : State.KeepsCalm s ((s.fault 0x0040 c 0).setCore c ((s.core c).taken true)) :=
    .of (fun e => (State.faultOf_due 0x0040 12 c 0 s hx).trans e) (State.fault_ton ..) (State.fault_blockWait ..) (State.fault_slots ..)
      (State.fault_qry ..) (State.fault_link ..) (State.fault_post ..) (State.fault_emb ..) (State.fault_med ..)
  obtain ⟨r, hlog, hcode, -⟩ := State.faultOf_log 0x0040 12 c 0 s hx hr
  refine Does.ofCalm (exec_coreMailboxPop hpop) hc hcalm
    ((State.fault_same 0x0040 c 0 s).setCore (by simp) ..) (fun off _ _ _ ho => ?_)
    ⟨State.core_setCore_self .., ⟨r, hlog, hcode⟩, fun k hk => (State.core_setCore_ne hk ..).trans (congrFun hcore k)⟩
  simp only [logRegs, List.mem_cons, List.not_mem_nil, or_false, not_or] at ho
  exact State.faultOf_reg 0x0040 12 c 0 s hx off ho.1 ho.2

/-! ## The host's pops (R586, R592) -/

/-- The state without the head of a host mailbox. -/
def State.boxPopped (h : Nat) (s : State) : State := s.setBox h { s.box h with fifo := (s.box h).fifo.popped }

theorem mbxPop_eq (hh : h < 16) (hv : v.getLsbD 0 = true) : mbxPop h v s = (s.boxPopped h).releaseHeld h :=
  if_neg (by simp [hv, hh])

theorem State.noneHeld_iff : s.noneHeld h = true ↔ s.host.held.find? (fun r => r.mailbox == h) = none := Option.isNone_iff_eq_none

theorem State.releaseHeld_of_none (hn : s.noneHeld h = true) : s.releaseHeld h = s := by
  rw [State.releaseHeld, State.noneHeld_iff.1 hn]

/-- The state in which the held reply of a mailbox is held no longer. -/
def State.unheld (h : Nat) (s : State) : State := { s with host := { s.host with held := removeFirst (fun x => x.mailbox == h) s.host.held } }

theorem State.releaseHeld_of_some {r : HeldReply} (hf : s.host.held.find? (fun r => r.mailbox == h) = some r) (hroom : (s.box h).fifo.msgs.length < 4) :
    s.releaseHeld h = (s.unheld h).postToHost h s.host.service r.words := by
  rw [State.releaseHeld, hf]
  exact if_pos hroom

/-- With no reply held, a pop removes the head. -/
theorem does_mbxHPop_of_noneHeld (hh : h < 16) (hv : v.getLsbD 0 = true) (hn : s.noneHeld h = true) :
    Does (.mbxHPop h v) s [.host] [] fun t => t.box h = { s.box h with fifo := (s.box h).fifo.popped } ∧ (∀ k, k ≠ h → t.box k = s.box k) ∧
      t.host.cores = s.host.cores := by
  have hpop : mbxPop h v s = s.boxPopped h := (mbxPop_eq hh hv).trans (State.releaseHeld_of_none (s := s.boxPopped h) hn)
  refine Does.ofMailbox rfl hpop ((State.Same.refl _ s).setBox (by simp) ..) (.of_regs rfl) fun u hu _ _ => ?_
  rw [State.box_congr hu, hu]
  exact ⟨State.box_setBox_self .., fun k hk => State.box_setBox_ne hk .., rfl⟩

/-- A pop of a full mailbox makes room for the reply that is held for it. -/
theorem does_mbxHPop_of_held {r : HeldReply} (hh : h < 16) (hv : v.getLsbD 0 = true) (hf : s.host.held.find? (fun r => r.mailbox == h) = some r)
    (hfull : (s.box h).fifo.msgs.length = 4) :
    Does (.mbxHPop h v) s [.host, .out] [mboxReg Reg.MBX_H_IRQ_STATUS h] fun t => t.host.held = removeFirst (fun x => x.mailbox == h) s.host.held ∧
      (t.reg (mboxReg Reg.MBX_H_IRQ_STATUS h)).getLsbD 0 = true ∧ (∀ k, k ≠ h → t.box k = s.box k) ∧ t.host.cores = s.host.cores ∧
      ∃ x, (t.box h).fifo.msgs = (s.box h).fifo.msgs.drop 1 ++ [x] ∧ x.words.drop 1 = (List.range 15).map fun i => r.words.getD (i + 1) 0 := by
  have hbox : ((s.boxPopped h).unheld h).box h = { s.box h with fifo := (s.box h).fifo.popped } := State.box_setBox_self ..
  have hroom : ((s.boxPopped h).box h).fifo.msgs.length < 4 := by
    rw [State.boxPopped, State.box_setBox_self]
    simp [Fifo.popped, hfull]
  have hpop := (mbxPop_eq hh hv).trans (State.releaseHeld_of_some (s := s.boxPopped h) hf hroom)
  refine Does.ofMailbox rfl hpop ((((State.Same.refl _ s).setBox (by simp) ..).withHost (by simp) _).postToHost (by simp) (by simp) ..)
    (fun off b hb hp ho => State.postToHost_sameRegs h _ _ _ off b hb hp ho) fun u hu _ hreg => ?_
  rw [State.box_congr hu, hu, hreg _ (blockOf_mboxReg hh (by decide) (by decide))]
  refine ⟨(State.postToHost_signals ..).held, State.postToHost_irq hh .., fun k hk => ?_, (State.postToHost_signals ..).cores,
    coreMessage s.host.service r.words, ?_, rfl⟩
  · exact (State.box_postToHost_ne hk ..).trans (State.box_setBox_ne hk ..)
  · rw [State.postToHost_msgs, hbox]; rfl

/-! ## Receiver reset and the reads that clear (R9, R585, R589) -/

/-- The reset of an empty mailbox, for which no reply is held, tells nobody. -/
theorem mbxCtl_of_empty (hh : h < 16) (hv : v.getLsbD 0 = true) (he : (s.box h).fifo.msgs = []) (hn : s.noneHeld h = true) : mbxCtl h v s =
    ((s.setBox h { s.box h with fifo := fifoReset }).setNat (mboxReg Reg.MBX_H_DB h) 0).setNat (mboxReg Reg.MBX_H_IRQ_STATUS h) 0 := by
  have hreset : s.resetBox h true =
      ((s.setBox h { s.box h with fifo := fifoReset }).setNat (mboxReg Reg.MBX_H_DB h) 0).setNat (mboxReg Reg.MBX_H_IRQ_STATUS h) 0 := by
    simp [State.resetBox, he, State.notifyAborted, dedupList]
  have hctl : mbxCtl h v s = (s.resetBox h true).releaseHeld h := if_neg (by simp [hv, hh])
  rw [hctl, hreset]
  exact State.releaseHeld_of_none (by rw [State.noneHeld, State.setNat, State.setReg_host, State.setNat, State.setReg_host]; exact hn)

/-- Such a reset clears FIFO, doorbells and interrupt status, and leaves every core as it was (R589). -/
theorem does_mbxHCtlReset_of_empty (hh : h < 16) (hv : v.getLsbD 0 = true) (he : (s.box h).fifo.msgs = []) (hn : s.noneHeld h = true) :
    Does (.mbxHCtlReset h v) s [.host] [mboxReg Reg.MBX_H_DB h, mboxReg Reg.MBX_H_IRQ_STATUS h] fun t => (t.box h).fifo = fifoReset ∧
      t.reg (mboxReg Reg.MBX_H_DB h) = 0 ∧ t.reg (mboxReg Reg.MBX_H_IRQ_STATUS h) = 0 ∧ t.host.cores = s.host.cores := by
  have hdb : blockOf (mboxReg Reg.MBX_H_DB h) = some .mbx := blockOf_mboxReg hh (by decide) (by decide)
  have hst : blockOf (mboxReg Reg.MBX_H_IRQ_STATUS h) = some .mbx := blockOf_mboxReg hh (by decide) (by decide)
  refine Does.ofMailbox rfl (mbxCtl_of_empty hh hv he hn) ((((State.Same.refl _ s).setBox (by simp) ..).setNat ..).setNat ..)
    (State.SameRegs.setNat (State.SameRegs.setNat (t := s.setBox h { s.box h with fifo := fifoReset }) (.of_regs rfl) List.mem_cons_self _)
      (List.mem_cons_of_mem _ (List.mem_singleton_self _)) _) fun u hu _ hreg => ?_
  have hhost : u.host = (s.setBox h { s.box h with fifo := fifoReset }).host := by rw [hu, State.setNat, State.setReg_host, State.setNat, State.setReg_host]
  refine ⟨?_, ?_, ?_, ?_⟩
  · rw [State.box_congr hhost, State.box_setBox_self]
  · rw [hreg _ hdb, State.reg_setNat_ne (mboxReg_ne (by decide) h), State.reg_setNat_self (by rw [hdb]; rfl)]; rfl
  · rw [hreg _ hst, State.reg_setNat_self (by rw [hst]; rfl)]; rfl
  · rw [hhost]; rfl

/-- A read that clears a register of the MBX block answers its value. -/
theorem does_of_readClear {i : Instr} {m : State} {off : Nat} (he : exec i s = .next (s.adopt [.out, .reg .mbx] m)) (hm : m = readClear off s)
    (hb : blockOf off = some .mbx) : Does i s [.out] [off] fun t => t.reg off = 0 ∧ t.out = .hostRead (s.reg off) :: s.out := by
  subst hm
  refine Does.of he (((State.Same.refl _ s).emit (by simp) _).setNat ..)
    (State.SameRegs.setNat (t := s.emit (.hostRead (s.reg off))) (.of_regs rfl) (by simp) _) ⟨?_, ?_⟩
  · rw [State.reg_adopt_of hb (by decide)]
    exact State.reg_setNat_self (by rw [hb]; rfl)
  · exact State.setReg_out ..

end Sys2Proof.Machine
end

section
open Sys2Proof.Machine

/-- Settles O55: it holds. The clauses are the lemmas `does_mailboxPost_of_room` and following, one for each command and case. -/
theorem mailboxesPostPopRingAndReset : Obligations.MailboxesPostPopRingAndReset := by
  unfold Obligations.MailboxesPostPopRingAndReset
  refine ⟨?posted, ?rejected, ?short, ?hostMsg, ?coreMsg, ?coreDoorbells, ?hostDoorbells, ?popHost, ?popCores, ?popCorrected, ?pop, ?popHeld, ?ring,
    ?reset, ?rejects, ?abortInfo⟩
  case posted => exact fun h first words c s hh hf hw hc hl hroom => does_mailboxPost_of_room hh hf hw hc hl hroom
  case rejected => exact fun h first words c s hh hf hw hc hfull => does_mailboxPost_of_full hh hf hw hc hfull
  case short => exact fun h first words s hh hw => does_mailboxPost_of_short hh hw
  case hostMsg => exact fun c h words s hl hh hroom => does_coreMailboxPost_hostMsg words hl hh hroom
  case coreMsg => exact fun c d words s hl hd hroom => does_coreMailboxPost_coreMsg words hl hd hroom
  case coreDoorbells => exact fun c d bits s hl hd => does_of_ringCore rfl (corePost_coreDoorbells hl hd bits)
  case hostDoorbells => exact fun c h bits s hl hh => does_coreMailboxPost_hostDoorbells bits hl hh
  case popHost => exact fun c s hc hl => does_coreMailboxPop true hc hl
  case popCores => exact fun c s hc hl => does_coreMailboxPop false hc hl
  case popCorrected => exact fun c s hc hr hl hx => does_coreMailboxPop_of_corrected hc hr hl hx
  case pop => exact fun h v s hh hv hn => does_mbxHPop_of_noneHeld hh hv hn
  case popHeld => exact fun h v r s hh hv hf hfull => does_mbxHPop_of_held hh hv hf hfull
  case ring => exact fun h c v s hh hc => hc ▸ does_of_ringCore rfl (if_neg (Nat.not_le.2 hh))
  case reset => exact fun h v s hh hv he hn => does_mbxHCtlReset_of_empty hh hv he hn
  case rejects => exact fun h s hh => does_of_readClear rfl (if_neg (Nat.not_le.2 hh)) (blockOf_mboxReg hh (by decide) (by decide))
  case abortInfo => exact fun h s hh => does_of_readClear rfl (if_neg (Nat.not_le.2 hh)) (blockOf_mboxReg hh (by decide) (by decide))

end
